-- ==== Sys2Proof/Word.lean ====
section
/-! DEFINITION. Word.lean: the plain data the whole model is written with. The HY412 works on numbers
(segments, minutes, serials, temperatures in tenths), so those are `Nat` and `Int`; only the check of a
frame (R164) is computed on bits. -/

namespace Sys2Proof

/-- One byte of a frame, as the check of R164 works on it. -/
abbrev Byte := BitVec 8

/-- The 16-bit check register of R164. -/
abbrev Check := BitVec 16

/-- A numbered table of records, held as the list of (number, record) of the records that differ from
their cold-reset value, numbers strictly rising (log entry 36). -/
abbrev Tab (α : Type) := List (Nat × α)

end Sys2Proof
end

