-- ==== Sys2Proof/Syntax.lean ====
section
/-! DEFINITION. Syntax.lean: the commands of the HY412 and the operands they carry. One constructor of
`Instr` per row of spec/opcode_table.json. A request carries the body of its frame as the bytes come, before any
check: Machine/Operands.lean says which bytes are which field. -/

namespace Sys2Proof

/-- The four serial ports (section 10). -/
inductive Port | PL | CW | CE | BL
deriving DecidableEq, Repr

/-- The three point-to-point ports, each with a condition set, an attention line and a stock cursor
(R117, R175, R180). -/
inductive Point | PL | CW | CE
deriving DecidableEq, Repr

/-- The two gantry cranes. -/
inductive Crane | W | E
deriving DecidableEq, Repr

/-- Area of a runway segment (R1). -/
inductive Area | hall | yard
deriving DecidableEq, Repr

/-- Valve sense of a zone (R1). -/
inductive Sense | openHigh | openLow
deriving DecidableEq, Repr

/-- A range of segments [lo, hi], inclusive (section 6.1 of the Introduction). -/
structure Range where
  lo : Nat
  hi : Nat
deriving DecidableEq, Repr

/-- The request kinds of R168, and the codes that are none of them. -/
inductive Kind
  | layoutSegment | layoutBed | layoutZone | layoutCell | layoutBay | layoutYard
  | profileWrite | lockLayout | setClock | planLoad | planClear
  | moveSubmit | moveCancel | barrier | laneRequest | laneRelease | declareOut | breachClear
  | zonePriority | zoneFollow | advance | heatOff | heatOn | setK | setMinopen | probeTrim | sampleTime
  | bayOpen | bayClose | placeRecord | removeRecord | stockSeek | stockRead
  | pieceQuery | bedQuery | zoneQuery | moveQuery | craneQuery
  | condRead | condAck | reportMode | restart
  | craneReport
  | setupDone | castStart | castEnd | pourAbort | releaseRequest | strandsCut | bedClear | flagsAck
  | nothing
  | unknown (code : Nat)
deriving DecidableEq, Repr

/-- What every request comes with: the port it arrives on and its sequence byte. -/
structure Header where
  port : Port
  seq : Nat
deriving DecidableEq, Repr

/-- A character as a receiver takes it from its line: its eight data bits, and on BL the ninth (section 10.1). -/
structure Chr where
  byte : Nat
  ninth : Bool
deriving DecidableEq, Repr

/-- The condition kinds of R175. -/
inductive CondKind
  | restarted | moveDone | moveFailed | moveCancelled | eventMismatch | heatTrimmed
  | bedReady | permitExpired | laneActive
  | breach | craneStale | hookMismatch | deadlock | probeLost | converterFault | panelLost
deriving DecidableEq, Repr

/-- The subject of a condition (R175). -/
inductive Subject
  | none
  | serial (n : Nat)
  | crane (c : Crane)
  | bed (b : Nat)
  | channel (c : Nat)
deriving DecidableEq, Repr

/-- Report modes of a standing kind (R177). -/
inductive ReportMode | none | raise | clear | both
deriving DecidableEq, Repr

/-- A curing profile (R67), with the cold-reset value of each field. Rates and temperatures are in tenths,
so they are whole numbers of either sign; times, maturities and duties count upward. -/
structure Profile where
  frostFloor : Int := 50
  delay : Nat := 180
  rampRate : Int := 3
  holdTemp : Int := 550
  holdBias : Int := 12
  gain : Int := 6
  holdExit : Nat := 500
  maxHold : Nat := 720
  coolRate : Int := 2
  releaseDelta : Int := 200
  fallback : Nat := 15
deriving DecidableEq, Repr

/-- One piece description of a PLAN-LOAD (section 2.3). A mark is its list of character codes. -/
structure PieceSpec where
  mark : List Nat
  segment : Nat
  weight : Nat
  release : Nat
  ship : Nat
deriving DecidableEq, Repr

/-- The fields of a piece record that are written when it is allocated and stand while it stays allocated
(R101). -/
structure Desc where
  mark : List Nat
  pour : Nat
  origin : Nat
  segment : Nat
  weight : Nat
  release : Nat
  ship : Nat
deriving DecidableEq, Repr

/-- The nine bytes of a MOVE-SUBMIT body (section 10.6), FFh absent. -/
structure MoveFields where
  crane : Nat
  kind : Nat
  style : Nat
  suspendable : Nat
  piece : Nat
  sourceType : Nat
  sourceNum : Nat
  destType : Nat
  destNum : Nat
deriving DecidableEq, Repr

/-- The commands: one constructor per row of spec/opcode_table.json, in the table's order. A request and a chain frame
are one good frame each: the port, the sequence, the kind (the constructor's own, but for the two that name it) and the
body of that frame. -/
inductive Instr
  -- resets and supply
  | coldReset
  | resetLineAssert
  | warmReset
  | retentionSupplyLoss
  -- the timebase
  | secondTick
  | minuteTick
  | permitExpiry (bed : Nat)
  | presenceTimeout (crane : Crane)
  | vacateExpiry (segment : Nat)
  | frameBegin
  | frameEnd
  -- the probe inputs
  | conversionEnd (raw : Nat)
  | referenceCheck (raw : Nat)
  -- the layout
  | layoutSegment (h : Header) (body : List Nat)
  | layoutBed (h : Header) (body : List Nat)
  | layoutZone (h : Header) (body : List Nat)
  | layoutCell (h : Header) (body : List Nat)
  | layoutBay (h : Header) (body : List Nat)
  | layoutYard (h : Header) (body : List Nat)
  | profileWrite (h : Header) (body : List Nat)
  | lockLayout (h : Header) (body : List Nat)
  | setClock (h : Header) (body : List Nat)
  -- plans
  | planLoad (h : Header) (body : List Nat)
  | planClear (h : Header) (body : List Nat)
  -- moves and the runway
  | moveSubmit (h : Header) (body : List Nat)
  | moveCancel (h : Header) (body : List Nat)
  | barrier (h : Header) (body : List Nat)
  | laneRequest (h : Header) (body : List Nat)
  | laneRelease (h : Header) (body : List Nat)
  | declareOut (h : Header) (body : List Nat)
  | breachClear (h : Header) (body : List Nat)
  -- zones and steam
  | zonePriority (h : Header) (body : List Nat)
  | zoneFollow (h : Header) (body : List Nat)
  | advance (h : Header) (body : List Nat)
  | heatOff (h : Header) (body : List Nat)
  | heatOn (h : Header) (body : List Nat)
  | setK (h : Header) (body : List Nat)
  | setMinopen (h : Header) (body : List Nat)
  -- converter settings
  | probeTrim (h : Header) (body : List Nat)
  | sampleTime (h : Header) (body : List Nat)
  -- stock
  | bayOpen (h : Header) (body : List Nat)
  | bayClose (h : Header) (body : List Nat)
  | placeRecord (h : Header) (body : List Nat)
  | removeRecord (h : Header) (body : List Nat)
  | stockSeek (h : Header) (body : List Nat)
  | stockRead (h : Header) (body : List Nat)
  -- queries
  | pieceQuery (h : Header) (body : List Nat)
  | bedQuery (h : Header) (body : List Nat)
  | zoneQuery (h : Header) (body : List Nat)
  | moveQuery (h : Header) (body : List Nat)
  | craneQuery (h : Header) (body : List Nat)
  -- conditions
  | condRead (h : Header) (body : List Nat)
  | condAck (h : Header) (body : List Nat)
  | reportMode (h : Header) (body : List Nat)
  | restart (h : Header) (body : List Nat)
  -- bed panels
  | setupDone (h : Header) (body : List Nat)
  | castStart (h : Header) (body : List Nat)
  | castEnd (h : Header) (body : List Nat)
  | pourAbort (h : Header) (body : List Nat)
  | releaseRequest (h : Header) (body : List Nat)
  | strandsCut (h : Header) (body : List Nat)
  | bedClear (h : Header) (body : List Nat)
  | flagsAck (h : Header) (body : List Nat)
  | nothing (h : Header) (body : List Nat)
  -- link events
  | unknownKind (h : Header) (code : Nat) (body : List Nat)
  | badFrame (port : Port) (chars : List Chr)
  | byteGapTimeout (port : Port) (chars : List Chr)
  | chainFrame (h : Header) (kind : Kind) (body : List Nat)
  | chainGapTimeout (port : Port)
  | overrunFrame (port : Port) (good : Bool)
  | replySent (port : Port)
  | bedPoll
  | missedAnswer
  -- crane reports, and the supply's return
  | craneReport (h : Header) (body : List Nat)
  | retentionSupplyReturn
deriving DecidableEq, Repr

end Sys2Proof
end

