-- ==== Sys2Proof/Decode.lean ====
section
/-! DEFINITION. Decode.lean: the HY412 has no instruction words. spec/opcode_table.json gives none of its 75
rows a bit (every row's "fields" list is empty and none has "fixed"), and the spec gives kind codes for three
kinds only (section 10.6), so no word spells a command by the table's bits. -/

namespace Sys2Proof

/-- The command that a word spells by the table's bits: none, as no row of the table has any. -/
def decodeTableWord (_nbits _w : Nat) : Option Instr := none

end Sys2Proof
end

