-- ==== Sys2Proof/Config.lean ====
section
/-! DEFINITION. Config.lean: the constants of the part. The spec leaves no result of a command undefined,
so there is no free value here. -/

namespace Sys2Proof.Config

/-- Runway segments 0 to 31 (R1). -/
def segments : Nat := 32
/-- Beds are numbered 1 to 12 (R16). -/
def beds : Nat := 12
/-- Heat zones 0 to 15 (R69). -/
def zones : Nat := 16
/-- Stock cells 0 to 47 (R105). -/
def cells : Nat := 48
/-- Piece records, slots 0 to 191 (R101). -/
def slots : Nat := 192
/-- Probe channels 0 to 18 (R36). -/
def channels : Nat := 19
/-- Hall ambient channel (section 3.1). -/
def hallChannel : Nat := 16
/-- Yard ambient channel (section 3.1). -/
def yardChannel : Nat := 17
/-- Reference channel (section 3.1). -/
def refChannel : Nat := 18
/-- Curing profiles 0 to 7 (R67). -/
def profiles : Nat := 8
/-- Slots of submitted moves, 0 to 15 (R141). -/
def moveSlots : Nat := 16
/-- All slots of the move table, the two yield records included (R141). -/
def tableSlots : Nat := 18
/-- Entries of a crane's queue (R142). -/
def queueMax : Nat := 10
/-- Highest value of a minute count, a serial and the generation count (R9, R141, R117). -/
def word32Max : Nat := 4294967295
/-- The accumulator is held here (R51, R59). -/
def accumulatorMax : Nat := 6000000
/-- The suspect count is held here (R50). -/
def suspectMax : Nat := 255
/-- Maturity units in one °C·h (R61). -/
def unitsPerHour : Nat := 600
/-- The stage timer is held here (R69). -/
def timerMax : Nat := 65535
/-- Link and breach counts are held here (R120, R173). -/
def countMax : Nat := 65535
/-- A condition's count is held here (R175). -/
def condCountMax : Nat := 255
/-- Steps of a steam frame (R90). -/
def frameSteps : Nat := 60
/-- Entries of a bay's shipped list (R112). -/
def shippedMax : Nat := 16
/-- Highest target in °C·h (R61). -/
def targetMax : Nat := 9999

end Sys2Proof.Config
end

