-- ==== Sys2Proof/Machine/State.lean ====
section
/-! DEFINITION. State.lean: every record the spec gives the HY412, block by block, as plain data. The value
after `:=` in a field is the record's cold-reset value, as the chapter that owns it states; `State.reset` is
the state with every field at that value. -/

namespace Sys2Proof.Machine

/-! ## LYT, the layout table (R1, R4) -/

/-- A segment record (R1). -/
structure SegmentRec where
  area : Area := .yard
  vacate : Nat := 4
deriving DecidableEq, Repr

/-- A bed's layout record (R1). -/
structure BedLayout where
  configured : Bool := false
  range : Option Range := none
deriving DecidableEq, Repr

/-- A zone's layout record (R1). -/
structure ZoneLayout where
  bed : Option Nat := none
  range : Option Range := none
  sense : Sense := .openHigh
  follow : Option Nat := none
deriving DecidableEq, Repr

/-- A cell's layout record (R1). A cell with no segment is not in use. -/
structure CellLayout where
  segment : Option Nat := none
  row : Nat := 0
  limit : Nat := 4
deriving DecidableEq, Repr

/-- A bay's layout record (R1). A bay with no segment is not configured. -/
structure BayLayout where
  segment : Option Nat := none
deriving DecidableEq, Repr

/-- The yard constants (R1). -/
structure Yard where
  gap : Nat := 1
  datum : Int := -100
  cap : Int := 700
  window : Nat := 30
  presenceW : Nat := 5
  presenceE : Nat := 5
deriving DecidableEq, Repr

/-- The layout table with its lock state (R1, R4). The mode is RUN exactly while `locked`. -/
structure Layout where
  segments : Tab SegmentRec := []
  beds : Tab BedLayout := []
  zones : Tab ZoneLayout := []
  cells : Tab CellLayout := []
  bays : Tab BayLayout := []
  yard : Yard := {}
  locked : Bool := false
deriving DecidableEq, Repr

/-! ## CLK, the yard clock (R9) -/

/-- The yard clock (R9). -/
structure Clock where
  minute : Nat := 0
  second : Nat := 0
  running : Bool := false
deriving DecidableEq, Repr

/-! ## Reset control (R12 to R14) -/

/-- Whether the part is held in reset, and by what (R13, R14). -/
inductive Hold
  /-- Not held. -/
  | none
  /-- Held by the asserted reset line. -/
  | line
  /-- Held by the warm reset that a RESTART began. -/
  | restart
deriving DecidableEq, Repr

/-- The reset and supply inputs, and what they leave pending (R12 to R14). `supplyLost`: the retention supply
was absent when the present hold began, or became absent while the line held it. `restartOwed`: a RESTART has been answered and its reply is
still being sent. -/
structure ResetCtl where
  hold : Hold := .none
  supplyLost : Bool := false
  retention : Bool := true
  restartOwed : Bool := false
  driverDisabled : Bool := false
deriving DecidableEq, Repr

/-! ## BED, the bed table (R16) -/

/-- The nine bed states (R16). -/
inductive BedState | empty | setup | casting | curing | cooling | ready | permitted | released | stripping
deriving DecidableEq, Repr

/-- A pour plan (R16). -/
structure Plan where
  pour : Nat
  profile : Nat
  slots : List Nat
deriving DecidableEq, Repr

/-- A bed record (R16), with the panel state of R172. -/
structure Bed where
  state : BedState := .empty
  plan : Option Plan := none
  pieces : List Nat := []
  castMinute : Option Nat := none
  deadline : Option Nat := none
  panelLost : Bool := false
  missed : Nat := 0
deriving DecidableEq, Repr

/-! ## PCV, the probe converter (R36, R37) -/

/-- Probe states (R36). -/
inductive ProbeState | unsettled | valid | held | lost
deriving DecidableEq, Repr

/-- How a conversion was judged (R36). -/
inductive ConvResult | good | short | opened | refFail
deriving DecidableEq, Repr

/-- A channel record (R36). Channel 18 has no trim: that its record holds 0 in that place, and shows it in a ZONE-QUERY reply, is
the model's choice (log entry 46). -/
structure Channel where
  trim : Int := 0
  state : ProbeState := .unsettled
  goodRun : Nat := 0
  badRun : Nat := 0
  lastRaw : Option Nat := none
  lastResult : Option ConvResult := none
  temp : Option Int := none
deriving DecidableEq, Repr

/-- An entry of the scan record: a conversion with its raw value, result and temperature (R39), or a
discarded one (R47). -/
inductive ScanEntry
  | taken (raw : Nat) (result : ConvResult) (temp : Option Int)
  | discarded
deriving DecidableEq, Repr

/-- Scan state (R37). -/
inductive ScanState
  | idle
  | scanning (channel : Nat)
deriving DecidableEq, Repr

/-- An entry of the published set (R44). -/
structure Published where
  state : ProbeState := .unsettled
  temp : Option Int := none
deriving DecidableEq, Repr

/-- The probe converter (R36, R37). -/
structure Pcv where
  channels : Tab Channel := []
  sampleTime : Nat := 2
  scan : ScanState := .idle
  record : Tab (Option ScanEntry) := []
  refPass : Bool := true
  fault : Bool := false
  published : Tab Published := []
deriving DecidableEq, Repr

/-! ## ZCU, the zone control unit (R67, R69) -/

/-- Zone stages (R69). -/
inductive Stage | idle | startPending | delay | ramp | hold | cool | done
deriving DecidableEq, Repr

/-- A zone record (R69). -/
structure Zone where
  stage : Stage := .idle
  profile : Option Nat := none
  setpoint : Option Int := none
  timer : Nat := 0
  priority : Nat := 2
  pendingPriority : Option Nat := none
  follow : Option Nat := none
  advance : Bool := false
  computed : Nat := 0
  request : Nat := 0
deriving DecidableEq, Repr

/-- The zone control unit (R67, R69). -/
structure Zcu where
  profiles : Tab Profile := []
  zones : Tab Zone := []
deriving DecidableEq, Repr

/-! ## SHA, the steam header allocator (R88) -/

/-- An allocation entry of a frame (R88). The placement is (lane, first step). -/
structure FrameEntry where
  zone : Nat
  priority : Nat
  request : Nat
  allocation : Nat
  trimmed : Bool
  placement : Option (Nat × Nat)
deriving DecidableEq, Repr

/-- A frame record (R88). Its capacity is `k * 60` valve-steps. -/
structure Frame where
  k : Nat
  minOpen : Nat
  inhibited : Bool
  entries : List FrameEntry
deriving DecidableEq, Repr

/-- The steam header allocator (R88). The running frame stands with its current step. -/
structure Sha where
  k : Nat := 6
  pendingK : Option Nat := none
  minOpen : Nat := 3
  pendingMinOpen : Option Nat := none
  inhibit : Bool := false
  prepared : Option Frame := none
  running : Option (Frame × Nat) := none
deriving DecidableEq, Repr

/-- The level of an output line (R3, R95, R180). -/
inductive Level | low | high
deriving DecidableEq, Repr

/-! ## PCT, the piece table (R101) -/

/-- Piece states (R101). -/
inductive PieceState | free | planned | cast | hook | stock
deriving DecidableEq, Repr

/-- Where a live piece is (R101). -/
inductive Location
  | bed (bed segment : Nat)
  | crane (c : Crane)
  | cell (cell level : Nat)
deriving DecidableEq, Repr

/-- A piece record (R101). The seven fields written at allocation stand together in `desc`, which is *none* in
a FREE record. -/
structure Piece where
  state : PieceState := .free
  desc : Option Desc := none
  accumulator : Nat := 0
  suspect : Nat := 0
  castMinute : Option Nat := none
  location : Option Location := none
  claim : Option Nat := none
deriving DecidableEq, Repr

/-! ## STK, the stock unit (R105, R112, R117) -/

/-- A cell record (R105). Pending-in is the length of `arrivals`. -/
structure Cell where
  stack : List Nat := []
  arrivals : List Nat := []
  pendingOut : Nat := 0
deriving DecidableEq, Repr

/-- The derived direction of a cell (R105). -/
inductive Direction | into | out | none
deriving DecidableEq, Repr

/-- A shipped entry of a bay (R112). -/
structure Shipped where
  mark : List Nat
  pour : Nat
  weight : Nat
  minute : Nat
deriving DecidableEq, Repr

/-- A bay record (R112). -/
structure Bay where
  opened : Bool := false
  limit : Option Nat := none
  load : Nat := 0
  pendingWeight : Nat := 0
  pendingCount : Nat := 0
  shipped : List Shipped := []
deriving DecidableEq, Repr

/-- The stock unit (R105, R112, R117). -/
structure Stk where
  cells : Tab Cell := []
  bays : Tab Bay := []
  generation : Nat := 0
  cursorPL : Nat := 0
  cursorCW : Nat := 0
  cursorCE : Nat := 0
deriving DecidableEq, Repr

/-! ## RRU, the runway reservation unit (R119, R120) -/

/-- Presence of a crane (R119). -/
inductive Presence | unseen | active | stale | out
deriving DecidableEq, Repr

/-- Hook state of a crane (R119). -/
inductive Hook | empty | loaded
deriving DecidableEq, Repr

/-- Why a move last failed to start a leg (R141). -/
inductive WaitReason | runway | vacate | crane | loadedConflict | bed | strength | buried | lane | barrier
deriving DecidableEq, Repr

/-- A standing refusal (R119, R130). The need is absent for a crane with no interval (R126). -/
structure Refused where
  serial : Nat
  reason : WaitReason
  need : Option Range
deriving DecidableEq, Repr

/-- A crane record of the runway unit (R119). -/
structure CraneRec where
  presence : Presence := .unseen
  position : Option Nat := none
  hook : Option Hook := none
  interval : Option Range := none
  timer : Option Nat := none
  outside : Bool := false
  refusal : Option Refused := none
  hull : Option Range := none
deriving DecidableEq, Repr

/-- A vacate record (R120). -/
structure Vacate where
  releasing : Crane
  seconds : Nat
deriving DecidableEq, Repr

/-- The runway reservation unit (R119, R120). The breach latch is LATCHED with the crane in `breach`. The deadlock
pair is its lower serial with the other one, if there are two. -/
structure Rru where
  west : CraneRec := {}
  east : CraneRec := {}
  vacates : Tab (Option Vacate) := []
  breach : Option Crane := none
  breachCount : Nat := 0
  deadlock : Option (Nat × Option Nat) := none
deriving DecidableEq, Repr

/-! ## MVU, the move unit (R141, R142) -/

/-- Kinds of move (R141, R143). -/
inductive MoveKind | strip | restack | loadOut | park | setDown
deriving DecidableEq, Repr

/-- Styles of move (R141). -/
inductive Style | normal | atomic | preempt
deriving DecidableEq, Repr

/-- Source of a move (R141). -/
inductive Source
  | bed (b : Nat)
  | cell (c : Nat)
deriving DecidableEq, Repr

/-- Destination of a move (R141). -/
inductive Dest
  | cell (c : Nat)
  | bay (b : Nat)
  | segment (n : Nat)
deriving DecidableEq, Repr

/-- Sub-phase of a LIFTED move (R141). -/
inductive SubPhase | waitPlace | toPlace
deriving DecidableEq, Repr

/-- States in which a move stands in the table between two steps (R141). The sub-phase is present in LIFTED alone.
The terminal states are `Ending`: a move that reaches one leaves the table in the same step (R159). -/
inductive MoveState
  | queued
  | waiting
  | toPick
  | lifted (phase : SubPhase)
  | suspended
deriving DecidableEq, Repr

/-- Terminal states of a move (R141, R159). -/
inductive Ending | done | cancelled | failed
deriving DecidableEq, Repr

/-- Purpose of a stop (R141, R154). -/
inductive StopPurpose | cancel | suspend
deriving DecidableEq, Repr

/-- A stop (R141, R154). -/
inductive Stop
  | none
  | owed (p : StopPurpose)
  | sent (p : StopPurpose)
deriving DecidableEq, Repr

/-- Who made a move (R141). -/
inductive Origin | planner | generated
deriving DecidableEq, Repr

/-- A live record of the move table (R141). Its slot is its key in the table. -/
structure Move where
  serial : Nat
  crane : Crane
  kind : MoveKind
  style : Style
  suspendable : Bool
  piece : Option Nat
  source : Option Source
  dest : Dest
  pick : Option Nat
  place : Nat
  state : MoveState
  reason : Option WaitReason
  stop : Stop
  origin : Origin
deriving DecidableEq, Repr

/-- An entry of a crane's queue (R142): the slot of a submitted move, or a barrier. -/
inductive Entry
  | move (slot : Nat)
  | barrier
deriving DecidableEq, Repr

/-- Lane of a crane (R142, R149). -/
inductive Lane | none | pending | active
deriving DecidableEq, Repr

/-- The kind of an order (R142, R151). -/
inductive OrderKind | idle | go | stop | hold
deriving DecidableEq, Repr

/-- What the move unit holds for a crane (R142). -/
structure CraneWork where
  queue : List Entry := []
  lane : Lane := .none
  mismatch : Bool := false
  orphan : Option Nat := none
  lastOrder : Option OrderKind := none
deriving DecidableEq, Repr

/-- The move unit (R141, R142). Slots 0 to 15 hold submitted moves, 16 and 17 the yields of W and E. -/
structure Mvu where
  moves : Tab (Option Move) := []
  west : CraneWork := {}
  east : CraneWork := {}
  serial : Nat := 1
deriving DecidableEq, Repr

/-! ## CND, the condition unit (R175, R177, R181) -/

/-- Status of a condition record (R175). -/
inductive CondStatus | notice | standing | cleared
deriving DecidableEq, Repr

/-- A condition record (R175). -/
structure Cond where
  kind : CondKind
  subject : Subject
  first : Nat
  count : Nat
  status : CondStatus
deriving DecidableEq, Repr

/-- The condition set of a port with its overflow flag (R175), the level of its attention line, high when it is asserted
and low when it is deasserted (R180), and its report modes, by kind (R177). -/
structure CondSet where
  records : List Cond := []
  overflow : Bool := false
  line : Level := .low
  modes : Tab ReportMode := []
deriving DecidableEq, Repr

/-- An entry of a panel flag set (R181). -/
structure Flag where
  first : Nat
  count : Nat
  status : CondStatus
deriving DecidableEq, Repr

/-- The panel flag set of a bed (R181). -/
structure PanelFlags where
  ready : Option Flag := none
  expired : Option Flag := none
  probeLost : Option Flag := none
  panelLost : Option Flag := none
deriving DecidableEq, Repr

/-- The condition unit (R175, R181). -/
structure Cnd where
  pl : CondSet := {}
  cw : CondSet := {}
  ce : CondSet := {}
  flags : Tab PanelFlags := []
deriving DecidableEq, Repr

/-! ## Orders and replies (R151, R169) -/

/-- The leg of a GO order (R151, section 10.6). -/
inductive Leg | pick | place | park
deriving DecidableEq, Repr

/-- The detail of a GO order (R143, section 10.6). -/
inductive Detail
  | none
  | bed (bed position : Nat)
  | cell (c : Nat)
  | bay (b : Nat)
deriving DecidableEq, Repr

/-- What a GO order carries (R151). -/
structure GoOrder where
  serial : Nat
  leg : Leg
  target : Nat
  detail : Detail
deriving DecidableEq, Repr

/-- The order in the reply to a CRANE-REPORT (R151). -/
inductive Order
  | idle
  | go (g : GoOrder)
  | stop
  | hold
deriving DecidableEq, Repr

/-- The result codes of R169. -/
inductive Result
  | done | unknown | wrongPort | badField | notRunning | state | full | notFound | inUse | claimed
  | buried | weight | loaded | active | locked
deriving DecidableEq, Repr

/-- Why a release check failed (R28). -/
inductive ReleaseFail
  | ambient
  | warm (zone : Nat)
  | strength (slot : Nat)
deriving DecidableEq, Repr

/-- The end of a move that an IN-USE or STATE answer names (R106, R107, R113). -/
inductive Side | source | destination
deriving DecidableEq, Repr

/-- PIECE-QUERY data for a slot that is not FREE (R104, R63). The temperature of the source is given if it is
usable. -/
structure PieceReply where
  slot : Nat
  piece : Piece
  releaseOk : Bool
  shipOk : Bool
  source : Option (Nat × Published)
  top : Bool
  above : Nat
  unclaimedAbove : Nat
deriving DecidableEq, Repr

/-- BED-QUERY data (R33). The panel is (lost, missed-poll count), *none* for an unconfigured bed. -/
structure BedReply where
  configured : Bool
  state : BedState
  plan : Option Plan
  pieces : List Nat
  castMinute : Option Nat
  deadline : Option Nat
  remaining : Option Nat
  panel : Option (Bool × Nat)
  zones : List Nat
deriving DecidableEq, Repr

/-- The zone part of ZONE-QUERY data (R86): every field of R69. That the zone's number, a fixed field, is among them is the
model's choice (log entry 42). -/
structure ZonePart where
  number : Nat
  zone : Zone
  bed : Option Nat
  range : Option Range
  bedState : Option BedState
  running : Option FrameEntry
  step : Option Nat
  prepared : Option FrameEntry
deriving DecidableEq, Repr

/-- The converter part of ZONE-QUERY data for number 18 (R48). -/
structure ConverterPart where
  sampleTime : Nat
  scan : ScanState
  refPass : Bool
  fault : Bool
deriving DecidableEq, Repr

/-- ZONE-QUERY data (R48, R86, R99). The two frame fields are present with a frame, and say whether it was prepared
under inhibit. -/
structure ZoneReply where
  channel : Channel
  zone : Option ZonePart
  converter : Option ConverterPart
  k : Nat
  pendingK : Option Nat
  minOpen : Nat
  pendingMinOpen : Option Nat
  inhibit : Bool
  runningInhibited : Option Bool
  preparedInhibited : Option Bool
deriving DecidableEq, Repr

/-- MOVE-QUERY data (R162). -/
structure MoveReply where
  slot : Nat
  move : Move
  place : Option Nat
  order : Option (Nat × Detail)
deriving DecidableEq, Repr

/-- An entry of the queue as CRANE-QUERY gives it (R162). -/
inductive QueueItem
  | move (serial : Nat) (state : MoveState) (reason : Option WaitReason)
  | barrier
deriving DecidableEq, Repr

/-- CRANE-QUERY data (R138, R162). -/
structure CraneReply where
  crane : CraneRec
  gap : Nat
  breach : Option Crane
  breachCount : Nat
  deadlock : Option (Nat × Option Nat)
  vacates : List (Nat × Vacate)
  queue : List QueueItem
  lane : Lane
  mismatch : Bool
  orphan : Option Nat
  yieldSerial : Option Nat
  stopping : Option Nat
  lastOrder : Option OrderKind
  serial : Nat
deriving DecidableEq, Repr

/-- A piece of a stack as STOCK-READ gives it (R117). -/
structure StackItem where
  slot : Nat
  mark : List Nat
  weight : Nat
  releaseOk : Bool
  shipOk : Bool
  claimed : Bool
deriving DecidableEq, Repr

/-- STOCK-READ data (R117). -/
structure StockReply where
  cell : Nat
  inUse : Bool
  layout : CellLayout
  pendingIn : Nat
  pendingOut : Nat
  direction : Direction
  stack : List StackItem
  generation : Nat
deriving DecidableEq, Repr

/-- COND-READ data (R179, R173): the set, the counts (errors, overruns) of the port, and on PL those of PL, CW, CE
and BL. -/
structure CondReply where
  overflow : Bool
  records : List Cond
  counts : Nat × Nat
  allCounts : List (Nat × Nat)
deriving DecidableEq, Repr

/-- The data that follows the result code in a reply. Each constructor's rule is the rule that names the data. -/
inductive Data
  | none
  /-- BAD-FIELD naming a field (R170). -/
  | field (n : Nat)
  /-- BAD-FIELD naming a field of a list entry, and the entry's position from 1 (R170). -/
  | entryField (n position : Nat)
  /-- LOCK-LAYOUT's failing check and record (R6). -/
  | lockCheck (check record : Nat)
  /-- The bed's state (R18, R20, R21, R145). -/
  | bedState (st : BedState)
  /-- PLAN-LOAD's slots in plan order (R19). -/
  | slots (l : List Nat)
  /-- A count: pieces left (R32), pending count (R114), unclaimed pieces above (R106). -/
  | count (n : Nat)
  /-- A permit deadline (R29). -/
  | deadline (minute : Nat)
  /-- The release check's reason (R28). -/
  | release (r : ReleaseFail)
  /-- A zone's stage (R78). -/
  | stage (st : Stage)
  /-- A zone number (R68, R84). -/
  | zone (z : Nat)
  /-- A setting in force and the pending one (R83, R96). -/
  | setting (inForce : Nat) (pending : Option Nat)
  /-- The stored trim (R45). -/
  | trim (t : Int)
  /-- MOVE-SUBMIT's serial and slot (R146). -/
  | accepted (serial slot : Nat)
  /-- A move serial (R103). -/
  | serial (n : Nat)
  /-- A piece slot (R115, R116, R145). -/
  | slot (n : Nat)
  /-- The end named (R106, R107, R113). -/
  | side (e : Side)
  /-- The projected top and its weight class (R107). -/
  | weight (slot weight : Nat)
  /-- MOVE-CANCEL: stopping, or cancelled (R158). -/
  | cancel (stopping : Bool)
  /-- The lane (R149). -/
  | lane (l : Lane)
  /-- A crane's presence (R123). -/
  | presence (p : Presence)
  /-- A crane (R137). -/
  | crane (c : Crane)
  /-- BAY-CLOSE's entries (R114). -/
  | bayEntries (total : Nat) (entries : List Shipped) (closed : Bool)
  /-- REMOVE-RECORD's freed record (R116). -/
  | removed (mark : List Nat) (pour weight accumulator : Nat)
  /-- FLAGS-ACK's standing kinds (R181). -/
  | kinds (l : List CondKind)
  /-- The order of a CRANE-REPORT reply (R151). -/
  | order (o : Order)
  /-- PIECE-QUERY of a FREE slot (R104). -/
  | freeSlot (n : Nat)
  | piece (r : PieceReply)
  | bed (r : BedReply)
  | zoneRecord (r : ZoneReply)
  | moveRecord (r : MoveReply)
  | craneRecord (r : CraneReply)
  | stock (r : StockReply)
  | conditions (r : CondReply)
deriving DecidableEq, Repr

/-- A reply (R169). -/
structure Reply where
  result : Result
  data : Data := .none
deriving DecidableEq, Repr

/-! ## LNK, the link ports (sections 10.2, 10.4) -/

/-- A reply as it is sent: on BL each of its frames is preceded by an address character, on another port by none (section 10.1,
R171). -/
structure Sent where
  address : Option Chr
  reply : Reply
deriving DecidableEq, Repr

/-- Receive states of a port (section 10.2). -/
inductive RxState | hunt | chain | handling | replying
deriving DecidableEq, Repr

/-- A port's record (section 10.2, R173). `inHand` is the sequence and kind of the request in hand, or of the chain
being received, `frames` the number of that chain's frames and `joined` their bodies joined (R166), `begun` the bytes of
a frame begun and not yet ended, from its A5h on (R165), `reply` the reply being sent, with its address character. -/
structure PortRec where
  rx : RxState := .hunt
  inHand : Option (Nat × Kind) := none
  frames : Nat := 0
  joined : List Nat := []
  begun : List Nat := []
  reply : Option Sent := none
  errors : Nat := 0
  overruns : Nat := 0
deriving DecidableEq, Repr

/-- A poll as it was sent (R171). That its flags hold their first minutes too is the model's choice (log entry 45). -/
structure Poll where
  bed : Nat
  seq : Nat
  flags : PanelFlags
deriving DecidableEq, Repr

/-- The link ports (sections 10.2, 10.4). `poll` is the last poll sent since reset, `window` whether its answer
window is open, `pollSeq` the sequence of the next poll. -/
structure Lnk where
  pl : PortRec := {}
  cw : PortRec := {}
  ce : PortRec := {}
  bl : PortRec := {}
  poll : Option Poll := none
  window : Bool := false
  pollSeq : Nat := 0
deriving DecidableEq, Repr

/-! ## The machine -/

/-- The whole state. `pending` is the model's own field: the commands that are waiting, first in, first out
(log entry 1). -/
structure State where
  lyt : Layout := {}
  clk : Clock := {}
  rst : ResetCtl := {}
  beds : Tab Bed := []
  pcv : Pcv := {}
  zcu : Zcu := {}
  sha : Sha := {}
  valves : Tab Level := []
  pct : Tab Piece := []
  stk : Stk := {}
  rru : Rru := {}
  mvu : Mvu := {}
  cnd : Cnd := {}
  lnk : Lnk := {}
  pending : List Instr := []
deriving DecidableEq, Repr

/-- No rule of the spec stops the part, so a step has no fault: the type has no constructor. -/
inductive Fault
deriving DecidableEq, Repr

/-- Why a command has no meaning. -/
inductive Refusal
  /-- Raised by an arm of `exec` for a command that is not modelled yet, by its mnemonic; no arm raises it now. Safe:
  nothing is claimed of such a command. -/
  | notModelled (mnemonic : String)
deriving DecidableEq, Repr

/-- The outcome of a step of this machine. -/
abbrev Outcome := Host.Outcome State Fault Refusal

/-- The machine right after a cold reset (R12): every record at its cold-reset value, in CONFIG, nothing pending. -/
def State.reset : State := {}

end Sys2Proof.Machine
end

