-- ==== Sys2Proof/Machine/Ops.lean ====
section
/-! DEFINITION. Ops.lean: the named operations every meaning is written with: reading and writing a numbered
table, the record accessors of each block, and the small arithmetic the chapters share. -/

namespace Sys2Proof

/-! ## Numbered tables -/

/-- The record with number `i`: the listed one, else the cold-reset value `d`. -/
def Tab.read {α : Type} (d : α) : Tab α → Nat → α
  | [], _ => d
  | (k, v) :: rest, i => if k = i then v else Tab.read d rest i

/-- Without every entry numbered `i`. -/
def Tab.drop {α : Type} (i : Nat) : Tab α → Tab α
  | [] => []
  | (k, v) :: rest => if k = i then Tab.drop i rest else (k, v) :: Tab.drop i rest

/-- With an entry put before the first higher number. -/
def Tab.insert {α : Type} (i : Nat) (v : α) : Tab α → Tab α
  | [] => [(i, v)]
  | (k, w) :: rest => if i < k then (i, v) :: (k, w) :: rest else (k, w) :: Tab.insert i v rest

/-- Record `i` becomes `v`. Writing the cold-reset value removes the entry, so equal tables are equal lists. -/
def Tab.write {α : Type} [DecidableEq α] (d : α) (t : Tab α) (i : Nat) (v : α) : Tab α :=
  if v = d then t.drop i else (t.drop i).insert i v

/-- The table whose records `0` to `n - 1` are given by `f`. -/
def Tab.build {α : Type} [DecidableEq α] (d : α) (n : Nat) (f : Nat → α) : Tab α :=
  ((List.range n).filter (fun i => f i ≠ d)).map (fun i => (i, f i))

/-- Every record `0` to `n - 1` changed by `f`. -/
def Tab.mapAll {α : Type} [DecidableEq α] (d : α) (n : Nat) (f : Nat → α → α) (t : Tab α) : Tab α :=
  Tab.build d n (fun i => f i (t.read d i))

/-- Numbers strictly rising from `lo`, each below `n`, and no entry at the cold-reset value. -/
def Tab.wfFrom {α : Type} [DecidableEq α] (d : α) (n : Nat) : Nat → Tab α → Bool
  | _, [] => true
  | lo, (k, v) :: rest => lo ≤ k && k < n && v ≠ d && Tab.wfFrom d n (k + 1) rest

/-- The canonical form of a table of records `0` to `n - 1`. -/
def Tab.wf {α : Type} [DecidableEq α] (d : α) (n : Nat) (t : Tab α) : Bool := t.wfFrom d n 0

/-! ## Ranges of segments -/

/-- Whether a segment lies in the range. -/
def Range.has (r : Range) (n : Nat) : Bool := r.lo ≤ n && n ≤ r.hi

/-- Whether two ranges overlap: each one's low end is at most the other's high end (R125). -/
def Range.overlaps (a b : Range) : Bool := a.lo ≤ b.hi && b.lo ≤ a.hi

/-- The one-segment range. -/
def Range.point (n : Nat) : Range := ⟨n, n⟩

/-- The smallest range that holds two segments. -/
def Range.hull (a b : Nat) : Range := ⟨min a b, max a b⟩

/-- Whether a range is a part of another. -/
def Range.within (a b : Range) : Bool := b.lo ≤ a.lo && a.hi ≤ b.hi

/-- The segments of a range. -/
def Range.segments (r : Range) : List Nat := (List.range Config.segments).filter r.has

/-- The other crane. -/
def Crane.other : Crane → Crane
  | .W => .E
  | .E => .W

/-- The number, from 1, of the first check in field order that does not hold. -/
def firstBad : List Bool → Option Nat
  | [] => none
  | true :: rest => (firstBad rest).map (· + 1)
  | false :: _ => some 1

namespace Machine

/-! ## Shared arithmetic -/

/-- The minute after a minute count (R9). -/
def nextMinute (m : Nat) : Nat := if m = Config.word32Max then 0 else m + 1

/-- The sum of a minute count and an interval, which wraps as the minute count does (R29). -/
def addMinutes (m n : Nat) : Nat := (m + n) % (Config.word32Max + 1)

/-- The minutes from `m` forward to `deadline` (R33; modulo the minute count's wrap, log entry 32). -/
def minutesTo (m deadline : Nat) : Nat := (deadline + (Config.word32Max + 1) - m) % (Config.word32Max + 1)

/-- The serial after a serial: 4,294,967,295 is followed by 1 (R142). -/
def nextSerial (n : Nat) : Nat := if n = Config.word32Max then 1 else n + 1

/-- The generation count after a change to stock (R117). -/
def nextGeneration (n : Nat) : Nat := if n = Config.word32Max then 0 else n + 1

/-- A count raised by 1 and held at `limit`. -/
def holdAt (limit n : Nat) : Nat := min limit (n + 1)

/-- A whole number held between two limits (R39, R58, R79). -/
def clampInt (lo hi v : Int) : Int := max lo (min hi v)

/-! ## Mode and hold -/

/-- The part is held in reset (R14). -/
def State.held (s : State) : Bool := s.rst.hold ≠ .none

/-- The mode is RUN exactly while the layout is locked (R4). -/
def State.run (s : State) : Bool := s.lyt.locked

/-! ## Record accessors -/

/-- Layout record of a segment (R1). -/
def State.segment (s : State) (n : Nat) : SegmentRec := s.lyt.segments.read {} n
/-- Layout record of a bed (R1). -/
def State.bedLayout (s : State) (b : Nat) : BedLayout := s.lyt.beds.read {} b
/-- Layout record of a zone (R1). -/
def State.zoneLayout (s : State) (z : Nat) : ZoneLayout := s.lyt.zones.read {} z
/-- Layout record of a cell (R1). -/
def State.cellLayout (s : State) (c : Nat) : CellLayout := s.lyt.cells.read {} c
/-- Layout record of a bay (R1). -/
def State.bayLayout (s : State) (b : Nat) : BayLayout := s.lyt.bays.read {} b
/-- Bed record (R16). -/
def State.bed (s : State) (b : Nat) : Bed := s.beds.read {} b
/-- Channel record (R36). -/
def State.channel (s : State) (c : Nat) : Channel := s.pcv.channels.read {} c
/-- Entry of the published set (R44). -/
def State.published (s : State) (c : Nat) : Published := s.pcv.published.read {} c
/-- Curing profile (R67). -/
def State.profile (s : State) (p : Nat) : Profile := s.zcu.profiles.read {} p
/-- Zone record (R69). -/
def State.zone (s : State) (z : Nat) : Zone := s.zcu.zones.read {} z
/-- Piece record (R101). -/
def State.piece (s : State) (n : Nat) : Piece := s.pct.read {} n
/-- Cell record (R105). -/
def State.cell (s : State) (c : Nat) : Cell := s.stk.cells.read {} c
/-- Bay record (R112). -/
def State.bay (s : State) (b : Nat) : Bay := s.stk.bays.read {} b
/-- Vacate record of a segment (R120). -/
def State.vacate (s : State) (n : Nat) : Option Vacate := s.rru.vacates.read none n
/-- Record of the move table (R141). -/
def State.move (s : State) (slot : Nat) : Option Move := s.mvu.moves.read none slot
/-- Panel flags of a bed (R181). -/
def State.flags (s : State) (b : Nat) : PanelFlags := s.cnd.flags.read {} b
/-- Valve output line (R95). -/
def State.valve (s : State) (z : Nat) : Level := s.valves.read .low z

/-- Runway record of a crane (R119). -/
def State.crane (s : State) : Crane → CraneRec
  | .W => s.rru.west
  | .E => s.rru.east

/-- Move-unit record of a crane (R142). -/
def State.work (s : State) : Crane → CraneWork
  | .W => s.mvu.west
  | .E => s.mvu.east

/-- Condition set of a port (R175). -/
def State.condSet (s : State) : Point → CondSet
  | .PL => s.cnd.pl
  | .CW => s.cnd.cw
  | .CE => s.cnd.ce

/-- Record of a link port (section 10.2). -/
def State.port (s : State) : Port → PortRec
  | .PL => s.lnk.pl
  | .CW => s.lnk.cw
  | .CE => s.lnk.ce
  | .BL => s.lnk.bl

/-- Stock cursor of a port (R117). -/
def State.cursor (s : State) : Point → Nat
  | .PL => s.stk.cursorPL
  | .CW => s.stk.cursorCW
  | .CE => s.stk.cursorCE

/-! ## Record updates -/

/-- Bed record `b` becomes `r`. -/
def State.setBed (s : State) (b : Nat) (r : Bed) : State := { s with beds := s.beds.write {} b r }
/-- Channel record `c` becomes `r`. -/
def State.setChannel (s : State) (c : Nat) (r : Channel) : State :=
  { s with pcv := { s.pcv with channels := s.pcv.channels.write {} c r } }
/-- Profile `p` becomes `r`. -/
def State.setProfile (s : State) (p : Nat) (r : Profile) : State :=
  { s with zcu := { s.zcu with profiles := s.zcu.profiles.write {} p r } }
/-- Zone record `z` becomes `r`. -/
def State.setZone (s : State) (z : Nat) (r : Zone) : State :=
  { s with zcu := { s.zcu with zones := s.zcu.zones.write {} z r } }
/-- Piece record `n` becomes `r`. -/
def State.setPiece (s : State) (n : Nat) (r : Piece) : State := { s with pct := s.pct.write {} n r }
/-- Cell record `c` becomes `r`. -/
def State.setCell (s : State) (c : Nat) (r : Cell) : State :=
  { s with stk := { s.stk with cells := s.stk.cells.write {} c r } }
/-- Bay record `b` becomes `r`. -/
def State.setBay (s : State) (b : Nat) (r : Bay) : State :=
  { s with stk := { s.stk with bays := s.stk.bays.write {} b r } }
/-- Record `slot` of the move table becomes `r`. -/
def State.setMove (s : State) (slot : Nat) (r : Option Move) : State :=
  { s with mvu := { s.mvu with moves := s.mvu.moves.write none slot r } }
/-- Vacate record of segment `n` becomes `r`. -/
def State.setVacate (s : State) (n : Nat) (r : Option Vacate) : State :=
  { s with rru := { s.rru with vacates := s.rru.vacates.write none n r } }
/-- Panel flags of bed `b` become `r`. -/
def State.setFlags (s : State) (b : Nat) (r : PanelFlags) : State :=
  { s with cnd := { s.cnd with flags := s.cnd.flags.write {} b r } }
/-- The generation count rises by 1 (R117). -/
def State.bumpGeneration (s : State) : State :=
  { s with stk := { s.stk with generation := nextGeneration s.stk.generation } }

/-- Runway record of crane `x` becomes `r`. -/
def State.setCrane (s : State) (x : Crane) (r : CraneRec) : State :=
  match x with
  | .W => { s with rru := { s.rru with west := r } }
  | .E => { s with rru := { s.rru with east := r } }

/-- Move-unit record of crane `x` becomes `r`. -/
def State.setWork (s : State) (x : Crane) (r : CraneWork) : State :=
  match x with
  | .W => { s with mvu := { s.mvu with west := r } }
  | .E => { s with mvu := { s.mvu with east := r } }

/-- Condition set of port `p` becomes `r`. -/
def State.setCondSet (s : State) (p : Point) (r : CondSet) : State :=
  match p with
  | .PL => { s with cnd := { s.cnd with pl := r } }
  | .CW => { s with cnd := { s.cnd with cw := r } }
  | .CE => { s with cnd := { s.cnd with ce := r } }

/-- Record of port `p` becomes `r`. -/
def State.setPort (s : State) (p : Port) (r : PortRec) : State :=
  match p with
  | .PL => { s with lnk := { s.lnk with pl := r } }
  | .CW => { s with lnk := { s.lnk with cw := r } }
  | .CE => { s with lnk := { s.lnk with ce := r } }
  | .BL => { s with lnk := { s.lnk with bl := r } }

/-- Stock cursor of port `p` becomes `c`. -/
def State.setCursor (s : State) (p : Point) (c : Nat) : State :=
  match p with
  | .PL => { s with stk := { s.stk with cursorPL := c } }
  | .CW => { s with stk := { s.stk with cursorCW := c } }
  | .CE => { s with stk := { s.stk with cursorCE := c } }

/-! ## Derived records -/

/-- A bed number names a configured bed. -/
def State.bedConfigured (s : State) (b : Nat) : Bool :=
  1 ≤ b && b ≤ Config.beds && (s.bedLayout b).configured

/-- The zones of a bed, in ascending number (R1, R16). -/
def State.bedZones (s : State) (b : Nat) : List Nat :=
  (List.range Config.zones).filter (fun z => (s.zoneLayout z).bed = some b)

/-- A cell number names a cell in use (R105). -/
def State.cellInUse (s : State) (c : Nat) : Bool := c < Config.cells && (s.cellLayout c).segment.isSome

/-- A bay number names a configured bay (R112). -/
def State.bayConfigured (s : State) (b : Nat) : Bool := (b = 1 || b = 2) && (s.bayLayout b).segment.isSome

/-- Presence timeout of a crane (R1). -/
def State.presenceTimeout (s : State) : Crane → Nat
  | .W => s.lyt.yard.presenceW
  | .E => s.lyt.yard.presenceE

/-- A published entry as its consumers take it: the temperature if the state is VALID or HELD (R44, R57). -/
def Published.usable (p : Published) : Option Int :=
  match p.state with
  | .valid => p.temp
  | .held => p.temp
  | .unsettled => none
  | .lost => none

/-- The usable temperature of a channel in the published set. -/
def State.usable (s : State) (c : Nat) : Option Int := (s.published c).usable

/-- Weight class of a piece, 0 for a record with no description. -/
def Piece.weight (p : Piece) : Nat := (p.desc.map Desc.weight).getD 0

/-- Mark of a piece, empty for a record with no description. -/
def Piece.mark (p : Piece) : List Nat := (p.desc.map Desc.mark).getD []

/-- Pour id of a piece, 0 for a record with no description. -/
def Piece.pour (p : Piece) : Nat := (p.desc.map Desc.pour).getD 0

/-- Bed segment of a piece, 0 for a record with no description. -/
def Piece.segment (p : Piece) : Nat := (p.desc.map Desc.segment).getD 0

/-- A piece is live in CAST, HOOK or STOCK (R50). -/
def Piece.live (p : Piece) : Bool :=
  match p.state with
  | .cast => true
  | .hook => true
  | .stock => true
  | .free => false
  | .planned => false

/-- Release-ok: the accumulator is at least the release target times 600 (R61). -/
def Piece.releaseOk (p : Piece) : Bool := (p.desc.map Desc.release).getD 0 * Config.unitsPerHour ≤ p.accumulator

/-- Ship-ok: the accumulator is at least the ship target times 600 (R61). -/
def Piece.shipOk (p : Piece) : Bool := (p.desc.map Desc.ship).getD 0 * Config.unitsPerHour ≤ p.accumulator

/-- A piece record freed: every field at its FREE value (R102). -/
def State.freePiece (s : State) (n : Nat) : State := s.setPiece n {}

/-- The records of a list freed, in order. -/
def State.freePieces (s : State) (l : List Nat) : State := l.foldl State.freePiece s

/-- The lowest-numbered FREE slot (R102). -/
def State.lowestFree (s : State) : Option Nat :=
  (List.range Config.slots).find? (fun n => (s.piece n).state = .free)

/-- The number of FREE records (R19). -/
def State.freeCount (s : State) : Nat :=
  ((List.range Config.slots).filter (fun n => (s.piece n).state = .free)).length

/-- Claim of a piece set or released (R103). -/
def State.setClaim (s : State) (n : Nat) (c : Option Nat) : State := s.setPiece n { s.piece n with claim := c }

/-! ## Valve lines (R3, R95) -/

/-- The closed level of a valve sense (R3). -/
def senseClosed : Sense → Level
  | .openHigh => .low
  | .openLow => .high

/-- The open level of a valve sense (R95). -/
def senseOpened : Sense → Level
  | .openHigh => .high
  | .openLow => .low

/-- Every valve line set: open where `f` says so, by the sense of its zone. -/
def State.driveValves (s : State) (f : Nat → Bool) : State :=
  { s with valves := Tab.build .low Config.zones (fun z =>
      if f z then senseOpened (s.zoneLayout z).sense else senseClosed (s.zoneLayout z).sense) }

/-- Every valve line at its closed level. -/
def State.closeValves (s : State) : State := s.driveValves (fun _ => false)

/-- Every valve line low: the closed level of the layout a cold reset leaves, OPEN-HIGH for every zone (R14). -/
def State.lowValves (s : State) : State := { s with valves := [] }

end Machine
end Sys2Proof
end

