-- ==== Sys2Proof/Machine/Flags.lean ====
section
/-! DEFINITION. Flags.lean: the condition unit's shared operations (chapter 11): a posting at a port's set, the end of
a standing cause, the panel flag sets, and the attention lines, which stand with their sets. -/

namespace Sys2Proof.Machine

/-- Standing kinds (R175). -/
def condStanding : CondKind → Bool
  | .breach => true
  | .craneStale => true
  | .hookMismatch => true
  | .deadlock => true
  | .probeLost => true
  | .converterFault => true
  | .panelLost => true
  | .restarted => false
  | .moveDone => false
  | .moveFailed => false
  | .moveCancelled => false
  | .eventMismatch => false
  | .heatTrimmed => false
  | .bedReady => false
  | .permitExpired => false
  | .laneActive => false

/-- The place of a standing kind in the table of report modes (R177). -/
def condIndex : CondKind → Nat
  | .breach => 0
  | .craneStale => 1
  | .hookMismatch => 2
  | .deadlock => 3
  | .probeLost => 4
  | .converterFault => 5
  | .panelLost => 6
  | .restarted => 7
  | .moveDone => 8
  | .moveFailed => 9
  | .moveCancelled => 10
  | .eventMismatch => 11
  | .heatTrimmed => 12
  | .bedReady => 13
  | .permitExpired => 14
  | .laneActive => 15

/-- Capacity of a port's set (R175). -/
def setCapacity : Point → Nat
  | .PL => 32
  | .CW => 8
  | .CE => 8

/-- The port of a crane (R168). -/
def cranePoint : Crane → Point
  | .W => .CW
  | .E => .CE

/-- The report mode of a kind on a port (R177). -/
def State.modeOf (s : State) (p : Point) (k : CondKind) : ReportMode :=
  (s.condSet p).modes.read .both (condIndex k)

/-- A record of this kind and subject (R175: a set holds at most one). -/
def Cond.names (c : Cond) (k : CondKind) (subj : Subject) : Bool := c.kind = k && c.subject = subj

/-- A record that gathers one more posting (R176). -/
def Cond.gathered (c : Cond) (raise : Bool) : Cond :=
  { c with count := holdAt Config.condCountMax c.count, status := if raise then .standing else c.status }

/-- One posting taken at a set (R176): gathered into the record of its kind and subject, or appended as a new
record, or dropped by a full set, which sets the overflow flag. `status` is the status a new record takes; `raise` says
that the posting is a standing one under BOTH. Appending asserts the attention line: it goes high (R180). -/
def CondSet.post (capacity minute : Nat) (k : CondKind) (subj : Subject) (status : CondStatus) (raise : Bool)
    (c : CondSet) : CondSet :=
  if c.records.any (fun r => r.names k subj) then
    { c with records := c.records.map (fun r => if r.names k subj then r.gathered raise else r) }
  else if c.records.length < capacity then
    { c with records := c.records ++ [⟨k, subj, minute, 1, status⟩], line := .high }
  else
    { c with overflow := true }

/-- A posting at the set of port `p`, at the current minute. -/
def State.postAt (s : State) (p : Point) (k : CondKind) (subj : Subject) (status : CondStatus) (raise : Bool) : State :=
  s.setCondSet p (CondSet.post (setCapacity p) s.clk.minute k subj status raise (s.condSet p))

/-- An event kind posted to a port (R176): NOTICE. -/
def State.postEvent (s : State) (p : Point) (k : CondKind) (subj : Subject) : State :=
  s.postAt p k subj .notice false

/-- A standing kind's cause appears, at one port, by the port's report mode (R177). -/
def State.postStanding (s : State) (p : Point) (k : CondKind) (subj : Subject) : State :=
  match s.modeOf p k with
  | .none => s
  | .raise => s.postAt p k subj .notice false
  | .clear => s
  | .both => s.postAt p k subj .standing true

/-- A standing kind's cause appears, at each of its ports (R177). -/
def State.raiseCause (s : State) (ports : List Point) (k : CondKind) (subj : Subject) : State :=
  ports.foldl (fun t p => t.postStanding p k subj) s

/-- The STANDING records of a kind and subject become CLEARED (R177). -/
def CondSet.clearStanding (k : CondKind) (subj : Subject) (c : CondSet) : CondSet :=
  { c with records := c.records.map (fun r =>
      if r.names k subj && r.status = .standing then { r with status := .cleared } else r) }

/-- A port in CLEAR mode receives its posting at the end of a cause (R177). -/
def State.postCleared (s : State) (p : Point) (k : CondKind) (subj : Subject) : State :=
  match s.modeOf p k with
  | .clear => s.postAt p k subj .cleared false
  | .none => s
  | .raise => s
  | .both => s

/-- A standing kind's cause ends (R177): every STANDING record of it becomes CLEARED in every set, then the ports in
CLEAR mode among its ports receive their posting. -/
def State.endCause (s : State) (ports : List Point) (k : CondKind) (subj : Subject) : State :=
  ports.foldl (fun t p => t.postCleared p k subj)
    { s with cnd := { s.cnd with
        pl := s.cnd.pl.clearStanding k subj
        cw := s.cnd.cw.clearStanding k subj
        ce := s.cnd.ce.clearStanding k subj } }

/-! ## Panel flags (R181) -/

/-- One posting taken at a flag entry: gathered, or made. A standing kind is kept as under BOTH. -/
def Flag.post (minute : Nat) (standing : Bool) : Option Flag → Flag
  | some f => { f with count := holdAt Config.condCountMax f.count, status := if standing then .standing else f.status }
  | none => ⟨minute, 1, if standing then .standing else .notice⟩

/-- A STANDING flag entry becomes CLEARED. -/
def Flag.clear (f : Flag) : Flag := if f.status = .standing then { f with status := .cleared } else f

/-- BED-READY posted to a bed's flags. -/
def State.flagReady (s : State) (b : Nat) : State :=
  s.setFlags b { s.flags b with ready := some (Flag.post s.clk.minute false (s.flags b).ready) }

/-- PERMIT-EXPIRED posted to a bed's flags. -/
def State.flagExpired (s : State) (b : Nat) : State :=
  s.setFlags b { s.flags b with expired := some (Flag.post s.clk.minute false (s.flags b).expired) }

/-- PROBE-LOST posted to a bed's flags. -/
def State.flagProbeLost (s : State) (b : Nat) : State :=
  s.setFlags b { s.flags b with probeLost := some (Flag.post s.clk.minute true (s.flags b).probeLost) }

/-- PANEL-LOST posted to a bed's flags. -/
def State.flagPanelLost (s : State) (b : Nat) : State :=
  s.setFlags b { s.flags b with panelLost := some (Flag.post s.clk.minute true (s.flags b).panelLost) }

/-- A channel of the bed left LOST: its PROBE-LOST entry becomes CLEARED when none of the bed's zone channels is LOST. -/
def State.unflagProbeLost (s : State) (b : Nat) : State :=
  if (s.bedZones b).any (fun z => (s.channel z).state = .lost) then s
  else s.setFlags b { s.flags b with probeLost := (s.flags b).probeLost.map Flag.clear }

/-- The panel answered again: its PANEL-LOST entry becomes CLEARED. -/
def State.unflagPanelLost (s : State) (b : Nat) : State :=
  s.setFlags b { s.flags b with panelLost := (s.flags b).panelLost.map Flag.clear }

/-- A flag entry that FLAGS-ACK leaves: a STANDING one. -/
def Flag.kept : Option Flag → Option Flag
  | some f => if f.status = .standing then some f else none
  | none => none

/-- What FLAGS-ACK leaves of a flag set. -/
def PanelFlags.acked (f : PanelFlags) : PanelFlags :=
  { ready := Flag.kept f.ready, expired := Flag.kept f.expired, probeLost := Flag.kept f.probeLost,
    panelLost := Flag.kept f.panelLost }

/-- The kinds present in a flag set, in the order of R181. -/
def PanelFlags.kinds (f : PanelFlags) : List CondKind :=
  (if f.ready.isSome then [.bedReady] else []) ++ (if f.expired.isSome then [.permitExpired] else [])
    ++ (if f.probeLost.isSome then [.probeLost] else []) ++ (if f.panelLost.isSome then [.panelLost] else [])

end Sys2Proof.Machine
end

