-- ==== Sys2Proof/Machine/Link.lean ====
section
/-! DEFINITION. Link.lean: the link ports (chapter 10): the check of a frame, which kinds a port permits, the taking of a
request and its reply, the panel state that follows the answers, and the link's own events. -/

namespace Sys2Proof.Machine

/-! ## The check of a frame (R164) -/

/-- One of the eight shifts of R164. -/
def crcShift (r : Check) : Check := if r.msb then (r <<< 1) ^^^ 0x1021#16 else r <<< 1

/-- Eight shifts, by structural recursion. -/
def crcShifts : Nat → Check → Check
  | 0, r => r
  | n + 1, r => crcShifts n (crcShift r)

/-- One byte taken into the register (R164). -/
def crcByte (r : Check) (b : Byte) : Check := crcShifts 8 (r ^^^ (b.setWidth 16 <<< 8))

/-- The check of a run of bytes: the register starts at FFFFh (R164). -/
def frameCheck (bytes : List Byte) : Check := bytes.foldl crcByte 0xFFFF#16

/-- The check a receiver computes of the bytes of a frame from its A5h on: over the length, the sequence, the kind and the
body, `length + 2` bytes in all (R164). -/
def checkOf (bytes : List Nat) (length : Nat) : Nat :=
  (frameCheck (((bytes.drop 1).take (length + 2)).map (BitVec.ofNat 8))).toNat

/-- What a receiver finds of the bytes of a frame begun: not ended yet, bad, or good (R165). -/
inductive Finding | going | bad | good
deriving DecidableEq, Repr

/-- What the last of the bytes from an A5h on makes of the frame, `ninth` saying that its character had the ninth bit set
(R165): a length outside 2 to 120 is found at the length byte, on BL a ninth bit at its character and a kind's high bit at the
kind byte, and the check at its second byte. The pause of R165 is the row BYTE_GAP_TIMEOUT. -/
def frameFinding (p : Port) (ninth : Bool) (bytes : List Nat) : Finding :=
  let length := bytes.getD 1 0
  if p = .BL && ninth then .bad
  else if bytes.length = 2 && (length < 2 || 120 < length) then .bad
  else if p = .BL && bytes.length = 4 && 128 ≤ bytes.getD 3 0 then .bad
  else if bytes.length = length + 5 then
    if bytes.getD (length + 3) 0 * 256 + bytes.getD (length + 4) 0 = checkOf bytes length then .good else .bad
  else .going

/-! ## Kinds and ports (R168, R8, R4) -/

/-- Which kinds a port permits (R168). The codes that are no kind are answered UNKNOWN before this is asked. -/
def permitted : Kind → Port → Bool
  | .layoutSegment, p | .layoutBed, p | .layoutZone, p | .layoutCell, p | .layoutBay, p | .layoutYard, p
  | .profileWrite, p | .lockLayout, p | .setClock, p | .planLoad, p | .planClear, p
  | .moveSubmit, p | .moveCancel, p | .barrier, p | .laneRequest, p | .laneRelease, p | .declareOut, p
  | .breachClear, p | .zonePriority, p | .zoneFollow, p | .advance, p | .heatOff, p | .heatOn, p | .setK, p
  | .setMinopen, p | .probeTrim, p | .sampleTime, p | .bayOpen, p | .bayClose, p | .placeRecord, p
  | .removeRecord, p | .bedQuery, p | .zoneQuery, p | .moveQuery, p | .craneQuery, p | .reportMode, p
  | .restart, p => p = .PL
  | .stockSeek, p | .stockRead, p | .pieceQuery, p | .condRead, p | .condAck, p => p ≠ .BL
  | .craneReport, p => p = .CW || p = .CE
  | .setupDone, p | .castStart, p | .castEnd, p | .pourAbort, p | .releaseRequest, p | .strandsCut, p
  | .bedClear, p | .flagsAck, p | .nothing, p => p = .BL
  | .unknown _, _ => false

/-- The layout write requests, LOCK-LAYOUT and SET-CLOCK, answered LOCKED in RUN (R4). -/
def lockedInRun : Kind → Bool
  | .layoutSegment => true
  | .layoutBed => true
  | .layoutZone => true
  | .layoutCell => true
  | .layoutBay => true
  | .layoutYard => true
  | .lockLayout => true
  | .setClock => true
  | _ => false

/-- The kinds CONFIG admits (R8): those of R4, and PROFILE-WRITE. -/
def admittedInConfig (k : Kind) : Bool := lockedInRun k || k = .profileWrite

/-- The length of a kind's body where it is fixed (R169): section 10.6 gives those of CRANE-REPORT, MOVE-SUBMIT and
PIECE-QUERY, and section 10.1 that of a kind with no fields. The others follow from the fields as Machine/Operands.lean
reads them (log entry 5). PLAN-LOAD has a list, and a code that is no kind is answered before its length is looked at. -/
def fixedLength : Kind → Option Nat
  | .lockLayout | .breachClear | .heatOff | .heatOn | .stockRead | .condRead | .restart | .setupDone | .castStart
  | .castEnd | .pourAbort | .releaseRequest | .strandsCut | .bedClear | .flagsAck | .nothing => some 1
  | .planClear | .barrier | .laneRequest | .laneRelease | .advance | .setK | .setMinopen | .sampleTime | .stockSeek
  | .pieceQuery | .bedQuery | .zoneQuery | .craneQuery => some 1
  | .layoutBay | .declareOut | .zonePriority | .zoneFollow | .bayOpen | .bayClose | .removeRecord => some 2
  | .layoutSegment | .probeTrim | .reportMode | .craneReport => some 3
  | .layoutBed | .layoutCell | .setClock | .moveCancel | .moveQuery => some 4
  | .layoutZone | .condAck => some 6
  | .layoutYard => some 8
  | .moveSubmit => some 9
  | .profileWrite => some 18
  | .placeRecord => some 32
  | .planLoad => none
  | .unknown _ => none

/-- The bytes of a PLAN-LOAD before its list, and of one piece description (section 2.3, log entry 5). -/
def planFixed : Nat := 4
/-- The bytes of one piece description (section 2.3, log entry 5). -/
def planEntry : Nat := 19

/-- A body of `n` bytes fits its kind (R169, step 2): the fixed length, or for PLAN-LOAD the fixed part and a whole number of
piece descriptions, 1 to 16 (section 2.3). -/
def bodyFits (k : Kind) (n : Nat) : Bool :=
  match k with
  | .planLoad => planFixed + planEntry ≤ n && n ≤ planFixed + 16 * planEntry && (n - planFixed) % planEntry = 0
  | _ => (fixedLength k) = some n

/-- The answer the link gives before the owning block is asked, if it gives one, to a request with a body of `n` bytes:
UNKNOWN and WRONG-PORT (R168), NOT-RUNNING, LOCKED, and BAD-FIELD naming field 0 for a body whose length does not fit (R169,
steps 1 and 2). -/
def linkAnswer (run : Bool) (p : Port) (k : Kind) (n : Nat) : Option Reply :=
  match k with
  | .unknown _ => some { result := .unknown }
  | _ =>
    if permitted k p = false then some { result := .wrongPort }
    else if run = false && admittedInConfig k = false then some { result := .notRunning }
    else if run && lockedInRun k then some { result := .locked }
    else if bodyFits k n = false then some { result := .badField, data := .field 0 }
    else none

/-! ## Counts (R173) -/

/-- The port's error count rises by 1, held at 65,535, for a frame that is discarded: the receiver hunts again. -/
def State.countError (s : State) (p : Port) : State :=
  s.setPort p { s.port p with begun := [], errors := holdAt Config.countMax (s.port p).errors }

/-- The port's overrun count rises by 1, held at 65,535, for a frame that is discarded: the receiver hunts again. -/
def State.countOverrun (s : State) (p : Port) : State :=
  s.setPort p { s.port p with begun := [], overruns := holdAt Config.countMax (s.port p).overruns }

/-- The port awaits a frame, with nothing in hand (section 10.2). A frame begun meanwhile stays begun (R167). -/
def State.toHunt (s : State) (p : Port) : State :=
  s.setPort p { s.port p with rx := .hunt, inHand := none, frames := 0, joined := [], reply := none }

/-- A request is in hand (R167). -/
def State.toHandling (s : State) (p : Port) (seq : Nat) (k : Kind) : State :=
  s.setPort p { s.port p with
    rx := .handling, inHand := some (seq, k), frames := 0, joined := [], begun := [], reply := none }

/-- The port's chain is discarded, and its error count rises by 1 (R166). -/
def State.dropChain (s : State) (p : Port) : State := (s.toHunt p).countError p

/-! ## The poll (R171) -/

/-- The configured bed polled after bed `last`: the next in ascending number, and after the highest the lowest again
(R171). -/
def State.nextBed (s : State) (last : Nat) : Option Nat :=
  let all := ((List.range (Config.beds + 1)).filter s.bedConfigured)
  match all.find? (fun b => last < b) with
  | some b => some b
  | none => all.head?

/-- The part sends the next configured bed's address and a poll frame with its panel flags, and opens the answer window
(R171). No poll is sent in CONFIG, in an open window, or before the last request on BL has been answered. That the flags it
carries hold their first minutes too, beside status and count (R181), is the model's choice (log entry 45). -/
def State.pollNext (s : State) : State :=
  if s.held || s.run = false || s.lnk.window || (s.lnk.bl.rx ≠ .hunt) then s else
    match s.nextBed ((s.lnk.poll.map Poll.bed).getD 0) with
    | some b => { s with lnk := { s.lnk with
        poll := some ⟨b, s.lnk.pollSeq, s.flags b⟩
        window := true
        pollSeq := (s.lnk.pollSeq + 1) % 256 } }
    | none => s

/-! ## The bed line's panel states (R172) -/

/-- An answer of bed `b`: the missed-poll count becomes 0; a LOST panel becomes PRESENT and the cause of PANEL-LOST
ends (R172). -/
def State.panelAnswered (s : State) (b : Nat) : State :=
  let t := s.setBed b { s.bed b with missed := 0, panelLost := false }
  if (s.bed b).panelLost then (t.unflagPanelLost b).endCause [.PL] .panelLost (.bed b) else t

/-- A missed answer of bed `b`: the missed-poll count rises by 1, held at 3; when it reaches 3 the panel becomes LOST and
PANEL-LOST is posted (R172). -/
def State.panelMissed (s : State) (b : Nat) : State :=
  let n := holdAt 3 (s.bed b).missed
  if n = 3 && (s.bed b).panelLost = false then
    ((s.setBed b { s.bed b with missed := n, panelLost := true }).raiseCause [.PL] .panelLost (.bed b)).flagPanelLost b
  else s.setBed b { s.bed b with missed := n }

/-- The answer window closes (R171). -/
def State.closeWindow (s : State) : State := { s with lnk := { s.lnk with window := false } }

/-- A window that closes with a missed answer, after which the next bed is polled at once (R171). Outside a window nothing
is received on BL. -/
def State.missAnswer (s : State) : State :=
  match s.lnk.window, s.lnk.poll with
  | true, some p => ((s.closeWindow).panelMissed p.bed).pollNext
  | _, _ => s

/-! ## Taking a request and replying (R165 to R171) -/

/-- A good frame with the high bit of its kind clear comes on port `h.port`: the state with the request in hand and the body
of its message, or the state that discards it. On PL, CW and CE it closes a chain of the same sequence and kind, and the
bodies of the chain are joined; another sequence or kind discards the chain first, and the frame is then a message by itself
(R166); while the port is HANDLING or REPLYING it is an overrun (R167). On BL it is taken in an open answer window alone,
where it is the panel's answer (R165, R171, R172). -/
def State.receive (s : State) (h : Header) (k : Kind) (body : List Nat) : State × Option (List Nat) :=
  match h.port with
  | .BL =>
    match s.lnk.window, s.lnk.poll with
    | true, some p => (((s.closeWindow).panelAnswered p.bed).toHandling .BL h.seq k, some body)
    | _, _ => (s, none)
  | p =>
    match (s.port p).rx with
    | .hunt => (s.toHandling p h.seq k, some body)
    | .chain =>
      if (s.port p).inHand = some (h.seq, k) then (s.toHandling p h.seq k, some ((s.port p).joined ++ body))
      else ((s.dropChain p).toHandling p h.seq k, some body)
    | .handling => (s.countOverrun p, none)
    | .replying => (s.countOverrun p, none)

/-- The address character of a bed: its number, with the ninth bit set (section 10.1). -/
def addressChar (b : Nat) : Chr := ⟨b, true⟩

/-- The address character sent before a poll frame (R171). -/
def Poll.address (q : Poll) : Chr := addressChar q.bed

/-- The address character sent before a reply on a port: on BL that of the bed whose panel was polled (R171), on PL, CW and CE
none. -/
def State.replyAddress (s : State) : Port → Option Chr
  | .BL => s.lnk.poll.map Poll.address
  | .PL => none
  | .CW => none
  | .CE => none

/-- The reply to the request in hand is composed and its sending begins, on BL with the bed's address character
(R167, R169, R171). -/
def State.sendReply (s : State) (p : Port) (r : Reply) : State :=
  s.setPort p { s.port p with rx := .replying, reply := some ⟨s.replyAddress p, r⟩ }

/-- The result of a request at its owning block: the records it leaves, and the reply. -/
abbrev Answer := State × Reply

/-- Answered DONE with data. -/
def Answer.done (s : State) (d : Data := .none) : Answer := (s, { result := .done, data := d })

/-- Refused: no record changes. -/
def Answer.refuse (s : State) (r : Result) (d : Data := .none) : Answer := (s, { result := r, data := d })

/-- Refused BAD-FIELD naming a field. -/
def Answer.badField (s : State) (n : Nat) : Answer := (s, { result := .badField, data := .field n })

/-- One request, whole: received, answered by the link or by its owning block, which reads the body (`owner`), and its reply
begun (R167 to R169). A request that comes while the part is held in reset is not received (R14). -/
def State.request (s : State) (h : Header) (k : Kind) (body : List Nat) (owner : List Nat → State → Answer) : State :=
  if s.held then s
  else
    match s.receive h k body with
    | (t, none) => t
    | (t, some message) =>
      match linkAnswer t.run h.port k message.length with
      | some r => t.sendReply h.port r
      | none => (owner message t).1.sendReply h.port (owner message t).2

/-- The condition set and cursor of the port a request arrived on (R168). BL has none and permits none of the kinds that
ask. -/
def portPoint : Port → Point
  | .PL => .PL
  | .CW => .CW
  | .CE => .CE
  | .BL => .PL

/-! ## Link events -/

/-- A frame found bad on port `p` (R165, R166, R167, R171). On BL it counts only in an open answer window, as a missed
answer. On the other ports it raises the error count by 1, and discards the chain it stands in (one rise in all, log
entry 8). -/
def State.badOn (s : State) (p : Port) : State :=
  match p with
  | .BL => if s.lnk.window && s.lnk.poll.isSome then (s.countError .BL).missAnswer else s
  | p => if (s.port p).rx = .chain then s.dropChain p else s.countError p

/-- A port's receiver listens: on BL in an open answer window alone (R165). -/
def State.hears (s : State) : Port → Bool
  | .BL => s.lnk.window && s.lnk.poll.isSome
  | _ => true

/-- The bytes of the frame begun on a port. -/
def State.setBegun (s : State) (p : Port) (bytes : List Nat) : State :=
  s.setPort p { s.port p with begun := bytes }

/-- One character taken by a port's receiver, and whether it goes on with the characters after it (R165). While it hunts it
discards every byte but A5h. A bad frame is counted and the hunt goes on; on BL it closes the window. A good frame that ends
while its port is HANDLING or REPLYING is an overrun (R167); one that ends on an awaiting port is a row of its own, and
nothing after it belongs to this event (log entry 4). -/
def State.takeChar (p : Port) (s : State) (c : Chr) : State × Bool :=
  if s.hears p = false then (s, true)
  else if (s.port p).begun = [] && c.byte ≠ 0xA5 then (s, true)
  else
    let bytes := (s.port p).begun ++ [c.byte]
    match frameFinding p c.ninth bytes with
    | .going => (s.setBegun p bytes, true)
    | .bad => (s.badOn p, p ≠ .BL)
    | .good =>
      if (s.port p).rx = .handling || (s.port p).rx = .replying then (s.countOverrun p, true)
      else (s.setBegun p [], false)

/-- A run of characters taken by a port's receiver, in order (R165). -/
def State.feed (p : Port) : List Chr → State → State
  | [], s => s
  | c :: rest, s => if (s.takeChar p c).2 then State.feed p rest (s.takeChar p c).1 else (s.takeChar p c).1

/-- BAD_FRAME (R165, R167): characters that hold a bad frame, taken one by one: those before its A5h are discarded, it is
found bad where R165 says, and the receiver hunts again from the next character. -/
def execBadFrame (p : Port) (chars : List Chr) (s : State) : Outcome :=
  .next (if s.held then s else State.feed p chars s)

/-- BYTE_GAP_TIMEOUT (R165): characters, and then a pause of more than 5 ms. A frame begun and not ended is bad at the pause;
with none begun the pause is no fault. -/
def execByteGapTimeout (p : Port) (chars : List Chr) (s : State) : Outcome :=
  .next (if s.held then s
    else if ((State.feed p chars s).port p).begun = [] then State.feed p chars s
    else (State.feed p chars s).badOn p)

/-- A good frame with the high bit of its kind set on PL, CW or CE (R166, R167): it opens a chain or continues it, and its
body is joined to those before it; a fourth such frame, or another sequence or kind, discards the chain. -/
def State.chainOn (s : State) (p : Port) (seq : Nat) (k : Kind) (body : List Nat) : State :=
  let opened := fun (t : State) =>
    t.setPort p { t.port p with
      rx := .chain, inHand := some (seq, k), frames := 1, joined := body, begun := [], reply := none }
  match (s.port p).rx with
  | .hunt => opened s
  | .chain =>
    if (s.port p).inHand = some (seq, k) then
      if 3 ≤ (s.port p).frames then s.dropChain p
      else s.setPort p { s.port p with
        frames := (s.port p).frames + 1, joined := (s.port p).joined ++ body, begun := [] }
    else opened (s.dropChain p)
  | .handling => s.countOverrun p
  | .replying => s.countOverrun p

/-- CHAIN_FRAME (R166). On BL a kind byte with its high bit set makes the frame bad (R165). -/
def execChainFrame (h : Header) (k : Kind) (body : List Nat) (s : State) : Outcome :=
  .next (if s.held then s else
    match h.port with
    | .BL => s.badOn .BL
    | p => s.chainOn p h.seq k body)

/-- CHAIN_GAP_TIMEOUT (R166): more than 5 ms between the end of a chain's frame and the first byte of the next. -/
def execChainGapTimeout (p : Port) (s : State) : Outcome :=
  .next (if s.held = false && (s.port p).rx = .chain && (s.port p).begun = [] then s.dropChain p else s)

/-- OVERRUN_FRAME (R167): a frame whose last byte arrives while its port is HANDLING or REPLYING is discarded and counted, a
good one as an overrun, a bad one as an error. None reaches BL while a request is in hand (R173). -/
def execOverrunFrame (p : Port) (good : Bool) (s : State) : Outcome :=
  .next (if s.held || p = .BL then s else
    match (s.port p).rx with
    | .handling => if good then s.countOverrun p else s.countError p
    | .replying => if good then s.countOverrun p else s.countError p
    | .hunt => s
    | .chain => s)

/-- Every port awaits a frame, and no answer window is open: requests and replies in progress are lost (R14). -/
def State.cutLinks (s : State) : State :=
  { s with lnk := { s.lnk with
      pl := { s.lnk.pl with rx := .hunt, inHand := none, frames := 0, joined := [], begun := [], reply := none }
      cw := { s.lnk.cw with rx := .hunt, inHand := none, frames := 0, joined := [], begun := [], reply := none }
      ce := { s.lnk.ce with rx := .hunt, inHand := none, frames := 0, joined := [], begun := [], reply := none }
      bl := { s.lnk.bl with rx := .hunt, inHand := none, frames := 0, joined := [], begun := [], reply := none }
      window := false } }

/-- Every attention line deasserted (R14). -/
def State.dropLines (s : State) : State :=
  { s with cnd := { s.cnd with
      pl := { s.cnd.pl with line := .low }
      cw := { s.cnd.cw with line := .low }
      ce := { s.cnd.ce with line := .low } } }

/-- The reset that begins now is a cold one as things stand: the mode is CONFIG, or the retention supply is absent (R12,
R13). -/
def State.coldNow (s : State) : Bool := s.run = false || s.rst.retention = false

/-- The part is held in reset from now on, by `h` (R13, R14): in a warm reset every valve line at the closed level of its
zone's sense, and in a cold one every line low; attention lines deasserted, the bed-line driver disabled, replies cut off and
requests in hand lost. The records themselves stand until the reset ends (log entry 10). -/
def State.enterHold (s : State) (h : Hold) : State :=
  let t := (if s.coldNow then s.lowValves else s.closeValves).dropLines.cutLinks
  { t with rst := { t.rst with hold := h, supplyLost := !t.rst.retention, restartOwed := false, driverDisabled := true } }

/-- REPLY_SENT (R167): the last byte of a reply has been sent, and the port awaits a frame. On BL the next bed is then polled
(R171). The end of a RESTART's reply begins its warm reset (R13). -/
def execReplySent (p : Port) (s : State) : Outcome :=
  .next (if s.held = false && (s.port p).rx = .replying then
      match p with
      | .PL => if s.rst.restartOwed then s.enterHold .restart else s.toHunt .PL
      | .BL => (s.toHunt .BL).pollNext
      | q => s.toHunt q
    else s)

/-- BED_POLL (R171): the first poll after the mode became RUN or a warm reset ended; every other poll is sent within the
step that ends the one before it (log entry 27). -/
def execBedPoll (s : State) : Outcome := .next s.pollNext

/-- MISSED_ANSWER (R172): no A5h within 20 ms closes the window with a missed answer. -/
def execMissedAnswer (s : State) : Outcome :=
  .next (if s.held || s.lnk.bl.begun ≠ [] then s else s.missAnswer)

/-- UNKNOWN_KIND (R168): a good request whose code is no kind of the part is answered UNKNOWN. -/
def execUnknownKind (h : Header) (code : Nat) (body : List Nat) (s : State) : Outcome :=
  .next (s.request h (.unknown code) body (fun _ t => Answer.refuse t .unknown))

end Sys2Proof.Machine
end

