-- ==== Sys2Proof/Machine/Operands.lean ====
section
/-! DEFINITION. Operands.lean: the operand forms of the requests: which bytes of a body are which field (section 10.1, R170),
and beside each the body a master writes. Section 10.6 gives the bodies of CRANE-REPORT, MOVE-SUBMIT and PIECE-QUERY; the others
hold the fields in the order their rules list them, each in the bytes its range needs (log entry 5). -/

namespace Sys2Proof.Machine

/-! ## Fields -/

/-- A field of two bytes, high byte first (section 10.1). -/
def word2 (a b : Nat) : Nat := a * 256 + b

/-- A field of four bytes, high byte first (section 10.1). -/
def word4 (a b c d : Nat) : Nat := ((a * 256 + b) * 256 + c) * 256 + d

/-- A field of two bytes that holds a signed value in two's complement (section 10.1). -/
def signed2 (a b : Nat) : Int := if word2 a b < 32768 then (word2 a b : Int) else (word2 a b : Int) - 65536

/-- An optional field of one byte: FFh is absent (R170). -/
def optByte (a : Nat) : Option Nat := if a = 255 then none else some a

/-- An optional range of two bytes, its low and its high segment: FFFFh is absent (R170). -/
def optRange (a b : Nat) : Option Range := if a = 255 && b = 255 then none else some ⟨a, b⟩

/-- An optional field of four bytes behind a presence byte, 01h present and 00h absent (R170). -/
def optWord4 (presence n : Nat) : Option Nat := if presence = 1 then some n else none

/-- A presence byte is 00h or 01h. -/
def presenceOk (presence : Nat) : Bool := presence ≤ 1

/-- A mark from its length byte and its twelve places (section 10.6). A length outside 1 to 12 leaves no mark, which is out
of range (section 2.3). -/
def markOf (length : Nat) (places : List Nat) : List Nat := if length ≤ 12 then places.take length else []

/-! ## Codes (log entry 5) -/

/-- The area a code names. -/
def areaOf : Nat → Option Area
  | 0 => some .hall
  | 1 => some .yard
  | _ => none

/-- The valve sense a code names. -/
def senseOf : Nat → Option Sense
  | 0 => some .openHigh
  | 1 => some .openLow
  | _ => none

/-- The yes or no a code names, as in MOVE-SUBMIT (section 10.6). -/
def yesOf : Nat → Option Bool
  | 0 => some false
  | 1 => some true
  | _ => none

/-- The crane a code names, as in MOVE-SUBMIT (section 10.6). -/
def craneCoded : Nat → Option Crane
  | 0 => some .W
  | 1 => some .E
  | _ => none

/-- The point-to-point port a code names, in the order of R168. -/
def pointOf : Nat → Option Point
  | 0 => some .PL
  | 1 => some .CW
  | 2 => some .CE
  | _ => none

/-- The condition kind a code names, in the order of R175. -/
def condKindOf : Nat → Option CondKind
  | 0 => some .restarted
  | 1 => some .moveDone
  | 2 => some .moveFailed
  | 3 => some .moveCancelled
  | 4 => some .eventMismatch
  | 5 => some .heatTrimmed
  | 6 => some .bedReady
  | 7 => some .permitExpired
  | 8 => some .laneActive
  | 9 => some .breach
  | 10 => some .craneStale
  | 11 => some .hookMismatch
  | 12 => some .deadlock
  | 13 => some .probeLost
  | 14 => some .converterFault
  | 15 => some .panelLost
  | _ => none

/-- The code of a condition kind, in the order of R175. -/
def condKindCode : CondKind → Nat
  | .restarted => 0
  | .moveDone => 1
  | .moveFailed => 2
  | .moveCancelled => 3
  | .eventMismatch => 4
  | .heatTrimmed => 5
  | .bedReady => 6
  | .permitExpired => 7
  | .laneActive => 8
  | .breach => 9
  | .craneStale => 10
  | .hookMismatch => 11
  | .deadlock => 12
  | .probeLost => 13
  | .converterFault => 14
  | .panelLost => 15

/-- The report mode a code names, in the order of R177. -/
def modeCoded : Nat → Option ReportMode
  | 0 => some .none
  | 1 => some .raise
  | 2 => some .clear
  | 3 => some .both
  | _ => none

/-- The subject that a COND-ACK names by a presence byte and a value, by the sort that R175 gives its kind: a value of 1 on a
kind with no subject, and a crane that is neither W nor E, name the subject of no record. -/
def subjectOf (k : CondKind) (presence n : Nat) : Option Subject :=
  if presence = 0 then some .none
  else
    match k with
    | .moveDone | .moveFailed | .moveCancelled | .deadlock => some (.serial n)
    | .eventMismatch | .laneActive | .breach | .craneStale | .hookMismatch => (craneCoded n).map Subject.crane
    | .bedReady | .permitExpired | .panelLost => some (.bed n)
    | .probeLost => some (.channel n)
    | .restarted | .heatTrimmed | .converterFault => none

/-! ## Bodies of a fixed length

A block is handed a body only after its length was found to fit (R169, step 2), so the last line of each is never reached from
the link; it changes nothing. -/

/-- A body of one byte. -/
def fields1 (f : Nat → State → Answer) : List Nat → State → Answer
  | [a], s => f a s
  | _, s => Answer.badField s 0

/-- A body of two bytes. -/
def fields2 (f : Nat → Nat → State → Answer) : List Nat → State → Answer
  | [a, b], s => f a b s
  | _, s => Answer.badField s 0

/-- A body of three bytes. -/
def fields3 (f : Nat → Nat → Nat → State → Answer) : List Nat → State → Answer
  | [a, b, c], s => f a b c s
  | _, s => Answer.badField s 0

/-- A body of four bytes that are four fields. -/
def fields4 (f : Nat → Nat → Nat → Nat → State → Answer) : List Nat → State → Answer
  | [a, b, c, d], s => f a b c d s
  | _, s => Answer.badField s 0

/-- A body that is one field of four bytes. -/
def fieldWord4 (f : Nat → State → Answer) : List Nat → State → Answer :=
  fields4 (fun a b c d => f (word4 a b c d))

/-- The body of a kind with no fields: one byte, 00h; another value is a field out of range, field 1 (section 10.1,
R170). -/
def noFields (f : State → Answer) : List Nat → State → Answer :=
  fields1 (fun filler s => if filler = 0 then f s else Answer.badField s 1)

/-- A body that is a crane (R147, R149, R138). -/
def fieldCrane (f : Crane → State → Answer) : List Nat → State → Answer :=
  fields1 (fun c s =>
    match craneCoded c with
    | some x => f x s
    | none => Answer.badField s 1)

/-! ## Longer bodies -/

/-- The yard constants of a LAYOUT-YARD: gap, datum, cap, window, presence timeouts W and E (R1). -/
def yardBody (f : Yard → State → Answer) : List Nat → State → Answer
  | [gap, d1, d0, c1, c0, window, pw, pe], s => f ⟨gap, signed2 d1 d0, signed2 c1 c0, window, pw, pe⟩ s
  | _, s => Answer.badField s 0

/-- The number and the profile of a PROFILE-WRITE, its fields in the order of R67. -/
def profileBody (f : Nat → Profile → State → Answer) : List Nat → State → Answer
  | [n, f1, f0, d1, d0, ramp, h1, h0, bias, gain, e1, e0, m1, m0, cool, r1, r0, fallback], s =>
    f n
      { frostFloor := signed2 f1 f0, delay := word2 d1 d0, rampRate := ramp, holdTemp := signed2 h1 h0, holdBias := bias,
        gain := gain, holdExit := word2 e1 e0, maxHold := word2 m1 m0, coolRate := cool, releaseDelta := signed2 r1 r0,
        fallback := fallback } s
  | _, s => Answer.badField s 0

/-- A list in runs of `k` bytes, at most `fuel` of them. -/
def runs (k : Nat) : Nat → List Nat → List (List Nat)
  | 0, _ => []
  | fuel + 1, l => if l.isEmpty then [] else l.take k :: runs k fuel (l.drop k)

/-- A piece description of a PLAN-LOAD: mark (length and twelve places), bed segment, weight class, release target, ship target
(section 2.3). -/
def pieceOf (entry : List Nat) : PieceSpec :=
  match entry with
  | length :: rest =>
    match rest.drop 12 with
    | [segment, weight, r1, r0, s1, s0] => ⟨markOf length (rest.take 12), segment, weight, word2 r1 r0, word2 s1 s0⟩
    | _ => ⟨[], 0, 0, 0, 0⟩
  | [] => ⟨[], 0, 0, 0, 0⟩

/-- The bed, the pour id, the profile and the pieces of a PLAN-LOAD (section 2.3). -/
def planBody (f : Nat → Nat → Nat → List PieceSpec → State → Answer) : List Nat → State → Answer
  | bed :: p1 :: p0 :: profile :: entries, s =>
    f bed (word2 p1 p0) profile ((runs planEntry entries.length entries).map pieceOf) s
  | _, s => Answer.badField s 0

/-- The nine fields of a MOVE-SUBMIT (section 10.6). -/
def moveBody (f : MoveFields → State → Answer) : List Nat → State → Answer
  | [crane, kind, style, suspendable, piece, sourceType, sourceNum, destType, destNum], s =>
    f ⟨crane, kind, style, suspendable, piece, sourceType, sourceNum, destType, destNum⟩ s
  | _, s => Answer.badField s 0

/-- The cell, the description, the accumulator and the cast minute of a PLACE-RECORD, the cast minute behind its presence byte
(R115, R170). A presence byte that is neither 00h nor 01h makes the cast minute's field one out of range. -/
def placeBody (f : Nat → Desc → Nat → Bool → Option Nat → State → Answer) : List Nat → State → Answer
  | cell :: length :: rest, s =>
    match rest.drop 12 with
    | [p1, p0, origin, segment, weight, r1, r0, s1, s0, a3, a2, a1, a0, presence, m3, m2, m1, m0] =>
      f cell ⟨markOf length (rest.take 12), word2 p1 p0, origin, segment, weight, word2 r1 r0, word2 s1 s0⟩
        (word4 a3 a2 a1 a0) (presenceOk presence) (optWord4 presence (word4 m3 m2 m1 m0)) s
    | _ => Answer.badField s 0
  | _, s => Answer.badField s 0

/-- The kind code, the presence byte and the subject's value of a COND-ACK (R179, R170). -/
def ackBody (f : Nat → Nat → Nat → State → Answer) : List Nat → State → Answer
  | [kind, presence, a, b, c, d], s => f kind presence (word4 a b c d) s
  | _, s => Answer.badField s 0

/-- The six fields of a LAYOUT-ZONE: zone, bed, range, valve sense, initial follow (R1). -/
def zoneBody (f : Nat → Option Nat → Option Range → Option Sense → Option Nat → State → Answer) :
    List Nat → State → Answer
  | [zone, bed, lo, hi, sense, follow], s => f zone (optByte bed) (optRange lo hi) (senseOf sense) (optByte follow) s
  | _, s => Answer.badField s 0

/-! ## The bodies a master writes

Each is the body that the form above it reads as these fields; statements are made with them. -/

/-- Two bytes, high byte first. -/
def two (n : Nat) : List Nat := [n / 256, n % 256]

/-- Four bytes, high byte first. -/
def four (n : Nat) : List Nat := [n / 16777216, n / 65536 % 256, n / 256 % 256, n % 256]

/-- A signed value in two bytes of two's complement. -/
def twoSigned (t : Int) : List Nat := two (t % 65536).toNat

/-- An optional byte, FFh where it is absent. -/
def byteOr (n : Option Nat) : List Nat := [n.getD 255]

/-- An optional range, FFFFh where it is absent. -/
def rangeOr (r : Option Range) : List Nat := [(r.map Range.lo).getD 255, (r.map Range.hi).getD 255]

/-- A mark: its length, and twelve places, the unused ones 20h. -/
def markWritten (m : List Nat) : List Nat := m.length :: (m ++ List.replicate (12 - m.length) 0x20)

/-- An optional value of four bytes behind its presence byte. -/
def fourOr (n : Option Nat) : List Nat := (if n.isSome then 1 else 0) :: four (n.getD 0)

/-- The code of an area. -/
def areaCode : Area → Nat
  | .hall => 0
  | .yard => 1

/-- The code of a valve sense. -/
def senseCode : Sense → Nat
  | .openHigh => 0
  | .openLow => 1

/-- The code of a crane. -/
def craneCode : Crane → Nat
  | .W => 0
  | .E => 1

/-- The code of a point-to-point port. -/
def pointCode : Point → Nat
  | .PL => 0
  | .CW => 1
  | .CE => 2

/-- The code of a report mode. -/
def modeCode : ReportMode → Nat
  | .none => 0
  | .raise => 1
  | .clear => 2
  | .both => 3

/-- The body of a LAYOUT-BED. -/
def bedWritten (b : Nat) (configured : Bool) (r : Option Range) : List Nat :=
  [b, if configured then 1 else 0] ++ rangeOr r

/-- The body of a LAYOUT-ZONE. -/
def zoneWritten (z : Nat) (b : Option Nat) (r : Option Range) (v : Sense) (follow : Option Nat) : List Nat :=
  [z] ++ byteOr b ++ rangeOr r ++ [senseCode v] ++ byteOr follow

/-- The body of a LAYOUT-YARD. -/
def yardWritten (y : Yard) : List Nat :=
  [y.gap] ++ twoSigned y.datum ++ twoSigned y.cap ++ [y.window, y.presenceW, y.presenceE]

/-- The body of a PROFILE-WRITE. -/
def profileWritten (n : Nat) (p : Profile) : List Nat :=
  [n] ++ twoSigned p.frostFloor ++ two p.delay ++ [p.rampRate.toNat] ++ twoSigned p.holdTemp
    ++ [p.holdBias.toNat, p.gain.toNat] ++ two p.holdExit ++ two p.maxHold ++ [p.coolRate.toNat]
    ++ twoSigned p.releaseDelta ++ [p.fallback]

/-- A piece description as a PLAN-LOAD carries it. -/
def pieceWritten (p : PieceSpec) : List Nat :=
  markWritten p.mark ++ [p.segment, p.weight] ++ two p.release ++ two p.ship

/-- The body of a PLAN-LOAD. -/
def planWritten (b pour profile : Nat) (pieces : List PieceSpec) : List Nat :=
  [b] ++ two pour ++ [profile] ++ pieces.flatMap pieceWritten

/-- The body of a MOVE-SUBMIT (section 10.6). -/
def moveWritten (f : MoveFields) : List Nat :=
  [f.crane, f.kind, f.style, f.suspendable, f.piece, f.sourceType, f.sourceNum, f.destType, f.destNum]

/-- The body of a PLACE-RECORD. -/
def placeWritten (c : Nat) (d : Desc) (acc : Nat) (castMinute : Option Nat) : List Nat :=
  [c] ++ markWritten d.mark ++ two d.pour ++ [d.origin, d.segment, d.weight] ++ two d.release ++ two d.ship ++ four acc
    ++ fourOr castMinute

/-- The value by which a COND-ACK names a subject. -/
def subjectValue : Subject → Option Nat
  | .none => none
  | .serial n => some n
  | .crane x => some (craneCode x)
  | .bed b => some b
  | .channel c => some c

/-- The body of a COND-ACK. -/
def ackWritten (k : CondKind) (subj : Subject) : List Nat := [condKindCode k] ++ fourOr (subjectValue subj)

end Sys2Proof.Machine
end

