-- ==== Sys2Proof/Machine/Maturity.lean ====
section
/-! DEFINITION. Maturity.lean: the maturity unit (chapter 4): the source of a piece, its contribution, and the update of
the whole piece table. -/

namespace Sys2Proof.Machine

/-- The source channel of a piece by its location as it stands (R54, R55, R56). A record that is not live has none. -/
def State.sourceOf (s : State) (p : Piece) : Option Nat :=
  match p.state, p.location with
  | .cast, some (.bed b seg) =>
    some (((List.range Config.zones).find? (fun z =>
      (s.zoneLayout z).bed = some b && ((s.zoneLayout z).range.map (fun r => r.has seg)).getD false)).getD Config.hallChannel)
  | .hook, some (.crane x) =>
    match (s.crane x).position with
    | some n => some (if (s.segment n).area = .hall then Config.hallChannel else Config.yardChannel)
    | none => some Config.yardChannel
  | .stock, _ => some Config.yardChannel
  | _, _ => none

/-- The contribution of a usable temperature (R58): clamped into the band from the datum to the cap, less the datum. -/
def contribution (datum cap t : Int) : Nat := (clampInt datum cap t - datum).toNat

/-- A piece after one maturity update from the published entry of its source (R57, R58, R59). -/
def Piece.credited (datum cap : Int) (temp : Option Int) (p : Piece) : Piece :=
  match temp with
  | some t => { p with accumulator := min Config.accumulatorMax (p.accumulator + contribution datum cap t) }
  | none => { p with suspect := holdAt Config.suspectMax p.suspect }

/-- A piece after one maturity update (R53): a live piece receives exactly one contribution. -/
def State.updatedPiece (s : State) (p : Piece) : Piece :=
  match s.sourceOf p with
  | some c => if p.live then p.credited s.lyt.yard.datum s.lyt.yard.cap (s.usable c) else p
  | none => p

/-- The maturity update of the whole piece table (R53). -/
def State.maturityUpdate (s : State) : State :=
  { s with pct := Tab.mapAll {} Config.slots (fun _ p => s.updatedPiece p) s.pct }

end Sys2Proof.Machine
end

