-- ==== Sys2Proof/Machine/Beds.lean ====
section
/-! DEFINITION. Beds.lean: the bed table (chapter 2): pour plans, panel events, the evaluation of a bed, the release
permit. -/

namespace Sys2Proof.Machine

/-! ## Evaluation (R26, R27) -/

/-- Every piece of the bed's piece list is release-ok (R26). -/
def State.piecesReady (s : State) (b : Nat) : Bool := (s.bed b).pieces.all (fun n => (s.piece n).releaseOk)

/-- Every zone of the bed stands in COOL or DONE. -/
def State.zonesCooling (s : State) (b : Nat) : Bool :=
  (s.bedZones b).all (fun z => (s.zone z).stage = .cool || (s.zone z).stage = .done)

/-- Every zone of the bed stands in DONE. -/
def State.zonesDone (s : State) (b : Nat) : Bool := (s.bedZones b).all (fun z => (s.zone z).stage = .done)

/-- A bed enters READY from CURING or COOLING: BED-READY to PL and to its flags (R27). -/
def State.becomeReady (s : State) (b : Nat) : State :=
  ((s.setBed b { s.bed b with state := .ready }).postEvent .PL .bedReady (.bed b)).flagReady b

/-- The third row of R26: COOLING with zones, every zone DONE and every piece release-ok. -/
def State.evaluateCooling (s : State) (b : Nat) : State :=
  if s.zonesDone b && s.piecesReady b then s.becomeReady b else s

/-- One evaluation of a bed (R26), rows in order. -/
def State.evaluateBed (s : State) (b : Nat) : State :=
  match (s.bed b).state with
  | .curing =>
    if (s.bedZones b).isEmpty then
      if s.piecesReady b then s.becomeReady b else s
    else if s.zonesCooling b then
      (s.setBed b { s.bed b with state := .cooling }).evaluateCooling b
    else s
  | .cooling => if (s.bedZones b).isEmpty then s else s.evaluateCooling b
  | _ => s

/-- Every bed evaluated, in ascending number (order: log entry 17). -/
def State.evaluateBeds (s : State) : State :=
  (List.range (Config.beds + 1)).foldl State.evaluateBed s

/-! ## Permits at a minute tick (R29) -/

/-- The permit of a bed expires when its deadline equals the minute count (R29). -/
def State.expirePermit (s : State) (b : Nat) : State :=
  if (s.bed b).state = .permitted && (s.bed b).deadline = some s.clk.minute then
    ((s.setBed b { s.bed b with state := .ready, deadline := none }).postEvent .PL .permitExpired (.bed b)).flagExpired b
  else s

/-- The bed table's part of a minute tick, beds in ascending number (order: log entry 3). -/
def State.expirePermits (s : State) : State :=
  (List.range (Config.beds + 1)).foldl State.expirePermit s

/-! ## Plans (R18 to R20) -/

/-- A mark: 1 to 12 characters with codes 32 to 126, the first not a space (section 2.3). -/
def markOk (m : List Nat) : Bool :=
  1 ≤ m.length && m.length ≤ 12 && m.all (fun c => 32 ≤ c && c ≤ 126) && m.head? ≠ some 32

/-- The fields of a piece description in order, on a bed of this range (R18). -/
def pieceSpecChecks (r : Option Range) (p : PieceSpec) : List Bool :=
  [ markOk p.mark,
    p.segment < Config.segments && (r.map (fun r => r.has p.segment)).getD false,
    1 ≤ p.weight && p.weight ≤ 7,
    p.release ≤ Config.targetMax,
    p.ship ≤ Config.targetMax ]

/-- The first piece description with a field out of range: the field, and the piece's position from `at_`. -/
def firstBadPiece (r : Option Range) : Nat → List PieceSpec → Option (Nat × Nat)
  | _, [] => none
  | at_, p :: rest =>
    match firstBad (pieceSpecChecks r p) with
    | some n => some (n, at_)
    | none => firstBadPiece r (at_ + 1) rest

/-- The third check of R18: pour id, profile id, piece count, then the pieces. -/
def planFieldRefusal (r : Option Range) (pour profile : Nat) (pieces : List PieceSpec) : Option Data :=
  match firstBad [true, 1 ≤ pour && pour ≤ 65535, profile < Config.profiles, 1 ≤ pieces.length && pieces.length ≤ 16] with
  | some n => some (.field n)
  | none => (firstBadPiece r 1 pieces).map (fun e => .entryField e.1 e.2)

/-- The slots of the bed's present plan. -/
def Bed.planSlots (b : Bed) : List Nat := (b.plan.map Plan.slots).getD []

/-- One record taken for a piece description: the lowest FREE slot becomes PLANNED (R19). -/
def State.takePlanned (s : State) (b pour : Nat) (p : PieceSpec) : State × Option Nat :=
  match s.lowestFree with
  | some n =>
    (s.setPiece n
      { state := .planned,
        desc := some { mark := p.mark, pour := pour, origin := b, segment := p.segment, weight := p.weight,
                       release := p.release, ship := p.ship } }, some n)
  | none => (s, none)

/-- Records taken for a list of piece descriptions, in list order: the state and the slots taken. -/
def State.takeAll (b pour : Nat) : List PieceSpec → State → State × List Nat
  | [], s => (s, [])
  | p :: rest, s =>
    let one := s.takePlanned b pour p
    let more := State.takeAll b pour rest one.1
    (more.1, one.2.toList ++ more.2)

/-- PLAN-LOAD at the bed table (R18, R19). -/
def State.loadPlan (s : State) (b pour profile : Nat) (pieces : List PieceSpec) : Answer :=
  let bed := s.bed b
  if s.bedConfigured b = false then Answer.badField s 1
  else if bed.state ≠ .empty && bed.state ≠ .setup then Answer.refuse s .state (.bedState bed.state)
  else
    match planFieldRefusal (s.bedLayout b).range pour profile pieces with
    | some d => Answer.refuse s .badField d
    | none =>
      if s.freeCount + bed.planSlots.length < pieces.length then Answer.refuse s .full
      else
        let t := State.takeAll b pour pieces (s.freePieces bed.planSlots)
        Answer.done (t.1.setBed b { bed with plan := some ⟨pour, profile, t.2⟩, pieces := t.2 }) (.slots t.2)

/-- PLAN_LOAD (R18, R19). A list outside 1 to 16 pieces does not fit the kind's length (R169, step 2). -/
def execPlanLoad (h : Header) (body : List Nat) (s : State) : Outcome :=
  .next (s.request h .planLoad body (planBody fun b pour profile pieces t => t.loadPlan b pour profile pieces))

/-- PLAN-CLEAR at the bed table (R20). -/
def State.clearPlan (s : State) (b : Nat) : Answer :=
  let bed := s.bed b
  if s.bedConfigured b = false then Answer.badField s 1
  else if bed.state ≠ .empty && bed.state ≠ .setup then Answer.refuse s .state (.bedState bed.state)
  else
    match bed.plan with
    | none => Answer.refuse s .notFound
    | some p => Answer.done ((s.freePieces p.slots).setBed b { bed with plan := none, pieces := [] })

/-- PLAN_CLEAR (R20). -/
def execPlanClear (h : Header) (body : List Nat) (s : State) : Outcome :=
  .next (s.request h .planClear body (fields1 fun b t => t.clearPlan b))

/-! ## Panel events (R21 to R32) -/

/-- A panel event at the bed whose panel was polled, refused STATE with the bed's state unless it stands in `at_`
(R21). -/
def panelEvent (at_ : BedState) (f : Nat → State → Answer) : List Nat → State → Answer :=
  noFields (fun s =>
    let b := (s.lnk.poll.map Poll.bed).getD 0
    if (s.bed b).state = at_ then f b s else Answer.refuse s .state (.bedState (s.bed b).state))

/-- SETUP_DONE (R22). -/
def execSetupDone (h : Header) (body : List Nat) (s : State) : Outcome :=
  .next (s.request h .setupDone body (panelEvent .empty (fun b t =>
    Answer.done (t.setBed b { t.bed b with state := .setup }))))

/-- A piece of a plan goes from PLANNED to CAST at a minute, located in its bed (R23). -/
def State.castPiece (b minute : Nat) (s : State) (n : Nat) : State :=
  s.setPiece n { s.piece n with
    state := .cast, accumulator := 0, suspect := 0, castMinute := some minute,
    location := some (.bed b (s.piece n).segment) }

/-- CAST-START at the bed table (R23). -/
def State.castStart (b : Nat) (s : State) : Answer :=
  match (s.bed b).plan with
  | none => Answer.refuse s .notFound
  | some p =>
    let t := p.slots.foldl (State.castPiece b s.clk.minute) s
    Answer.done (t.setBed b { t.bed b with state := .casting, castMinute := some s.clk.minute })

/-- CAST_START (R23). -/
def execCastStart (h : Header) (body : List Nat) (s : State) : Outcome :=
  .next (s.request h .castStart body (panelEvent .setup State.castStart))

/-- A zone start carrying a profile id (R70). -/
def State.startZone (profile : Option Nat) (s : State) (z : Nat) : State :=
  s.setZone z { s.zone z with stage := .startPending, profile := profile, setpoint := none, timer := 0, advance := false }

/-- A zone return (R70). -/
def State.returnZone (s : State) (z : Nat) : State :=
  s.setZone z { s.zone z with stage := .idle, profile := none, setpoint := none, timer := 0, advance := false }

/-- CAST_END (R24). -/
def execCastEnd (h : Header) (body : List Nat) (s : State) : Outcome :=
  .next (s.request h .castEnd body (panelEvent .casting (fun b t =>
    Answer.done ((t.bedZones b).foldl (State.startZone ((t.bed b).plan.map Plan.profile))
      (t.setBed b { t.bed b with state := .curing })))))

/-- POUR_ABORT (R25). -/
def execPourAbort (h : Header) (body : List Nat) (s : State) : Outcome :=
  .next (s.request h .pourAbort body (panelEvent .casting (fun b t =>
    Answer.done ((t.freePieces (t.bed b).planSlots).setBed b
      { t.bed b with state := .setup, plan := none, castMinute := none, pieces := [] }))))

/-- Check 2 of R28 for one zone: its channel is usable, and at most the release delta above the hall. -/
def State.zoneCool (s : State) (hall delta : Int) (z : Nat) : Bool :=
  match s.usable z with
  | some t => t - hall ≤ delta
  | none => false

/-- The release check (R28): the first reason that fails it. -/
def State.releaseRefusal (s : State) (b : Nat) : Option ReleaseFail :=
  match s.usable Config.hallChannel with
  | none => some .ambient
  | some hall =>
    let delta := (s.profile (((s.bed b).plan.map Plan.profile).getD 0)).releaseDelta
    match (s.bedZones b).find? (fun z => s.zoneCool hall delta z = false) with
    | some z => some (.warm z)
    | none =>
      match (s.bed b).pieces.find? (fun n => (s.piece n).releaseOk = false) with
      | some n => some (.strength n)
      | none => none

/-- RELEASE-REQUEST at the bed table (R28, R29). -/
def State.requestRelease (b : Nat) (s : State) : Answer :=
  match s.releaseRefusal b with
  | some r => Answer.refuse s .state (.release r)
  | none =>
    let deadline := addMinutes s.clk.minute s.lyt.yard.window
    Answer.done (s.setBed b { s.bed b with state := .permitted, deadline := some deadline }) (.deadline deadline)

/-- RELEASE_REQUEST (R28, R29). -/
def execReleaseRequest (h : Header) (body : List Nat) (s : State) : Outcome :=
  .next (s.request h .releaseRequest body (panelEvent .ready State.requestRelease))

/-- STRANDS_CUT (R30). -/
def execStrandsCut (h : Header) (body : List Nat) (s : State) : Outcome :=
  .next (s.request h .strandsCut body (panelEvent .permitted (fun b t =>
    Answer.done (t.setBed b { t.bed b with state := .released, deadline := none }))))

/-- BED-CLEAR at the bed table (R32). -/
def State.clearBed (b : Nat) (s : State) : Answer :=
  if (s.bed b).pieces.isEmpty then
    Answer.done ((s.bedZones b).foldl State.returnZone
      (s.setBed b { s.bed b with state := .empty, plan := none, castMinute := none }))
  else Answer.refuse s .inUse (.count (s.bed b).pieces.length)

/-- BED_CLEAR (R32). -/
def execBedClear (h : Header) (body : List Nat) (s : State) : Outcome :=
  .next (s.request h .bedClear body (panelEvent .stripping State.clearBed))

/-- FLAGS_ACK (R181): every NOTICE or CLEARED entry of the bed's flags is removed; ACTIVE names the kinds that stay. -/
def execFlagsAck (h : Header) (body : List Nat) (s : State) : Outcome :=
  .next (s.request h .flagsAck body (noFields (fun t =>
    let b := (t.lnk.poll.map Poll.bed).getD 0
    let f := (t.flags b).acked
    if f.kinds.isEmpty then Answer.done (t.setFlags b f) else (t.setFlags b f, { result := .active, data := .kinds f.kinds }))))

/-- NOTHING (R171): a panel with nothing to report is answered DONE. -/
def execNothing (h : Header) (body : List Nat) (s : State) : Outcome :=
  .next (s.request h .nothing body (noFields (fun t => Answer.done t)))

/-- A piece leaves the bed by a strip pick (R31): its slot leaves the piece list, and a RELEASED bed becomes
STRIPPING. -/
def State.stripFrom (s : State) (b n : Nat) : State :=
  s.setBed b { s.bed b with
    pieces := (s.bed b).pieces.filter (fun m => m ≠ n)
    state := if (s.bed b).state = .released then .stripping else (s.bed b).state }

/-- Whether a bed allows a strip pick (R31). -/
def State.allowsStrip (s : State) (b : Nat) : Bool :=
  (s.bed b).state = .released || (s.bed b).state = .stripping

/-- BED-QUERY data (R33). -/
def State.bedReply (s : State) (b : Nat) : BedReply :=
  let r := s.bed b
  let conf := (s.bedLayout b).configured
  { configured := conf, state := r.state, plan := r.plan, pieces := r.pieces, castMinute := r.castMinute,
    deadline := r.deadline,
    remaining := if r.state = .permitted then r.deadline.map (minutesTo s.clk.minute) else none,
    panel := if conf then some (r.panelLost, r.missed) else none,
    zones := s.bedZones b }

/-- BED_QUERY (R33). -/
def execBedQuery (h : Header) (body : List Nat) (s : State) : Outcome :=
  .next (s.request h .bedQuery body (fields1 fun b t =>
    if 1 ≤ b && b ≤ Config.beds then Answer.done t (.bed (t.bedReply b)) else Answer.badField t 1))

end Sys2Proof.Machine
end

