-- ==== Sys2Proof/Machine/Steam.lean ====
section
/-! DEFINITION. Steam.lean: the steam header allocator (chapter 6): allocation, packing, the frame's steps and its
settings. -/

namespace Sys2Proof.Machine

/-! ## Allocation (R91, R92) -/

/-- The sum of the requests of a set of (zone, request). -/
def sumRequests (l : List (Nat × Nat)) : Nat := (l.map Prod.snd).sum

/-- Step 3 of R91: every zone of the set receives the share, and the first `leftover` of them one step more. -/
def evenShares (share : Nat) : Nat → List (Nat × Nat) → List (Nat × Nat)
  | _, [] => []
  | 0, e :: rest => (e.1, share) :: evenShares share 0 rest
  | n + 1, e :: rest => (e.1, share + 1) :: evenShares share n rest

/-- The rounds of one priority level (R91): the allocations made, and the capacity that remains. `fuel` bounds the rounds;
each round that does not end the level takes at least one zone out of the set, so the set's length is enough. -/
def fillLevel : Nat → Nat → List (Nat × Nat) → List (Nat × Nat) × Nat
  | 0, left, _ => ([], left)
  | fuel + 1, left, open_ =>
    if open_.isEmpty then ([], left)
    else
      let share := left / open_.length
      let met := open_.filter (fun e => e.2 ≤ share)
      if met.isEmpty then (evenShares share (left - share * open_.length) open_, 0)
      else
        let rest := fillLevel fuel (left - sumRequests met) (open_.filter (fun e => share < e.2))
        (met ++ rest.1, rest.2)

/-- What a publication carries for a zone (R82). -/
structure PubEntry where
  zone : Nat
  priority : Nat
  request : Nat
deriving DecidableEq, Repr

/-- The unsatisfied set of a priority level: its zones with a request above 0, in ascending number (R91). -/
def levelSet (pubs : List PubEntry) (priority : Nat) : List (Nat × Nat) :=
  (pubs.filter (fun e => e.priority = priority && 0 < e.request)).map (fun e => (e.zone, e.request))

/-- The levels served in the order given, from a capacity (R91). -/
def fillLevels (pubs : List PubEntry) : List Nat → Nat → List (Nat × Nat)
  | [], _ => []
  | p :: rest, left =>
    let level := fillLevel (levelSet pubs p).length left (levelSet pubs p)
    level.1 ++ fillLevels pubs rest level.2

/-- The steps listed for a zone, 0 if it is not listed. -/
def listedSteps (l : List (Nat × Nat)) (z : Nat) : Nat := ((l.find? (fun e => e.1 = z)).map Prod.snd).getD 0

/-- R92: an allocation above 0 and below the minimum open becomes 0. -/
def trimMinimum (minOpen a : Nat) : Nat := if a < minOpen then 0 else a

/-- The allocation of a zone in a frame of budget `k` and minimum open `minOpen` (R91, R92). -/
def allocation (k minOpen : Nat) (pubs : List PubEntry) (z : Nat) : Nat :=
  trimMinimum minOpen (listedSteps (fillLevels pubs [3, 2, 1] (k * Config.frameSteps)) z)

/-! ## Packing (R94) -/

/-- The order of packing: descending priority, ascending zone number, allocations above 0 alone. -/
def packOrder (l : List FrameEntry) : List FrameEntry :=
  (l.filter (fun e => e.priority = 3 && 0 < e.allocation)) ++ (l.filter (fun e => e.priority = 2 && 0 < e.allocation))
    ++ (l.filter (fun e => e.priority = 1 && 0 < e.allocation)) ++ (l.filter (fun e => e.priority = 0 && 0 < e.allocation))

/-- The zones laid end to end from a cursor counted in steps from lane 0, step 0. -/
def packFrom : Nat → List FrameEntry → List (Nat × Nat)
  | _, [] => []
  | cursor, e :: rest => (e.zone, cursor) :: packFrom (cursor + e.allocation) rest

/-- The placement of a cursor: its lane and its step. -/
def placementOf (cursor : Nat) : Nat × Nat := (cursor / Config.frameSteps, cursor % Config.frameSteps)

/-- The entries with their placements (R94). -/
def placeEntries (l : List FrameEntry) : List FrameEntry :=
  l.map (fun e =>
    { e with placement := ((packFrom 0 (packOrder l)).find? (fun p => p.1 = e.zone)).map (fun p => placementOf p.2) })

/-! ## Frames (R89, R93) -/

/-- The frame prepared from a publication (R89, steps 2 and 3). -/
def makeFrame (k minOpen : Nat) (inhibit : Bool) (pubs : List PubEntry) : Frame :=
  { k := k, minOpen := minOpen, inhibited := inhibit,
    entries :=
      if inhibit then
        pubs.map (fun e =>
          { zone := e.zone, priority := e.priority, request := e.request, allocation := 0, trimmed := false,
            placement := none })
      else
        placeEntries (pubs.map (fun e =>
          { zone := e.zone, priority := e.priority, request := e.request,
            allocation := allocation k minOpen pubs e.zone,
            trimmed := decide (allocation k minOpen pubs e.zone < e.request), placement := none })) }

/-- Pending settings applied (R89, step 1). -/
def Sha.applyPending (a : Sha) : Sha :=
  { a with k := a.pendingK.getD a.k, pendingK := none,
           minOpen := a.pendingMinOpen.getD a.minOpen, pendingMinOpen := none }

/-- The preparation of a frame from a publication (R89), with its HEAT-TRIMMED (R93). -/
def State.prepareFrame (s : State) (pubs : List PubEntry) : State :=
  let a := s.sha.applyPending
  let f := makeFrame a.k a.minOpen a.inhibit pubs
  let t := { s with sha := { a with prepared := some f } }
  if f.entries.any FrameEntry.trimmed then t.postEvent .PL .heatTrimmed .none else t

/-- The entry of a zone in a frame. -/
def Frame.entry (f : Frame) (z : Nat) : Option FrameEntry := f.entries.find? (fun e => e.zone = z)

/-- Whether a zone's valve is open at a step: it occupies `allocation` steps from its first step on, going on from step 0 of
the next lane at the end of its lane (R94, R95). -/
def FrameEntry.openAt (e : FrameEntry) (step : Nat) : Bool :=
  match e.placement with
  | some (_, first) => (step + Config.frameSteps - first) % Config.frameSteps < e.allocation
  | none => false

/-- Whether a frame opens a zone's valve at a step (R95). -/
def Frame.openAt (f : Frame) (step z : Nat) : Bool :=
  match f.entry z with
  | some e => e.openAt step
  | none => false

/-- The allocator's part of a second tick (R90). -/
def State.steamTick (s : State) : State :=
  match s.sha.prepared with
  | some f => { s with sha := { s.sha with prepared := none, running := some (f, 0) } }.driveValves (f.openAt 0)
  | none =>
    match s.sha.running with
    | some (f, step) =>
      if step + 1 < Config.frameSteps then
        { s with sha := { s.sha with running := some (f, step + 1) } }.driveValves (f.openAt (step + 1))
      else { s with sha := { s.sha with running := none } }.closeValves
    | none => s

/-! ## Settings and the heat inhibit (R96 to R98) -/

/-- SET_K (R96). -/
def execSetK (h : Header) (body : List Nat) (s : State) : Outcome :=
  .next (s.request h .setK body (fields1 fun k t =>
    if 1 ≤ k && k ≤ 8 then
      Answer.done { t with sha := { t.sha with pendingK := some k } } (.setting t.sha.k (some k))
    else Answer.badField t 1))

/-- SET_MINOPEN (R96). -/
def execSetMinopen (h : Header) (body : List Nat) (s : State) : Outcome :=
  .next (s.request h .setMinopen body (fields1 fun n t =>
    if 1 ≤ n && n ≤ 10 then
      Answer.done { t with sha := { t.sha with pendingMinOpen := some n } } (.setting t.sha.minOpen (some n))
    else Answer.badField t 1))

/-- HEAT-OFF at the allocator (R97), in any state: every valve closed, the running frame ended and the prepared one
discarded, and the inhibit SET. That a frame prepared under inhibit is ended or discarded too, by a HEAT-OFF that finds the
inhibit SET already, is the model's choice (log entry 44). -/
def State.heatOff (s : State) : State :=
  { s with sha := { s.sha with running := none, prepared := none, inhibit := true } }.closeValves

/-- HEAT_OFF (R97). -/
def execHeatOff (h : Header) (body : List Nat) (s : State) : Outcome :=
  .next (s.request h .heatOff body (noFields (fun t => Answer.done t.heatOff)))

/-- HEAT_ON (R98). -/
def execHeatOn (h : Header) (body : List Nat) (s : State) : Outcome :=
  .next (s.request h .heatOn body (noFields (fun t =>
    Answer.done { t with sha := { t.sha with inhibit := false } })))

end Sys2Proof.Machine
end

