-- ==== Sys2Proof/Machine/Zones.lean ====
section
/-! DEFINITION. Zones.lean: the zone control unit (chapter 5): the stage work of a zone, duty requests, the zone step, and
the planner's zone settings. -/

namespace Sys2Proof.Machine

/-! ## Stage work (R72 to R76, R78) -/

/-- A zone with the stage changes it has made in this step, in the order made. -/
abbrev Staged := Zone × List Stage

/-- Entry to DONE (R76). -/
def enterDone (z : Zone) : Staged := ({ z with stage := .done, setpoint := none, timer := 0 }, [.done])

/-- Entry to COOL (R76). -/
def enterCool (p : Profile) (z : Zone) : Staged :=
  ({ z with stage := .cool, setpoint := some p.holdTemp, timer := 0 }, [.cool])

/-- Entry to HOLD (R75). -/
def enterHoldStage (p : Profile) (z : Zone) : Staged :=
  ({ z with stage := .hold, setpoint := some p.holdTemp, timer := 0 }, [.hold])

/-- The RAMP test: a setpoint equal to the hold temperature enters HOLD (R74). -/
def rampTest (p : Profile) (z : Zone) : Staged :=
  if z.setpoint = some p.holdTemp then enterHoldStage p z else (z, [])

/-- Entry to RAMP with the zone's own usable temperature, and its entry test (R74). -/
def enterRamp (p : Profile) (own : Option Int) (z : Zone) : Staged :=
  let sp := match own with
    | some t => min t p.holdTemp
    | none => p.frostFloor
  let r := rampTest p { z with stage := .ramp, setpoint := some sp, timer := 0 }
  (r.1, .ramp :: r.2)

/-- Entry to DELAY, and its entry test (R73). -/
def enterDelay (p : Profile) (own : Option Int) (z : Zone) : Staged :=
  let z' := { z with stage := .delay, setpoint := some p.frostFloor, timer := 0 }
  if p.delay = 0 then
    let r := enterRamp p own z'
    (r.1, .delay :: r.2)
  else (z', [.delay])

/-- The stage timer raised by 1, or left at 65,535 (R72). -/
def Zone.ticked (z : Zone) : Zone := { z with timer := holdAt Config.timerMax z.timer }

/-- The COOL exit test against the hall ambient (R76). -/
def coolTest (p : Profile) (hall : Option Int) (sp : Int) (z : Zone) : Staged :=
  if (hall.map (fun t => decide (sp ≤ t + p.releaseDelta))).getD false || sp = p.frostFloor then enterDone z else (z, [])

/-- A RAMP zone at a later step (R74). `own` is its usable temperature, `ownState` its channel's published state. -/
def rampWork (p : Profile) (own : Option Int) (ownState : ProbeState) (z : Zone) : Staged :=
  match z.setpoint with
  | some sp => rampTest p { z with setpoint := some (min (sp + p.rampRate) p.holdTemp) }
  | none =>
    match own with
    | some t => rampTest p { z with setpoint := some (min t p.holdTemp) }
    | none => if ownState = .lost then ({ z with setpoint := some p.frostFloor }, []) else (z, [])

/-- A COOL zone at a later step (R76). A zone with no setpoint and a LOST channel takes the hold temperature and makes no
exit test at that step (log entry 18). -/
def coolWork (p : Profile) (own : Option Int) (ownState : ProbeState) (hall : Option Int) (z : Zone) : Staged :=
  match z.setpoint with
  | some sp =>
    let sp' := max (sp - p.coolRate) p.frostFloor
    coolTest p hall sp' { z with setpoint := some sp' }
  | none =>
    match own with
    | some t => coolTest p hall (min t p.holdTemp) { z with setpoint := some (min t p.holdTemp) }
    | none => if ownState = .lost then ({ z with setpoint := some p.holdTemp }, []) else (z, [])

/-- The stage work of a zone under its profile (R72 to R76, R78). `ready`: the zone has a piece and every piece of it is at
the hold-exit maturity. A zone with ADVANCE-PENDING enters its next stage directly. -/
def stageWork (p : Profile) (own : Option Int) (ownState : ProbeState) (hall : Option Int) (ready : Bool) (z : Zone) :
    Staged :=
  match z.stage with
  | .idle => (z, [])
  | .done => (z, [])
  | .startPending => enterDelay p own z
  | .delay =>
    if z.advance then enterRamp p own { z with advance := false }
    else if p.delay ≤ z.ticked.timer then enterRamp p own z.ticked
    else (z.ticked, [])
  | .ramp => if z.advance then enterHoldStage p { z with advance := false } else rampWork p own ownState z.ticked
  | .hold =>
    if z.advance then enterCool p { z with advance := false }
    else if ready || p.maxHold ≤ z.ticked.timer then enterCool p z.ticked
    else ({ z.ticked with setpoint := some p.holdTemp }, [])
  | .cool => coolWork p own ownState hall z.ticked

/-- The zone's pieces: the CAST pieces of its bed's piece list inside its range (R75). -/
def State.zonePieces (s : State) (z : Nat) : List Nat :=
  match (s.zoneLayout z).bed, (s.zoneLayout z).range with
  | some b, some r => (s.bed b).pieces.filter (fun n => (s.piece n).state = .cast && r.has (s.piece n).segment)
  | _, _ => []

/-- The hold-exit test on maturity (R75). -/
def State.holdReady (s : State) (p : Profile) (z : Nat) : Bool :=
  !(s.zonePieces z).isEmpty && (s.zonePieces z).all (fun n => p.holdExit * Config.unitsPerHour ≤ (s.piece n).accumulator)

/-- The stage work of zone `z` in the state (R71, step 2). A zone with no profile has none. -/
def State.zoneWork (s : State) (z : Nat) : Staged :=
  match (s.zone z).profile with
  | some n =>
    stageWork (s.profile n) (s.usable z) (s.published z).state (s.usable Config.hallChannel)
      (s.holdReady (s.profile n) z) (s.zone z)
  | none => (s.zone z, [])

/-! ## Duty requests (R79 to R81) -/

/-- A stage that heats (R79). -/
def Stage.heats : Stage → Bool
  | .delay => true
  | .ramp => true
  | .hold => true
  | .cool => true
  | .idle => false
  | .startPending => false
  | .done => false

/-- The duty from the error in tenths (R79): floored toward minus infinity, then held between 0 and 60. -/
def dutyOf (p : Profile) (stage : Stage) (e : Int) : Nat :=
  (clampInt 0 60 (
    if stage = .hold then p.holdBias + e * p.gain / 10
    else if 0 < e then e * p.gain / 10 else 0)).toNat

/-- The computed request of a zone (R79, R80). -/
def computedRequest (p : Profile) (own : Option Int) (z : Zone) : Nat :=
  if z.stage.heats then
    match own, z.setpoint with
    | some t, some sp => dutyOf p z.stage (sp - t)
    | _, _ => p.fallback
  else 0

/-- The computed request of zone `z` in the state. A zone with no profile asks for nothing. -/
def State.computedOf (s : State) (z : Nat) : Nat :=
  match (s.zone z).profile with
  | some n => computedRequest (s.profile n) (s.usable z) (s.zone z)
  | none => 0

/-- The bed of a zone is CURING or COOLING (R81, row 1). -/
def State.bedHeats (s : State) (z : Nat) : Bool :=
  match (s.zoneLayout z).bed with
  | some b => (s.bed b).state = .curing || (s.bed b).state = .cooling
  | none => false

/-- The request of zone `z`, by the first row of R81 that applies, from the computed requests that stand. -/
def State.requestOf (s : State) (z : Nat) : Nat :=
  if s.bedHeats z = false then 0
  else if (s.zone z).priority = 0 then 0
  else if (s.zone z).stage.heats = false then 0
  else
    match (s.zone z).follow with
    | some lead => (s.zone lead).computed
    | none => (s.zone z).computed

/-! ## The zone step (R71) -/

/-- Every zone record changed by `f`. -/
def State.mapZones (s : State) (f : Nat → Zone → Zone) : State :=
  { s with zcu := { s.zcu with zones := Tab.mapAll {} Config.zones f s.zcu.zones } }

/-- A pending priority taken (R71, step 1). -/
def Zone.takePriority (z : Zone) : Zone :=
  { z with priority := z.pendingPriority.getD z.priority, pendingPriority := none }

/-- Steps 1 to 4 of R71, and the request fields of step 5. -/
def State.zonesStepped (s : State) : State :=
  let s1 := s.mapZones (fun _ z => z.takePriority)
  let s2 := s1.mapZones (fun i _ => (s1.zoneWork i).1)
  let s3 := s2.mapZones (fun i z => { z with computed := s2.computedOf i })
  s3.mapZones (fun i z => { z with request := s3.requestOf i })

/-- The stage changes of the step: the zone of each, in ascending number, once for each change (R77). -/
def State.stageChanges (s : State) : List Nat :=
  let s1 := s.mapZones (fun _ z => z.takePriority)
  (List.range Config.zones).flatMap (fun i => (s1.zoneWork i).2.map (fun _ => i))

/-- The sixteen entries of a publication (R82). -/
def State.publication (s : State) : List PubEntry :=
  (List.range Config.zones).map (fun z => ⟨z, (s.zone z).priority, (s.zone z).request⟩)

/-- One stage change handed to the bed table (R77). -/
def State.handStage (s : State) (z : Nat) : State :=
  match (s.zoneLayout z).bed with
  | some b => s.evaluateBed b
  | none => s

/-- The zone step (R71). -/
def State.zoneStep (s : State) : State :=
  let t := s.zonesStepped
  s.stageChanges.foldl State.handStage (t.prepareFrame t.publication)

/-! ## The planner's zone requests (R68, R78, R83, R84) -/

/-- The fields of a profile in order (R67, R68). -/
def profileChecks (n : Nat) (p : Profile) : List Bool :=
  [ n < Config.profiles,
    0 ≤ p.frostFloor && p.frostFloor ≤ 150,
    p.delay ≤ 600,
    1 ≤ p.rampRate && p.rampRate ≤ 50,
    200 ≤ p.holdTemp && p.holdTemp ≤ 700,
    0 ≤ p.holdBias && p.holdBias ≤ 60,
    1 ≤ p.gain && p.gain ≤ 60,
    p.holdExit ≤ Config.targetMax,
    60 ≤ p.maxHold && p.maxHold ≤ 2880,
    1 ≤ p.coolRate && p.coolRate ≤ 50,
    50 ≤ p.releaseDelta && p.releaseDelta ≤ 300,
    p.fallback ≤ 60 ]

/-- The first zone that cures by a profile (R68). -/
def State.curingBy (s : State) (n : Nat) : Option Nat :=
  (List.range Config.zones).find? (fun z =>
    (s.zone z).profile = some n && (s.zone z).stage ≠ .idle && (s.zone z).stage ≠ .done)

/-- PROFILE-WRITE at the zone control unit (R68). -/
def State.writeProfile (s : State) (n : Nat) (p : Profile) : Answer :=
  match firstBad (profileChecks n p) with
  | some i => Answer.badField s i
  | none =>
    match (if s.run then s.curingBy n else none) with
    | some z => Answer.refuse s .inUse (.zone z)
    | none => Answer.done (s.setProfile n p)

/-- PROFILE_WRITE (R68). -/
def execProfileWrite (h : Header) (body : List Nat) (s : State) : Outcome :=
  .next (s.request h .profileWrite body (profileBody fun n p t => t.writeProfile n p))

/-- ADVANCE (R78). -/
def execAdvance (h : Header) (body : List Nat) (s : State) : Outcome :=
  .next (s.request h .advance body (fields1 fun z t =>
    if z < Config.zones then
      match (t.zone z).stage with
      | .delay => Answer.done (t.setZone z { t.zone z with advance := true })
      | .ramp => Answer.done (t.setZone z { t.zone z with advance := true })
      | .hold => Answer.done (t.setZone z { t.zone z with advance := true })
      | st => Answer.refuse t .state (.stage st)
    else Answer.badField t 1))

/-- ZONE_PRIORITY (R83). -/
def execZonePriority (h : Header) (body : List Nat) (s : State) : Outcome :=
  .next (s.request h .zonePriority body (fields2 fun z priority t =>
    match firstBad [z < Config.zones, priority ≤ 3] with
    | some i => Answer.badField t i
    | none =>
      Answer.done (t.setZone z { t.zone z with pendingPriority := some priority })
        (.setting (t.zone z).priority (some priority))))

/-- The zones that follow a zone, lowest first (R84). -/
def State.firstFollower (s : State) (z : Nat) : Option Nat :=
  (List.range Config.zones).find? (fun i => (s.zone i).follow = some z)

/-- ZONE-FOLLOW at the zone control unit (R84). -/
def State.setFollow (s : State) (z : Nat) (lead : Option Nat) : Answer :=
  match firstBad [z < Config.zones, (lead.map (fun l => decide (l < Config.zones))).getD true] with
  | some i => Answer.badField s i
  | none =>
    if (s.zoneLayout z).bed.isNone then Answer.badField s 1
    else
      match lead with
      | none => Answer.done (s.setZone z { s.zone z with follow := none })
      | some l =>
        if l = z || (s.zoneLayout l).bed ≠ (s.zoneLayout z).bed then Answer.badField s 2
        else
          match (s.zone l).follow with
          | some f => Answer.refuse s .state (.zone f)
          | none =>
            match s.firstFollower z with
            | some f => Answer.refuse s .inUse (.zone f)
            | none => Answer.done (s.setZone z { s.zone z with follow := some l })

/-- ZONE_FOLLOW (R84). -/
def execZoneFollow (h : Header) (body : List Nat) (s : State) : Outcome :=
  .next (s.request h .zoneFollow body (fields2 fun z lead t => t.setFollow z (optByte lead)))

/-! ## ZONE-QUERY (R48, R86, R99) -/

/-- The zone part of the reply (R86, R99), the zone's number among its fields (log entry 42). -/
def State.zonePart (s : State) (z : Nat) : ZonePart :=
  { number := z, zone := s.zone z, bed := (s.zoneLayout z).bed, range := (s.zoneLayout z).range,
    bedState := (s.zoneLayout z).bed.map (fun b => (s.bed b).state),
    running := s.sha.running.bind (fun r => r.1.entry z),
    step := s.sha.running.map Prod.snd,
    prepared := s.sha.prepared.bind (fun f => f.entry z) }

/-- ZONE-QUERY data (R48, R86, R99). The record of channel 18 is shown with a trim of 0 (log entry 46). -/
def State.zoneReply (s : State) (n : Nat) : ZoneReply :=
  { channel := s.channel n,
    zone := if n < Config.zones then some (s.zonePart n) else none,
    converter :=
      if n = Config.refChannel then some ⟨s.pcv.sampleTime, s.pcv.scan, s.pcv.refPass, s.pcv.fault⟩ else none,
    k := s.sha.k, pendingK := s.sha.pendingK, minOpen := s.sha.minOpen, pendingMinOpen := s.sha.pendingMinOpen,
    inhibit := s.sha.inhibit,
    runningInhibited := s.sha.running.map (fun r => r.1.inhibited),
    preparedInhibited := s.sha.prepared.map Frame.inhibited }

/-- ZONE_QUERY (R48). -/
def execZoneQuery (h : Header) (body : List Nat) (s : State) : Outcome :=
  .next (s.request h .zoneQuery body (fields1 fun n t =>
    if n < Config.channels then Answer.done t (.zoneRecord (t.zoneReply n)) else Answer.badField t 1))

end Sys2Proof.Machine
end

