-- ==== Sys2Proof/Machine/Probes.lean ====
section
/-! DEFINITION. Probes.lean: the probe converter (chapter 3): the scan, conversion, the reference check, scan completion and
everything it hands on, and the planner's converter settings. -/

namespace Sys2Proof.Machine

/-! ## Conversion (R39, R40) -/

/-- The temperature of a good raw value (R39). -/
def convert (raw : Nat) (trim : Int) : Int := clampInt (-400) 950 (-400 + ((raw * 1350 / 4096 : Nat) : Int) + trim)

/-- The entry of a conversion of channel 0 to 17 (R39). -/
def judge (raw : Nat) (trim : Int) : ScanEntry :=
  if raw = 0 then .taken raw .short none
  else if raw = 4095 then .taken raw .opened none
  else .taken raw .good (some (convert raw trim))

/-- The reference window (R40). -/
def refInWindow (raw : Nat) : Bool := 2008 ≤ raw && raw ≤ 2088

/-- The entry of the reference conversion (R40). -/
def judgeRef (raw : Nat) : ScanEntry :=
  if refInWindow raw then .taken raw .good none else .taken raw .refFail none

/-! ## Channel states (R42) -/

/-- The good and bad runs, the state and the temperature after a good conversion (R42). -/
def Channel.good (c : Channel) (temp : Option Int) : Channel :=
  match c.state with
  | .valid => { c with temp := temp, badRun := 0, goodRun := holdAt 3 c.goodRun }
  | .held => { c with state := .valid, temp := temp, goodRun := 1, badRun := 0 }
  | .unsettled =>
    { c with temp := temp, badRun := 0, goodRun := holdAt 3 c.goodRun,
             state := if 3 ≤ c.goodRun + 1 then .valid else .unsettled }
  | .lost =>
    { c with temp := temp, badRun := 0, goodRun := holdAt 3 c.goodRun,
             state := if 3 ≤ c.goodRun + 1 then .valid else .lost }

/-- The same after a bad conversion (R42). In LOST the bad run becomes 4, also after a good conversion that had made it 0:
R42's row says that it stays 4, R36 counts consecutive bad conversions, and they differ there alone. That it is 4 is the
model's choice (log entry 37). -/
def Channel.bad (c : Channel) : Channel :=
  match c.state with
  | .unsettled =>
    { c with goodRun := 0, badRun := holdAt 4 c.badRun, state := if 4 ≤ c.badRun + 1 then .lost else .unsettled }
  | .valid => { c with state := .held, goodRun := 0, badRun := 1 }
  | .held => { c with badRun := holdAt 4 c.badRun, state := if 4 ≤ c.badRun + 1 then .lost else .held }
  | .lost => { c with goodRun := 0, badRun := 4 }

/-- A channel record updated from its entry (R41). A discarded entry changes nothing. -/
def Channel.updated (c : Channel) : Option ScanEntry → Channel
  | some (.taken raw .good temp) => { (c.good temp) with lastRaw := some raw, lastResult := some .good }
  | some (.taken raw r _) => { c.bad with lastRaw := some raw, lastResult := some r }
  | some .discarded => c
  | none => c

/-- A FAIL reference condemns every entry of channels 0 to 17 that is not discarded (R41). -/
def ScanEntry.condemned : ScanEntry → ScanEntry
  | .taken raw _ _ => .taken raw .refFail none
  | .discarded => .discarded

/-- The entry of a channel as the completion judges it (R41). -/
def State.judgedEntry (s : State) (c : Nat) : Option ScanEntry :=
  let e := s.pcv.record.read none c
  if s.pcv.refPass = false && c < Config.refChannel then e.map ScanEntry.condemned else e

/-- Every channel record updated (R41). -/
def State.channelsUpdated (s : State) : State :=
  { s with pcv := { s.pcv with
      channels := Tab.mapAll {} Config.channels (fun c r => r.updated (s.judgedEntry c)) s.pcv.channels } }

/-! ## PROBE-LOST (R43, R181) -/

/-- The bed whose flags a channel's PROBE-LOST goes to: the bed of an assigned zone (R43). -/
def State.probeBed (s : State) (c : Nat) : Option Nat := if c < Config.zones then (s.zoneLayout c).bed else none

/-- A channel whose PROBE-LOST is posted at all: 16, 17, and the zone channels of assigned zones (R43). -/
def State.probePosted (s : State) (c : Nat) : Bool :=
  c = Config.hallChannel || c = Config.yardChannel || (s.probeBed c).isSome

/-- A channel entered LOST (R43). -/
def State.probeLost (s : State) (c : Nat) : State :=
  let t := s.raiseCause [.PL] .probeLost (.channel c)
  match s.probeBed c with
  | some b => t.flagProbeLost b
  | none => t

/-- A channel went from LOST to VALID (R43). -/
def State.probeFound (s : State) (c : Nat) : State :=
  let t := s.endCause [.PL] .probeLost (.channel c)
  match s.probeBed c with
  | some b => t.unflagProbeLost b
  | none => t

/-- What one channel's change of state posts, given its record before the completion. -/
def State.probePosting (before : State) (s : State) (c : Nat) : State :=
  if s.probePosted c = false then s
  else if (before.channel c).state ≠ .lost && (s.channel c).state = .lost then s.probeLost c
  else if (before.channel c).state = .lost && (s.channel c).state = .valid then s.probeFound c
  else s

/-! ## Completion (R41, R44) -/

/-- The published set replaced from the channel records (R44). -/
def State.publish (s : State) : State :=
  { s with pcv := { s.pcv with
      published := Tab.build {} Config.refChannel (fun c => ⟨(s.channel c).state, (s.channel c).temp⟩) } }

/-- What a publication sets going: the maturity update (R53), the bed evaluations (R60, R26) and the zone step (R71). That
the beds are evaluated, with their BED-READY, before the zone step and its HEAT-TRIMMED is the model's choice: R60, R26 and
R77 leave the order of the two blocks open (log entry 41). -/
def State.handScan (s : State) : State := s.maturityUpdate.evaluateBeds.zoneStep

/-- Scan completion (R41): the channel records are updated from the scan record, PROBE-LOST is posted and ended in channel
order, the scan state returns to IDLE, the set is published and handed on. -/
def State.completeScan (s : State) : State :=
  let t := (List.range Config.channels).foldl (State.probePosting s) s.channelsUpdated
  ({ t with pcv := { t.pcv with scan := .idle, record := [] } }.publish).handScan

/-- A scan starts at channel 0 with an empty record (R38). -/
def State.startScan (s : State) : State := { s with pcv := { s.pcv with scan := .scanning 0, record := [] } }

/-- An entry put into the scan record, and the converter goes on to the next channel; after channel 18 the scan completes
(R38, R41). -/
def State.enterConversion (s : State) (c : Nat) (e : ScanEntry) : State :=
  let t := { s with pcv := { s.pcv with record := s.pcv.record.write none c (some e), scan := .scanning (c + 1) } }
  if c + 1 < Config.channels then t else t.completeScan

/-- The conversion in progress, if any, is discarded (R47). -/
def State.discardConversion (s : State) : State :=
  match s.pcv.scan with
  | .scanning c => s.enterConversion c .discarded
  | .idle => s

/-- The outcome of the reference check becomes the reference result, and CONVERTER-FAULT is posted or ended (R40). -/
def State.checkReference (s : State) (raw : Nat) : State :=
  let pass := refInWindow raw
  let t := { s with pcv := { s.pcv with refPass := pass, fault := !pass } }
  if pass = false && s.pcv.fault = false then t.raiseCause [.PL] .converterFault .none
  else if pass && s.pcv.fault then t.endCause [.PL] .converterFault .none
  else t

/-- CONVERSION_END (R39): the conversion of a channel 0 to 17 ends with a raw value. With no such conversion under way
there is no such end. -/
def execConversionEnd (raw : Nat) (s : State) : Outcome :=
  .next (if s.held then s else
    match s.pcv.scan with
    | .scanning c => if c < Config.refChannel then s.enterConversion c (judge raw (s.channel c).trim) else s
    | .idle => s)

/-- REFERENCE_CHECK (R40): the conversion of channel 18 ends, the reference is checked, and the scan completes. -/
def execReferenceCheck (raw : Nat) (s : State) : Outcome :=
  .next (if s.held then s else
    match s.pcv.scan with
    | .scanning c =>
      if c = Config.refChannel then (s.checkReference raw).enterConversion c (judgeRef raw) else s
    | .idle => s)

/-! ## Trim and sample time (R45 to R47) -/

/-- PROBE-TRIM at the converter (R45, R47). -/
def State.setTrim (s : State) (c : Nat) (trim : Int) : Answer :=
  if c < Config.refChannel then
    let v := clampInt (-50) 50 trim
    let t := s.setChannel c { s.channel c with trim := v }
    Answer.done (if s.pcv.scan = .scanning c then t.discardConversion else t) (.trim v)
  else Answer.badField s 1

/-- PROBE_TRIM (R45). -/
def execProbeTrim (h : Header) (body : List Nat) (s : State) : Outcome :=
  .next (s.request h .probeTrim body (fields3 fun c t1 t0 t => t.setTrim c (signed2 t1 t0)))

/-- SAMPLE_TIME (R46, R47). -/
def execSampleTime (h : Header) (body : List Nat) (s : State) : Outcome :=
  .next (s.request h .sampleTime body (fields1 fun n t =>
    if 1 ≤ n && n ≤ 8 then
      Answer.done ({ t with pcv := { t.pcv with sampleTime := n } }.discardConversion)
    else Answer.badField t 1))

end Sys2Proof.Machine
end

