-- ==== Sys2Proof/Machine/Stock.lean ====
section
/-! DEFINITION. Stock.lean: the piece table and the stock unit (chapter 7): cells, bays, the stock checks and effects of
moves, inventory writes, cursors and PIECE-QUERY. -/

namespace Sys2Proof.Machine

/-! ## Cells (R105) -/

/-- The direction of a cell (R105). -/
def Cell.direction (c : Cell) : Direction :=
  if 0 < c.arrivals.length then .into else if 0 < c.pendingOut then .out else .none

/-- The projected top of a cell (R105). -/
def Cell.projectedTop (c : Cell) : Option Nat :=
  match c.arrivals.getLast? with
  | some n => some n
  | none => c.stack.getLast?

/-- The pieces above a slot in a stack. -/
def above (stack : List Nat) (n : Nat) : List Nat := (stack.dropWhile (fun m => m ≠ n)).drop 1

/-- The unclaimed pieces above a slot in a cell's stack (R106). -/
def State.unclaimedAbove (s : State) (c n : Nat) : Nat :=
  ((above (s.cell c).stack n).filter (fun m => (s.piece m).claim.isNone)).length

/-! ## The stock checks of a submission (R106, R107, R113) -/

/-- The location check (R106): the piece stands where the move says. -/
def State.standsAt (s : State) (x : Crane) (source : Option Source) (n : Nat) : Bool :=
  let p := s.piece n
  match source with
  | some (.bed b) => p.state = .cast && (match p.location with | some (.bed b' _) => decide (b' = b) | _ => false)
  | some (.cell c) => p.state = .stock && (match p.location with | some (.cell c' _) => decide (c' = c) | _ => false)
  | none => p.state = .hook && p.location = some (.crane x)

/-- The refusals of the source direction and of burial (R106). -/
def State.sourceDirectionRefusal (s : State) : Option Source → Option Reply
  | some (.cell c) => if (s.cell c).direction = .into then some { result := .inUse, data := .side .source } else none
  | _ => none

/-- Burial (R106). -/
def State.burialRefusal (s : State) (n : Nat) : Option Source → Option Reply
  | some (.cell c) =>
    if s.unclaimedAbove c n = 0 then none
    else some { result := .buried, data := .count (s.unclaimedAbove c n) }
  | _ => none

/-- Destination direction (R107, R113). -/
def State.destDirectionRefusal (s : State) : Dest → Option Reply
  | .cell c => if (s.cell c).direction = .out then some { result := .inUse, data := .side .destination } else none
  | .bay b => if (s.bay b).opened then none else some { result := .state, data := .side .destination }
  | .segment _ => none

/-- Capacity (R107, R113). -/
def State.capacityRefusal (s : State) (n : Nat) : Dest → Option Reply
  | .cell c =>
    if (s.cell c).stack.length + (s.cell c).arrivals.length + 1 ≤ (s.cellLayout c).limit then none
    else some { result := .full }
  | .bay b =>
    let r := s.bay b
    if r.load + r.pendingWeight + (s.piece n).weight ≤ r.limit.getD 0
        && r.shipped.length + r.pendingCount + 1 ≤ Config.shippedMax then none
    else some { result := .full }
  | .segment _ => none

/-- Weight against the projected top (R107). -/
def State.weightRefusal (s : State) (n : Nat) : Dest → Option Reply
  | .cell c =>
    match (s.cell c).projectedTop with
    | some m =>
      if (s.piece n).weight ≤ (s.piece m).weight then none
      else some { result := .weight, data := .weight m (s.piece m).weight }
    | none => none
  | _ => none

/-- The first refusal of a list of checks taken in order. -/
def firstRefusal : List (Option Reply) → Option Reply
  | [] => none
  | some r :: _ => some r
  | none :: rest => firstRefusal rest

/-- The stock checks together, in the order of R106: location, source direction, destination direction, capacity, weight,
burial. -/
def State.stockRefusal (s : State) (x : Crane) (source : Option Source) (dest : Dest) (n : Nat) : Option Reply :=
  firstRefusal
    [ if s.standsAt x source n then none else some { result := .notFound },
      s.sourceDirectionRefusal source,
      s.destDirectionRefusal dest,
      s.capacityRefusal n dest,
      s.weightRefusal n dest,
      s.burialRefusal n source ]

/-! ## Reservations (R108) -/

/-- Space reserved at a destination for a piece. -/
def State.reserveDest (s : State) (n : Nat) : Dest → State
  | .cell c => s.setCell c { s.cell c with arrivals := (s.cell c).arrivals ++ [n] }
  | .bay b => s.setBay b { s.bay b with
      pendingWeight := (s.bay b).pendingWeight + (s.piece n).weight, pendingCount := (s.bay b).pendingCount + 1 }
  | .segment _ => s

/-- Departure reserved at a source. -/
def State.reserveSource (s : State) : Option Source → State
  | some (.cell c) => s.setCell c { s.cell c with pendingOut := (s.cell c).pendingOut + 1 }
  | _ => s

/-- Space given back at a destination. -/
def State.releaseDest (s : State) (n : Nat) : Dest → State
  | .cell c => s.setCell c { s.cell c with arrivals := (s.cell c).arrivals.filter (fun m => m ≠ n) }
  | .bay b => s.setBay b { s.bay b with
      pendingWeight := (s.bay b).pendingWeight - (s.piece n).weight, pendingCount := (s.bay b).pendingCount - 1 }
  | .segment _ => s

/-- Departure given back at a source. -/
def State.releaseSource (s : State) : Option Source → State
  | some (.cell c) => s.setCell c { s.cell c with pendingOut := (s.cell c).pendingOut - 1 }
  | _ => s

/-! ## Picks and placements (R109 to R113) -/

/-- The stock unit's answer at a grant (R109): the piece is the top of its source cell and the first arrival of its
destination cell. -/
def State.stockAnswers (s : State) (source : Option Source) (dest : Dest) (n : Nat) : Bool :=
  (match source with | some (.cell c) => decide ((s.cell c).stack.getLast? = some n) | _ => true)
    && (match dest with | .cell c => decide ((s.cell c).arrivals.head? = some n) | _ => true)

/-- The piece goes onto a crane's hook (R102). -/
def State.toHook (s : State) (x : Crane) (n : Nat) : State :=
  s.setPiece n { s.piece n with state := .hook, location := some (.crane x) }

/-- A pick from a cell (R110). -/
def State.cellPick (s : State) (x : Crane) (c n : Nat) : State :=
  ((s.setCell c { s.cell c with
      stack := (s.cell c).stack.filter (fun m => m ≠ n), pendingOut := (s.cell c).pendingOut - 1 }).toHook x n).bumpGeneration

/-- A placement into a cell (R111). -/
def State.cellPlace (s : State) (c n : Nat) : State :=
  ((s.setCell c { s.cell c with
      arrivals := (s.cell c).arrivals.filter (fun m => m ≠ n), stack := (s.cell c).stack ++ [n] }).setPiece n
    { s.piece n with state := .stock, location := some (.cell c (s.cell c).stack.length) }).bumpGeneration

/-- A ship into a bay (R113). -/
def State.bayShip (s : State) (b n : Nat) : State :=
  let p := s.piece n
  let r := s.bay b
  ((s.setBay b { r with
      shipped := r.shipped ++ [⟨p.mark, p.pour, p.weight, s.clk.minute⟩]
      load := r.load + p.weight
      pendingWeight := r.pendingWeight - p.weight
      pendingCount := r.pendingCount - 1 }).freePiece n).bumpGeneration

/-! ## Bays (R112, R114) -/

/-- BAY-OPEN at the stock unit (R112). -/
def State.openBay (s : State) (b limit : Nat) : Answer :=
  if s.bayConfigured b = false then Answer.badField s 1
  else if limit = 0 || 60 < limit then Answer.badField s 2
  else if (s.bay b).opened then Answer.refuse s .state
  else Answer.done (s.setBay b { s.bay b with opened := true, limit := some limit, load := 0, shipped := [] })

/-- BAY_OPEN (R112). -/
def execBayOpen (h : Header) (body : List Nat) (s : State) : Outcome :=
  .next (s.request h .bayOpen body (fields2 fun b limit t => t.openBay b limit))

/-- BAY-CLOSE at the stock unit (R114). A first entry of 0, or above 16, is refused at check 4, after STATE and IN-USE: check 4
bounds it from above alone, and where its range is checked is the model's choice (log entry 43). -/
def State.closeBay (s : State) (b first : Nat) : Answer :=
  let r := s.bay b
  if s.bayConfigured b = false then Answer.badField s 1
  else if r.opened = false then Answer.refuse s .state
  else if 0 < r.pendingCount then Answer.refuse s .inUse (.count r.pendingCount)
  else if 1 ≤ first && (first ≤ r.shipped.length || (r.shipped.isEmpty && first = 1)) then
    let part := (r.shipped.drop (first - 1)).take 5
    if r.shipped.length ≤ first - 1 + part.length then
      Answer.done ((s.setBay b { r with opened := false, limit := none, load := 0, shipped := [] }).bumpGeneration)
        (.bayEntries r.shipped.length part true)
    else Answer.done s (.bayEntries r.shipped.length part false)
  else Answer.badField s 2

/-- BAY_CLOSE (R114). -/
def execBayClose (h : Header) (body : List Nat) (s : State) : Outcome :=
  .next (s.request h .bayClose body (fields2 fun b first t => t.closeBay b first))

/-! ## Inventory writes (R115, R116) -/

/-- The mark check of R115, as in a plan (section 2.3). -/
def recordMarkOk (m : List Nat) : Bool :=
  1 ≤ m.length && m.length ≤ 12 && m.all (fun c => 32 ≤ c && c ≤ 126) && m.head? ≠ some 32

/-- The fields of a PLACE-RECORD in order (R115). `minuteOk`: the cast minute's presence byte is one (R170). -/
def placeChecks (c : Nat) (d : Desc) (acc : Nat) (minuteOk : Bool) : List Bool :=
  [ c < Config.cells,
    recordMarkOk d.mark,
    1 ≤ d.pour && d.pour ≤ 65535,
    1 ≤ d.origin && d.origin ≤ Config.beds,
    d.segment < Config.segments,
    1 ≤ d.weight && d.weight ≤ 7,
    d.release ≤ Config.targetMax,
    d.ship ≤ Config.targetMax,
    acc ≤ Config.accumulatorMax,
    minuteOk ]

/-- The top of a cell's stack is at least as heavy as a weight class (R115). -/
def State.carries (s : State) (c weight : Nat) : Bool :=
  match (s.cell c).stack.getLast? with
  | some m => weight ≤ (s.piece m).weight
  | none => true

/-- PLACE-RECORD at the stock unit (R115). -/
def State.placeRecord (s : State) (c : Nat) (d : Desc) (acc : Nat) (minuteOk : Bool) (castMinute : Option Nat) : Answer :=
  match firstBad (placeChecks c d acc minuteOk) with
  | some i => Answer.badField s i
  | none =>
    if s.cellInUse c = false then Answer.badField s 1
    else if acc < d.release * Config.unitsPerHour then Answer.badField s 9
    else if (s.cell c).direction ≠ .none then Answer.refuse s .inUse
    else if (s.cellLayout c).limit ≤ (s.cell c).stack.length then Answer.refuse s .full
    else if s.carries c d.weight = false then Answer.refuse s .weight
    else
      match s.lowestFree with
      | none => Answer.refuse s .full
      | some n =>
        Answer.done
          ((s.setCell c { s.cell c with stack := (s.cell c).stack ++ [n] }).setPiece n
            { state := .stock, desc := some d, accumulator := acc, suspect := 0, castMinute := castMinute,
              location := some (.cell c (s.cell c).stack.length), claim := none }).bumpGeneration
          (.slot n)

/-- PLACE_RECORD (R115). -/
def execPlaceRecord (h : Header) (body : List Nat) (s : State) : Outcome :=
  .next (s.request h .placeRecord body (placeBody fun c d acc minuteOk castMinute t => t.placeRecord c d acc minuteOk castMinute))

/-- REMOVE-RECORD at the stock unit (R116). -/
def State.removeRecord (s : State) (c n : Nat) : Answer :=
  if s.cellInUse c = false then Answer.badField s 1
  else if Config.slots ≤ n then Answer.badField s 2
  else if (s.cell c).direction ≠ .none then Answer.refuse s .inUse
  else
    match (s.cell c).stack.getLast? with
    | none => Answer.refuse s .notFound
    | some m =>
      if m ≠ n then Answer.refuse s .notFound (.slot m)
      else if (s.piece n).claim.isSome then Answer.refuse s .claimed
      else
        Answer.done
          ((s.setCell c { s.cell c with stack := (s.cell c).stack.dropLast }).freePiece n).bumpGeneration
          (.removed (s.piece n).mark (s.piece n).pour (s.piece n).weight (s.piece n).accumulator)

/-- REMOVE_RECORD (R116). -/
def execRemoveRecord (h : Header) (body : List Nat) (s : State) : Outcome :=
  .next (s.request h .removeRecord body (fields2 fun c n t => t.removeRecord c n))

/-! ## Walking the stock (R117) -/

/-- STOCK_SEEK (R117). -/
def execStockSeek (h : Header) (body : List Nat) (s : State) : Outcome :=
  .next (s.request h .stockSeek body (fields1 fun c t =>
    if c < Config.cells then Answer.done (t.setCursor (portPoint h.port) c) else Answer.badField t 1))

/-- A piece of a stack as STOCK-READ gives it. -/
def State.stackItem (s : State) (n : Nat) : StackItem :=
  let p := s.piece n
  { slot := n, mark := p.mark, weight := p.weight, releaseOk := p.releaseOk, shipOk := p.shipOk, claimed := p.claim.isSome }

/-- STOCK-READ data for a cell (R117). -/
def State.stockReply (s : State) (c : Nat) : StockReply :=
  { cell := c, inUse := s.cellInUse c, layout := s.cellLayout c, pendingIn := (s.cell c).arrivals.length,
    pendingOut := (s.cell c).pendingOut, direction := (s.cell c).direction,
    stack := (s.cell c).stack.map s.stackItem, generation := s.stk.generation }

/-- The cursor after a cursor: 0 after 47 (R117). -/
def nextCursor (c : Nat) : Nat := if c + 1 < Config.cells then c + 1 else 0

/-- STOCK_READ (R117). -/
def execStockRead (h : Header) (body : List Nat) (s : State) : Outcome :=
  .next (s.request h .stockRead body (noFields (fun t =>
    let p := portPoint h.port
    Answer.done (t.setCursor p (nextCursor (t.cursor p))) (.stock (t.stockReply (t.cursor p))))))

/-! ## PIECE-QUERY (R104, R63) -/

/-- The cell a piece lies in. -/
def Piece.cellOf (p : Piece) : Option Nat :=
  match p.location with
  | some (.cell c _) => some c
  | _ => none

/-- A published entry as a query gives it: its temperature if it is usable (R63). -/
def Published.shown (p : Published) : Published := ⟨p.state, p.usable⟩

/-- PIECE-QUERY data for a slot that is not FREE. -/
def State.pieceReply (s : State) (n : Nat) : PieceReply :=
  let p := s.piece n
  { slot := n, piece := p, releaseOk := p.releaseOk, shipOk := p.shipOk,
    source := (s.sourceOf p).map (fun c => (c, (s.published c).shown)),
    top := (p.cellOf.map (fun c => decide ((s.cell c).stack.getLast? = some n))).getD false,
    above := (p.cellOf.map (fun c => (above (s.cell c).stack n).length)).getD 0,
    unclaimedAbove := (p.cellOf.map (fun c => s.unclaimedAbove c n)).getD 0 }

/-- PIECE_QUERY (R104). -/
def execPieceQuery (h : Header) (body : List Nat) (s : State) : Outcome :=
  .next (s.request h .pieceQuery body (fields1 fun n t =>
    if Config.slots ≤ n then Answer.badField t 1
    else if (t.piece n).state = .free then Answer.done t (.freeSlot n)
    else Answer.done t (.piece (t.pieceReply n))))

end Sys2Proof.Machine
end

