-- ==== Sys2Proof/Machine/Runway.lean ====
section
/-! DEFINITION. Runway.lean: the runway reservation unit (chapter 8): intervals and separation, giving space back, standing
refusals and the deadlock pair, the checks of a grant, presence and breach. -/

namespace Sys2Proof.Machine

/-! ## Separation (R124) -/

/-- Separation of a west and an east interval with gap `g` (R124). -/
def separated (g : Nat) (w e : Range) : Bool := w.hi + g < e.lo

/-- Crane `x` holding or needing `mine` is separated from the other crane's `others`. -/
def clearOf (g : Nat) (x : Crane) (mine others : Range) : Bool :=
  match x with
  | .W => separated g mine others
  | .E => separated g others mine

/-- A range for crane `x` meets separation against the other crane's interval, if that holds one (R121, R123). -/
def State.clearFor (s : State) (x : Crane) (r : Range) : Bool :=
  match (s.crane x.other).interval with
  | some o => clearOf s.lyt.yard.gap x r o
  | none => true

/-! ## Giving space back (R129) -/

/-- A segment given back by crane `x` starts its vacate record; an interval of 0 starts none (R129). -/
def State.startVacate (x : Crane) (s : State) (n : Nat) : State :=
  if 0 < (s.segment n).vacate then s.setVacate n (some ⟨x, (s.segment n).vacate⟩) else s

/-- Crane `x` gives back the segments of `old` that are not in `new` (R128, R129). -/
def State.giveBack (s : State) (x : Crane) (old new : Range) : State :=
  (old.segments.filter (fun n => !new.has n)).foldl (State.startVacate x) s

/-- The interval of crane `x` becomes `r`, with nothing given back. -/
def State.setInterval (s : State) (x : Crane) (r : Range) : State :=
  s.setCrane x { s.crane x with interval := some r }

/-- The interval of crane `x` shrinks to `r`, and the segments that leave it are given back (R128). A shrink takes segments
away and gives none (R124), so a range that is not a part of the interval held shrinks nothing. -/
def State.shrinkTo (s : State) (x : Crane) (r : Range) : State :=
  match (s.crane x).interval with
  | some old => if r.within old then (s.giveBack x old r).setInterval x r else s
  | none => s

/-- A vacate record after a second tick (R129): counted down by 1, and removed at 0. -/
def Vacate.ticked : Option Vacate → Option Vacate
  | some v => if v.seconds ≤ 1 then none else some { v with seconds := v.seconds - 1 }
  | none => none

/-- Every vacate record counted down by a second tick (R129). -/
def State.tickVacates (s : State) : State :=
  { s with rru := { s.rru with vacates := Tab.mapAll none Config.segments (fun _ v => Vacate.ticked v) s.rru.vacates } }

/-- A segment is vacating from a crane (R120). -/
def State.vacatingFrom (s : State) (x : Crane) (n : Nat) : Bool :=
  match s.vacate n with
  | some v => v.releasing = x
  | none => false

/-! ## The deadlock pair (R135) -/

/-- A serial belongs to the deadlock pair. -/
def State.inDeadlock (s : State) (n : Nat) : Bool :=
  match s.rru.deadlock with
  | some (a, b) => a = n || b = some n
  | none => false

/-- The cause of the present pair ends, and the pair becomes *none* (R135). -/
def State.endDeadlock (s : State) : State :=
  match s.rru.deadlock with
  | some (a, _) =>
    ({ s with rru := { s.rru with deadlock := none } }).endCause [.PL, .CW, .CE] .deadlock (.serial a)
  | none => s

/-- The cause ends if the serial is of the pair. -/
def State.endDeadlockOf (s : State) (n : Nat) : State := if s.inDeadlock n then s.endDeadlock else s

/-- A wait that no yield can clear, by the serials of its waiting moves, the lower first (R135). -/
def State.postDeadlock (s : State) (low : Nat) (high : Option Nat) : State :=
  if s.inDeadlock low && (high.map s.inDeadlock).getD true then s
  else
    let t := s.endDeadlock
    ({ t with rru := { t.rru with deadlock := some (low, high) } }).raiseCause [.PL, .CW, .CE] .deadlock (.serial low)

/-! ## Standing refusals (R130) -/

/-- The standing refusal of crane `x` is withdrawn; a deadlock its move belongs to ends (R130, R135). -/
def State.withdraw (s : State) (x : Crane) : State :=
  match (s.crane x).refusal with
  | some r => (s.setCrane x { s.crane x with refusal := none }).endDeadlockOf r.serial
  | none => s

/-- The standing refusal of crane `x` is withdrawn if it names the move. -/
def State.withdrawOf (s : State) (x : Crane) (serial : Nat) : State :=
  if ((s.crane x).refusal.map Refused.serial) = some serial then s.withdraw x else s

/-- The standing refusal of crane `x` is withdrawn if it names another move (R150). -/
def State.withdrawOther (s : State) (x : Crane) (serial : Nat) : State :=
  match (s.crane x).refusal with
  | some r => if r.serial = serial then s else s.withdraw x
  | none => s

/-- A refused request sets the standing refusal (R130). -/
def State.setRefusal (s : State) (x : Crane) (r : Refused) : State :=
  let t := s.withdrawOther x r.serial
  t.setCrane x { t.crane x with refusal := some r }

/-! ## Grants (R125 to R128) -/

/-- The pick and place hull of a move (R125). A move without a pick segment has its place segment alone. -/
def Move.hull (m : Move) : Range := Range.hull (m.pick.getD m.place) m.place

/-- The target segment of a leg. -/
def Move.target (m : Move) : Leg → Nat
  | .pick => m.pick.getD m.place
  | .place => m.place
  | .park => m.place

/-- The need of a request, from the interval held (R126). -/
def needOf (held : Range) (m : Move) (leg : Leg) : Range :=
  if m.style = .atomic && leg = .pick then ⟨min held.lo m.hull.lo, max held.hi m.hull.hi⟩
  else ⟨min held.lo (m.target leg), max held.hi (m.target leg)⟩

/-- A carry hull widened by the gap on the side of crane `x` (R125). -/
def widen (g : Nat) (x : Crane) (r : Range) : Range :=
  match x with
  | .W => ⟨r.lo - g, r.hi⟩
  | .E => ⟨r.lo, r.hi + g⟩

/-- The loaded-conflict check refuses the pick leg (R125). -/
def State.loadedConflict (s : State) (x : Crane) (m : Move) (leg : Leg) : Bool :=
  leg = .pick && m.style ≠ .atomic &&
    (match (s.crane x.other).hull with
     | some h => (widen s.lyt.yard.gap x h).overlaps m.hull
     | none => false)

/-- The outcome of the runway unit's checks (R127): granted with the interval that becomes the crane's, or refused. -/
inductive Verdict
  | granted (r : Range)
  | refused (reason : WaitReason) (need : Option Range)
deriving DecidableEq, Repr

/-- The checks of R127, in order. -/
def State.runwayVerdict (s : State) (x : Crane) (m : Move) (leg : Leg) : Verdict :=
  match (s.crane x).interval with
  | none => .refused .crane none
  | some held =>
    let need := needOf held m leg
    if (s.crane x).presence ≠ .active then .refused .crane (some need)
    else if s.rru.breach.isSome then .refused .crane (some need)
    else
      match (s.crane x.other).interval with
      | none => .refused .crane (some need)
      | some others =>
        if s.loadedConflict x m leg then .refused .loadedConflict (some need)
        else if clearOf s.lyt.yard.gap x need others = false then .refused .runway (some need)
        else if (need.segments.filter (fun n => !held.has n)).any (s.vacatingFrom x.other) then
          .refused .vacate (some need)
        else .granted need

/-- A crane takes back a segment it gave back: its vacate record is removed (R128). -/
def State.takeBack (x : Crane) (s : State) (n : Nat) : State := if s.vacatingFrom x n then s.setVacate n none else s

/-- A grant at the runway unit (R128): the need becomes the interval, the crane's own vacate records on it are removed, its
standing refusal becomes *none*, and a deadlock of the move ends (R135). -/
def State.grantInterval (s : State) (x : Crane) (serial : Nat) (need : Range) : State :=
  let added := match (s.crane x).interval with
    | some held => need.segments.filter (fun n => !held.has n)
    | none => need.segments
  let t := added.foldl (State.takeBack x) s
  (t.setCrane x { t.crane x with interval := some need, refusal := none }).endDeadlockOf serial

/-- The yield target of crane `c` for a need, if it lies within 0 to 31 (R132). -/
def yieldTarget (g : Nat) (c : Crane) (need : Range) : Option Nat :=
  match c with
  | .E => if need.hi + g + 1 < Config.segments then some (need.hi + g + 1) else none
  | .W => if g + 1 ≤ need.lo then some (need.lo - g - 1) else none

/-! ## Presence (R121, R122) -/

/-- The port of the other crane's controller, where CRANE-STALE of a crane is posted beside PL (R122). -/
def stalePorts (x : Crane) : List Point := [.PL, cranePoint x.other]

/-- The presence timer of a crane at a second tick (R122). -/
def State.tickPresence (s : State) (x : Crane) : State :=
  let r := s.crane x
  if r.presence = .active then
    match r.timer with
    | some n =>
      if n ≤ 1 then
        (s.setCrane x { r with presence := .stale, timer := none }).raiseCause (stalePorts x) .craneStale (.crane x)
      else s.setCrane x { r with timer := some (n - 1) }
    | none => s
  else s

/-- The runway unit's part of a second tick: the presence timers, W before E, then the vacate records (R122, R129). -/
def State.runwayTick (s : State) : State := ((s.tickPresence .W).tickPresence .E).tickVacates

/-- Steps 2 and 3 of R121: presence, the timer, position and hook. -/
def State.seen (s : State) (x : Crane) (n : Nat) (hook : Hook) : State :=
  let r := s.crane x
  let r' : CraneRec := { r with position := some n, hook := some hook }
  match r.presence with
  | .out => s.setCrane x r'
  | .active => s.setCrane x { r' with timer := some (s.presenceTimeout x) }
  | .unseen => s.setCrane x { r' with presence := .active, timer := some (s.presenceTimeout x) }
  | .stale =>
    (s.setCrane x { r' with presence := .active, timer := some (s.presenceTimeout x) }).endCause (stalePorts x)
      .craneStale (.crane x)

/-- Step 4 of R121: an ACTIVE crane with no interval takes its first one where separation allows it. -/
def State.firstInterval (s : State) (x : Crane) (n : Nat) : State :=
  if (s.crane x).presence = .active && (s.crane x).interval.isNone && s.clearFor x (Range.point n) then
    s.setInterval x (Range.point n)
  else s

/-- A reported segment lies inside the crane's interval; a crane with none is outside (R136). -/
def State.insideInterval (s : State) (x : Crane) (n : Nat) : Bool :=
  ((s.crane x).interval.map (fun r => r.has n)).getD false

/-- A breach counted, and latched and posted if the latch is CLEAR (R136). -/
def State.breached (s : State) (x : Crane) : State :=
  let t := { s with rru := { s.rru with breachCount := holdAt Config.countMax s.rru.breachCount } }
  if s.rru.breach.isSome then t
  else ({ t with rru := { t.rru with breach := some x } }).raiseCause [.PL, .CW, .CE] .breach (.crane x)

/-- The breach test (R136). -/
def State.breachTest (s : State) (x : Crane) (n : Nat) : State :=
  if s.insideInterval x n then s.setCrane x { s.crane x with outside := false }
  else if (s.crane x).outside then s
  else (s.setCrane x { s.crane x with outside := true }).breached x

/-- Steps 2 to 5 of R121 for a valid report. -/
def State.runwayReport (s : State) (x : Crane) (n : Nat) (hook : Hook) : State :=
  ((s.seen x n hook).firstInterval x n).breachTest x n

/-- OUT-OF-SERVICE is taken: ACTIVE, and the report lies inside the interval (R122). -/
def State.takesOut (s : State) (x : Crane) (n : Nat) : Bool :=
  (s.crane x).presence = .active && s.insideInterval x n

/-- IN-SERVICE is taken: OUT, and the report's segment is the parked segment (R122). -/
def State.takesIn (s : State) (x : Crane) (n : Nat) : Bool :=
  (s.crane x).presence = .out && (s.crane x).interval = some (Range.point n)

/-- The crane becomes OUT at its reported segment (R122). -/
def State.goOut (s : State) (x : Crane) (n : Nat) : State :=
  let t := s.shrinkTo x (Range.point n)
  t.setCrane x { t.crane x with presence := .out, timer := none }

/-- The crane becomes ACTIVE again (R122). -/
def State.goIn (s : State) (x : Crane) : State :=
  s.setCrane x { s.crane x with presence := .active, timer := some (s.presenceTimeout x) }

/-! ## BREACH-CLEAR (R137) -/

/-- A crane that holds a position stands inside its interval (R137). -/
def State.breachOk (s : State) (x : Crane) : Bool :=
  match (s.crane x).position with
  | some n => s.insideInterval x n
  | none => true

/-- BREACH-CLEAR at the runway unit (R137). -/
def State.clearBreach (s : State) : Answer :=
  match s.rru.breach with
  | none => Answer.refuse s .state
  | some c =>
    if s.breachOk .W = false then Answer.refuse s .active (.crane .W)
    else if s.breachOk .E = false then Answer.refuse s .active (.crane .E)
    else Answer.done (({ s with rru := { s.rru with breach := none } }).endCause [.PL, .CW, .CE] .breach (.crane c))

/-- BREACH_CLEAR (R137). -/
def execBreachClear (h : Header) (body : List Nat) (s : State) : Outcome :=
  .next (s.request h .breachClear body (noFields State.clearBreach))

end Sys2Proof.Machine
end

