-- ==== Sys2Proof/Machine/Moves.lean ====
section
/-! DEFINITION. Moves.lean: the move unit's table and queues (chapter 9): what a crane works on, how a move ends, yields
and suspension, the lane, and the planner's requests. The crane's reports are in Reports.lean. -/

namespace Sys2Proof.Machine

/-! ## The table (R141 to R143) -/

/-- The yield record of a crane (R141). -/
def yieldSlot : Crane → Nat
  | .W => 16
  | .E => 17

/-- A move with a leg under way or its piece on the hook: TO-PICK or LIFTED (R148). -/
def Move.underWay (m : Move) : Bool :=
  match m.state with
  | .toPick => true
  | .lifted _ => true
  | .queued => false
  | .waiting => false
  | .suspended => false

/-- A move that has its piece on the hook. -/
def Move.isLifted (m : Move) : Bool :=
  match m.state with
  | .lifted _ => true
  | .queued => false
  | .waiting => false
  | .toPick => false
  | .suspended => false

/-- QUEUED or WAITING. -/
def Move.standing (m : Move) : Bool := m.state = .queued || m.state = .waiting

/-- The lane kinds (R148). -/
def MoveKind.lane : MoveKind → Bool
  | .loadOut => true
  | .restack => true
  | .park => true
  | .strip => false
  | .setDown => false

/-- The lowest slot of the table below `n` that holds a move with a property. -/
def State.findSlot (s : State) (n : Nat) (f : Move → Bool) : Option Nat :=
  (List.range n).find? (fun i => ((s.move i).map f).getD false)

/-- The slot of the crane's move in TO-PICK or LIFTED (R148, step 1). -/
def State.activeSlot (s : State) (x : Crane) : Option Nat :=
  s.findSlot Config.tableSlots (fun m => m.crane = x && m.underWay)

/-- The crane's yield, if live (R148, step 2). -/
def State.yieldMove (s : State) (x : Crane) : Option Move := s.move (yieldSlot x)

/-- The slot of a live move by its serial. -/
def State.slotOf (s : State) (serial : Nat) : Option Nat :=
  s.findSlot Config.tableSlots (fun m => m.serial = serial)

/-- The lowest-numbered empty slot from 0 to 15 (R146). -/
def State.emptySlot (s : State) : Option Nat :=
  (List.range Config.moveSlots).find? (fun i => (s.move i).isNone)

/-- The position of a piece in its bed's plan list, from 1 (R143). -/
def State.planPosition (s : State) (b n : Nat) : Nat := (s.bed b).planSlots.idxOf n + 1

/-- The detail of a leg's GO order (R143). -/
def State.detail (s : State) (m : Move) : Leg → Detail
  | .pick =>
    match m.source with
    | some (.bed b) => .bed b (s.planPosition b (m.piece.getD 0))
    | some (.cell c) => .cell c
    | none => .none
  | .place =>
    match m.dest with
    | .cell c => .cell c
    | .bay b => .bay b
    | .segment _ => .none
  | .park => .none

/-- The granted leg of a move (R151). -/
def Move.granted (m : Move) : Option Leg :=
  match m.state with
  | .toPick => some (if m.kind = .park then .park else .pick)
  | .lifted .toPlace => some .place
  | .lifted .waitPlace => none
  | .queued => none
  | .waiting => none
  | .suspended => none

/-- The leg a move has still to be granted (R150). A SET-DOWN asks for no grant before it is LIFTED. -/
def Move.legToAsk (m : Move) : Option Leg :=
  match m.state with
  | .queued | .waiting =>
    match m.kind with
    | .park => some .park
    | .setDown => none
    | .strip | .restack | .loadOut => some .pick
  | .lifted .waitPlace => some .place
  | .lifted .toPlace => none
  | .toPick => none
  | .suspended => none

/-! ## The queue (R146 to R148) -/

/-- A queue without the barriers that have nothing before them (R147). -/
def leadOff : List Entry → List Entry
  | .barrier :: rest => leadOff rest
  | .move n :: rest => .move n :: rest
  | [] => []

/-- A queue after the entry of a slot has left it (R147, R159). -/
def leaveQueue (slot : Nat) (q : List Entry) : List Entry := leadOff (q.filter (fun e => e ≠ .move slot))

/-- A move stands with a state and a wait reason; the standing refusal that names it is withdrawn (R130). -/
def State.setAside (s : State) (slot : Nat) (m : Move) (st : MoveState) (why : Option WaitReason) : State :=
  (s.setMove slot (some { m with state := st, reason := why })).withdrawOf m.crane m.serial

/-- The examination of a queue from its head (R148). `barrier`: one has been passed. `found`: the head candidate has been
found, and what follows it is made QUEUED. The state it leaves, and the head candidate. -/
def State.examine (x : Crane) : List Entry → Bool → Option Nat → State → State × Option Nat
  | [], _, found, s => (s, found)
  | .barrier :: rest, _, found, s => State.examine x rest true found s
  | .move slot :: rest, barrier, found, s =>
    match s.move slot with
    | none => State.examine x rest barrier found s
    | some m =>
      if found.isSome then
        State.examine x rest barrier found (if m.standing then s.setAside slot m .queued none else s)
      else if m.state = .suspended then State.examine x rest barrier found s
      else if barrier then State.examine x rest barrier found (s.setAside slot m .waiting (some .barrier))
      else if (s.work x).lane ≠ .none && m.kind.lane = false && m.kind ≠ .setDown then
        State.examine x rest barrier found (s.setAside slot m .waiting (some .lane))
      else State.examine x rest barrier (some slot) s

/-- The head candidate as the queue now stands. -/
def State.candidate (s : State) (x : Crane) : Option Nat := (State.examine x (s.work x).queue false none s).2

/-- The crane's current work (R148), and the state the examination of its queue leaves. -/
def State.findWork (s : State) (x : Crane) : State × Option Nat :=
  match s.activeSlot x with
  | some n => (s, some n)
  | none => if (s.yieldMove x).isSome then (s, some (yieldSlot x)) else State.examine x (s.work x).queue false none s

/-- The head of a crane's work, with nothing changed (R131, R134; log entry 23). -/
def State.headSlot (s : State) (x : Crane) : Option Nat :=
  match s.activeSlot x with
  | some n => some n
  | none => if (s.yieldMove x).isSome then some (yieldSlot x) else s.candidate x

/-! ## The lane (R149) -/

/-- A submitted move of the crane in TO-PICK or LIFTED that is not of a lane kind (R149). -/
def State.laneBlocked (s : State) (x : Crane) : Bool :=
  (s.findSlot Config.moveSlots (fun m => m.crane = x && m.underWay && m.kind.lane = false)).isSome

/-- The lane becomes ACTIVE, and LANE-ACTIVE is posted (R149). -/
def State.laneOn (s : State) (x : Crane) : State :=
  (s.setWork x { s.work x with lane := .active }).postEvent .PL .laneActive (.crane x)

/-- A PENDING lane becomes ACTIVE once no such move stands (R149). -/
def State.laneSettle (s : State) (x : Crane) : State :=
  if (s.work x).lane = .pending && s.laneBlocked x = false then s.laneOn x else s

/-! ## The end of a move (R157, R159) -/

/-- A SUSPENDED move of the crane resumes (R157; its slot by slot). -/
def State.resumeSlot (x : Crane) (s : State) (slot : Nat) : State :=
  match s.move slot with
  | some m =>
    if m.crane = x && m.state = .suspended then s.setMove slot (some { m with state := .waiting, reason := none }) else s
  | none => s

/-- The crane's SUSPENDED move resumes (R157). -/
def State.resume (s : State) (x : Crane) : State := (List.range Config.moveSlots).foldl (State.resumeSlot x) s

/-- The claim and the reservations of a move released at its end (R103, R108, R159). A DONE move has consumed its
reservations. -/
def State.releaseMove (s : State) (m : Move) (e : Ending) : State :=
  match m.piece with
  | some n =>
    match e with
    | .done => s.setClaim n none
    | .cancelled => ((s.releaseDest n m.dest).releaseSource m.source).setClaim n none
    | .failed => ((s.releaseDest n m.dest).releaseSource m.source).setClaim n none
  | none => s

/-- The posting of a move's end (R159). -/
def State.postEnd (s : State) (serial : Nat) (e : Ending) (fromPart : Bool) : State :=
  match e with
  | .done => s.postEvent .PL .moveDone (.serial serial)
  | .failed => s.postEvent .PL .moveFailed (.serial serial)
  | .cancelled => if fromPart then s.postEvent .PL .moveCancelled (.serial serial) else s

/-- The crane's carry hull becomes *none* at the end of its LIFTED move (R125, R159). -/
def State.dropHull (s : State) (m : Move) : State :=
  if m.isLifted then s.setCrane m.crane { s.crane m.crane with hull := none } else s

/-- A live move reaches a terminal state and leaves the table (R159). `fromPart`: a cancel by the part (R160). -/
def State.endMove (s : State) (slot : Nat) (e : Ending) (fromPart : Bool) : State :=
  match s.move slot with
  | none => s
  | some m =>
    let x := m.crane
    let t := (s.releaseMove m e).setMove slot none
    let t := t.setWork x { t.work x with queue := leaveQueue slot (t.work x).queue }
    let t := ((t.withdrawOf x m.serial).dropHull m).laneSettle x
    let t := if slot = yieldSlot x then t.resume x else t
    t.postEnd m.serial e fromPart

/-! ## Yields and suspension (R157) -/

/-- A stop with purpose SUSPEND set on a move in TO-PICK (R157). A stop for a CANCEL stands (log entry 20). -/
def stopToSuspend : Stop → Stop
  | .none => .owed .suspend
  | .owed .suspend => .owed .suspend
  | .sent .suspend => .owed .suspend
  | .owed .cancel => .owed .cancel
  | .sent .cancel => .sent .cancel

/-- The head move of a yielding crane is suspended, or is to be (R157, step 1). -/
def State.suspendMove (s : State) (slot : Nat) : State :=
  match s.move slot with
  | some m =>
    if m.standing then s.setAside slot m .suspended m.reason
    else if m.state = .toPick then
      (s.setMove slot (some { m with stop := stopToSuspend m.stop })).withdrawOf m.crane m.serial
    else s
  | none => s

/-- The serial counter's value is taken (R142). -/
def State.takeSerial (s : State) : State := { s with mvu := { s.mvu with serial := nextSerial s.mvu.serial } }

/-- A yield is created in the crane's yield record (R157, step 2). -/
def State.createYield (s : State) (x : Crane) (target : Nat) : State :=
  (s.setMove (yieldSlot x) (some
    { serial := s.mvu.serial, crane := x, kind := .park, style := .normal, suspendable := false, piece := none,
      source := none, dest := .segment target, pick := none, place := target, state := .waiting, reason := none,
      stop := .none, origin := .generated })).takeSerial

/-- A yield called for a crane, with the slot of the head move to be suspended, if one is (R157). -/
def State.callYield (s : State) (x : Crane) (target : Nat) (suspend : Option Nat) : State :=
  match suspend with
  | some slot => (s.suspendMove slot).createYield x target
  | none => s.createYield x target

/-! ## Mutual waits (R131 to R135) -/

/-- The yield target of a crane for a need, if the crane can yield with the head move in `slot`: suspendable, not LIFTED, not
a yield, no live yield, target in range (R131). -/
def State.yieldFor (s : State) (x : Crane) (slot : Option Nat) (need : Range) : Option Nat :=
  match slot with
  | some n =>
    match s.move n with
    | some m =>
      if m.suspendable && m.isLifted = false && n < Config.moveSlots && (s.yieldMove x).isNone then
        yieldTarget s.lyt.yard.gap x need
      else none
    | none => none
  | none => none

/-- The wait of crane `x` with the move of serial `mine` and need `need`, if the other crane waits RUNWAY on `x` (R131): the
lower serial wins; the loser yields, or else the winner, or else the wait is a deadlock. -/
def State.mutualWait (s : State) (x : Crane) (mine : Nat) (need : Range) : State :=
  match (s.crane x.other).refusal, (s.crane x).interval with
  | some r, some held =>
    match r.reason, r.need with
    | .runway, some theirs =>
      if clearOf s.lyt.yard.gap x.other theirs held then s
      else
        let otherYields := s.yieldFor x.other (s.slotOf r.serial) need
        let selfYields := s.yieldFor x (s.slotOf mine) theirs
        let yieldOther := fun (t : Nat) => s.callYield x.other t (s.slotOf r.serial)
        let yieldSelf := fun (t : Nat) => s.callYield x t (s.slotOf mine)
        let stuck := s.postDeadlock (min mine r.serial) (some (max mine r.serial))
        if mine < r.serial then
          match otherYields, selfYields with
          | some t, _ => yieldOther t
          | none, some t => yieldSelf t
          | none, none => stuck
        else
          match selfYields, otherYields with
          | some t, _ => yieldSelf t
          | none, some t => yieldOther t
          | none, none => stuck
    | _, _ => s
  | _, _ => s

/-- A crane is idle (R133). -/
def State.idle (s : State) (x : Crane) : Bool :=
  (s.findSlot Config.moveSlots (fun m => m.crane = x)).isNone && (s.yieldMove x).isNone
    && (s.crane x).presence = .active && (s.work x).orphan.isNone

/-- What the runway unit does at a refusal of crane `x`'s head move (R131, R133, R134). -/
def State.resolveRefusal (s : State) (x : Crane) (m : Move) (reason : WaitReason) (need : Range) : State :=
  match reason with
  | .runway =>
    if s.idle x.other then
      match yieldTarget s.lyt.yard.gap x.other need with
      | some t => s.callYield x.other t none
      | none => s.postDeadlock m.serial none
    else if m.style = .preempt then
      match s.yieldFor x.other (s.headSlot x.other) need with
      | some t => s.callYield x.other t (s.headSlot x.other)
      | none => s.mutualWait x m.serial need
    else s.mutualWait x m.serial need
  | .loadedConflict => s.mutualWait x m.serial need
  | _ => s

/-! ## Asking for a grant (R150) -/

/-- Gates 1 to 3 (R150). -/
def State.gateRefusal (s : State) (m : Move) (leg : Leg) : Option WaitReason :=
  let n := m.piece.getD 0
  let bedShut := leg = .pick && (match m.source with | some (.bed b) => !s.allowsStrip b | _ => false)
  let weak := leg = .pick && m.kind = .loadOut && !(s.piece n).shipOk
  let asksStock := leg = .pick || (leg = .place && m.kind = .setDown)
  if bedShut then some .bed
  else if weak then some .strength
  else if asksStock && !s.stockAnswers m.source m.dest n then some .buried
  else none

/-- A refused move waits, or stays LIFTED in WAIT-PLACE, with the reason (R150). -/
def Move.refused (m : Move) (why : WaitReason) : Move :=
  { m with state := (if m.isLifted then m.state else .waiting), reason := some why }

/-- A granted move (R150). -/
def Move.go (m : Move) : Move :=
  { m with state := (if m.isLifted then .lifted .toPlace else .toPick), reason := none }

/-- A leg is asked for (R150): the gates, then the runway unit, with what a refusal calls for (R130 to R135). -/
def State.askLeg (s : State) (x : Crane) (slot : Nat) (m : Move) (leg : Leg) : State :=
  match s.gateRefusal m leg with
  | some why => (s.setMove slot (some (m.refused why))).withdrawOther x m.serial
  | none =>
    match s.runwayVerdict x m leg with
    | .granted need => (s.setMove slot (some m.go)).grantInterval x m.serial need
    | .refused why need =>
      let t := (s.setMove slot (some (m.refused why))).setRefusal x ⟨m.serial, why, need⟩
      match need with
      | some r => t.resolveRefusal x m why r
      | none => t

/-! ## MOVE-SUBMIT (R144 to R146) -/

/-- The kind a code names (section 10.6). -/
def moveKindOf : Nat → MoveKind
  | 0 => .strip
  | 1 => .restack
  | 2 => .loadOut
  | 3 => .park
  | _ => .setDown

/-- The style a code names (section 10.6). -/
def styleOf : Nat → Style
  | 0 => .normal
  | 1 => .atomic
  | _ => .preempt

/-- The crane a code names (section 10.6). -/
def craneOf : Nat → Crane
  | 0 => .W
  | _ => .E

/-- The value of an absent optional byte (R170, section 10.6). -/
def absent : Nat := 255

/-- The source type code a kind requires (R143, section 10.6). -/
def sourceTypeOf : MoveKind → Nat
  | .strip => 1
  | .restack => 2
  | .loadOut => 2
  | .park => absent
  | .setDown => absent

/-- The destination type code a kind requires (R143, section 10.6). -/
def destTypeOf : MoveKind → Nat
  | .strip => 1
  | .restack => 1
  | .setDown => 1
  | .loadOut => 2
  | .park => 3

/-- A style is allowed for a kind (R144). -/
def styleOk : MoveKind → Style → Bool
  | .setDown, st => st = .normal
  | .park, st => st ≠ .atomic
  | _, _ => true

/-- The nine fields in order (R144). -/
def State.moveChecks (s : State) (f : MoveFields) : List Bool :=
  let k := moveKindOf f.kind
  [ f.crane ≤ 1,
    f.kind ≤ 4,
    f.style ≤ 2 && styleOk k (styleOf f.style),
    f.suspendable ≤ 1,
    if k = .park then f.piece = absent else f.piece < Config.slots,
    f.sourceType = sourceTypeOf k,
    (match k with
     | .strip => s.bedConfigured f.sourceNum
     | .restack | .loadOut => f.sourceNum < Config.cells
     | .park | .setDown => f.sourceNum = absent),
    f.destType = destTypeOf k,
    (match k with
     | .strip | .setDown => s.cellInUse f.destNum
     | .restack => s.cellInUse f.destNum && f.destNum ≠ f.sourceNum
     | .loadOut => s.bayConfigured f.destNum
     | .park => f.destNum < Config.segments) ]

/-- The source a request names (R143). -/
def sourceOfFields (f : MoveFields) : Option Source :=
  match moveKindOf f.kind with
  | .strip => some (.bed f.sourceNum)
  | .restack => some (.cell f.sourceNum)
  | .loadOut => some (.cell f.sourceNum)
  | .park => none
  | .setDown => none

/-- The destination a request names (R143). -/
def destOfFields (f : MoveFields) : Dest :=
  match moveKindOf f.kind with
  | .strip => .cell f.destNum
  | .restack => .cell f.destNum
  | .setDown => .cell f.destNum
  | .loadOut => .bay f.destNum
  | .park => .segment f.destNum

/-- The piece a request names (R143). -/
def pieceOfFields (f : MoveFields) : Option Nat := if moveKindOf f.kind = .park then none else some f.piece

/-- The pick segment fixed at acceptance (R143). -/
def State.pickSegment (s : State) (f : MoveFields) : Option Nat :=
  match moveKindOf f.kind with
  | .strip => some (s.piece f.piece).segment
  | .restack => (s.cellLayout f.sourceNum).segment
  | .loadOut => (s.cellLayout f.sourceNum).segment
  | .park => none
  | .setDown => none

/-- The place segment fixed at acceptance (R143). -/
def State.placeSegment (s : State) (f : MoveFields) : Nat :=
  match destOfFields f with
  | .cell c => ((s.cellLayout c).segment).getD 0
  | .bay b => ((s.bayLayout b).segment).getD 0
  | .segment n => n

/-- The record a request makes (R146, steps 1 and 2). PREEMPT and SET-DOWN are stored not suspendable (R143). -/
def State.newMove (s : State) (f : MoveFields) : Move :=
  { serial := s.mvu.serial, crane := craneOf f.crane, kind := moveKindOf f.kind, style := styleOf f.style,
    suspendable := f.suspendable = 1 && styleOf f.style ≠ .preempt && moveKindOf f.kind ≠ .setDown,
    piece := pieceOfFields f, source := sourceOfFields f, dest := destOfFields f,
    pick := s.pickSegment f, place := s.placeSegment f, state := .queued, reason := none, stop := .none,
    origin := .planner }

/-- Check 5 of R145: the source bed's state. -/
def State.sourceBedRefusal (s : State) : Option Source → Option Reply
  | some (.bed b) =>
    match (s.bed b).state with
    | .empty => some { result := .state, data := .bedState .empty }
    | .setup => some { result := .state, data := .bedState .setup }
    | .casting => some { result := .state, data := .bedState .casting }
    | _ => none
  | _ => none

/-- The checks of R145, in order. -/
def State.submitRefusal (s : State) (m : Move) : Option Reply :=
  firstRefusal
    [ if s.emptySlot.isSome && (s.work m.crane).queue.length < Config.queueMax then none else some { result := .full },
      if m.style = .preempt && (s.findSlot Config.moveSlots (fun o => o.crane = m.crane && o.style = .preempt)).isSome then
        some { result := .full }
      else none,
      (match (s.work m.crane).orphan with
       | some n => if m.kind = .setDown && m.piece = some n then none else some { result := .state, data := .slot n }
       | none => none),
      (match m.piece with
       | some n => (s.piece n).claim.map (fun c => { result := .claimed, data := .serial c })
       | none => none),
      s.sourceBedRefusal m.source,
      (match m.piece with
       | some n => s.stockRefusal m.crane m.source m.dest n
       | none => none) ]

/-- A PREEMPT placed at the head passes over the crane's waiting head move: it becomes QUEUED, and its standing refusal is
withdrawn (R146). A move in TO-PICK or LIFTED, and a live yield, are not passed over. -/
def State.passOver (s : State) (x : Crane) : State :=
  match s.headSlot x with
  | some n =>
    match s.move n with
    | some m => if m.state = .waiting && n < Config.moveSlots then s.setAside n m .queued none else s
    | none => s
  | none => s

/-- The claim and the reservations of an accepted move (R146, step 3). -/
def State.reserveMove (s : State) (m : Move) : State :=
  match m.piece with
  | some n => ((s.setClaim n (some m.serial)).reserveDest n m.dest).reserveSource m.source
  | none => s

/-- The move enters its crane's queue (R146, step 4). -/
def State.enqueue (s : State) (m : Move) (slot : Nat) : State :=
  if m.style = .preempt then
    let t := s.passOver m.crane
    t.setWork m.crane { t.work m.crane with queue := .move slot :: (t.work m.crane).queue }
  else s.setWork m.crane { s.work m.crane with queue := (s.work m.crane).queue ++ [.move slot] }

/-- MOVE-SUBMIT at the move unit (R144 to R146). -/
def State.submitMove (s : State) (f : MoveFields) : Answer :=
  match firstBad (s.moveChecks f) with
  | some n => Answer.badField s n
  | none =>
    let m := s.newMove f
    match s.submitRefusal m with
    | some r => (s, r)
    | none =>
      match s.emptySlot with
      | some slot =>
        Answer.done (((s.takeSerial.setMove slot (some m)).reserveMove m).enqueue m slot) (.accepted m.serial slot)
      | none => Answer.refuse s .full

/-- MOVE_SUBMIT (R144 to R146). -/
def execMoveSubmit (h : Header) (body : List Nat) (s : State) : Outcome :=
  .next (s.request h .moveSubmit body (moveBody fun f t => t.submitMove f))

/-! ## MOVE-CANCEL (R158) -/

/-- MOVE-CANCEL at the move unit (R158). -/
def State.cancelMove (s : State) (serial : Nat) : Answer :=
  match s.slotOf serial with
  | none => Answer.refuse s .notFound
  | some slot =>
    match s.move slot with
    | none => Answer.refuse s .notFound
    | some m =>
      match m.state with
      | .lifted _ => Answer.refuse s .loaded
      | .toPick =>
        match m.stop with
        | .owed .cancel => Answer.done s (.cancel true)
        | .sent .cancel => Answer.done s (.cancel true)
        | .none | .owed .suspend | .sent .suspend =>
          Answer.done (s.setMove slot (some { m with stop := .owed .cancel })) (.cancel true)
      | .queued | .waiting | .suspended => Answer.done (s.endMove slot .cancelled false) (.cancel false)

/-- MOVE_CANCEL (R158). -/
def execMoveCancel (h : Header) (body : List Nat) (s : State) : Outcome :=
  .next (s.request h .moveCancel body (fieldWord4 fun serial t => t.cancelMove serial))

/-! ## BARRIER and the lane (R147, R149) -/

/-- BARRIER at the move unit (R147). -/
def State.putBarrier (x : Crane) (s : State) : Answer :=
  let w := s.work x
  if Config.queueMax ≤ w.queue.length then Answer.refuse s .full
  else if w.queue.isEmpty then Answer.done s
  else Answer.done (s.setWork x { w with queue := w.queue ++ [.barrier] })

/-- BARRIER (R147). -/
def execBarrier (h : Header) (body : List Nat) (s : State) : Outcome :=
  .next (s.request h .barrier body (fieldCrane State.putBarrier))

/-- LANE-REQUEST at the move unit (R149). -/
def State.requestLane (x : Crane) (s : State) : Answer :=
  if (s.work x).lane ≠ .none then Answer.refuse s .state
  else if s.laneBlocked x then Answer.done (s.setWork x { s.work x with lane := .pending }) (.lane .pending)
  else Answer.done (s.laneOn x) (.lane .active)

/-- LANE_REQUEST (R149). -/
def execLaneRequest (h : Header) (body : List Nat) (s : State) : Outcome :=
  .next (s.request h .laneRequest body (fieldCrane State.requestLane))

/-- LANE-RELEASE at the move unit (R149). -/
def State.releaseLane (x : Crane) (s : State) : Answer :=
  if (s.work x).lane = .none then Answer.refuse s .state
  else Answer.done (s.setWork x { s.work x with lane := .none })

/-- LANE_RELEASE (R149). -/
def execLaneRelease (h : Header) (body : List Nat) (s : State) : Outcome :=
  .next (s.request h .laneRelease body (fieldCrane State.releaseLane))

/-! ## A crane that becomes OUT (R160, R123) -/

/-- The TO-PICK move of a crane that becomes OUT (R160). -/
def State.outToPick (s : State) (x : Crane) (slot : Nat) (m : Move) : State :=
  match m.stop with
  | .none => (s.setMove slot (some { m with state := .waiting, reason := some .crane })).laneSettle x
  | .owed .cancel | .sent .cancel => s.endMove slot .cancelled false
  | .owed .suspend | .sent .suspend =>
    (s.setMove slot (some { m with state := .suspended, stop := .none })).laneSettle x

/-- What becomes of a crane's moves when it becomes OUT (R160): its yield is cancelled by the part, then its move under way
loses its grant. -/
def State.craneOut (s : State) (x : Crane) : State :=
  let t := s.endMove (yieldSlot x) .cancelled true
  match t.activeSlot x with
  | some slot =>
    match t.move slot with
    | some m =>
      match m.state with
      | .toPick => t.outToPick x slot m
      | .lifted _ => t.setMove slot (some { m with state := .lifted .waitPlace })
      | .queued | .waiting | .suspended => t
    | none => t
  | none => t

/-- The park segment of an UNSEEN crane, or of a STALE one with no interval, meets separation and is not vacating from the
other crane (R123). -/
def State.parkFree (s : State) (x : Crane) (n : Nat) : Bool :=
  s.clearFor x (Range.point n) && !s.vacatingFrom x.other n

/-- The crane is declared out at a segment (R123, R160). -/
def State.declareAt (s : State) (x : Crane) (n : Nat) : State :=
  let wasStale := (s.crane x).presence = .stale
  let t := (s.shrinkTo x (Range.point n)).setInterval x (Range.point n)
  let t := t.setCrane x { t.crane x with presence := .out, position := some n, outside := false, timer := none }
  let t := if wasStale then t.endCause (stalePorts x) .craneStale (.crane x) else t
  t.craneOut x

/-- DECLARE-OUT at the runway unit (R123). -/
def State.declareOut (n : Nat) (x : Crane) (s : State) : Answer :=
  if Config.segments ≤ n then Answer.badField s 2
  else
    match (s.crane x).presence with
    | .active => Answer.refuse s .state (.presence .active)
    | .out => Answer.refuse s .state (.presence .out)
    | .unseen => if s.parkFree x n then Answer.done (s.declareAt x n) else Answer.refuse s .inUse
    | .stale =>
      match (s.crane x).interval with
      | some r => if r.has n then Answer.done (s.declareAt x n) else Answer.badField s 2
      | none => if s.parkFree x n then Answer.done (s.declareAt x n) else Answer.refuse s .inUse

/-- DECLARE_OUT (R123). -/
def execDeclareOut (h : Header) (body : List Nat) (s : State) : Outcome :=
  .next (s.request h .declareOut body (fields2 fun c n t =>
    match craneCoded c with
    | some x => State.declareOut n x t
    | none => Answer.badField t 1))

/-! ## Queries (R138, R162) -/

/-- The place of a slot in a queue, from 1 (R162). -/
def queuePlace (slot : Nat) (q : List Entry) : Option Nat :=
  if q.contains (.move slot) then some (q.idxOf (.move slot) + 1) else none

/-- MOVE-QUERY data (R162). -/
def State.moveReply (s : State) (slot : Nat) (m : Move) : MoveReply :=
  { slot := slot, move := m, place := queuePlace slot (s.work m.crane).queue,
    order := m.granted.map (fun leg => (m.target leg, s.detail m leg)) }

/-- MOVE_QUERY (R162). -/
def execMoveQuery (h : Header) (body : List Nat) (s : State) : Outcome :=
  .next (s.request h .moveQuery body (fieldWord4 fun serial t =>
    match t.slotOf serial with
    | some slot =>
      match t.move slot with
      | some m => Answer.done t (.moveRecord (t.moveReply slot m))
      | none => Answer.refuse t .notFound
    | none => Answer.refuse t .notFound))

/-- A queue entry as CRANE-QUERY gives it (R162). -/
def State.queueItem (s : State) : Entry → QueueItem
  | .barrier => .barrier
  | .move slot =>
    match s.move slot with
    | some m => .move m.serial m.state m.reason
    | none => .barrier

/-- The serial of the crane's move with a stop OWED or SENT (R162). -/
def State.stoppingSerial (s : State) (x : Crane) : Option Nat :=
  match s.findSlot Config.tableSlots (fun m => m.crane = x && m.stop ≠ .none) with
  | some n => (s.move n).map Move.serial
  | none => none

/-- CRANE-QUERY data (R138, R162). -/
def State.craneReply (s : State) (x : Crane) : CraneReply :=
  let w := s.work x
  { crane := s.crane x, gap := s.lyt.yard.gap, breach := s.rru.breach, breachCount := s.rru.breachCount,
    deadlock := s.rru.deadlock,
    vacates := (List.range Config.segments).filterMap (fun n => (s.vacate n).map (fun v => (n, v))),
    queue := w.queue.map s.queueItem, lane := w.lane, mismatch := w.mismatch, orphan := w.orphan,
    yieldSerial := (s.yieldMove x).map Move.serial, stopping := s.stoppingSerial x, lastOrder := w.lastOrder,
    serial := s.mvu.serial }

/-- CRANE_QUERY (R138, R162). -/
def execCraneQuery (h : Header) (body : List Nat) (s : State) : Outcome :=
  .next (s.request h .craneQuery body (fieldCrane (fun x t => Answer.done t (.craneRecord (t.craneReply x)))))

end Sys2Proof.Machine
end

