-- ==== Sys2Proof/Machine/Reports.lean ====
section
/-! DEFINITION. Reports.lean: a crane's report, at the runway unit (R121) and then at the move unit (R150 to R156). -/

namespace Sys2Proof.Machine

/-! ## Events (R153, R155) -/

/-- The move a crane has under way, with its slot. -/
def State.underWay (s : State) (x : Crane) : Option (Nat × Move) :=
  match s.activeSlot x with
  | some slot => (s.move slot).map (fun m => (slot, m))
  | none => none

/-- ARRIVED fits (R153). -/
def Move.fitsArrived (m : Move) (n : Nat) : Bool := m.state = .toPick && m.kind = .park && m.place = n

/-- PICKED or PICK-FAILED fits (R153). -/
def Move.fitsPick (m : Move) (n : Nat) : Bool := m.state = .toPick && m.kind ≠ .park && m.pick = some n

/-- PLACED fits (R153). -/
def Move.fitsPlaced (m : Move) (n : Nat) : Bool := m.state = .lifted .toPlace && m.place = n

/-- The effect of ARRIVED at segment `n` (R153). -/
def State.takeArrived (s : State) (x : Crane) (slot n : Nat) : State :=
  (s.shrinkTo x (Range.point n)).endMove slot .done false

/-- The piece goes onto the hook from where the move takes it (R31, R110, R153). -/
def State.hookPiece (s : State) (x : Crane) (m : Move) : State :=
  match m.piece, m.source with
  | some p, some (.bed b) => (s.stripFrom b p).toHook x p
  | some p, some (.cell c) => s.cellPick x c p
  | some p, none => s.toHook x p
  | none, _ => s

/-- The move is LIFTED, and its carry hull is handed to the runway unit (R125, R153, R161). -/
def State.lift (s : State) (x : Crane) (slot : Nat) (m : Move) (phase : SubPhase) : State :=
  let t := s.setMove slot (some { m with state := .lifted phase, reason := none, stop := .none })
  t.setCrane x { t.crane x with hull := some m.hull }

/-- The effect of PICKED at segment `n` (R153). -/
def State.takePicked (s : State) (x : Crane) (slot : Nat) (m : Move) (n : Nat) : State :=
  if m.style = .atomic then ((s.hookPiece x m).lift x slot m .toPlace).shrinkTo x m.hull
  else ((s.hookPiece x m).lift x slot m .waitPlace).shrinkTo x (Range.point n)

/-- The piece goes down where the move ends (R111, R113). -/
def State.putDown (s : State) (m : Move) : State :=
  match m.piece, m.dest with
  | some p, .cell c => s.cellPlace c p
  | some p, .bay b => s.bayShip b p
  | _, _ => s

/-- The crane's orphan becomes *none* at the PLACED of its SET-DOWN (R161). -/
def State.clearOrphan (s : State) (x : Crane) (m : Move) : State :=
  if m.kind = .setDown then s.setWork x { s.work x with orphan := none } else s

/-- The effect of PLACED at segment `n` (R153). -/
def State.takePlaced (s : State) (x : Crane) (slot : Nat) (m : Move) (n : Nat) : State :=
  (((s.putDown m).clearOrphan x m).shrinkTo x (Range.point n)).endMove slot .done false

/-- A refused event (R155). -/
def State.refuseEvent (s : State) (x : Crane) : State × Bool := (s.postEvent .PL .eventMismatch (.crane x), false)

/-- Step 1 of R152: the report's event taken, and whether it was taken. Codes as in section 10.6. The presence events
are taken for presence first (R121, step 6), and then for the crane's moves (R160). -/
def State.takeEvent (s : State) (x : Crane) (n event : Nat) : State × Bool :=
  match event, s.underWay x with
  | 0, _ => (s, true)
  | 1, some (slot, m) => if m.fitsArrived n then (s.takeArrived x slot n, true) else s.refuseEvent x
  | 2, some (slot, m) => if m.fitsPick n then (s.takePicked x slot m n, true) else s.refuseEvent x
  | 3, some (slot, m) => if m.fitsPlaced n then (s.takePlaced x slot m n, true) else s.refuseEvent x
  | 4, some (slot, m) => if m.fitsPick n then (s.endMove slot .failed false, true) else s.refuseEvent x
  | 5, _ => if s.takesOut x n then ((s.goOut x n).craneOut x, true) else s.refuseEvent x
  | 6, _ => if s.takesIn x n then (s.goIn x, true) else s.refuseEvent x
  | _, _ => s.refuseEvent x

/-! ## The hook (R156) -/

/-- The hook state the move unit expects (R156). -/
def State.expectedHook (s : State) (x : Crane) : Hook :=
  if (s.findSlot Config.tableSlots (fun m => m.crane = x && m.isLifted)).isSome || (s.work x).orphan.isSome then .loaded
  else .empty

/-- The ports of HOOK-MISMATCH (R156). -/
def hookPorts (x : Crane) : List Point := [.PL, cranePoint x]

/-- Step 2 of R152: the hook compared (R156). -/
def State.compareHook (s : State) (x : Crane) (hook : Hook) : State :=
  if hook = s.expectedHook x then
    if (s.work x).mismatch then
      (s.setWork x { s.work x with mismatch := false }).endCause (hookPorts x) .hookMismatch (.crane x)
    else s
  else if (s.work x).mismatch then s
  else (s.setWork x { s.work x with mismatch := true }).raiseCause (hookPorts x) .hookMismatch (.crane x)

/-! ## The stop (R154) -/

/-- The interval shrinks to the reported segment, if the report lay inside it (R154). -/
def State.shrinkInside (s : State) (x : Crane) (n : Nat) (inside : Bool) : State :=
  if inside then s.shrinkTo x (Range.point n) else s

/-- Step 3 of R152: a stop with SENT completes (R154). A PARK's single leg is stopped as a pick leg is. -/
def State.completeStop (s : State) (x : Crane) (n : Nat) (inside : Bool) : State :=
  match s.underWay x with
  | some (slot, m) =>
    match m.stop with
    | .sent .cancel => (s.endMove slot .cancelled false).shrinkInside x n inside
    | .sent .suspend =>
      ((s.setMove slot (some { m with state := .suspended, stop := .none })).laneSettle x).shrinkInside x n inside
    | .none => s
    | .owed _ => s
  | none => s

/-! ## Current work and its grant (R148, R150, R161) -/

/-- The slots of the crane's SUSPENDED moves. -/
def State.suspendedSlots (s : State) (x : Crane) : List Nat :=
  (List.range Config.moveSlots).filter (fun i => ((s.move i).map (fun m => m.crane = x && m.state = .suspended)).getD false)

/-- A SUSPENDED move whose crane has no live yield resumes at the crane's next report (R157): the moves in `slots` were
SUSPENDED when the report came, and one that becomes SUSPENDED at the report itself waits for the next. -/
def State.resumeIfFree (s : State) (x : Crane) (slots : List Nat) : State :=
  if (s.yieldMove x).isSome then s else slots.foldl (State.resumeSlot x) s

/-- A SET-DOWN that is the crane's current work goes straight to LIFTED in WAIT-PLACE at the crane's position (R161). -/
def State.setDownLift (s : State) (x : Crane) (slot : Nat) (m : Move) : State :=
  match (s.crane x).position with
  | some p => s.lift x slot { m with pick := some p } .waitPlace
  | none => s

/-- No move of the crane has a stop OWED or SENT (R150). -/
def State.noStop (s : State) (x : Crane) : Bool :=
  (s.findSlot Config.tableSlots (fun m => m.crane = x && m.stop ≠ .none)).isNone

/-- Step 4 of R152: the moves of `slots` resumed (R157), the current work found, and a grant asked for it where `mayAsk`
(R150). -/
def State.work4 (s : State) (x : Crane) (mayAsk : Bool) (slots : List Nat) : State :=
  let found := (s.resumeIfFree x slots).findWork x
  let t := found.1
  match found.2 with
  | some slot =>
    match t.move slot with
    | some m =>
      if m.kind = .setDown && m.standing then t.setDownLift x slot m
      else
        match m.legToAsk with
        | some leg => if mayAsk && t.noStop x && (t.work x).mismatch = false then t.askLeg x slot m leg else t
        | none => t
    | none => t
  | none => t

/-! ## The order (R151) -/

/-- The kind of an order. -/
def Order.kind : Order → OrderKind
  | .idle => .idle
  | .go _ => .go
  | .stop => .stop
  | .hold => .hold

/-- The GO order of a move with a granted leg (R151). -/
def State.goOrder (s : State) (m : Move) (leg : Leg) : Order := .go ⟨m.serial, leg, m.target leg, s.detail m leg⟩

/-- The order of a reply, and the record of a stop that becomes SENT as it is composed (R151). -/
def State.composeOrder (s : State) (x : Crane) : State × Order :=
  if s.rru.breach.isSome || (s.work x).mismatch then (s, .hold)
  else if (s.crane x).presence = .out then (s, .idle)
  else
    match s.underWay x with
    | some (slot, m) =>
      match m.stop with
      | .owed p => (s.setMove slot (some { m with stop := .sent p }), .stop)
      | .none | .sent _ =>
        match m.granted with
        | some leg => (s, s.goOrder m leg)
        | none => (s, .idle)
    | none => (s, .idle)

/-- Step 5 of R152: the order composed; it becomes the crane's last order (R142, R151). -/
def State.giveOrder (s : State) (x : Crane) (taken : Bool) : Answer :=
  let c := s.composeOrder x
  let t := c.1.setWork x { c.1.work x with lastOrder := some c.2.kind }
  (t, { result := if taken then .done else .state, data := .order c.2 })

/-! ## The report (R121, R152) -/

/-- The fields of a report in order (R121, step 1; section 10.6). -/
def reportChecks (n hook event : Nat) : List Bool := [n < Config.segments, hook ≤ 1, event ≤ 6]

/-- The hook state a code names (section 10.6). -/
def hookOf : Nat → Hook
  | 0 => .empty
  | _ => .loaded

/-- Steps 2 to 5 of R152. `slots`: the crane's moves that were SUSPENDED when the report came (R157). -/
def State.afterEvent (s : State) (x : Crane) (n : Nat) (hook : Hook) (inside mayAsk taken : Bool) (slots : List Nat) :
    Answer :=
  ((((s.compareHook x hook).completeStop x n inside).work4 x mayAsk slots).giveOrder x taken)

/-- A report at which a grant may be asked, its event having been taken (R150): the event is NONE, or OUT-OF-SERVICE taken for
presence. At a taken IN-SERVICE none is asked, since R160 has the crane's moves ask from its next report. R150 names both
presence events, and that R160 is followed where they differ is the model's choice (log entry 38). -/
def asksAt (event : Nat) : Bool := event = 0 || event = 5

/-- A CRANE-REPORT of crane `x` in RUN (R121, R152). That no grant is asked at the report whose IN-SERVICE is taken (R160) is
the model's choice (`asksAt`, log entry 38). -/
def State.takeReport (s : State) (x : Crane) (n hook event : Nat) : Answer :=
  match firstBad (reportChecks n hook event) with
  | some i => Answer.badField s i
  | none =>
    let t := s.runwayReport x n (hookOf hook)
    let inside := t.insideInterval x n
    let e := t.takeEvent x n event
    e.1.afterEvent x n (hookOf hook) inside (e.2 && asksAt event) e.2 (s.suspendedSlots x)

/-- The crane of a controller's port (section 10). -/
def craneOfPort : Port → Crane
  | .CE => .E
  | .CW => .W
  | .PL => .W
  | .BL => .W

/-- CRANE_REPORT (R121, R152). The crane is the one whose port it came on; on PL and BL the kind is not permitted
(R168). -/
def execCraneReport (h : Header) (body : List Nat) (s : State) : Outcome :=
  .next (s.request h .craneReport body
    (fields3 fun n hook event t => t.takeReport (craneOfPort h.port) n hook event))

end Sys2Proof.Machine
end

