-- ==== Sys2Proof/Machine/Clock.lean ====
section
/-! DEFINITION. Clock.lean: the yard clock and its ticks (R9, R10). Seven rows of the table name things that come about at a
second of the timebase: each is that whole second, where the second brings the thing about (log entry 2). -/

namespace Sys2Proof.Machine

/-- The clock after a second of its timebase (R9). -/
def Clock.next (c : Clock) : Clock :=
  if c.second < 59 then { c with second := c.second + 1 }
  else { c with second := 0, minute := nextMinute c.minute }

/-- The next second is also a minute tick (R10). -/
def State.minuteDue (s : State) : Bool := 59 ≤ s.clk.second

/-- A second is counted: the clock is RUNNING and the part is not held in reset (R9). -/
def State.ticking (s : State) : Bool := !s.held && s.clk.running

/-- A minute tick delivered: the converter starts a scan, the bed table compares its deadlines (R10). -/
def State.minuteTick (s : State) : State := s.startScan.expirePermits

/-- A second tick delivered: to the allocator, and to the runway unit (R10). -/
def State.secondTick (s : State) : State := s.steamTick.runwayTick

/-- One second counted, with everything it delivers (R9, R10; order: log entry 3). -/
def State.countSecond (s : State) : State :=
  let t := { s with clk := s.clk.next }.secondTick
  if s.minuteDue then t.minuteTick else t

/-- One second of the timebase: nothing while the clock is STOPPED or the part is held (R9). -/
def State.tick (s : State) : State := if s.ticking then s.countSecond else s

/-- SECOND_TICK (R10). -/
def execSecondTick (s : State) : Outcome := .next s.tick

/-- MINUTE_TICK (R10): the second at which the second count returns to 0. -/
def execMinuteTick (s : State) : Outcome := .next (if s.minuteDue then s.tick else s)

/-- The permit of a bed runs out at the next minute tick (R29). -/
def State.permitDue (s : State) (b : Nat) : Bool :=
  s.minuteDue && (s.bed b).state = .permitted && (s.bed b).deadline = some (nextMinute s.clk.minute)

/-- PERMIT_EXPIRY (R29): the minute tick at which a bed's deadline equals the minute count. -/
def execPermitExpiry (b : Nat) (s : State) : Outcome := .next (if s.permitDue b then s.tick else s)

/-- The presence timer of a crane runs out at the next second tick (R122). -/
def State.presenceDue (s : State) (x : Crane) : Bool :=
  (s.crane x).presence = .active && ((s.crane x).timer.map (fun n => decide (n ≤ 1))).getD false

/-- PRESENCE_TIMEOUT (R122): the second tick at which a crane's presence timer reaches 0. -/
def execPresenceTimeout (x : Crane) (s : State) : Outcome := .next (if s.presenceDue x then s.tick else s)

/-- The vacate record of a segment runs out at the next second tick (R129). -/
def State.vacateDue (s : State) (n : Nat) : Bool := ((s.vacate n).map (fun v => decide (v.seconds ≤ 1))).getD false

/-- VACATE_EXPIRY (R129): the second tick at which a vacate record reaches 0. -/
def execVacateExpiry (n : Nat) (s : State) : Outcome := .next (if s.vacateDue n then s.tick else s)

/-- FRAME_BEGIN (R90): the first second tick after a preparation. -/
def execFrameBegin (s : State) : Outcome := .next (if s.sha.prepared.isSome then s.tick else s)

/-- The running frame ends at the next second tick (R90). -/
def State.frameDue (s : State) : Bool :=
  s.sha.prepared.isNone && (s.sha.running.map (fun f => decide (Config.frameSteps ≤ f.2 + 1))).getD false

/-- FRAME_END (R90): a second tick that finds the running frame at step 59 and no frame prepared. -/
def execFrameEnd (s : State) : Outcome := .next (if s.frameDue then s.tick else s)

end Sys2Proof.Machine
end

