-- ==== Sys2Proof/Machine/Conditions.lean ====
section
/-! DEFINITION. Conditions.lean: the condition unit's requests (chapter 11), and RESTART, the request that begins a warm
reset. -/

namespace Sys2Proof.Machine

/-! ## COND-READ and COND-ACK (R179, R173) -/

/-- The counts a port holds: errors, overruns (R173). -/
def State.counts (s : State) (p : Port) : Nat × Nat := ((s.port p).errors, (s.port p).overruns)

/-- COND-READ data for the port it arrived on (R179, R173). -/
def State.condReply (s : State) (p : Port) : CondReply :=
  { overflow := (s.condSet (portPoint p)).overflow, records := (s.condSet (portPoint p)).records, counts := s.counts p,
    allCounts := if p = .PL then [s.counts .PL, s.counts .CW, s.counts .CE, s.counts .BL] else [] }

/-- COND_READ (R179). -/
def execCondRead (h : Header) (body : List Nat) (s : State) : Outcome :=
  .next (s.request h .condRead body (noFields (fun t => Answer.done t (.conditions (t.condReply h.port)))))

/-- A set after the record of a kind and subject is acknowledged (R179); the attention line falls with the last one
(R180). -/
def CondSet.acked (k : CondKind) (subj : Subject) (c : CondSet) : CondSet :=
  let rest := c.records.filter (fun r => !r.names k subj)
  { c with records := rest, overflow := false, line := if rest.isEmpty then .low else .high }

/-- COND-ACK at the set of a port (R179). A subject that none of the kind's records can have is given as *none*. -/
def State.acknowledge (s : State) (p : Point) (k : CondKind) (subj : Option Subject) : Answer :=
  match (s.condSet p).records.find? (fun r => subj.any (r.names k)) with
  | none => Answer.refuse s .notFound
  | some r =>
    if r.status = .standing then Answer.refuse s .active
    else Answer.done (s.setCondSet p ((s.condSet p).acked k r.subject))

/-- COND_ACK (R179). A code that names no kind, and a presence byte that is neither 00h nor 01h, are out of range (log
entry 16). -/
def execCondAck (h : Header) (body : List Nat) (s : State) : Outcome :=
  .next (s.request h .condAck body (ackBody fun kind presence value t =>
    match condKindOf kind with
    | none => Answer.badField t 1
    | some k =>
      if presenceOk presence then t.acknowledge (portPoint h.port) k (subjectOf k presence value)
      else Answer.badField t 2))

/-! ## REPORT-MODE (R178) -/

/-- REPORT-MODE at the condition unit (R178): the codes of port, kind and mode. -/
def State.setMode (s : State) (port kind mode : Nat) : Answer :=
  match pointOf port, condKindOf kind, modeCoded mode with
  | none, _, _ => Answer.badField s 1
  | some _, none, _ => Answer.badField s 2
  | some p, some k, m =>
    if condStanding k = false then Answer.badField s 2
    else
      match m with
      | none => Answer.badField s 3
      | some m => Answer.done (s.setCondSet p { s.condSet p with modes := (s.condSet p).modes.write .both (condIndex k) m })

/-- REPORT_MODE (R178). -/
def execReportMode (h : Header) (body : List Nat) (s : State) : Outcome :=
  .next (s.request h .reportMode body (fields3 fun port kind mode t => t.setMode port kind mode))

/-! ## RESTART (R13) -/

/-- RESTART (R13): answered DONE; the warm reset begins when the last byte of that reply has been sent (REPLY_SENT). -/
def execRestart (h : Header) (body : List Nat) (s : State) : Outcome :=
  .next (s.request h .restart body (noFields (fun t =>
    Answer.done { t with rst := { t.rst with restartOwed := true } })))

end Sys2Proof.Machine
end

