-- ==== Sys2Proof/Machine/LayoutWrites.lean ====
section
/-! DEFINITION. LayoutWrites.lean: writing and locking the layout, and the clock's setting (chapter 1, sections 1.2, 1.3 and
1.5). -/

namespace Sys2Proof.Machine

/-! ## Layout writes (R2, R3) -/

/-- An optional segment in its range, or absent. -/
def optSegmentOk (n : Option Nat) : Bool := (n.map (fun v => decide (v < Config.segments))).getD true

/-- A range present, with both ends on the runway. -/
def rangePresentOk (r : Option Range) : Bool :=
  (r.map (fun v => decide (v.lo < Config.segments) && decide (v.hi < Config.segments))).getD false

/-- LAYOUT-SEGMENT at the layout table (R2): the vacate interval is clamped. -/
def State.writeSegment (s : State) (n : Nat) (area : Option Area) (vacate : Nat) : Answer :=
  match firstBad [n < Config.segments, area.isSome], area with
  | none, some a =>
    Answer.done { s with lyt := { s.lyt with segments := s.lyt.segments.write {} n ⟨a, min vacate 30⟩ } }
  | some i, _ => Answer.badField s i
  | none, none => Answer.badField s 2

/-- LAYOUT_SEGMENT (R2). -/
def execLayoutSegment (h : Header) (body : List Nat) (s : State) : Outcome :=
  .next (s.request h .layoutSegment body (fields3 fun n area vacate t => t.writeSegment n (areaOf area) vacate))

/-- A bed's layout record as it is stored: a range on a bed not configured is stored absent (R2). -/
def bedLayoutOf (configured : Bool) (r : Option Range) : BedLayout := ⟨configured, if configured then r else none⟩

/-- LAYOUT-BED at the layout table (R2). -/
def State.writeBed (s : State) (b : Nat) (configured : Option Bool) (r : Option Range) : Answer :=
  match firstBad [1 ≤ b && b ≤ Config.beds, configured.isSome, !configured.getD false || rangePresentOk r], configured with
  | none, some c => Answer.done { s with lyt := { s.lyt with beds := s.lyt.beds.write {} b (bedLayoutOf c r) } }
  | some i, _ => Answer.badField s i
  | none, none => Answer.badField s 2

/-- LAYOUT_BED (R2). -/
def execLayoutBed (h : Header) (body : List Nat) (s : State) : Outcome :=
  .next (s.request h .layoutBed body
    (fields4 fun b configured lo hi t => t.writeBed b (yesOf configured) (optRange lo hi)))

/-- The fields of a LAYOUT-ZONE before and after the valve sense (R1, R2). -/
def zoneChecks (z : Nat) (b : Option Nat) (r : Option Range) (senseOk : Bool) (follow : Option Nat) : List Bool :=
  [ z < Config.zones,
    (b.map (fun v => decide (1 ≤ v) && decide (v ≤ Config.beds))).getD true,
    b.isNone || rangePresentOk r,
    senseOk,
    (follow.map (fun v => decide (v < Config.zones))).getD true ]

/-- LAYOUT-ZONE at the layout table (R2, R3): the zone's valve line moves to the closed level of its valve sense as
stored. -/
def State.writeZone (s : State) (z : Nat) (b : Option Nat) (r : Option Range) (sense : Option Sense) (follow : Option Nat) :
    Answer :=
  match firstBad (zoneChecks z b r sense.isSome follow), sense with
  | none, some v =>
    Answer.done { s with
      lyt := { s.lyt with
        zones := s.lyt.zones.write {} z ⟨b, if b.isSome then r else none, v, follow⟩ }
      valves := s.valves.write .low z (senseClosed v) }
  | some i, _ => Answer.badField s i
  | none, none => Answer.badField s 4

/-- LAYOUT_ZONE (R2, R3). -/
def execLayoutZone (h : Header) (body : List Nat) (s : State) : Outcome :=
  .next (s.request h .layoutZone body (zoneBody fun z b r sense follow t => t.writeZone z b r sense follow))

/-- LAYOUT-CELL at the layout table (R2). -/
def State.writeCell (s : State) (c : Nat) (n : Option Nat) (row limit : Nat) : Answer :=
  match firstBad [c < Config.cells, optSegmentOk n, row ≤ 1, 1 ≤ limit && limit ≤ 5] with
  | some i => Answer.badField s i
  | none => Answer.done { s with lyt := { s.lyt with cells := s.lyt.cells.write {} c ⟨n, row, limit⟩ } }

/-- LAYOUT_CELL (R2). -/
def execLayoutCell (h : Header) (body : List Nat) (s : State) : Outcome :=
  .next (s.request h .layoutCell body (fields4 fun c n row limit t => t.writeCell c (optByte n) row limit))

/-- LAYOUT-BAY at the layout table (R2). -/
def State.writeBay (s : State) (b : Nat) (n : Option Nat) : Answer :=
  match firstBad [b = 1 || b = 2, optSegmentOk n] with
  | some i => Answer.badField s i
  | none => Answer.done { s with lyt := { s.lyt with bays := s.lyt.bays.write {} b ⟨n⟩ } }

/-- LAYOUT_BAY (R2). -/
def execLayoutBay (h : Header) (body : List Nat) (s : State) : Outcome :=
  .next (s.request h .layoutBay body (fields2 fun b n t => t.writeBay b (optByte n)))

/-- A presence timeout as it is stored (R2). -/
def clampPresence (n : Nat) : Nat := max 2 (min 60 n)

/-- LAYOUT-YARD at the layout table (R2): the presence timeouts are clamped. -/
def State.writeYard (s : State) (y : Yard) : Answer :=
  match firstBad
    [ 1 ≤ y.gap && y.gap ≤ 3, -150 ≤ y.datum && y.datum ≤ 0, 400 ≤ y.cap && y.cap ≤ 950,
      5 ≤ y.window && y.window ≤ 120 ] with
  | some i => Answer.badField s i
  | none =>
    Answer.done { s with lyt := { s.lyt with
      yard := { y with presenceW := clampPresence y.presenceW, presenceE := clampPresence y.presenceE } } }

/-- LAYOUT_YARD (R2). -/
def execLayoutYard (h : Header) (body : List Nat) (s : State) : Outcome :=
  .next (s.request h .layoutYard body (yardBody fun y t => t.writeYard y))

/-! ## LOCK-LAYOUT (R5 to R7) -/

/-- The numbers of the configured beds. -/
def State.configuredBeds (s : State) : List Nat := (List.range (Config.beds + 1)).filter s.bedConfigured
/-- The numbers of the assigned zones. -/
def State.assignedZones (s : State) : List Nat :=
  (List.range Config.zones).filter (fun z => (s.zoneLayout z).bed.isSome)
/-- The numbers of the cells in use. -/
def State.cellsInUse (s : State) : List Nat := (List.range Config.cells).filter s.cellInUse
/-- The numbers of the configured bays. -/
def State.configuredBays (s : State) : List Nat := [1, 2].filter s.bayConfigured

/-- The lower number of the first pair of a rising list that `clash` (R5). -/
def firstPair (clash : Nat → Nat → Bool) : List Nat → Option Nat
  | [] => none
  | a :: rest => if rest.any (clash a) then some a else firstPair clash rest

/-- Two optional ranges with a segment in common. -/
def rangesClash (a b : Option Range) : Bool :=
  match a, b with
  | some x, some y => x.overlaps y
  | _, _ => false

/-- An optional range with lo not greater than hi. -/
def rangeOrdered (a : Option Range) : Bool := (a.map (fun r => decide (r.lo ≤ r.hi))).getD true

/-- An optional range inside another. -/
def rangeInside (inner outer : Option Range) : Bool :=
  match inner, outer with
  | some i, some o => o.lo ≤ i.lo && i.hi ≤ o.hi
  | _, _ => false

/-- Every segment of an optional range has area HALL. -/
def State.rangeHall (s : State) (a : Option Range) : Bool :=
  (List.range Config.segments).all (fun n => !((a.map (fun r => r.has n)).getD false) || (s.segment n).area = .hall)

/-- The follow of a zone is as check 12 wants it. -/
def State.followOk (s : State) (z : Nat) : Bool :=
  match (s.zoneLayout z).follow with
  | none => true
  | some l =>
    (s.zoneLayout z).bed.isSome && (s.zoneLayout l).bed = (s.zoneLayout z).bed && l ≠ z
      && (s.zoneLayout l).follow.isNone

/-- The record named by each of the twelve checks of R5, in order, where the check fails. -/
def State.lockChecks (s : State) : List (Option Nat) :=
  [ s.configuredBeds.find? (fun b => !rangeOrdered (s.bedLayout b).range),
    firstPair (fun a b => rangesClash (s.bedLayout a).range (s.bedLayout b).range) s.configuredBeds,
    s.configuredBeds.find? (fun b => !s.rangeHall (s.bedLayout b).range),
    s.assignedZones.find? (fun z => !s.bedConfigured ((s.zoneLayout z).bed.getD 0)),
    s.assignedZones.find? (fun z => !(rangeOrdered (s.zoneLayout z).range
      && rangeInside (s.zoneLayout z).range (s.bedLayout ((s.zoneLayout z).bed.getD 0)).range)),
    firstPair (fun a b => rangesClash (s.zoneLayout a).range (s.zoneLayout b).range) s.assignedZones,
    s.configuredBeds.find? (fun b => decide (3 < (s.bedZones b).length)),
    s.cellsInUse.find? (fun c => decide ((s.segment ((s.cellLayout c).segment.getD 0)).area ≠ .yard)),
    firstPair (fun a b => (s.cellLayout a).segment = (s.cellLayout b).segment && (s.cellLayout a).row = (s.cellLayout b).row)
      s.cellsInUse,
    s.configuredBays.find? (fun b => s.cellsInUse.any (fun c => (s.cellLayout c).segment = (s.bayLayout b).segment)),
    s.configuredBays.find? (fun b => s.configuredBeds.any (fun bed =>
      ((s.bedLayout bed).range.map (fun r => r.has ((s.bayLayout b).segment.getD 0))).getD false)),
    (List.range Config.zones).find? (fun z => !s.followOk z) ]

/-- The first failing check, from `n`, and the record it names. -/
def firstFailing : Nat → List (Option Nat) → Option (Nat × Nat)
  | _, [] => none
  | n, some r :: _ => some (n, r)
  | n, none :: rest => firstFailing (n + 1) rest

/-- The failing check of R5 and the record it names, if a check fails. -/
def State.lockFailure (s : State) : Option (Nat × Nat) := firstFailing 1 s.lockChecks

/-- The mode becomes RUN (R7, R85): the lock, the initial follows, the clock from second 0. Every other block holds the
values it takes up RUN with. -/
def State.enterRun (s : State) : State :=
  let t := s.mapZones (fun z r => { r with follow := (s.zoneLayout z).follow })
  { t with lyt := { t.lyt with locked := true }, clk := { t.clk with second := 0, running := true } }

/-- LOCK_LAYOUT (R5 to R7). -/
def execLockLayout (h : Header) (body : List Nat) (s : State) : Outcome :=
  .next (s.request h .lockLayout body (noFields (fun t =>
    match t.lockFailure with
    | some e => Answer.refuse t .badField (.lockCheck e.1 e.2)
    | none => Answer.done t.enterRun)))

/-- SET_CLOCK (R11). Every value that four bytes hold is in the minute count's range (R9). -/
def execSetClock (h : Header) (body : List Nat) (s : State) : Outcome :=
  .next (s.request h .setClock body (fieldWord4 fun minute t =>
    if minute ≤ Config.word32Max then
      Answer.done { t with clk := { minute := minute, second := 0, running := false } }
    else Answer.badField t 1))

end Sys2Proof.Machine
end

