-- ==== Sys2Proof/Machine/Reset.lean ====
section
/-! DEFINITION. Reset.lean: the resets and the retention supply (R12 to R15), with what each chapter's closing rule says its
records become at a warm reset. -/

namespace Sys2Proof.Machine

/-! ## What a warm reset leaves, block by block -/

/-- A bed record after a warm reset (R35, R172). -/
def Bed.warm (b : Bed) : Bed :=
  { b with
    state := if b.state = .permitted then .ready else b.state
    deadline := if b.state = .permitted then none else b.deadline
    panelLost := false, missed := 0 }

/-- A channel record after a warm reset: the trim is kept (R49). -/
def Channel.warm (c : Channel) : Channel := { trim := c.trim }

/-- The converter after a warm reset: trims and sample time are kept (R49). -/
def Pcv.warm (p : Pcv) : Pcv :=
  { channels := Tab.mapAll {} Config.channels (fun _ c => c.warm) p.channels, sampleTime := p.sampleTime }

/-- The setpoint of a zone after a warm reset, by its kept stage (R87). -/
def warmSetpoint (p : Profile) : Stage → Option Int
  | .idle => none
  | .startPending => none
  | .delay => some p.frostFloor
  | .ramp => none
  | .hold => some p.holdTemp
  | .cool => none
  | .done => none

/-- A zone record after a warm reset (R87). -/
def State.warmZone (s : State) (z : Zone) : Zone :=
  { z with
    setpoint := warmSetpoint (s.profile (z.profile.getD 0)) z.stage
    pendingPriority := none, advance := false, computed := 0, request := 0 }

/-- The zone control unit after a warm reset (R87). -/
def State.warmZcu (s : State) : Zcu :=
  { s.zcu with zones := Tab.mapAll {} Config.zones (fun _ z => s.warmZone z) s.zcu.zones }

/-- The allocator after a warm reset (R100). -/
def Sha.warm (a : Sha) : Sha := { k := a.k, minOpen := a.minOpen, inhibit := a.inhibit }

/-- A piece record after a warm reset (R118). -/
def Piece.warm (p : Piece) : Piece := { p with claim := none }

/-- A cell record after a warm reset (R118). -/
def Cell.warm (c : Cell) : Cell := { stack := c.stack }

/-- A bay record after a warm reset (R118). -/
def Bay.warm (b : Bay) : Bay := { b with pendingWeight := 0, pendingCount := 0 }

/-- The stock unit after a warm reset (R118). -/
def Stk.warm (k : Stk) : Stk :=
  { cells := Tab.mapAll {} Config.cells (fun _ c => c.warm) k.cells,
    bays := Tab.mapAll {} 3 (fun _ b => b.warm) k.bays,
    generation := k.generation }

/-- The runway unit after a warm reset: the breach count is kept (R140). -/
def Rru.warm (r : Rru) : Rru := { breachCount := r.breachCount }

/-- The piece a crane holds on its hook, found at the end of a warm reset (R161). -/
def State.orphanOf (s : State) (x : Crane) : Option Nat :=
  (List.range Config.slots).find? (fun n => (s.piece n).state = .hook && (s.piece n).location = some (.crane x))

/-- The move unit after a warm reset: the serial counter is kept, the orphans are found (R163, R161). -/
def State.warmMvu (s : State) : Mvu :=
  { west := { orphan := s.orphanOf .W }, east := { orphan := s.orphanOf .E }, serial := s.mvu.serial }

/-- A condition set after a warm reset: the report modes are kept (R182). -/
def CondSet.warm (c : CondSet) : CondSet := { modes := c.modes }

/-- The condition unit after a warm reset, before RESTARTED is posted (R182). -/
def Cnd.warm (c : Cnd) : Cnd := { pl := c.pl.warm, cw := c.cw.warm, ce := c.ce.warm }

/-- The clock after a warm reset (R15). -/
def Clock.warm (c : Clock) : Clock := { minute := c.minute, second := 0, running := true }

/-- Every record after a warm reset, as the part leaves it (R15, R35, R49, R64, R87, R100, R118, R140, R163, R174, R182). The
layout and the retention supply are as they were. -/
def State.warmed (s : State) : State :=
  let t : State :=
    { s with
      clk := s.clk.warm
      rst := { retention := s.rst.retention }
      beds := Tab.mapAll {} (Config.beds + 1) (fun _ b => b.warm) s.beds
      pcv := s.pcv.warm
      zcu := s.warmZcu
      sha := s.sha.warm
      pct := Tab.mapAll {} Config.slots (fun _ p => p.warm) s.pct
      stk := s.stk.warm
      rru := s.rru.warm
      mvu := s.warmMvu
      cnd := s.cnd.warm
      lnk := {} }
  t.closeValves.postEvent .PL .restarted .none

/-- Every record after a cold reset (R12). The retention supply and the commands still to come are outside the records
(log entry 34). -/
def State.chilled (s : State) : State :=
  { State.reset with rst := { retention := s.rst.retention }, pending := s.pending }

/-- The end of a hold: a cold reset in CONFIG, where the retention supply was absent when the hold began or became absent while
the line held it, or where it is absent now, and otherwise a warm one (R12, R13; log entry 11). -/
def State.leaveHold (s : State) : State :=
  if s.run && s.rst.retention && s.rst.supplyLost = false then s.warmed else s.chilled

/-! ## The rows -/

/-- COLD_RESET (R12). -/
def execColdReset (s : State) : Outcome := .next s.chilled

/-- RESET_LINE_ASSERT (R13, R14): the part is held by the line. During the hold of a RESTART the reset becomes a reset-line
reset. A line already asserted stays so. -/
def execResetLineAssert (s : State) : Outcome :=
  .next (match s.rst.hold with
    | .line => s
    | .none => s.enterHold .line
    | .restart => s.enterHold .line)

/-- WARM_RESET (R13, R15): the reset line released, or the end of a RESTART's hold, or of its reply where the hold has not
yet been entered. Which reset it then is, R12 and R13 decide (log entry 10). With nothing to end there is no such event. -/
def execWarmReset (s : State) : Outcome :=
  .next (match s.rst.hold with
    | .line => s.leaveHold
    | .restart => s.leaveHold
    | .none => if s.rst.restartOwed then (s.enterHold .restart).leaveHold else s)

/-- RETENTION_SUPPLY_LOSS (R12, R14): while the line is asserted it makes the reset a cold one, in which every valve line is
low; otherwise it has no effect of its own, in a RESTART's hold too. -/
def execRetentionSupplyLoss (s : State) : Outcome :=
  .next (if s.rst.hold = .line then
      { s.lowValves with rst := { s.rst with retention := false, supplyLost := true } }
    else { s with rst := { s.rst with retention := false } })

/-- RETENTION_SUPPLY_RETURN (R12). -/
def execRetentionSupplyReturn (s : State) : Outcome :=
  .next { s with rst := { s.rst with retention := true } }

end Sys2Proof.Machine
end

