-- ==== Sys2Proof/Machine/Dispatch.lean ====
section
/-! DEFINITION. Dispatch.lean: one arm per command, each a direct call of its meaning. -/

namespace Sys2Proof.Machine

def exec (i : Instr) (s : State) : Host.Outcome State Fault Refusal :=
  match i with
  | .coldReset => Sys2Proof.Machine.execColdReset s
  | .resetLineAssert => Sys2Proof.Machine.execResetLineAssert s
  | .warmReset => Sys2Proof.Machine.execWarmReset s
  | .retentionSupplyLoss => Sys2Proof.Machine.execRetentionSupplyLoss s
  | .secondTick => Sys2Proof.Machine.execSecondTick s
  | .minuteTick => Sys2Proof.Machine.execMinuteTick s
  | .permitExpiry bed => Sys2Proof.Machine.execPermitExpiry bed s
  | .presenceTimeout crane => Sys2Proof.Machine.execPresenceTimeout crane s
  | .vacateExpiry segment => Sys2Proof.Machine.execVacateExpiry segment s
  | .frameBegin => Sys2Proof.Machine.execFrameBegin s
  | .frameEnd => Sys2Proof.Machine.execFrameEnd s
  | .conversionEnd raw => Sys2Proof.Machine.execConversionEnd raw s
  | .referenceCheck raw => Sys2Proof.Machine.execReferenceCheck raw s
  | .layoutSegment h body => Sys2Proof.Machine.execLayoutSegment h body s
  | .layoutBed h body => Sys2Proof.Machine.execLayoutBed h body s
  | .layoutZone h body => Sys2Proof.Machine.execLayoutZone h body s
  | .layoutCell h body => Sys2Proof.Machine.execLayoutCell h body s
  | .layoutBay h body => Sys2Proof.Machine.execLayoutBay h body s
  | .layoutYard h body => Sys2Proof.Machine.execLayoutYard h body s
  | .profileWrite h body => Sys2Proof.Machine.execProfileWrite h body s
  | .lockLayout h body => Sys2Proof.Machine.execLockLayout h body s
  | .setClock h body => Sys2Proof.Machine.execSetClock h body s
  | .planLoad h body => Sys2Proof.Machine.execPlanLoad h body s
  | .planClear h body => Sys2Proof.Machine.execPlanClear h body s
  | .moveSubmit h body => Sys2Proof.Machine.execMoveSubmit h body s
  | .moveCancel h body => Sys2Proof.Machine.execMoveCancel h body s
  | .barrier h body => Sys2Proof.Machine.execBarrier h body s
  | .laneRequest h body => Sys2Proof.Machine.execLaneRequest h body s
  | .laneRelease h body => Sys2Proof.Machine.execLaneRelease h body s
  | .declareOut h body => Sys2Proof.Machine.execDeclareOut h body s
  | .breachClear h body => Sys2Proof.Machine.execBreachClear h body s
  | .zonePriority h body => Sys2Proof.Machine.execZonePriority h body s
  | .zoneFollow h body => Sys2Proof.Machine.execZoneFollow h body s
  | .advance h body => Sys2Proof.Machine.execAdvance h body s
  | .heatOff h body => Sys2Proof.Machine.execHeatOff h body s
  | .heatOn h body => Sys2Proof.Machine.execHeatOn h body s
  | .setK h body => Sys2Proof.Machine.execSetK h body s
  | .setMinopen h body => Sys2Proof.Machine.execSetMinopen h body s
  | .probeTrim h body => Sys2Proof.Machine.execProbeTrim h body s
  | .sampleTime h body => Sys2Proof.Machine.execSampleTime h body s
  | .bayOpen h body => Sys2Proof.Machine.execBayOpen h body s
  | .bayClose h body => Sys2Proof.Machine.execBayClose h body s
  | .placeRecord h body => Sys2Proof.Machine.execPlaceRecord h body s
  | .removeRecord h body => Sys2Proof.Machine.execRemoveRecord h body s
  | .stockSeek h body => Sys2Proof.Machine.execStockSeek h body s
  | .stockRead h body => Sys2Proof.Machine.execStockRead h body s
  | .pieceQuery h body => Sys2Proof.Machine.execPieceQuery h body s
  | .bedQuery h body => Sys2Proof.Machine.execBedQuery h body s
  | .zoneQuery h body => Sys2Proof.Machine.execZoneQuery h body s
  | .moveQuery h body => Sys2Proof.Machine.execMoveQuery h body s
  | .craneQuery h body => Sys2Proof.Machine.execCraneQuery h body s
  | .condRead h body => Sys2Proof.Machine.execCondRead h body s
  | .condAck h body => Sys2Proof.Machine.execCondAck h body s
  | .reportMode h body => Sys2Proof.Machine.execReportMode h body s
  | .restart h body => Sys2Proof.Machine.execRestart h body s
  | .setupDone h body => Sys2Proof.Machine.execSetupDone h body s
  | .castStart h body => Sys2Proof.Machine.execCastStart h body s
  | .castEnd h body => Sys2Proof.Machine.execCastEnd h body s
  | .pourAbort h body => Sys2Proof.Machine.execPourAbort h body s
  | .releaseRequest h body => Sys2Proof.Machine.execReleaseRequest h body s
  | .strandsCut h body => Sys2Proof.Machine.execStrandsCut h body s
  | .bedClear h body => Sys2Proof.Machine.execBedClear h body s
  | .flagsAck h body => Sys2Proof.Machine.execFlagsAck h body s
  | .nothing h body => Sys2Proof.Machine.execNothing h body s
  | .unknownKind h code body => Sys2Proof.Machine.execUnknownKind h code body s
  | .badFrame port chars => Sys2Proof.Machine.execBadFrame port chars s
  | .byteGapTimeout port chars => Sys2Proof.Machine.execByteGapTimeout port chars s
  | .chainFrame h kind body => Sys2Proof.Machine.execChainFrame h kind body s
  | .chainGapTimeout port => Sys2Proof.Machine.execChainGapTimeout port s
  | .overrunFrame port good => Sys2Proof.Machine.execOverrunFrame port good s
  | .replySent port => Sys2Proof.Machine.execReplySent port s
  | .bedPoll => Sys2Proof.Machine.execBedPoll s
  | .missedAnswer => Sys2Proof.Machine.execMissedAnswer s
  | .craneReport h body => Sys2Proof.Machine.execCraneReport h body s
  | .retentionSupplyReturn => Sys2Proof.Machine.execRetentionSupplyReturn s

end Sys2Proof.Machine
end

