-- ==== Sys2Proof/WellFormed.lean ====
section
/-! DEFINITION. WellFormed.lean: which commands the outside can send at all. A request's own field ranges
are not checked here: a field out of its range is answered by the rule that owns it (R2, R144, ...). What is
checked is what a wire, a converter or the part's own numbering cannot exceed. -/

namespace Sys2Proof

/-- A value of one byte. -/
def fitsByte (n : Nat) : Bool := n ≤ 255

/-- The sequence is one byte (section 10.1). -/
def Header.wf (h : Header) : Bool := fitsByte h.seq

/-- A frame carries a body of 1 to 119 bytes (section 10.1). -/
def bodyWf (body : List Nat) : Bool := 1 ≤ body.length && body.length ≤ 119 && body.all fitsByte

/-- A character of a port: eight data bits, and the ninth bit on BL alone (chapter 10). -/
def Chr.wf (p : Port) (c : Chr) : Bool := fitsByte c.byte && (p = .BL || !c.ninth)

/-- A request of a sequence and a body. -/
def requestWf (h : Header) (body : List Nat) : Bool := h.wf && bodyWf body

/-- Kind codes are 01h to 7Fh; 20h, 31h and 41h are known kinds (sections 10.1, 10.6). -/
def unknownCodeWf (code : Nat) : Bool :=
  1 ≤ code && code ≤ 127 && code != 0x20 && code != 0x31 && code != 0x41

/-- A kind as a frame can name it: a code that is none of the part's kinds is one of those codes. -/
def Kind.wf : Kind → Bool
  | .unknown code => unknownCodeWf code
  | _ => true

/-- A raw converter value is 0 to 4095 (chapter 3, units). -/
def rawWf (raw : Nat) : Bool := raw ≤ 4095

/-- Well-formedness of a command. -/
def Instr.wf : Instr → Bool
  | .coldReset => true
  | .resetLineAssert => true
  | .warmReset => true
  | .retentionSupplyLoss => true
  | .secondTick => true
  | .minuteTick => true
  | .permitExpiry bed => 1 ≤ bed && bed ≤ Config.beds
  | .presenceTimeout _ => true
  | .vacateExpiry segment => segment < Config.segments
  | .frameBegin => true
  | .frameEnd => true
  | .conversionEnd raw => rawWf raw
  | .referenceCheck raw => rawWf raw
  | .layoutSegment h body => requestWf h body
  | .layoutBed h body => requestWf h body
  | .layoutZone h body => requestWf h body
  | .layoutCell h body => requestWf h body
  | .layoutBay h body => requestWf h body
  | .layoutYard h body => requestWf h body
  | .profileWrite h body => requestWf h body
  | .lockLayout h body => requestWf h body
  | .setClock h body => requestWf h body
  | .planLoad h body => requestWf h body
  | .planClear h body => requestWf h body
  | .moveSubmit h body => requestWf h body
  | .moveCancel h body => requestWf h body
  | .barrier h body => requestWf h body
  | .laneRequest h body => requestWf h body
  | .laneRelease h body => requestWf h body
  | .declareOut h body => requestWf h body
  | .breachClear h body => requestWf h body
  | .zonePriority h body => requestWf h body
  | .zoneFollow h body => requestWf h body
  | .advance h body => requestWf h body
  | .heatOff h body => requestWf h body
  | .heatOn h body => requestWf h body
  | .setK h body => requestWf h body
  | .setMinopen h body => requestWf h body
  | .probeTrim h body => requestWf h body
  | .sampleTime h body => requestWf h body
  | .bayOpen h body => requestWf h body
  | .bayClose h body => requestWf h body
  | .placeRecord h body => requestWf h body
  | .removeRecord h body => requestWf h body
  | .stockSeek h body => requestWf h body
  | .stockRead h body => requestWf h body
  | .pieceQuery h body => requestWf h body
  | .bedQuery h body => requestWf h body
  | .zoneQuery h body => requestWf h body
  | .moveQuery h body => requestWf h body
  | .craneQuery h body => requestWf h body
  | .condRead h body => requestWf h body
  | .condAck h body => requestWf h body
  | .reportMode h body => requestWf h body
  | .restart h body => requestWf h body
  | .setupDone h body => requestWf h body
  | .castStart h body => requestWf h body
  | .castEnd h body => requestWf h body
  | .pourAbort h body => requestWf h body
  | .releaseRequest h body => requestWf h body
  | .strandsCut h body => requestWf h body
  | .bedClear h body => requestWf h body
  | .flagsAck h body => requestWf h body
  | .nothing h body => requestWf h body
  | .unknownKind h code body => requestWf h body && unknownCodeWf code
  | .badFrame port chars => chars.all (Chr.wf port)
  | .byteGapTimeout port chars => chars.all (Chr.wf port)
  | .chainFrame h kind body => requestWf h body && kind.wf
  | .chainGapTimeout _ => true
  | .overrunFrame _ _ => true
  | .replySent _ => true
  | .bedPoll => true
  | .missedAnswer => true
  | .craneReport h body => requestWf h body
  | .retentionSupplyReturn => true

end Sys2Proof
end

