-- ==== Sys2Proof/Safety.lean ====
section
/-! DEFINITION. Safety.lean: the words statements about this part are made of: which command a good frame brings, when a
port takes a request, what an answered request leaves, when a layout fails a check, and the invariants of the rules that
speak of the whole machine. -/

namespace Sys2Proof.Machine

/-! ## Requests -/

/-- The command that a good frame of a kind brings, the high bit of its kind clear. -/
def requestCommand (h : Header) (k : Kind) (body : List Nat) : Instr :=
  match k with
  | .layoutSegment => .layoutSegment h body
  | .layoutBed => .layoutBed h body
  | .layoutZone => .layoutZone h body
  | .layoutCell => .layoutCell h body
  | .layoutBay => .layoutBay h body
  | .layoutYard => .layoutYard h body
  | .profileWrite => .profileWrite h body
  | .lockLayout => .lockLayout h body
  | .setClock => .setClock h body
  | .planLoad => .planLoad h body
  | .planClear => .planClear h body
  | .moveSubmit => .moveSubmit h body
  | .moveCancel => .moveCancel h body
  | .barrier => .barrier h body
  | .laneRequest => .laneRequest h body
  | .laneRelease => .laneRelease h body
  | .declareOut => .declareOut h body
  | .breachClear => .breachClear h body
  | .zonePriority => .zonePriority h body
  | .zoneFollow => .zoneFollow h body
  | .advance => .advance h body
  | .heatOff => .heatOff h body
  | .heatOn => .heatOn h body
  | .setK => .setK h body
  | .setMinopen => .setMinopen h body
  | .probeTrim => .probeTrim h body
  | .sampleTime => .sampleTime h body
  | .bayOpen => .bayOpen h body
  | .bayClose => .bayClose h body
  | .placeRecord => .placeRecord h body
  | .removeRecord => .removeRecord h body
  | .stockSeek => .stockSeek h body
  | .stockRead => .stockRead h body
  | .pieceQuery => .pieceQuery h body
  | .bedQuery => .bedQuery h body
  | .zoneQuery => .zoneQuery h body
  | .moveQuery => .moveQuery h body
  | .craneQuery => .craneQuery h body
  | .condRead => .condRead h body
  | .condAck => .condAck h body
  | .reportMode => .reportMode h body
  | .restart => .restart h body
  | .craneReport => .craneReport h body
  | .setupDone => .setupDone h body
  | .castStart => .castStart h body
  | .castEnd => .castEnd h body
  | .pourAbort => .pourAbort h body
  | .releaseRequest => .releaseRequest h body
  | .strandsCut => .strandsCut h body
  | .bedClear => .bedClear h body
  | .flagsAck => .flagsAck h body
  | .nothing => .nothing h body
  | .unknown code => .unknownKind h code body

/-- A point-to-point port awaits a frame, and the part is not held in reset (section 10.2, R14). -/
abbrev State.awaits (s : State) (p : Port) : Prop := s.held = false ∧ p ≠ .BL ∧ (s.port p).rx = .hunt

/-- A planner's request arrives whole on PL, awaited, in RUN. -/
abbrev State.planner (s : State) (h : Header) : Prop := h.port = .PL ∧ s.awaits .PL ∧ s.run = true

/-- A planner's request arrives whole on PL, awaited, in CONFIG. -/
abbrev State.loading (s : State) (h : Header) : Prop := h.port = .PL ∧ s.awaits .PL ∧ s.run = false

/-- A request arrives whole on one of PL, CW and CE, awaited, in RUN. -/
abbrev State.master (s : State) (h : Header) : Prop := s.awaits h.port ∧ s.run = true

/-- A crane's report arrives whole on the crane's port, awaited, in RUN. -/
abbrev State.reporting (s : State) (h : Header) (x : Crane) : Prop :=
  h.port = (match x with | .W => .CW | .E => .CE) ∧ s.master h

/-- A panel's request arrives whole on BL in the answer window of bed `b`. -/
abbrev State.answering (s : State) (h : Header) (b : Nat) : Prop :=
  h.port = .BL ∧ s.held = false ∧ s.lnk.window = true ∧ s.lnk.poll.map Poll.bed = some b

/-- A panel's request arrives whole on BL in the answer window of bed `b`, in RUN. -/
abbrev State.panel (s : State) (h : Header) (b : Nat) : Prop := s.answering h b ∧ s.run = true

/-- The address character that precedes a reply (section 10.1, R171): on BL the number of the bed whose panel was polled, with
the ninth bit set, and on another port none. -/
def State.addressBefore (s : State) (p : Port) : Option Chr :=
  if p = .BL then s.lnk.poll.map (fun q => ⟨q.bed, true⟩) else none

/-- The state in which the reply to a request is being sent, on BL after its address character, and nothing else has changed: what
an answered request leaves beside its own effect (R167, R169, R171). -/
def State.answered (s : State) (h : Header) (k : Kind) (r : Reply) : State :=
  s.setPort h.port { s.port h.port with
    rx := .replying, inHand := some (h.seq, k), frames := 0, joined := [], begun := [],
    reply := some ⟨s.addressBefore h.port, r⟩ }

/-- The state after the answer of bed `b`'s panel has been taken: the window closed, the missed-poll count 0, the panel
PRESENT (R171, R172). -/
def State.heard (s : State) (b : Nat) : State := s.closeWindow.panelAnswered b

/-- The reply DONE with no data. -/
def ok : Reply := { result := .done }

/-- The reply BAD-FIELD naming a field. -/
def badFieldReply (n : Nat) : Reply := { result := .badField, data := .field n }

/-! ## Subjects of conditions -/

/-- A subject is of the sort that R175 gives a kind. -/
def subjectFits (k : CondKind) (subj : Subject) : Bool :=
  match k, subj with
  | .moveDone, .serial _ | .moveFailed, .serial _ | .moveCancelled, .serial _ | .deadlock, .serial _ => true
  | .eventMismatch, .crane _ | .laneActive, .crane _ | .breach, .crane _ | .craneStale, .crane _
  | .hookMismatch, .crane _ => true
  | .bedReady, .bed _ | .permitExpired, .bed _ | .panelLost, .bed _ => true
  | .probeLost, .channel _ => true
  | .restarted, .none | .heatTrimmed, .none | .converterFault, .none => true
  | _, _ => false

/-! ## The checks of a lock (R5), each as the spec words it -/

/-- Bed `b` is configured, with a range. -/
def State.bedRange (s : State) (b : Nat) (r : Range) : Prop :=
  s.bedConfigured b = true ∧ (s.bedLayout b).range = some r

/-- Zone `z` is assigned to bed `b`. -/
def State.zoneOf (s : State) (z b : Nat) : Prop := z < 16 ∧ (s.zoneLayout z).bed = some b

/-- Cell `c` is in use at segment `n`. -/
def State.cellAt (s : State) (c n : Nat) : Prop := c < 48 ∧ (s.cellLayout c).segment = some n

/-- Bay `y` is configured at segment `n`. -/
def State.bayAt (s : State) (y n : Nat) : Prop := (y = 1 ∨ y = 2) ∧ (s.bayLayout y).segment = some n

/-- Record `i` fails check `n` of R5, for a layout in which every configured bed and every assigned zone has a range. In a
check of pairs the record is the pair's lower number. -/
def State.failsCheck (s : State) (n i : Nat) : Prop :=
  match n with
  | 1 => ∃ r, s.bedRange i r ∧ r.hi < r.lo
  | 2 => ∃ j r q, i < j ∧ s.bedRange i r ∧ s.bedRange j q ∧ r.overlaps q = true
  | 3 => ∃ r k, s.bedRange i r ∧ k < 32 ∧ r.lo ≤ k ∧ k ≤ r.hi ∧ (s.segment k).area ≠ .hall
  | 4 => ∃ b, s.zoneOf i b ∧ s.bedConfigured b = false
  | 5 => ∃ b r, s.zoneOf i b ∧ (s.zoneLayout i).range = some r
      ∧ (r.hi < r.lo ∨ ∀ q, (s.bedLayout b).range = some q → ¬(q.lo ≤ r.lo ∧ r.hi ≤ q.hi))
  | 6 => ∃ j b c r q, i < j ∧ s.zoneOf i b ∧ s.zoneOf j c ∧ (s.zoneLayout i).range = some r
      ∧ (s.zoneLayout j).range = some q ∧ r.overlaps q = true
  | 7 => s.bedConfigured i = true ∧ 3 < ((List.range 16).filter (fun z => (s.zoneLayout z).bed = some i)).length
  | 8 => ∃ k, s.cellAt i k ∧ (s.segment k).area ≠ .yard
  | 9 => ∃ j k, i < j ∧ s.cellAt i k ∧ s.cellAt j k ∧ (s.cellLayout i).row = (s.cellLayout j).row
  | 10 => ∃ c k, s.bayAt i k ∧ s.cellAt c k
  | 11 => ∃ b r k, s.bayAt i k ∧ s.bedRange b r ∧ r.lo ≤ k ∧ k ≤ r.hi
  | 12 => ∃ l, i < 16 ∧ (s.zoneLayout i).follow = some l
      ∧ ((s.zoneLayout i).bed = none ∨ (s.zoneLayout l).bed ≠ (s.zoneLayout i).bed ∨ l = i
        ∨ (s.zoneLayout l).follow ≠ none)
  | _ => False

/-- Every configured bed and every assigned zone has a range, as every layout write leaves it (R2). -/
def State.rangesGiven (s : State) : Prop :=
  (∀ b, s.bedConfigured b = true → (s.bedLayout b).range.isSome = true)
    ∧ ∀ z b, s.zoneOf z b → (s.zoneLayout z).range.isSome = true

/-! ## The work of a zone (R72 to R76), as the spec words it -/

/-- A zone has just entered HOLD (R75). -/
def Zone.inHold (z : Zone) (p : Profile) : Prop := z.stage = .hold ∧ z.setpoint = some p.holdTemp ∧ z.timer = 0

/-- A zone has just entered RAMP from its own usable temperature, if it has one, and has made the entry test (R74). -/
def Zone.inRamp (z : Zone) (p : Profile) (own : Option Int) : Prop :=
  (∀ v, (match own with | some t => v = min t p.holdTemp | none => v = p.frostFloor) →
    (v = p.holdTemp → z.inHold p)
    ∧ (v ≠ p.holdTemp → z.stage = .ramp ∧ z.setpoint = some v ∧ z.timer = 0))

/-- A zone has just entered COOL (R76). -/
def Zone.inCool (z : Zone) (p : Profile) : Prop := z.stage = .cool ∧ z.setpoint = some p.holdTemp ∧ z.timer = 0

/-- A zone in COOL has made its exit test at setpoint `v` under a hall ambient (R76): it is DONE, or it stands in COOL. -/
def Zone.testedCool (z : Zone) (p : Profile) (hall : Option Int) (v : Int) (timer : Nat) : Prop :=
  (((∃ t, hall = some t ∧ v ≤ t + p.releaseDelta) ∨ v = p.frostFloor) →
    z.stage = .done ∧ z.setpoint = none ∧ z.timer = 0)
  ∧ (¬((∃ t, hall = some t ∧ v ≤ t + p.releaseDelta) ∨ v = p.frostFloor) →
    z.stage = .cool ∧ z.setpoint = some v ∧ z.timer = timer)

/-- Piece `n` is one of zone `z`'s pieces (R75). -/
def State.zonePiece (s : State) (z n : Nat) : Prop :=
  ∃ b r, (s.zoneLayout z).bed = some b ∧ (s.zoneLayout z).range = some r ∧ n ∈ (s.bed b).pieces
    ∧ (s.piece n).state = .cast ∧ r.lo ≤ (s.piece n).segment ∧ (s.piece n).segment ≤ r.hi

/-! ## The fields of a piece description (R18), as the table of section 2.3 words them -/

/-- Field `n` of a piece description is in its range, on a bed of range `r` (section 2.3, R18). -/
def pieceField (r : Range) (p : PieceSpec) (n : Nat) : Prop :=
  match n with
  | 1 => 1 ≤ p.mark.length ∧ p.mark.length ≤ 12 ∧ (∀ c ∈ p.mark, 32 ≤ c ∧ c ≤ 126) ∧ p.mark.head? ≠ some 32
  | 2 => p.segment < 32 ∧ r.lo ≤ p.segment ∧ p.segment ≤ r.hi
  | 3 => 1 ≤ p.weight ∧ p.weight ≤ 7
  | 4 => p.release ≤ 9999
  | 5 => p.ship ≤ 9999
  | _ => True

/-! ## The allocation of a frame (R91), as the spec words it -/

/-- What R91 gives a zone, before the minimum open is applied. -/
def givenSteps (k : Nat) (pubs : List PubEntry) (z : Nat) : Nat := listedSteps (fillLevels pubs [3, 2, 1] (k * 60)) z

/-- The zones of a priority level with a request above 0 (R91). -/
def levelOf (pubs : List PubEntry) (p : Nat) : List PubEntry := pubs.filter (fun e => e.priority = p && 0 < e.request)

/-- The capacity that remains for a priority level: what the higher levels were given is taken from K × 60 (R91). -/
def leftFor (k : Nat) (pubs : List PubEntry) (p : Nat) : Nat :=
  k * 60 - ((pubs.filter (fun e => p < e.priority && e.priority ≤ 3)).map (fun e => givenSteps k pubs e.zone)).sum

/-! ## The checks of a submission (R144, R145), each as the spec words it -/

/-- The crane a MOVE-SUBMIT names (section 10.6). -/
def submitCrane (f : MoveFields) : Crane := if f.crane = 0 then .W else .E

/-- Field `n` of a MOVE-SUBMIT is in order, its kind being one of the five (R144; the codes of section 10.6: STRIP 0, RESTACK 1,
LOAD-OUT 2, PARK 3, SET-DOWN 4). -/
def State.moveField (s : State) (f : MoveFields) (n : Nat) : Prop :=
  match n with
  | 1 => f.crane = 0 ∨ f.crane = 1
  | 2 => f.kind ≤ 4
  | 3 => (f.style = 0 ∨ f.style = 1 ∨ f.style = 2) ∧ (f.kind = 4 → f.style = 0) ∧ (f.kind = 3 → f.style ≠ 1)
  | 4 => f.suspendable = 0 ∨ f.suspendable = 1
  | 5 => (f.kind = 3 → f.piece = 255) ∧ (f.kind ≠ 3 → f.piece < 192)
  | 6 => (f.kind = 0 → f.sourceType = 1) ∧ ((f.kind = 1 ∨ f.kind = 2) → f.sourceType = 2)
      ∧ ((f.kind = 3 ∨ f.kind = 4) → f.sourceType = 255)
  | 7 => (f.kind = 0 → s.bedConfigured f.sourceNum = true) ∧ ((f.kind = 1 ∨ f.kind = 2) → f.sourceNum < 48)
      ∧ ((f.kind = 3 ∨ f.kind = 4) → f.sourceNum = 255)
  | 8 => ((f.kind = 0 ∨ f.kind = 1 ∨ f.kind = 4) → f.destType = 1) ∧ (f.kind = 2 → f.destType = 2)
      ∧ (f.kind = 3 → f.destType = 3)
  | 9 => ((f.kind = 0 ∨ f.kind = 1 ∨ f.kind = 4) → s.cellInUse f.destNum = true)
      ∧ (f.kind = 1 → f.destNum ≠ f.sourceNum) ∧ (f.kind = 2 → s.bayConfigured f.destNum = true)
      ∧ (f.kind = 3 → f.destNum < 32)
  | _ => False

/-- The projected top of a cell: the last of its arrivals, or the top of its stack (R105). -/
def State.lastTo (s : State) (c : Nat) : Option Nat :=
  match (s.cell c).arrivals.getLast? with
  | some n => some n
  | none => (s.cell c).stack.getLast?

/-- The unclaimed pieces that lie above a piece in a cell (R106). -/
def State.uncovered (s : State) (c p : Nat) : List Nat :=
  (((s.cell c).stack.dropWhile (fun m => m ≠ p)).drop 1).filter (fun m => (s.piece m).claim.isNone)

/-- Check `n` of R145 passes, the stock checks of R106, R107 and R113 being the checks 6 to 11: location, source direction,
destination direction, capacity, weight, burial. -/
def State.submitCheck (s : State) (f : MoveFields) (n : Nat) : Prop :=
  match n with
  | 1 => (∃ i, i < 16 ∧ s.move i = none) ∧ (s.work (submitCrane f)).queue.length < 10
  | 2 => f.style = 2 → ∀ i m, i < 16 → s.move i = some m → m.crane = submitCrane f → m.style ≠ .preempt
  | 3 => ∀ k, (s.work (submitCrane f)).orphan = some k → f.kind = 4 ∧ f.piece = k
  | 4 => f.kind ≠ 3 → (s.piece f.piece).claim = none
  | 5 => f.kind = 0 → (s.bed f.sourceNum).state ≠ .empty ∧ (s.bed f.sourceNum).state ≠ .setup
      ∧ (s.bed f.sourceNum).state ≠ .casting
  | 6 => (f.kind = 0 → (s.piece f.piece).state = .cast ∧ ∃ k, (s.piece f.piece).location = some (.bed f.sourceNum k))
      ∧ ((f.kind = 1 ∨ f.kind = 2) →
        (s.piece f.piece).state = .stock ∧ ∃ k, (s.piece f.piece).location = some (.cell f.sourceNum k))
      ∧ (f.kind = 4 → (s.piece f.piece).state = .hook ∧ (s.piece f.piece).location = some (.crane (submitCrane f)))
  | 7 => (f.kind = 1 ∨ f.kind = 2) → (s.cell f.sourceNum).arrivals = []
  | 8 => ((f.kind = 0 ∨ f.kind = 1 ∨ f.kind = 4) → (s.cell f.destNum).arrivals ≠ [] ∨ (s.cell f.destNum).pendingOut = 0)
      ∧ (f.kind = 2 → (s.bay f.destNum).opened = true)
  | 9 => ((f.kind = 0 ∨ f.kind = 1 ∨ f.kind = 4) →
        (s.cell f.destNum).stack.length + (s.cell f.destNum).arrivals.length + 1 ≤ (s.cellLayout f.destNum).limit)
      ∧ (f.kind = 2 →
        (s.bay f.destNum).load + (s.bay f.destNum).pendingWeight + (s.piece f.piece).weight
            ≤ (s.bay f.destNum).limit.getD 0
        ∧ (s.bay f.destNum).shipped.length + (s.bay f.destNum).pendingCount + 1 ≤ 16)
  | 10 => (f.kind = 0 ∨ f.kind = 1 ∨ f.kind = 4) → ∀ k, s.lastTo f.destNum = some k →
      (s.piece f.piece).weight ≤ (s.piece k).weight
  | 11 => (f.kind = 1 ∨ f.kind = 2) → s.uncovered f.sourceNum f.piece = []
  | _ => False

/-- The answer of the check of R145 that refuses. -/
def State.submitAnswer (s : State) (f : MoveFields) (n : Nat) : Reply :=
  match n with
  | 3 => { result := .state, data := .slot ((s.work (submitCrane f)).orphan.getD 0) }
  | 4 => { result := .claimed, data := .serial ((s.piece f.piece).claim.getD 0) }
  | 5 => { result := .state, data := .bedState (s.bed f.sourceNum).state }
  | 6 => { result := .notFound }
  | 7 => { result := .inUse, data := .side .source }
  | 8 => { result := if f.kind = 2 then .state else .inUse, data := .side .destination }
  | 10 => { result := .weight,
            data := .weight ((s.lastTo f.destNum).getD 0) (s.piece ((s.lastTo f.destNum).getD 0)).weight }
  | 11 => { result := .buried, data := .count (s.uncovered f.sourceNum f.piece).length }
  | _ => { result := .full }

/-! ## A crane and its work -/

/-- Every entry of a queue but a barrier is a live submitted move of the queue's crane, and no move stands in a queue twice
(R146, R147, R159). -/
def State.queuesRight (s : State) : Prop :=
  ∀ x : Crane,
    (∀ (a j : Nat), (s.work x).queue[a]? = some (.move j) → j < 16 ∧ ∃ m, s.move j = some m ∧ m.crane = x)
    ∧ ∀ (a b j : Nat), (s.work x).queue[a]? = some (.move j) → (s.work x).queue[b]? = some (.move j) → a = b

/-- The lane of a crane passes a move over: it is PENDING or ACTIVE, and the move is neither of a lane kind nor a SET-DOWN
(R148). -/
def State.lanePasses (s : State) (x : Crane) (m : Move) : Prop := (s.work x).lane ≠ .none ∧ m.kind = .strip

/-- A barrier stands before place `a` of a crane's queue (R147). -/
def State.behindBarrier (s : State) (x : Crane) (a : Nat) : Prop := ∃ b, b < a ∧ (s.work x).queue[b]? = some .barrier

/-- The move in slot `j` is crane `x`'s waiting head (R146, R148): nothing of the crane is under way, it has no yield, and the
first entry of its queue that is neither SUSPENDED nor passed over by the lane is that move, WAITING, with no barrier before
it. -/
structure State.waitingHead (s : State) (x : Crane) (j : Nat) (o : Move) : Prop where
  slot : j < 16
  held : s.move j = some o
  crane : o.crane = x
  waits : o.state = .waiting
  idle : ∀ k q, k < 18 → s.move k = some q → q.crane = x → q.underWay = false
  yields : s.move (yieldSlot x) = none
  stands : ¬s.lanePasses x o
  head : ∃ a : Nat, (s.work x).queue[a]? = some (.move j) ∧ ∀ b, b < a → ∃ k q, (s.work x).queue[b]? = some (.move k)
    ∧ s.move k = some q ∧ (q.state = .suspended ∨ s.lanePasses x q)

/-- The yield record of a crane holds nothing, or a PARK of that crane that carries no piece (R141, R157). -/
def State.yieldRight (s : State) (x : Crane) : Prop :=
  ∀ y, s.move (yieldSlot x) = some y → y.crane = x ∧ y.kind = .park ∧ y.piece = none ∧ y.isLifted = false

/-- The move in slot `i` is crane `x`'s, and no other of its moves, its yield apart, is TO-PICK or LIFTED (R148). -/
def State.mainMove (s : State) (x : Crane) (i : Nat) (m : Move) : Prop :=
  i < 16 ∧ s.move i = some m ∧ m.crane = x
    ∧ ∀ j o, j < 16 → j ≠ i → s.move j = some o → o.crane = x → o.underWay = false

/-- The move in slot `i` is crane `x`'s only one, alone in its queue, and the crane has no yield. -/
structure State.onlyMove (s : State) (x : Crane) (i : Nat) (m : Move) : Prop where
  slot : i < 16
  held : s.move i = some m
  crane : m.crane = x
  queue : (s.work x).queue = [.move i]
  yields : s.move (yieldSlot x) = none
  alone : ∀ j o, j < 18 → j ≠ i → s.move j = some o → o.crane ≠ x

/-- A report of crane `x` at segment `n` finds nothing amiss: the latch CLEAR, no mismatch, and the crane ACTIVE with an
interval that holds the segment. -/
structure State.soundReport (s : State) (h : Header) (x : Crane) (n : Nat) (r : Range) : Prop where
  reporting : s.reporting h x
  segment : n < 32
  clear : s.rru.breach = none
  hook : (s.work x).mismatch = false
  active : (s.crane x).presence = .active
  interval : (s.crane x).interval = some r
  inside : r.has n = true

/-- Such a report finds the crane's only move, QUEUED or WAITING, at the head of its queue, to be asked for `leg`: a PARK its park
leg, any other kind but a SET-DOWN its pick leg (R148, R150). -/
structure State.asking (s : State) (h : Header) (x : Crane) (n i : Nat) (m : Move) (leg : Leg) (r : Range) : Prop where
  report : s.soundReport h x n r
  only : s.onlyMove x i m
  orphan : (s.work x).orphan = none
  lane : (s.work x).lane = .none
  stands : m.state = .queued ∨ m.state = .waiting
  stop : m.stop = .none
  leg : (m.kind = .park ∧ leg = .park) ∨ (m.kind ≠ .park ∧ m.kind ≠ .setDown ∧ m.piece.isSome = true ∧ leg = .pick)
  refusal : ∀ q, (s.crane x).refusal = some q → q.serial = m.serial

/-- Such a report finds no move of the crane under way, SUSPENDED or called for as a yield, no orphan, and the other crane waiting on
nothing: the crane's work is what its queue gives (R148). -/
structure State.queueReport (s : State) (h : Header) (x : Crane) (n : Nat) (r : Range) : Prop where
  report : s.soundReport h x n r
  orphan : (s.work x).orphan = none
  idle : ∀ k q, k < 18 → s.move k = some q → q.crane = x → q.underWay = false ∧ q.state ≠ .suspended
  yields : s.move (yieldSlot x) = none
  other : (s.crane x.other).refusal = none
  queues : s.queuesRight

/-- The first three gates let a leg pass (R150): a strip pick finds its bed RELEASED or STRIPPING (R31), the pick of a LOAD-OUT
its piece ship-ok (R61), and a pick its piece on top of its source cell and first of its destination cell's arrivals
(R109). -/
def State.gatesPass (s : State) (m : Move) (leg : Leg) : Prop :=
  leg = .pick →
    (∀ b, m.source = some (.bed b) → (s.bed b).state = .released ∨ (s.bed b).state = .stripping)
    ∧ (m.kind = .loadOut → ∀ p, m.piece = some p → (s.piece p).shipOk = true)
    ∧ (∀ c p, m.source = some (.cell c) → m.piece = some p → (s.cell c).stack.getLast? = some p)
    ∧ ∀ c p, m.dest = .cell c → m.piece = some p → (s.cell c).arrivals.head? = some p

/-- What a crane that becomes OUT does to its moves (R160): its yield is CANCELLED by the part, and its SUSPENDED moves then
resume; its TO-PICK move goes back to WAITING with CRANE, or takes the effect of its stop at once; a LIFTED one stands in
WAIT-PLACE with its carry hull; moves that only wait stand. `t`: the state in which this has been done. -/
def State.movesOut (s t : State) (x : Crane) : Prop :=
  t.move (yieldSlot x) = none
    ∧ (∀ y, s.move (yieldSlot x) = some y → (t.condSet .PL).overflow = false →
        ∃ c ∈ (t.condSet .PL).records, c.kind = .moveCancelled ∧ c.subject = .serial y.serial)
    ∧ (∀ i m, s.mainMove x i m → m.state = .toPick →
        (m.stop = .none → t.move i = some { m with state := .waiting, reason := some .crane })
        ∧ ((m.stop = .owed .cancel ∨ m.stop = .sent .cancel) → t.move i = none)
        ∧ ((m.stop = .owed .suspend ∨ m.stop = .sent .suspend) →
          t.move i = some { m with state := .suspended, stop := .none }))
    ∧ (∀ i m p, s.mainMove x i m → m.state = .lifted p → t.move i = some { m with state := .lifted .waitPlace }
        ∧ (t.crane x).hull = (s.crane x).hull)
    ∧ (∀ j o, j < 16 → s.move j = some o → (o.state = .queued ∨ o.state = .waiting) → t.move j = some o)
    ∧ (∀ j o, j < 16 → s.move j = some o → o.crane = x → o.state = .suspended → t.move j =
        if (s.move (yieldSlot x)).isSome then some { o with state := .waiting, reason := none } else some o)
    ∧ (∀ j o, s.move j = some o → o.crane ≠ x → t.move j = some o)

/-! ## Frames on the wire (section 10.1, R164, R165) -/

/-- The bytes of a frame that is found bad at its last byte: a length byte outside 2 to 120, or a check that differs from the
check computed. -/
def badBytes (bytes : List Nat) : Prop :=
  (∃ l, (l < 2 ∨ 120 < l) ∧ bytes = [0xA5, l])
  ∨ ∃ l seq kind body c1 c0, 2 ≤ l ∧ l ≤ 120 ∧ body.length + 1 = l
      ∧ c1 * 256 + c0 ≠ (frameCheck ((l :: seq :: kind :: body).map (BitVec.ofNat 8))).toNat
      ∧ bytes = 0xA5 :: l :: seq :: kind :: (body ++ [c1, c0])

/-- The bytes of a frame begun and not ended: its A5h, or its A5h with a length in range and not all of what follows. -/
def begunBytes (bytes : List Nat) : Prop :=
  bytes = [0xA5] ∨ ∃ l rest, 2 ≤ l ∧ l ≤ 120 ∧ rest.length < l + 3 ∧ bytes = 0xA5 :: l :: rest

/-- Bytes as a point-to-point port's characters carry them. -/
def plain (bytes : List Nat) : List Chr := bytes.map (fun b => ⟨b, false⟩)

/-! ## Invariants -/

/-- The attention line of every port is high exactly when its set is not empty, and low while the part is held in reset
(R180, R14). -/
def State.linesRight (s : State) : Prop :=
  ∀ p : Point, (s.condSet p).line = if (s.condSet p).records = [] ∨ s.held = true then .low else .high

/-- No condition set holds more records than its capacity, and none holds two of one kind and subject (R175). -/
def State.setsRight (s : State) : Prop :=
  ∀ p : Point, (s.condSet p).records.length ≤ setCapacity p
    ∧ ((s.condSet p).records.map (fun r => (r.kind, r.subject))).Nodup

/-- Whenever both cranes hold an interval, the west one's highest segment plus the gap is less than the east one's lowest
(R124). In CONFIG neither crane holds one (R139). -/
def State.apart (s : State) : Prop :=
  (∀ w e, (s.crane .W).interval = some w → (s.crane .E).interval = some e → w.hi + s.lyt.yard.gap < e.lo)
    ∧ (s.run = false → (s.crane .W).interval = none ∧ (s.crane .E).interval = none)

/-- Every accumulator is at most 6,000,000 and every suspect count at most 255 (R50). -/
def State.accumulatorsHeld (s : State) : Prop :=
  ∀ n, (s.piece n).accumulator ≤ Config.accumulatorMax ∧ (s.piece n).suspect ≤ Config.suspectMax

/-- The second count is 0 to 59, the minute count at most 4,294,967,295, and the clock is RUNNING exactly in RUN (R9). -/
def State.clockRight (s : State) : Prop :=
  s.clk.second ≤ 59 ∧ s.clk.minute ≤ Config.word32Max ∧ s.clk.running = s.run

/-- Every numbered table stands in its canonical form, none of its records numbered outside the part (log entry 36). -/
def State.tablesRight (s : State) : Prop :=
  (s.lyt.segments.wf {} Config.segments = true ∧ s.lyt.beds.wf {} (Config.beds + 1) = true
    ∧ s.lyt.zones.wf {} Config.zones = true ∧ s.lyt.cells.wf {} Config.cells = true ∧ s.lyt.bays.wf {} 3 = true)
    ∧ (s.beds.wf {} (Config.beds + 1) = true ∧ s.pct.wf {} Config.slots = true
      ∧ s.stk.cells.wf {} Config.cells = true ∧ s.stk.bays.wf {} 3 = true)
    ∧ (s.zcu.zones.wf {} Config.zones = true ∧ s.zcu.profiles.wf {} Config.profiles = true)
    ∧ (s.pcv.channels.wf {} Config.channels = true ∧ s.pcv.published.wf {} Config.channels = true
      ∧ s.pcv.record.wf none Config.channels = true)
    ∧ s.valves.wf .low Config.zones = true
    ∧ (s.mvu.moves.wf none Config.tableSlots = true ∧ s.rru.vacates.wf none Config.segments = true)
    ∧ (s.cnd.flags.wf {} (Config.beds + 1) = true ∧ ∀ p, (s.condSet p).modes.wf .both 16 = true)

/-- The source or destination of a move names a record of the part (R141). -/
def Move.placesRight (m : Move) : Prop :=
  (∀ n, m.piece = some n → n < Config.slots)
    ∧ (match m.source with
        | some (.bed b) => b ≤ Config.beds
        | some (.cell c) => c < Config.cells
        | none => True)
    ∧ (match m.dest with
        | .cell c => c < Config.cells
        | .bay b => b ≤ 2
        | .segment _ => True)

/-- The numbers by which records name other records lie in the part: the slots of the plans, the pieces and places of the
moves, the beds of the zones, the bed polled, the channel under conversion (R16, R37, R69, R141, R171). -/
def State.namesRight (s : State) : Prop :=
  (∀ b p, (s.bed b).plan = some p → ∀ n ∈ p.slots, n < Config.slots)
    ∧ (∀ i m, s.move i = some m → m.placesRight)
    ∧ (∀ z b, (s.zoneLayout z).bed = some b → b ≤ Config.beds)
    ∧ (∀ q, s.lnk.poll = some q → q.bed ≤ Config.beds)
    ∧ ∀ c, s.pcv.scan = .scanning c → c < Config.channels

/-- The serial counter is 1 to 4,294,967,295 (R142). -/
def State.serialRight (s : State) : Prop := 1 ≤ s.mvu.serial ∧ s.mvu.serial ≤ Config.word32Max

/-- A zone with a request above 0 has a bed that is CURING or COOLING, and a priority other than 0 (R81). In CONFIG no scan
runs and no zone requests heat (R9, R38, R12). -/
def State.heatRight (s : State) : Prop :=
  (∀ z, z < Config.zones → 0 < (s.zone z).request → (s.zone z).priority ≠ 0
      ∧ ∃ b, (s.zoneLayout z).bed = some b ∧ ((s.bed b).state = .curing ∨ (s.bed b).state = .cooling))
    ∧ (s.run = false → s.pcv.scan = .idle ∧ ∀ z, z < Config.zones → (s.zone z).request = 0)

/-- The valves a frame opens at a step. -/
def Frame.openZones (f : Frame) (step : Nat) : List Nat := (List.range Config.zones).filter (f.openAt step)

/-- The prepared and the running frame each open at most their K valves at every step (R94, R95). -/
def State.budgetRight (s : State) : Prop :=
  ∀ f, (s.sha.prepared = some f ∨ ∃ n, s.sha.running = some (f, n)) → ∀ step, step < Config.frameSteps →
    (f.openZones step).length ≤ f.k

end Sys2Proof.Machine
end

