-- ==== Sys2Proof/Certificates/Slice0/Obligations.lean ====
section
/-! DEFINITION. Obligations.lean: the statements for the provers. The words they are made of (`State.planner`,
`State.answered`, `State.heard`, the invariants) stand in Safety.lean, and the bodies that a master writes
(`planWritten`, `four`, ...) in Machine/Operands.lean: where section 10.6 gives no layout of a body, it is the model's (log
entry 5). -/

section

open Sys2Proof Sys2Proof.Machine

/-! ## The queue and the outcomes -/

/-- A step takes the command at the front of the queue and executes it with the rest; on an empty queue the part idles. No
command stops the part, and no command touches the queue of waiting commands: every command, in every state, answers a
next state with the queue as it was (the model's own queue, log entry 1). -/
def Obligations.StepTakesFront : Prop :=
  (∀ (c : Instr) (s : State), step { s with pending := c :: s.pending } = exec c s)
    ∧ (∀ s : State, s.pending = [] → step s = .next s)
    ∧ ∀ (c : Instr) (s : State), ∃ t, exec c s = .next t ∧ t.pending = s.pending

/-! ## Requests at the link (chapter 10, R4, R8, R14) -/

/-- How a good frame with the high bit of its kind clear is received: not at all while the part is held in reset (R14), nor on
BL outside an answer window (R165); one that ends while its port is HANDLING or REPLYING is discarded and raises the
overrun count, held at 65,535 (R167); one that closes a chain of its sequence and kind is one message with the bodies of
the chain before it, and one of another sequence or kind discards the chain, with an error counted, and is a message by
itself (R166). The port's states between steps, and what follows another sequence, are the model's choice (log entries 6
and 9). -/
def Obligations.RequestsReceived : Prop :=
  ∀ (h : Header) (k : Kind) (body : List Nat) (s : State),
    (s.held = true → exec (requestCommand h k body) s = .next s)
    ∧ (s.held = false → h.port = .BL → s.lnk.window = false → exec (requestCommand h k body) s = .next s)
    ∧ (s.held = false → h.port ≠ .BL →
      (((s.port h.port).rx = .handling ∨ (s.port h.port).rx = .replying) →
        exec (requestCommand h k body) s = .next (s.setPort h.port
          { s.port h.port with begun := [], overruns := min 65535 ((s.port h.port).overruns + 1) }))
      ∧ ((s.port h.port).rx = .chain → (s.port h.port).inHand = some (h.seq, k) →
        exec (requestCommand h k body) s = exec (requestCommand h k ((s.port h.port).joined ++ body)) (s.setPort h.port
          { s.port h.port with rx := .hunt, inHand := none, frames := 0, joined := [], reply := none }))
      ∧ ((s.port h.port).rx = .chain → (s.port h.port).inHand ≠ some (h.seq, k) →
        exec (requestCommand h k body) s = exec (requestCommand h k body) (s.setPort h.port
          { rx := .hunt, inHand := none, frames := 0, joined := [], begun := [], reply := none,
            errors := min 65535 ((s.port h.port).errors + 1), overruns := (s.port h.port).overruns })))

/-- Which kinds each port permits, and the answers UNKNOWN and WRONG-PORT (R168): a good request of a code that is no kind is
answered UNKNOWN, one of a kind not permitted on its port WRONG-PORT, in CONFIG and in RUN alike. On PL, CW and CE no record
changes but the reply being sent; on BL the answer of the panel has been taken first (R171, R172). -/
def Obligations.KindsAndPorts : Prop :=
  (∀ k : Kind, permitted k .PL = true ↔ k ∈ ([.layoutSegment, .layoutBed, .layoutZone, .layoutCell, .layoutBay, .layoutYard,
      .profileWrite, .lockLayout, .setClock, .planLoad, .planClear, .moveSubmit, .moveCancel, .barrier, .laneRequest,
      .laneRelease, .declareOut, .breachClear, .zonePriority, .zoneFollow, .advance, .heatOff, .heatOn, .setK, .setMinopen,
      .probeTrim, .sampleTime, .bayOpen, .bayClose, .placeRecord, .removeRecord, .stockSeek, .stockRead, .pieceQuery,
      .bedQuery, .zoneQuery, .moveQuery, .craneQuery, .condRead, .condAck, .reportMode, .restart] : List Kind))
    ∧ (∀ (k : Kind) (p : Port), (p = .CW ∨ p = .CE) → (permitted k p = true ↔
        k ∈ ([.craneReport, .stockSeek, .stockRead, .pieceQuery, .condRead, .condAck] : List Kind)))
    ∧ (∀ k : Kind, permitted k .BL = true ↔ k ∈ ([.setupDone, .castStart, .castEnd, .pourAbort, .releaseRequest, .strandsCut,
      .bedClear, .flagsAck, .nothing] : List Kind))
    ∧ ∀ (h : Header) (k : Kind) (body : List Nat) (s : State),
      (s.awaits h.port →
        ((∃ code, k = .unknown code) →
            exec (requestCommand h k body) s = .next (s.answered h k { result := .unknown }))
        ∧ ((∀ code, k ≠ .unknown code) → permitted k h.port = false →
            exec (requestCommand h k body) s = .next (s.answered h k { result := .wrongPort })))
      ∧ (∀ b, s.answering h b →
        ((∃ code, k = .unknown code) →
            exec (requestCommand h k body) s = .next ((s.heard b).answered h k { result := .unknown }))
        ∧ ((∀ code, k ≠ .unknown code) → permitted k .BL = false →
            exec (requestCommand h k body) s = .next ((s.heard b).answered h k { result := .wrongPort })))

/-- What the link answers next, for every request of a kind its port permits: NOT-RUNNING in CONFIG (R8), LOCKED in RUN (R4),
BAD-FIELD naming field 0 for a body whose length does not fit its kind (R169), on a port that awaits it and, for a panel in
RUN, on BL. None of them changes a record but the reply being sent; on BL the panel's answer has been taken. The lengths that
the spec gives are 1 for a kind with no fields (section 10.1), 3, 9 and 1 for CRANE-REPORT, MOVE-SUBMIT and PIECE-QUERY
(section 10.6); the others are the model's (log entry 5). -/
def Obligations.LinkAnswers : Prop :=
  (∀ (h : Header) (k : Kind) (body : List Nat) (s : State), permitted k h.port = true →
    (s.awaits h.port →
      (s.run = false → admittedInConfig k = false →
          exec (requestCommand h k body) s = .next (s.answered h k { result := .notRunning }))
      ∧ (s.run = true → lockedInRun k = true →
          exec (requestCommand h k body) s = .next (s.answered h k { result := .locked }))
      ∧ (((s.run = false ∧ admittedInConfig k = true) ∨ (s.run = true ∧ lockedInRun k = false)) →
          bodyFits k body.length = false →
          exec (requestCommand h k body) s = .next (s.answered h k (badFieldReply 0))))
    ∧ ∀ b, s.panel h b → bodyFits k body.length = false →
        exec (requestCommand h k body) s = .next ((s.heard b).answered h k (badFieldReply 0)))
    ∧ (∀ k ∈ ([.lockLayout, .breachClear, .heatOff, .heatOn, .stockRead, .condRead, .restart, .setupDone, .castStart, .castEnd,
        .pourAbort, .releaseRequest, .strandsCut, .bedClear, .flagsAck, .nothing, .pieceQuery] : List Kind),
        ∀ n, bodyFits k n = true ↔ n = 1)
    ∧ (∀ n, bodyFits .craneReport n = true ↔ n = 3) ∧ ∀ n, bodyFits .moveSubmit n = true ↔ n = 9

/-! ## Resets and the supply (R12 to R15) -/

/-- What the machine holds after a cold reset, record by record (the values of R1, R9, R16, R36, R37, R67, R69, R88, R101,
R105, R112, R117, R119, R120, R141, R142, R163, R174, R181, R182). A cold reset, whatever
stood before, leaves every bed record EMPTY with no plan, no pieces, no minutes and its panel PRESENT with missed count 0, and
every piece record FREE, held by no plan (R34). -/
def Obligations.ResetValues : Prop :=
  State.reset.run = false ∧ State.reset.held = false ∧ State.reset.clk = { minute := 0, second := 0, running := false }
    ∧ State.reset.lyt.yard
        = { gap := 1, datum := -100, cap := 700, window := 30, presenceW := 5, presenceE := 5 }
    ∧ (∀ n, State.reset.segment n = { area := .yard, vacate := 4 })
    ∧ (∀ b, State.reset.bedLayout b = { configured := false, range := none })
    ∧ (∀ z, State.reset.zoneLayout z = { bed := none, range := none, sense := .openHigh, follow := none })
    ∧ (∀ c, State.reset.cellLayout c = { segment := none, row := 0, limit := 4 })
    ∧ (∀ b, State.reset.bayLayout b = { segment := none })
    ∧ (∀ b, State.reset.bed b =
        { state := .empty, plan := none, pieces := [], castMinute := none, deadline := none,
          panelLost := false, missed := 0 })
    ∧ (∀ c, State.reset.channel c =
        { trim := 0, state := .unsettled, goodRun := 0, badRun := 0, lastRaw := none,
          lastResult := none, temp := none })
    ∧ State.reset.pcv.sampleTime = 2 ∧ State.reset.pcv.scan = .idle ∧ State.reset.pcv.refPass = true
    ∧ State.reset.pcv.fault = false ∧ (∀ c, State.reset.pcv.record.read none c = none)
    ∧ (∀ c, State.reset.published c = { state := .unsettled, temp := none })
    ∧ (∀ p, State.reset.profile p =
        { frostFloor := 50, delay := 180, rampRate := 3, holdTemp := 550, holdBias := 12,
          gain := 6, holdExit := 500, maxHold := 720, coolRate := 2, releaseDelta := 200, fallback := 15 })
    ∧ (∀ z, State.reset.zone z =
        { stage := .idle, profile := none, setpoint := none, timer := 0, priority := 2,
          pendingPriority := none, follow := none, advance := false, computed := 0, request := 0 })
    ∧ State.reset.sha =
        { k := 6, pendingK := none, minOpen := 3, pendingMinOpen := none, inhibit := false,
          prepared := none, running := none }
    ∧ (∀ z, State.reset.valve z = .low)
    ∧ (∀ n, State.reset.piece n =
        { state := .free, desc := none, accumulator := 0, suspect := 0, castMinute := none, location := none, claim := none })
    ∧ (∀ c, State.reset.cell c = { stack := [], arrivals := [], pendingOut := 0 })
    ∧ (∀ b, State.reset.bay b =
        { opened := false, limit := none, load := 0, pendingWeight := 0, pendingCount := 0, shipped := [] })
    ∧ State.reset.stk.generation = 0 ∧ (∀ p, State.reset.cursor p = 0)
    ∧ (∀ x, State.reset.crane x =
        { presence := .unseen, position := none, hook := none, interval := none,
          timer := none, outside := false, refusal := none, hull := none })
    ∧ (∀ n, State.reset.vacate n = none) ∧ State.reset.rru.breach = none ∧ State.reset.rru.breachCount = 0
    ∧ State.reset.rru.deadlock = none
    ∧ (∀ i, State.reset.move i = none) ∧ State.reset.mvu.serial = 1
    ∧ (∀ x, State.reset.work x = { queue := [], lane := .none, mismatch := false, orphan := none, lastOrder := none })
    ∧ (∀ p, (State.reset.condSet p).records = [] ∧ (State.reset.condSet p).overflow = false
              ∧ (State.reset.condSet p).line = .low)
    ∧ (∀ p k, State.reset.modeOf p k = .both)
    ∧ (∀ b, State.reset.flags b = { ready := none, expired := none, probeLost := none, panelLost := none })
    ∧ (∀ p, State.reset.port p =
        { rx := .hunt, inHand := none, frames := 0, joined := [], begun := [], reply := none, errors := 0, overruns := 0 })
    ∧ State.reset.lnk.poll = none ∧ State.reset.lnk.window = false ∧ State.reset.lnk.pollSeq = 0
    ∧ ∀ s : State, ∃ t, exec .coldReset s = .next t
        ∧ (∀ b, t.bed b =
          { state := .empty, plan := none, pieces := [], castMinute := none, deadline := none,
            panelLost := false, missed := 0 })
        ∧ ∀ n, (t.piece n).state = .free

/-- A cold reset, and the end of a hold in CONFIG or in which the retention supply was absent, clear every record to its
cold-reset value, whatever stood before; the supply input and the commands still to come stand (R12, R13). When the records
are cleared, that a supply absent as a RESTART's hold began counts, and what stands, are the model's choice (log entries 10,
11 and 34). -/
def Obligations.ColdResets : Prop :=
  (∀ s : State, exec .coldReset s = .next
      { State.reset with rst := { State.reset.rst with retention := s.rst.retention }, pending := s.pending })
    ∧ ∀ s : State, s.held = true → (s.run = false ∨ s.rst.retention = false ∨ s.rst.supplyLost = true) →
        exec .warmReset s = .next
          { State.reset with rst := { State.reset.rst with retention := s.rst.retention }, pending := s.pending }

/-- Asserting the reset line holds the part (R14): every attention line low, the bed-line driver disabled, every request, reply
and frame in progress lost with no window open; every valve line closed by its zone's sense where the reset is a warm one as
things stand, and low where it is a cold one; the records stand. The driver pin, that the records stand until the hold ends,
the lines of a cold hold, and the note of an absent supply are the model's choice (log entries 10, 11 and 12). -/
def Obligations.LineHolds : Prop :=
  ∀ s : State, s.rst.hold ≠ .line → ∃ t, exec .resetLineAssert s = .next t
    ∧ t.rst.hold = .line ∧ t.rst.driverDisabled = true ∧ t.rst.restartOwed = false
    ∧ t.rst.supplyLost = !s.rst.retention ∧ t.rst.retention = s.rst.retention
    ∧ (s.run = true → s.rst.retention = true → ∀ z, z < 16 → t.valve z = match (s.zoneLayout z).sense with
          | .openHigh => Level.low
          | .openLow => Level.high)
    ∧ ((s.run = false ∨ s.rst.retention = false) → ∀ z, t.valve z = .low)
    ∧ (∀ p, t.condSet p = { s.condSet p with line := .low })
    ∧ (∀ p, t.port p =
        { s.port p with rx := .hunt, inHand := none, frames := 0, joined := [], begun := [], reply := none })
    ∧ t.lnk.window = false ∧ t.lyt = s.lyt ∧ t.clk = s.clk ∧ t.beds = s.beds ∧ t.pcv = s.pcv ∧ t.zcu = s.zcu
    ∧ t.sha = s.sha ∧ t.pct = s.pct ∧ t.stk = s.stk ∧ t.rru = s.rru ∧ t.mvu = s.mvu ∧ t.pending = s.pending

/-- The end of a hold in RUN with the retention supply present throughout is a warm reset: what each chapter's closing rule
keeps and clears (R15, R35, R49, R87, R100, R118, R140, R161, R163, R174, R182). That the records are cleared at this
command is the model's choice (log entry 10). -/
def Obligations.WarmResetKeeps : Prop :=
  ∀ s : State, s.held = true → s.run = true → s.rst.retention = true → s.rst.supplyLost = false →
    ∃ t, exec .warmReset s = .next t
      ∧ t.held = false ∧ t.lyt = s.lyt ∧ t.clk = { minute := s.clk.minute, second := 0, running := true }
      ∧ (∀ b, b ≤ 12 → (s.bed b).state ≠ .permitted →
          t.bed b = { s.bed b with panelLost := false, missed := 0 })
      ∧ (∀ b, b ≤ 12 → (s.bed b).state = .permitted →
          t.bed b = { s.bed b with state := .ready, deadline := none, panelLost := false, missed := 0 })
      ∧ (∀ c, c < 19 → t.channel c =
          { trim := (s.channel c).trim, state := .unsettled, goodRun := 0, badRun := 0,
            lastRaw := none, lastResult := none, temp := none })
      ∧ (∀ c, t.published c = { state := .unsettled, temp := none })
      ∧ t.pcv.sampleTime = s.pcv.sampleTime ∧ t.pcv.scan = .idle ∧ t.pcv.refPass = true ∧ t.pcv.fault = false
      ∧ t.zcu.profiles = s.zcu.profiles
      ∧ (∀ z, z < 16 → (t.zone z).stage = (s.zone z).stage ∧ (t.zone z).timer = (s.zone z).timer
          ∧ (t.zone z).profile = (s.zone z).profile ∧ (t.zone z).priority = (s.zone z).priority
          ∧ (t.zone z).follow = (s.zone z).follow ∧ (t.zone z).pendingPriority = none
          ∧ (t.zone z).advance = false ∧ (t.zone z).computed = 0 ∧ (t.zone z).request = 0)
      ∧ (∀ z n, z < 16 → (s.zone z).profile = some n → (t.zone z).setpoint = match (s.zone z).stage with
          | .delay => some (s.profile n).frostFloor
          | .hold => some (s.profile n).holdTemp
          | .idle => none
          | .startPending => none
          | .ramp => none
          | .cool => none
          | .done => none)
      ∧ t.sha =
          { k := s.sha.k, pendingK := none, minOpen := s.sha.minOpen, pendingMinOpen := none,
            inhibit := s.sha.inhibit, prepared := none, running := none }
      ∧ (∀ z, z < 16 → t.valve z = match (s.zoneLayout z).sense with
          | .openHigh => Level.low
          | .openLow => Level.high)
      ∧ (∀ n, n < 192 → t.piece n = { s.piece n with claim := none })
      ∧ (∀ c, c < 48 → t.cell c = { stack := (s.cell c).stack, arrivals := [], pendingOut := 0 })
      ∧ (∀ b, b < 3 → t.bay b = { s.bay b with pendingWeight := 0, pendingCount := 0 })
      ∧ t.stk.generation = s.stk.generation ∧ (∀ p, t.cursor p = 0)
      ∧ (∀ x, t.crane x = {}) ∧ (∀ n, t.vacate n = none) ∧ t.rru.breach = none ∧ t.rru.deadlock = none
      ∧ t.rru.breachCount = s.rru.breachCount
      ∧ (∀ i, t.move i = none) ∧ t.mvu.serial = s.mvu.serial
      ∧ (∀ x, (t.work x).queue = [] ∧ (t.work x).lane = .none ∧ (t.work x).mismatch = false
          ∧ (t.work x).lastOrder = none)
      ∧ (∀ x n, (t.work x).orphan = some n →
          (s.piece n).state = .hook ∧ (s.piece n).location = some (.crane x))
      ∧ (∀ x n, n < 192 → (s.piece n).state = .hook → (s.piece n).location = some (.crane x) →
          ∃ m, (t.work x).orphan = some m)
      ∧ (t.condSet .PL).records = [⟨.restarted, .none, s.clk.minute, 1, .notice⟩] ∧ (t.condSet .PL).line = .high
      ∧ (t.condSet .CW).records = [] ∧ (t.condSet .CW).line = .low
      ∧ (t.condSet .CE).records = [] ∧ (t.condSet .CE).line = .low
      ∧ (∀ p, (t.condSet p).overflow = false ∧ (t.condSet p).modes = (s.condSet p).modes)
      ∧ (∀ b, t.flags b = {}) ∧ t.lnk = {} ∧ t.pending = s.pending

/-- RESTART is answered DONE with nothing else changed but the warm reset owed; the end of a reply makes its port await a
frame, and on BL the next bed is then polled (R167, R171); the end of RESTART's reply begins the hold of the warm reset, its
valve lines as in any hold (R13, R14). The retention supply's loss while the reset line is asserted makes the reset a cold
one, every valve line low; its loss at any other time, and its return, change the supply input alone (R12). The end of a reply
as a command, that the records stand in the hold, and the note of a lost supply are the model's choice (log entries 6, 10 and
11). -/
def Obligations.RestartAndSupply : Prop :=
  (∀ (s : State) (h : Header), s.planner h → exec (.restart h [0]) s = .next
      ({ s with rst := { s.rst with restartOwed := true } }.answered h .restart ok))
    ∧ (∀ (s : State) (p : Port), s.held = false → (s.port p).rx = .replying → p ≠ .BL →
        (p ≠ .PL ∨ s.rst.restartOwed = false) → exec (.replySent p) s = .next
          (s.setPort p { s.port p with rx := .hunt, inHand := none, frames := 0, joined := [], reply := none }))
    ∧ (∀ s : State, s.held = false → (s.port .BL).rx = .replying → exec (.replySent .BL) s = exec .bedPoll
          (s.setPort .BL { s.port .BL with rx := .hunt, inHand := none, frames := 0, joined := [], reply := none }))
    ∧ (∀ s : State, s.held = false → (s.port .PL).rx = .replying → s.rst.restartOwed = true →
        ∃ t, exec (.replySent .PL) s = .next t ∧ t.rst.hold = .restart ∧ t.rst.driverDisabled = true
          ∧ t.rst.restartOwed = false
          ∧ (s.run = true → s.rst.retention = true → ∀ z, z < 16 → t.valve z = match (s.zoneLayout z).sense with
                | .openHigh => Level.low
                | .openLow => Level.high)
          ∧ (∀ p, (t.condSet p).line = .low) ∧ (∀ p, (t.port p).rx = .hunt ∧ (t.port p).reply = none)
          ∧ t.lnk.window = false
          ∧ t.lyt = s.lyt ∧ t.clk = s.clk ∧ t.beds = s.beds ∧ t.pct = s.pct ∧ t.stk = s.stk ∧ t.rru = s.rru
          ∧ t.mvu = s.mvu)
    ∧ (∀ s : State, s.rst.hold = .line → ∃ t, exec .retentionSupplyLoss s = .next t
        ∧ t.rst = { s.rst with retention := false, supplyLost := true } ∧ (∀ z, t.valve z = .low)
        ∧ { t with rst := s.rst, valves := s.valves } = s)
    ∧ (∀ s : State, s.rst.hold ≠ .line →
        exec .retentionSupplyLoss s = .next { s with rst := { s.rst with retention := false } })
    ∧ ∀ s : State, exec .retentionSupplyReturn s = .next { s with rst := { s.rst with retention := true } }

/-! ## The timebase (R9, R10, R29, R90, R122, R129) -/

/-- A second that does not complete a minute (R9, R10): the second count rises, the timers above 1 fall by 1, and every
block that takes no second tick stands. While the clock is STOPPED or the part is held no tick is delivered, and nothing
changes. The second at which a presence timer or a vacate record runs out (R122, R129): the crane becomes STALE with no timer,
its interval frozen, and CRANE-STALE stands on PL and on the port of the other crane's controller, wherever its mode is BOTH and
room is left; the vacate record is removed. What the tick rows do, and that PRESENCE_TIMEOUT and VACATE_EXPIRY are the whole
second, is the model's choice (log entry 2). -/
def Obligations.SecondsAndTimers : Prop :=
  (∀ s : State, s.ticking = true → s.clk.second < 59 → ∃ t, exec .secondTick s = .next t
    ∧ t.clk = { s.clk with second := s.clk.second + 1 }
    ∧ (∀ x n, (s.crane x).presence = .active → (s.crane x).timer = some n → 2 ≤ n →
        t.crane x = { s.crane x with timer := some (n - 1) })
    ∧ (∀ x, (s.crane x).presence ≠ .active → t.crane x = s.crane x)
    ∧ (∀ i v, i < 32 → s.vacate i = some v → 2 ≤ v.seconds →
        t.vacate i = some { v with seconds := v.seconds - 1 })
    ∧ (∀ i, s.vacate i = none → t.vacate i = none)
    ∧ (∀ f n, s.sha.prepared = none → s.sha.running = some (f, n) → n < 59 → t.sha.running = some (f, n + 1))
    ∧ t.lyt = s.lyt ∧ t.rst = s.rst ∧ t.beds = s.beds ∧ t.pcv = s.pcv ∧ t.zcu = s.zcu ∧ t.pct = s.pct
    ∧ t.stk = s.stk ∧ t.mvu = s.mvu ∧ t.lnk = s.lnk ∧ t.pending = s.pending)
    ∧ (∀ s : State, (s.held = true ∨ s.clk.running = false) →
      exec .secondTick s = .next s ∧ exec .minuteTick s = .next s ∧ exec .frameBegin s = .next s
        ∧ exec .frameEnd s = .next s ∧ (∀ b, exec (.permitExpiry b) s = .next s)
        ∧ (∀ x, exec (.presenceTimeout x) s = .next s) ∧ ∀ n, exec (.vacateExpiry n) s = .next s)
    ∧ (∀ (s : State) (x : Crane) (n : Nat), s.ticking = true → (s.crane x).presence = .active →
      (s.crane x).timer = some n → n ≤ 1 →
      ∃ t, exec (.presenceTimeout x) s = .next t ∧ exec .secondTick s = .next t
        ∧ t.crane x = { s.crane x with presence := .stale, timer := none }
        ∧ ∀ p : Point, (p = .PL ∨ p = (match x with | .W => .CE | .E => .CW)) → s.modeOf p .craneStale = .both →
            (s.condSet p).records.length + 1 < setCapacity p →
            ∃ r ∈ (t.condSet p).records, r.kind = .craneStale ∧ r.subject = .crane x ∧ r.status = .standing)
    ∧ ∀ (s : State) (i : Nat) (v : Vacate), s.ticking = true → i < 32 → s.vacate i = some v → v.seconds ≤ 1 →
        ∃ t, exec (.vacateExpiry i) s = .next t ∧ exec .secondTick s = .next t ∧ t.vacate i = none

/-- The second that completes a minute is also a minute tick (R9, R10): the minute count rises and wraps, a scan starts with
an empty record (R38), every permit whose deadline is the new minute expires, with PERMIT-EXPIRED in the bed's flags and, where
room is left, on PL (R29), and no other bed changes. That the rows MINUTE_TICK and PERMIT_EXPIRY are the whole second is the
model's choice (log entry 2). -/
def Obligations.MinuteCounted : Prop :=
  ∀ s : State, s.ticking = true → 59 ≤ s.clk.second → ∃ t, exec .minuteTick s = .next t ∧ exec .secondTick s = .next t
    ∧ t.clk.second = 0 ∧ t.clk.minute = (if s.clk.minute = 4294967295 then 0 else s.clk.minute + 1)
    ∧ t.pcv = { s.pcv with scan := .scanning 0, record := [] }
    ∧ (∀ b, b ≤ 12 → (s.bed b).state = .permitted → (s.bed b).deadline = some t.clk.minute →
        t.bed b = { s.bed b with state := .ready, deadline := none } ∧ (t.flags b).expired.isSome = true
          ∧ (1 ≤ b → exec (.permitExpiry b) s = .next t)
          ∧ ((s.condSet .PL).records.length < 18 →
              ∃ r ∈ (t.condSet .PL).records, r.kind = .permitExpired ∧ r.subject = .bed b))
    ∧ (∀ b, ((s.bed b).state ≠ .permitted ∨ (s.bed b).deadline ≠ some t.clk.minute) → t.bed b = s.bed b)
    ∧ t.lyt = s.lyt ∧ t.rst = s.rst ∧ t.zcu = s.zcu ∧ t.pct = s.pct ∧ t.stk = s.stk ∧ t.mvu = s.mvu
    ∧ t.lnk = s.lnk ∧ t.pending = s.pending

/-- The steam frame's steps (R90, R95): a prepared frame begins at the next second at step 0; a running frame goes on by one
step; at step 59 with none prepared it ends with every line closed. At each step a line is at its open level exactly where
the frame opens its zone. That the rows FRAME_BEGIN and FRAME_END are the whole second is the model's choice (log entry 2).
-/
def Obligations.FramesBeginAndEnd : Prop :=
  (∀ (s : State) (f : Frame), s.ticking = true → s.sha.prepared = some f →
      ∃ t, exec .frameBegin s = .next t ∧ exec .secondTick s = .next t ∧ t.sha.prepared = none
        ∧ t.sha.running = some (f, 0)
        ∧ ∀ z, z < 16 → t.valve z =
            if f.openAt 0 z then senseOpened (s.zoneLayout z).sense else senseClosed (s.zoneLayout z).sense)
    ∧ (∀ (s : State) (f : Frame) (n : Nat), s.ticking = true → s.sha.prepared = none → s.sha.running = some (f, n) →
        n < 59 → ∃ t, exec .secondTick s = .next t ∧ t.sha.running = some (f, n + 1)
        ∧ ∀ z, z < 16 → t.valve z =
            if f.openAt (n + 1) z then senseOpened (s.zoneLayout z).sense else senseClosed (s.zoneLayout z).sense)
    ∧ ∀ (s : State) (f : Frame) (n : Nat), s.ticking = true → s.sha.prepared = none → s.sha.running = some (f, n) →
        59 ≤ n → ∃ t, exec .frameEnd s = .next t ∧ exec .secondTick s = .next t ∧ t.sha.running = none
        ∧ ∀ z, z < 16 → t.valve z = senseClosed (s.zoneLayout z).sense

/-! ## Probes and maturity (chapters 3 and 4) -/

/-- The end of a conversion of channel 0 to 17 (R39): 0 is SHORT, 4095 is OPEN, and any other raw value r gives −400 plus the
quotient of r × 1,350 by 4,096 plus the trim, held in −400 to 950; the scan goes on and nothing else changes. A channel record
after a good and after a bad conversion, for each of its four states, with the last raw value and result (R41, R42): the runs,
the state and the temperature. In LOST the bad run is 4 also after a bad conversion that follows a good one; there R36 and R42
differ, and that it is 4 is the model's choice (log entry 37). -/
def Obligations.ConversionsJudged : Prop :=
  (∀ (s : State) (c raw : Nat), s.held = false → s.pcv.scan = .scanning c → c < 18 →
    exec (.conversionEnd raw) s = .next { s with pcv := { s.pcv with
      scan := .scanning (c + 1)
      record := s.pcv.record.write none c (some (
        if raw = 0 then .taken raw .short none
        else if raw = 4095 then .taken raw .opened none
        else .taken raw .good
          (some (max (-400) (min 950 (-400 + ((raw * 1350 / 4096 : Nat) : Int) + (s.channel c).trim)))))) } })
  ∧ ∀ (c : Channel) (raw : Nat) (temp : Option Int),
    (c.updated (some (.taken raw .good temp)) =
      { trim := c.trim
        temp := temp
        badRun := 0
        goodRun := (match c.state with
          | .held => 1
          | .valid => min 3 (c.goodRun + 1)
          | .unsettled => min 3 (c.goodRun + 1)
          | .lost => min 3 (c.goodRun + 1))
        state := (match c.state with
          | .valid => .valid
          | .held => .valid
          | .unsettled => if c.goodRun + 1 < 3 then .unsettled else .valid
          | .lost => if c.goodRun + 1 < 3 then .lost else .valid)
        lastRaw := some raw
        lastResult := some .good })
    ∧ ∀ r : ConvResult, r ≠ .good →
      c.updated (some (.taken raw r temp)) =
        { trim := c.trim
          temp := c.temp
          badRun := (match c.state with
            | .valid => 1
            | .held => min 4 (c.badRun + 1)
            | .unsettled => min 4 (c.badRun + 1)
            | .lost => 4)
          goodRun := (match c.state with
            | .valid => 0
            | .held => c.goodRun
            | .unsettled => 0
            | .lost => 0)
          state := (match c.state with
            | .valid => .held
            | .held => if c.badRun + 1 < 4 then .held else .lost
            | .unsettled => if c.badRun + 1 < 4 then .unsettled else .lost
            | .lost => .lost)
          lastRaw := some raw
          lastResult := some r }

/-- The end of the reference conversion (R40, R41, R43, R44): the check's outcome and the fault, with CONVERTER-FAULT posted at
the first failure and ended at a pass; every channel record updated from its entry as R42 has it, condemned where the check
fails and as it was judged where it passes, a discarded entry changing nothing, channel 18 by the check; PROBE-LOST posted for
every channel that enters LOST, on PL where its mode is BOTH and room is left, and in its bed's flags; the scan idle with its
record emptied, and the published set as the channel records then stand. -/
def Obligations.ReferenceCompletes : Prop :=
  ∀ (s : State) (raw : Nat), s.held = false → s.pcv.scan = .scanning 18 → ∃ t, exec (.referenceCheck raw) s = .next t
    ∧ t.pcv.scan = .idle ∧ t.pcv.record = [] ∧ t.pcv.refPass = (decide (2008 ≤ raw) && decide (raw ≤ 2088))
    ∧ t.pcv.fault = !t.pcv.refPass ∧ t.pcv.sampleTime = s.pcv.sampleTime
    ∧ (∀ c, c < 18 → t.published c = ⟨(t.channel c).state, (t.channel c).temp⟩)
    ∧ (∀ c r res temp, c < 18 → s.pcv.record.read none c = some (.taken r res temp) →
        (t.pcv.refPass = true → t.channel c = (s.channel c).updated (some (.taken r res temp)))
        ∧ (t.pcv.refPass = false → t.channel c = (s.channel c).updated (some (.taken r .refFail none))))
    ∧ (∀ c, c < 18 → s.pcv.record.read none c = some .discarded → t.channel c = s.channel c)
    ∧ (t.pcv.refPass = true → t.channel 18 = (s.channel 18).updated (some (.taken raw .good none)))
    ∧ (t.pcv.refPass = false → t.channel 18 = (s.channel 18).updated (some (.taken raw .refFail none)))
    ∧ (t.pcv.refPass = false → s.pcv.fault = false → s.modeOf .PL .converterFault = .both →
        (s.condSet .PL).records.length < 32 →
        ∃ r ∈ (t.condSet .PL).records, r.kind = .converterFault ∧ r.subject = .none ∧ r.status = .standing)
    ∧ (t.pcv.refPass = true → s.pcv.fault = true → ∀ p, ∀ r ∈ (t.condSet p).records, r.kind = .converterFault →
        r.subject = .none → r.status ≠ .standing)
    ∧ (∀ c, c < 18 → (s.channel c).state ≠ .lost → (t.channel c).state = .lost →
        ((c = 16 ∨ c = 17 ∨ (s.zoneLayout c).bed.isSome = true) → s.modeOf .PL .probeLost = .both →
          (s.condSet .PL).records.length < 14 →
          ∃ r ∈ (t.condSet .PL).records, r.kind = .probeLost ∧ r.subject = .channel c ∧ r.status = .standing)
        ∧ ∀ b, c < 16 → (s.zoneLayout c).bed = some b →
          ∃ f, (t.flags b).probeLost = some f ∧ f.status = .standing)
    ∧ t.lyt = s.lyt ∧ t.clk = s.clk ∧ t.rst = s.rst ∧ t.valves = s.valves ∧ t.stk = s.stk ∧ t.rru = s.rru
    ∧ t.mvu = s.mvu ∧ t.lnk = s.lnk ∧ t.pending = s.pending

/-- One maturity update, at the scan completion that the reference conversion ends (R53, R57, R58, R59): every live piece
receives exactly one contribution from the published set of that completion, the temperature of its source held in the band
from the datum to the cap less the datum, added and held at 6,000,000; with a source that is UNSETTLED or LOST its suspect
count rises by 1, held at 255. No other piece and no other field changes. The source of a CAST piece is the channel of the one
zone of its bed over its segment, or with none the hall ambient 16 (R54); of a HOOK piece the hall or the yard ambient by the
area under its crane, the yard with no position (R55). For a STOCK piece it is channel 17, whatever its location (R56). -/
def Obligations.MaturityCredit : Prop :=
  (∀ (s : State) (raw n : Nat), s.held = false → s.pcv.scan = .scanning 18 → n < 192 →
    ∃ t, exec (.referenceCheck raw) s = .next t
    ∧ (∀ c T, (s.piece n).live = true → s.sourceOf (s.piece n) = some c →
      ((t.published c).state = .valid ∨ (t.published c).state = .held) → (t.published c).temp = some T →
      t.piece n = { s.piece n with
        accumulator := min 6000000 ((s.piece n).accumulator
          + (max s.lyt.yard.datum (min s.lyt.yard.cap T) - s.lyt.yard.datum).toNat) })
    ∧ (∀ c, (s.piece n).live = true → s.sourceOf (s.piece n) = some c →
      ((t.published c).state = .unsettled ∨ (t.published c).state = .lost) →
      t.piece n = { s.piece n with suspect := min 255 ((s.piece n).suspect + 1) })
    ∧ ((s.piece n).live = false → t.piece n = s.piece n))
  ∧ ∀ (s : State) (p : Piece),
    (p.state = .stock → s.sourceOf p = some 17)
    ∧ (∀ b seg z r, p.state = .cast → p.location = some (.bed b seg) → z < 16 → (s.zoneLayout z).bed = some b →
        (s.zoneLayout z).range = some r → r.lo ≤ seg → seg ≤ r.hi →
        (∀ z' r', z' < 16 → (s.zoneLayout z').bed = some b → (s.zoneLayout z').range = some r' → r'.lo ≤ seg → seg ≤ r'.hi →
          z' = z) →
        s.sourceOf p = some z)
    ∧ (∀ b seg, p.state = .cast → p.location = some (.bed b seg) →
        (∀ z r, z < 16 → (s.zoneLayout z).bed = some b → (s.zoneLayout z).range = some r → ¬(r.lo ≤ seg ∧ seg ≤ r.hi)) →
        s.sourceOf p = some 16)
    ∧ ∀ x, p.state = .hook → p.location = some (.crane x) →
        ((s.crane x).position = none → s.sourceOf p = some 17)
        ∧ ∀ k, (s.crane x).position = some k →
          ((s.segment k).area = .hall → s.sourceOf p = some 16) ∧ ((s.segment k).area = .yard → s.sourceOf p = some 17)

/-! ## The layout, the clock's setting and the profiles (chapter 1, R68) -/

/-- What the six layout writes store in CONFIG (R1, R2, R3): vacate intervals and presence timeouts clamped, a range on a bed
not configured or a zone not assigned stored absent, a zone's valve line moved to its new closed level; nothing else
changes. SET-CLOCK in CONFIG stores the minute count with second 0 and the clock STOPPED (R11); PROFILE-WRITE with every field
in range stores the profile, in CONFIG and, where no zone cures by it, in RUN (R68). The bytes of the bodies are the model's
(log entry 5). -/
def Obligations.LayoutStored : Prop :=
  (∀ (s : State) (h : Header), s.loading h →
    (∀ n a v, n < 32 → exec (.layoutSegment h [n, areaCode a, v]) s = .next
      ({ s with lyt := { s.lyt with segments := s.lyt.segments.write {} n ⟨a, min v 30⟩ } }.answered h .layoutSegment ok))
    ∧ (∀ b r, 1 ≤ b → b ≤ 12 → r.lo < 32 → r.hi < 32 → exec (.layoutBed h (bedWritten b true (some r))) s = .next
      ({ s with lyt := { s.lyt with beds := s.lyt.beds.write {} b ⟨true, some r⟩ } }.answered h .layoutBed ok))
    ∧ (∀ b r, 1 ≤ b → b ≤ 12 → exec (.layoutBed h (bedWritten b false r)) s = .next
      ({ s with lyt := { s.lyt with beds := s.lyt.beds.write {} b ⟨false, none⟩ } }.answered h .layoutBed ok))
    ∧ (∀ z b r v, z < 16 → 1 ≤ b → b ≤ 12 → r.lo < 32 → r.hi < 32 → ∀ f : Option Nat, (∀ l, f = some l → l < 16) →
      exec (.layoutZone h (zoneWritten z (some b) (some r) v f)) s = .next
        ({ s with
            lyt := { s.lyt with zones := s.lyt.zones.write {} z ⟨some b, some r, v, f⟩ }
            valves := s.valves.write .low z (match v with | .openHigh => Level.low | .openLow => Level.high)
          }.answered h .layoutZone ok))
    ∧ (∀ z r v, z < 16 → ∀ f : Option Nat, (∀ l, f = some l → l < 16) →
      exec (.layoutZone h (zoneWritten z none r v f)) s = .next
        ({ s with
            lyt := { s.lyt with zones := s.lyt.zones.write {} z ⟨none, none, v, f⟩ }
            valves := s.valves.write .low z (match v with | .openHigh => Level.low | .openLow => Level.high)
          }.answered h .layoutZone ok))
    ∧ (∀ c n row limit, c < 48 → (∀ v, n = some v → v < 32) → row ≤ 1 → 1 ≤ limit → limit ≤ 5 →
      exec (.layoutCell h ([c] ++ byteOr n ++ [row, limit])) s = .next
        ({ s with lyt := { s.lyt with cells := s.lyt.cells.write {} c ⟨n, row, limit⟩ } }.answered h .layoutCell ok))
    ∧ (∀ b n, (b = 1 ∨ b = 2) → (∀ v, n = some v → v < 32) → exec (.layoutBay h ([b] ++ byteOr n)) s = .next
      ({ s with lyt := { s.lyt with bays := s.lyt.bays.write {} b ⟨n⟩ } }.answered h .layoutBay ok))
    ∧ (∀ gap datum cap window pw pe, 1 ≤ gap → gap ≤ 3 → -150 ≤ datum → datum ≤ 0 → 400 ≤ cap → cap ≤ 950 →
      5 ≤ window → window ≤ 120 → exec (.layoutYard h (yardWritten ⟨gap, datum, cap, window, pw, pe⟩)) s = .next
        ({ s with lyt := { s.lyt with
            yard := ⟨gap, datum, cap, window, max 2 (min 60 pw), max 2 (min 60 pe)⟩ } }.answered h .layoutYard ok))
    ∧ ∀ m, m ≤ 4294967295 → exec (.setClock h (four m)) s = .next
      ({ s with clk := { minute := m, second := 0, running := false } }.answered h .setClock ok))
  ∧ ∀ (s : State) (h : Header) (n : Nat) (p : Profile), n < 8 →
      0 ≤ p.frostFloor → p.frostFloor ≤ 150 → p.delay ≤ 600 → 1 ≤ p.rampRate → p.rampRate ≤ 50 →
      200 ≤ p.holdTemp → p.holdTemp ≤ 700 → 0 ≤ p.holdBias → p.holdBias ≤ 60 → 1 ≤ p.gain → p.gain ≤ 60 →
      p.holdExit ≤ 9999 → 60 ≤ p.maxHold → p.maxHold ≤ 2880 → 1 ≤ p.coolRate → p.coolRate ≤ 50 →
      50 ≤ p.releaseDelta → p.releaseDelta ≤ 300 → p.fallback ≤ 60 →
      (s.loading h ∨ (s.planner h ∧ ∀ z, z < 16 → (s.zone z).profile = some n →
          ((s.zone z).stage = .idle ∨ (s.zone z).stage = .done))) →
      exec (.profileWrite h (profileWritten n p)) s = .next ((s.setProfile n p).answered h .profileWrite ok)

/-- LOCK-LAYOUT in CONFIG (R5, R6, R7), the twelve checks as R5 words them (`State.failsCheck`). Where a check fails it is
answered BAD-FIELD with the first failing check and the lowest record that fails it, and nothing changes. Where none fails the
part enters RUN, each zone takes up its initial follow, the clock runs from second 0, and nothing else changes. The premise is
what every layout write leaves (R2): a configured bed and an assigned zone have a range. -/
def Obligations.LockedLayoutIsChecked : Prop :=
  ∀ (s : State) (h : Header), s.loading h → s.rangesGiven →
    (∀ check record, s.failsCheck check record → (∀ i, i < record → ¬s.failsCheck check i) →
        (∀ n i, n < check → ¬s.failsCheck n i) → exec (.lockLayout h [0]) s = .next
        (s.answered h .lockLayout { result := .badField, data := .lockCheck check record }))
    ∧ ((∀ n i, ¬s.failsCheck n i) →
        ∃ t : State, exec (.lockLayout h [0]) s = .next (t.answered h .lockLayout ok) ∧ t.run = true
          ∧ t.lyt = { s.lyt with locked := true } ∧ t.clk = { minute := s.clk.minute, second := 0, running := true }
          ∧ (∀ z, z < 16 → t.zone z = { s.zone z with follow := (s.zoneLayout z).follow })
          ∧ t.zcu.profiles = s.zcu.profiles
          ∧ t.rst = s.rst ∧ t.beds = s.beds ∧ t.pcv = s.pcv ∧ t.sha = s.sha ∧ t.valves = s.valves ∧ t.pct = s.pct
          ∧ t.stk = s.stk ∧ t.rru = s.rru ∧ t.mvu = s.mvu ∧ t.cnd = s.cnd ∧ t.lnk = s.lnk ∧ t.pending = s.pending)

/-! ## Plans and panel events (chapter 2) -/

/-- PLAN-LOAD of 1 to 16 pieces (R18, R19). A bed that is not configured is BAD-FIELD naming the bed; one in neither EMPTY nor
SETUP is STATE with its state. Then the pour id and the profile id, and the piece descriptions in list order, each field in
the order of the table of section 2.3: the first that is out of range is BAD-FIELD, naming field 2 or 3, or the field of the
description and the piece's position (R18, R170). With every field in its range and too few records FREE or of the present
plan, the answer is FULL. A refused PLAN-LOAD changes no record. Otherwise it takes one record for each piece, in list order
the lowest-numbered that are FREE or of the replaced plan, each PLANNED with its piece's description and nothing gained; the
bed's plan and piece list are those slots in plan order, its state as it was; a record of the replaced plan that is not taken
again is freed, and every other record stands. The bytes of the body, the length byte of a mark among them, and the numbers of
the fields are the model's (log entries 5 and 13; a list outside 1 to 16 pieces is refused by its length, log entry 39). -/
def Obligations.PlanLoaded : Prop :=
  ∀ (s : State) (h : Header) (b pour profile : Nat) (pieces : List PieceSpec), s.planner h →
    1 ≤ pieces.length → pieces.length ≤ 16 → (∀ p ∈ pieces, p.mark.length ≤ 12) →
    (s.bedConfigured b = false → exec (.planLoad h (planWritten b pour profile pieces)) s = .next
        (s.answered h .planLoad (badFieldReply 1)))
    ∧ (s.bedConfigured b = true → (s.bed b).state ≠ .empty → (s.bed b).state ≠ .setup →
        exec (.planLoad h (planWritten b pour profile pieces)) s = .next
          (s.answered h .planLoad { result := .state, data := .bedState (s.bed b).state }))
    ∧ (s.bedConfigured b = true → ((s.bed b).state = .empty ∨ (s.bed b).state = .setup) →
        (pour = 0 → exec (.planLoad h (planWritten b pour profile pieces)) s = .next
          (s.answered h .planLoad (badFieldReply 2)))
        ∧ (1 ≤ pour → pour ≤ 65535 → 8 ≤ profile → exec (.planLoad h (planWritten b pour profile pieces)) s = .next
          (s.answered h .planLoad (badFieldReply 3))))
    ∧ ∀ r : Range, s.bedConfigured b = true → ((s.bed b).state = .empty ∨ (s.bed b).state = .setup) →
      (s.bedLayout b).range = some r → 1 ≤ pour → pour ≤ 65535 → profile < 8 →
      (∀ (i n : Nat) (p : PieceSpec), pieces[i]? = some p → ¬pieceField r p n → (∀ m, m < n → pieceField r p m) →
        (∀ (k m : Nat) (q : PieceSpec), k < i → pieces[k]? = some q → pieceField r q m) →
        exec (.planLoad h (planWritten b pour profile pieces)) s = .next
          (s.answered h .planLoad { result := .badField, data := .entryField n (i + 1) }))
      ∧ (∀ (length n : Nat) (rest more : List Nat), (∀ p ∈ pieces, ∀ m, pieceField r p m) → 12 < length →
        rest.length = 18 → more.length = 19 * n → pieces.length + 1 + n ≤ 16 →
        exec (.planLoad h (planWritten b pour profile pieces ++ (length :: rest) ++ more)) s = .next
          (s.answered h .planLoad { result := .badField, data := .entryField 1 (pieces.length + 1) }))
      ∧ ((∀ p ∈ pieces, ∀ m, pieceField r p m) → (s.bed b).planSlots.Nodup →
      (∀ n ∈ (s.bed b).planSlots, n < 192 ∧ (s.piece n).state = .planned) →
      (s.freeCount + (s.bed b).planSlots.length < pieces.length →
        exec (.planLoad h (planWritten b pour profile pieces)) s = .next (s.answered h .planLoad { result := .full }))
      ∧ (pieces.length ≤ s.freeCount + (s.bed b).planSlots.length →
        ∃ (t : State) (l : List Nat), exec (.planLoad h (planWritten b pour profile pieces)) s = .next
            (t.answered h .planLoad { result := .done, data := .slots l })
          ∧ l.length = pieces.length ∧ l.Pairwise (· < ·)
          ∧ (∀ n ∈ l, n < 192 ∧ ((s.piece n).state = .free ∨ n ∈ (s.bed b).planSlots))
          ∧ (∀ n, n < 192 → ((s.piece n).state = .free ∨ n ∈ (s.bed b).planSlots) → n ∉ l → ∀ k ∈ l, k < n)
          ∧ (∀ (i n : Nat) (p : PieceSpec), l[i]? = some n → pieces[i]? = some p → t.piece n =
              { state := .planned
                desc := some { mark := p.mark, pour := pour, origin := b, segment := p.segment, weight := p.weight,
                               release := p.release, ship := p.ship }
                accumulator := 0, suspect := 0, castMinute := none, location := none, claim := none })
          ∧ (∀ n, n ∉ l → n ∉ (s.bed b).planSlots → t.piece n = s.piece n)
          ∧ (∀ n, n ∉ l → n ∈ (s.bed b).planSlots → t.piece n = {})
          ∧ t.bed b = { s.bed b with plan := some ⟨pour, profile, l⟩, pieces := l }
          ∧ (∀ b', b' ≠ b → t.bed b' = s.bed b')
          ∧ { t with beds := s.beds, pct := s.pct } = s))

/-- PLAN-CLEAR of a bed in EMPTY or SETUP with a plan frees every record of the plan list and empties the plan and the
piece list; the state stands (R20). POUR-ABORT in CASTING frees them too, clears the plan, the cast minute and the piece list,
and moves the bed to SETUP (R25). -/
def Obligations.PlansFreed : Prop :=
  (∀ (s : State) (h : Header) (b : Nat) (p : Plan), s.planner h → s.bedConfigured b = true →
    ((s.bed b).state = .empty ∨ (s.bed b).state = .setup) → (s.bed b).plan = some p →
    ∃ t : State, exec (.planClear h [b]) s = .next (t.answered h .planClear ok)
      ∧ (∀ n, n ∈ p.slots → t.piece n = {}) ∧ (∀ n, n ∉ p.slots → t.piece n = s.piece n)
      ∧ t.bed b = { s.bed b with plan := none, pieces := [] } ∧ (∀ b', b' ≠ b → t.bed b' = s.bed b')
      ∧ { t with beds := s.beds, pct := s.pct } = s)
  ∧ ∀ (s : State) (h : Header) (b : Nat) (p : Plan), s.panel h b → (s.bed b).state = .casting →
    (s.bed b).plan = some p → ∃ t : State, exec (.pourAbort h [0]) s = .next (t.answered h .pourAbort ok)
      ∧ t.bed b = { s.bed b with
          state := .setup, plan := none, castMinute := none, pieces := [], missed := 0, panelLost := false }
      ∧ (∀ b', b' ≠ b → t.bed b' = s.bed b')
      ∧ (∀ n, n ∈ p.slots → t.piece n = {}) ∧ (∀ n, n ∉ p.slots → t.piece n = s.piece n)
      ∧ { t with beds := s.beds, pct := s.pct } = { s.heard b with beds := s.beds }

/-- SETUP-DONE in EMPTY moves the bed to SETUP and is answered DONE, with a plan or without one, which stays as it is; a
PLAN-LOAD and a SETUP-DONE taken in either order leave the bed in SETUP with the plan (R22). -/
def Obligations.SetupDoneTaken : Prop :=
  ∀ (s : State) (h : Header) (b : Nat), s.panel h b → (s.bed b).state = .empty →
    exec (.setupDone h [0]) s = .next
      (((s.heard b).setBed b { (s.heard b).bed b with state := .setup }).answered h .setupDone ok)
    ∧ (s.heard b).bed b = { s.bed b with missed := 0, panelLost := false }
    ∧ ∀ (hp : Header) (pour profile : Nat) (pieces : List PieceSpec), s.planner hp → s.bedConfigured b = true →
      planFieldRefusal (s.bedLayout b).range pour profile pieces = none →
      (s.bed b).planSlots.Nodup → (∀ n ∈ (s.bed b).planSlots, n < 192 ∧ (s.piece n).state = .planned) →
      pieces.length ≤ s.freeCount + (s.bed b).planSlots.length →
      (∃ (t u : State) (l : List Nat), exec (.planLoad hp (planWritten b pour profile pieces)) s = .next t
        ∧ exec (.setupDone h [0]) t = .next u ∧ (u.bed b).state = .setup ∧ (u.bed b).plan = some ⟨pour, profile, l⟩)
      ∧ ∃ (t u : State) (l : List Nat), exec (.setupDone h [0]) s = .next t
        ∧ exec (.planLoad hp (planWritten b pour profile pieces)) t = .next u ∧ (u.bed b).state = .setup
        ∧ (u.bed b).plan = some ⟨pour, profile, l⟩

/-- CAST-START in SETUP (R23): with a plan, the bed's and every piece's cast minute is the current minute, every piece of the
plan list is CAST in its bed at its segment with nothing gained, and the bed is CASTING; with none it is answered NOT-FOUND.
CAST-END in CASTING (R24): the bed is CURING and each of its zones START-PENDING with the plan's profile. -/
def Obligations.CastsStartAndEnd : Prop :=
  (∀ (s : State) (h : Header) (b : Nat) (p : Plan), s.panel h b → (s.bed b).state = .setup → (s.bed b).plan = some p →
      ∃ t : State, exec (.castStart h [0]) s = .next (t.answered h .castStart ok)
        ∧ t.bed b = { s.bed b with state := .casting, castMinute := some s.clk.minute, missed := 0, panelLost := false }
        ∧ (∀ b', b' ≠ b → t.bed b' = s.bed b')
        ∧ (∀ n, n ∈ p.slots → t.piece n = { s.piece n with
            state := .cast, accumulator := 0, suspect := 0, castMinute := some s.clk.minute,
            location := some (.bed b (s.piece n).segment) })
        ∧ (∀ n, n ∉ p.slots → t.piece n = s.piece n)
        ∧ { t with beds := s.beds, pct := s.pct } = { s.heard b with beds := s.beds })
    ∧ (∀ (s : State) (h : Header) (b : Nat), s.panel h b → (s.bed b).state = .setup → (s.bed b).plan = none →
      exec (.castStart h [0]) s = .next ((s.heard b).answered h .castStart { result := .notFound }))
    ∧ ∀ (s : State) (h : Header) (b : Nat) (p : Plan), s.panel h b → (s.bed b).state = .casting →
      (s.bed b).plan = some p → ∃ t : State, exec (.castEnd h [0]) s = .next (t.answered h .castEnd ok)
        ∧ t.bed b = { s.bed b with state := .curing, missed := 0, panelLost := false }
        ∧ (∀ b', b' ≠ b → t.bed b' = s.bed b')
        ∧ (∀ z, z < 16 → (s.zoneLayout z).bed = some b → t.zone z = { s.zone z with
            stage := .startPending, profile := some p.profile, setpoint := none, timer := 0, advance := false })
        ∧ (∀ z, (s.zoneLayout z).bed ≠ some b → t.zone z = s.zone z) ∧ t.zcu.profiles = s.zcu.profiles
        ∧ { t with beds := s.beds, zcu := s.zcu } = { s.heard b with beds := s.beds }

/-- RELEASE-REQUEST in READY (R28, R29): with the hall ambient usable, every zone of the bed usable and at most the release
delta above it, and every piece release-ok, the bed is PERMITTED with a deadline one window on. Otherwise it is refused with the
first check that fails, and the bed stands: AMBIENT with the hall ambient not usable; WARM with the lowest zone of the bed that
is not usable or too warm; STRENGTH with the first piece of the piece list that is short. -/
def Obligations.ReleaseDecided : Prop :=
  (∀ (s : State) (h : Header) (b : Nat) (p : Plan) (hall : Int), s.panel h b → (s.bed b).state = .ready →
      (s.bed b).plan = some p → s.usable 16 = some hall →
      ((∀ z, z < 16 → (s.zoneLayout z).bed = some b →
          ∃ t, s.usable z = some t ∧ t - hall ≤ (s.profile p.profile).releaseDelta) →
        ((∀ n ∈ (s.bed b).pieces, (s.piece n).releaseOk = true) →
          exec (.releaseRequest h [0]) s = .next
            (((s.heard b).setBed b { (s.heard b).bed b with
                state := .permitted
                deadline := some ((s.clk.minute + s.lyt.yard.window) % 4294967296) }).answered h .releaseRequest
              { result := .done, data := .deadline ((s.clk.minute + s.lyt.yard.window) % 4294967296) }))
        ∧ ∀ before n rest, (s.bed b).pieces = before ++ n :: rest → (s.piece n).releaseOk = false →
          (∀ k ∈ before, (s.piece k).releaseOk = true) → exec (.releaseRequest h [0]) s = .next
            ((s.heard b).answered h .releaseRequest { result := .state, data := .release (.strength n) }))
      ∧ ∀ z, z < 16 → (s.zoneLayout z).bed = some b →
        (s.usable z = none ∨ ∃ t, s.usable z = some t ∧ (s.profile p.profile).releaseDelta < t - hall) →
        (∀ y, y < z → (s.zoneLayout y).bed = some b →
          ∃ t, s.usable y = some t ∧ t - hall ≤ (s.profile p.profile).releaseDelta) →
        exec (.releaseRequest h [0]) s = .next
          ((s.heard b).answered h .releaseRequest { result := .state, data := .release (.warm z) }))
    ∧ ∀ (s : State) (h : Header) (b : Nat), s.panel h b → (s.bed b).state = .ready → s.usable 16 = none →
      exec (.releaseRequest h [0]) s = .next
        ((s.heard b).answered h .releaseRequest { result := .state, data := .release .ambient })

/-- STRANDS-CUT in PERMITTED moves the bed to RELEASED with no deadline (R30). BED-CLEAR in STRIPPING with an empty piece list
moves it to EMPTY, clears the plan and the cast minute and returns its zones to IDLE; with pieces left it is answered
IN-USE with their number and the bed stands (R32). A panel event not listed for the bed's state is answered STATE with that
state, and beyond the panel's answer no record changes (R21). -/
def Obligations.PanelEventsByState : Prop :=
  (∀ (s : State) (h : Header) (b : Nat), s.panel h b → (s.bed b).state = .permitted →
      exec (.strandsCut h [0]) s = .next
        (((s.heard b).setBed b { (s.heard b).bed b with state := .released, deadline := none }).answered h .strandsCut ok))
    ∧ (∀ (s : State) (h : Header) (b : Nat), s.panel h b → (s.bed b).state = .stripping → (s.bed b).pieces = [] →
      ∃ t : State, exec (.bedClear h [0]) s = .next (t.answered h .bedClear ok)
        ∧ t.bed b = { s.bed b with state := .empty, plan := none, castMinute := none, missed := 0, panelLost := false }
        ∧ (∀ b', b' ≠ b → t.bed b' = s.bed b')
        ∧ (∀ z, z < 16 → (s.zoneLayout z).bed = some b → t.zone z = { s.zone z with
            stage := .idle, profile := none, setpoint := none, timer := 0, advance := false })
        ∧ (∀ z, (s.zoneLayout z).bed ≠ some b → t.zone z = s.zone z) ∧ t.zcu.profiles = s.zcu.profiles
        ∧ { t with beds := s.beds, zcu := s.zcu } = { s.heard b with beds := s.beds })
    ∧ (∀ (s : State) (h : Header) (b : Nat), s.panel h b → (s.bed b).state = .stripping → (s.bed b).pieces ≠ [] →
      exec (.bedClear h [0]) s = .next
        ((s.heard b).answered h .bedClear { result := .inUse, data := .count (s.bed b).pieces.length }))
    ∧ ∀ (s : State) (h : Header) (b : Nat), s.panel h b →
      ((s.bed b).state ≠ .empty → exec (.setupDone h [0]) s = .next
          ((s.heard b).answered h .setupDone { result := .state, data := .bedState (s.bed b).state }))
      ∧ ((s.bed b).state ≠ .setup → exec (.castStart h [0]) s = .next
          ((s.heard b).answered h .castStart { result := .state, data := .bedState (s.bed b).state }))
      ∧ ((s.bed b).state ≠ .casting → exec (.castEnd h [0]) s = .next
          ((s.heard b).answered h .castEnd { result := .state, data := .bedState (s.bed b).state })
        ∧ exec (.pourAbort h [0]) s = .next
          ((s.heard b).answered h .pourAbort { result := .state, data := .bedState (s.bed b).state }))
      ∧ ((s.bed b).state ≠ .ready → exec (.releaseRequest h [0]) s = .next
          ((s.heard b).answered h .releaseRequest { result := .state, data := .bedState (s.bed b).state }))
      ∧ ((s.bed b).state ≠ .permitted → exec (.strandsCut h [0]) s = .next
          ((s.heard b).answered h .strandsCut { result := .state, data := .bedState (s.bed b).state }))
      ∧ ((s.bed b).state ≠ .stripping → exec (.bedClear h [0]) s = .next
          ((s.heard b).answered h .bedClear { result := .state, data := .bedState (s.bed b).state }))

/-- A panel's answer (R171, R172): the window closed, the missed-poll count 0 and the panel PRESENT, the cause of PANEL-LOST of a
LOST panel ended: no such record stays STANDING on PL, nor in the panel's flags; nothing else of the bed and no other bed
changed. The answer to its request is sent after the address character of that bed: its number with the ninth bit set (section
10.1). NOTHING adds nothing to it. FLAGS-ACK takes every flag that is not STANDING, and is answered DONE when none remains
(R181). -/
def Obligations.PanelHeard : Prop :=
  ∀ (s : State) (h : Header) (b : Nat), s.panel h b →
    ((s.heard b).bed b = { s.bed b with missed := 0, panelLost := false }
      ∧ (∀ b', b' ≠ b → (s.heard b).bed b' = s.bed b') ∧ (s.heard b).lnk = { s.lnk with window := false }
      ∧ ((s.bed b).panelLost = false → (s.heard b).cnd = s.cnd)
      ∧ (∀ f, (s.bed b).panelLost = true → (s.flags b).panelLost = some f → f.status = .standing →
          ((s.heard b).flags b).panelLost = some { f with status := .cleared })
      ∧ ((s.bed b).panelLost = true → ∀ p, ∀ r ∈ ((s.heard b).condSet p).records, r.kind = .panelLost →
          r.subject = .bed b → r.status ≠ .standing)
      ∧ (s.heard b).lyt = s.lyt ∧ (s.heard b).clk = s.clk ∧ (s.heard b).zcu = s.zcu ∧ (s.heard b).pct = s.pct)
    ∧ (∀ k body, ∃ t r, exec (requestCommand h k body) s = .next t ∧ (t.port .BL).rx = .replying
      ∧ (t.port .BL).reply = some ⟨some ⟨b, true⟩, r⟩)
    ∧ exec (.nothing h [0]) s = .next ((s.heard b).answered h .nothing ok)
    ∧ ∃ (t : State) (r : Reply), exec (.flagsAck h [0]) s = .next (t.answered h .flagsAck r)
      ∧ t.flags b = ((s.heard b).flags b).acked ∧ (∀ b', b' ≠ b → t.flags b' = (s.heard b).flags b')
      ∧ (∀ p, t.condSet p = (s.heard b).condSet p) ∧ t.beds = (s.heard b).beds
      ∧ (r.result = .done ↔ t.flags b = {}) ∧ (r.result = .done ∨ r.result = .active)
      ∧ { t with cnd := s.cnd } = { s.heard b with cnd := s.cnd }

/-! ## Zones, steam and the converter's settings (chapters 3, 5 and 6) -/

/-- ZONE-PRIORITY stores a pending priority (R83); ZONE-FOLLOW with *none*, or with a lead of the same bed that follows nothing
where nothing follows the zone, sets the zone's follow (R84); ADVANCE of a zone in DELAY, RAMP or HOLD leaves it pending,
and of any other stage is answered STATE with the stage (R78). SET-K and SET-MINOPEN store a pending value and answer the one in
force and the pending one (R96); HEAT-OFF, in any state, ends and discards the frames, closes every line and sets the
inhibit (R97); HEAT-ON clears the inhibit and no frame changes (R98). No other record changes. That HEAT-OFF ends
and discards a frame made under inhibit too, and the bytes of the bodies, are the model's (log entries 44 and 5). -/
def Obligations.HeatSettings : Prop :=
  (∀ (s : State) (h : Header) (z : Nat), s.planner h → z < 16 →
    (∀ p, p ≤ 3 → exec (.zonePriority h [z, p]) s = .next
        ((s.setZone z { s.zone z with pendingPriority := some p }).answered h .zonePriority
          { result := .done, data := .setting (s.zone z).priority (some p) }))
    ∧ ((s.zoneLayout z).bed.isSome → exec (.zoneFollow h [z, 255]) s = .next
        ((s.setZone z { s.zone z with follow := none }).answered h .zoneFollow ok))
    ∧ (∀ l, l < 16 → l ≠ z → (s.zoneLayout z).bed.isSome → (s.zoneLayout l).bed = (s.zoneLayout z).bed →
        (s.zone l).follow = none → (∀ i, i < 16 → (s.zone i).follow ≠ some z) →
        exec (.zoneFollow h [z, l]) s = .next
          ((s.setZone z { s.zone z with follow := some l }).answered h .zoneFollow ok))
    ∧ (((s.zone z).stage = .delay ∨ (s.zone z).stage = .ramp ∨ (s.zone z).stage = .hold) →
        exec (.advance h [z]) s = .next ((s.setZone z { s.zone z with advance := true }).answered h .advance ok))
    ∧ ((s.zone z).stage ≠ .delay → (s.zone z).stage ≠ .ramp → (s.zone z).stage ≠ .hold →
        exec (.advance h [z]) s = .next
          (s.answered h .advance { result := .state, data := .stage (s.zone z).stage })))
  ∧ ∀ (s : State) (h : Header), s.planner h →
    (∀ k, 1 ≤ k → k ≤ 8 → exec (.setK h [k]) s = .next
        ({ s with sha := { s.sha with pendingK := some k } }.answered h .setK
          { result := .done, data := .setting s.sha.k (some k) }))
    ∧ (∀ n, 1 ≤ n → n ≤ 10 → exec (.setMinopen h [n]) s = .next
        ({ s with sha := { s.sha with pendingMinOpen := some n } }.answered h .setMinopen
          { result := .done, data := .setting s.sha.minOpen (some n) }))
    ∧ (∃ t : State, exec (.heatOff h [0]) s = .next (t.answered h .heatOff ok)
        ∧ t.sha = { s.sha with running := none, prepared := none, inhibit := true }
        ∧ (∀ z, z < 16 → t.valve z = match (s.zoneLayout z).sense with
            | .openHigh => Level.low
            | .openLow => Level.high)
        ∧ { t with sha := s.sha, valves := s.valves } = s)
    ∧ exec (.heatOn h [0]) s = .next ({ s with sha := { s.sha with inhibit := false } }.answered h .heatOn ok)

/-- PROBE-TRIM stores the trim held in −50 to +50 (R45) and SAMPLE-TIME stores the sample time (R46). With the converter IDLE,
or for a trim with another channel under conversion, no conversion is discarded and nothing else changes; a conversion
it meets is discarded: its entry is marked so, and the scan goes on (R47). A SAMPLE-TIME that meets the conversion of channel 18
completes the scan with no reference check: the reference result and the fault stand, channel 18 does not change, and every
other channel is judged by the result as it stands (R40, R41, R44). The bytes of the bodies are the model's (log entry 5). -/
def Obligations.ConverterSettings : Prop :=
  ∀ (s : State) (h : Header), s.planner h →
    (∀ c v, c < 18 → -32768 ≤ v → v ≤ 32767 → s.pcv.scan ≠ .scanning c → exec (.probeTrim h (c :: twoSigned v)) s = .next
        ((s.setChannel c { s.channel c with trim := max (-50) (min 50 v) }).answered h .probeTrim
          { result := .done, data := .trim (max (-50) (min 50 v)) }))
    ∧ (∀ c v, c < 18 → -32768 ≤ v → v ≤ 32767 → s.pcv.scan = .scanning c →
        ∃ t : State, exec (.probeTrim h (c :: twoSigned v)) s = .next (t.answered h .probeTrim
          { result := .done, data := .trim (max (-50) (min 50 v)) })
        ∧ t.channel c = { s.channel c with trim := max (-50) (min 50 v) }
        ∧ (∀ d, d ≠ c → t.channel d = s.channel d)
        ∧ t.pcv.record = s.pcv.record.write none c (some .discarded) ∧ t.pcv.scan = .scanning (c + 1)
        ∧ { t with pcv := s.pcv } = s)
    ∧ (∀ n, 1 ≤ n → n ≤ 8 → s.pcv.scan = .idle → exec (.sampleTime h [n]) s = .next
        ({ s with pcv := { s.pcv with sampleTime := n } }.answered h .sampleTime ok))
    ∧ (∀ n c, 1 ≤ n → n ≤ 8 → c < 18 → s.pcv.scan = .scanning c → exec (.sampleTime h [n]) s = .next
        ({ s with pcv := { s.pcv with
            sampleTime := n
            record := s.pcv.record.write none c (some .discarded)
            scan := .scanning (c + 1) } }.answered h .sampleTime ok))
    ∧ ∀ n, 1 ≤ n → n ≤ 8 → s.pcv.scan = .scanning 18 → ∃ t : State,
        exec (.sampleTime h [n]) s = .next (t.answered h .sampleTime ok)
        ∧ t.pcv.sampleTime = n ∧ t.pcv.scan = .idle ∧ t.pcv.record = [] ∧ t.pcv.refPass = s.pcv.refPass
        ∧ t.pcv.fault = s.pcv.fault ∧ t.channel 18 = s.channel 18
        ∧ (∀ c, c < 18 → t.published c = ⟨(t.channel c).state, (t.channel c).temp⟩)
        ∧ (∀ c r res temp, c < 18 → s.pcv.record.read none c = some (.taken r res temp) →
            (s.pcv.refPass = true → t.channel c = (s.channel c).updated (some (.taken r res temp)))
            ∧ (s.pcv.refPass = false → t.channel c = (s.channel c).updated (some (.taken r .refFail none))))
        ∧ (∀ c, c < 18 → s.pcv.record.read none c = some .discarded → t.channel c = s.channel c)
        ∧ t.lyt = s.lyt ∧ t.clk = s.clk ∧ t.rst = s.rst ∧ t.valves = s.valves ∧ t.stk = s.stk ∧ t.rru = s.rru
        ∧ t.mvu = s.mvu ∧ t.lnk = s.lnk ∧ t.pending = s.pending

/-- The zone step, at the scan completion that the reference conversion ends (R71 to R76, R78 to R81). Every pending priority is
taken. Each zone with a profile takes its stage work by the temperatures then published and the accumulators as they then stand:
START-PENDING enters DELAY; DELAY and RAMP go on until their delay and their hold temperature; HOLD leaves for COOL when its
pieces are at the hold-exit maturity or its time is up; COOL falls until the hall allows it to be DONE; a pending ADVANCE enters
the next stage at once; IDLE and DONE stand. The computed request is then that of R79 or the fallback duty of R80, and the
request that of the first row of R81. That a COOL zone with no setpoint and a LOST channel makes no exit test at that step is
deduced (log entry 18). -/
def Obligations.ZoneStep : Prop :=
  ∀ (s : State) (raw z : Nat), s.held = false → s.pcv.scan = .scanning 18 → z < 16 →
    ∃ t, exec (.referenceCheck raw) s = .next t
    ∧ ((t.zone z).priority = (s.zone z).pendingPriority.getD (s.zone z).priority ∧ (t.zone z).pendingPriority = none
      ∧ (t.zone z).profile = (s.zone z).profile ∧ (t.zone z).follow = (s.zone z).follow)
    ∧ (((s.zone z).stage = .idle ∨ (s.zone z).stage = .done) → (t.zone z).stage = (s.zone z).stage
      ∧ (t.zone z).setpoint = (s.zone z).setpoint ∧ (t.zone z).timer = (s.zone z).timer)
    ∧ (∀ n, (s.zone z).profile = some n →
      ((s.zone z).stage = .startPending →
        (0 < (s.profile n).delay → (t.zone z).stage = .delay ∧ (t.zone z).setpoint = some (s.profile n).frostFloor
          ∧ (t.zone z).timer = 0)
        ∧ ((s.profile n).delay = 0 → (t.zone z).inRamp (s.profile n) (t.usable z)))
      ∧ ((s.zone z).stage = .delay →
        ((s.zone z).advance = true → (t.zone z).inRamp (s.profile n) (t.usable z) ∧ (t.zone z).advance = false)
        ∧ ((s.zone z).advance = false →
          ((s.profile n).delay ≤ min 65535 ((s.zone z).timer + 1) → (t.zone z).inRamp (s.profile n) (t.usable z))
          ∧ (min 65535 ((s.zone z).timer + 1) < (s.profile n).delay → (t.zone z).stage = .delay
            ∧ (t.zone z).setpoint = (s.zone z).setpoint ∧ (t.zone z).timer = min 65535 ((s.zone z).timer + 1))))
      ∧ ((s.zone z).stage = .ramp →
        ((s.zone z).advance = true → (t.zone z).inHold (s.profile n) ∧ (t.zone z).advance = false)
        ∧ ((s.zone z).advance = false →
          (∀ v, ((∃ sp, (s.zone z).setpoint = some sp ∧ v = min (sp + (s.profile n).rampRate) (s.profile n).holdTemp)
              ∨ ((s.zone z).setpoint = none ∧ ∃ own, t.usable z = some own ∧ v = min own (s.profile n).holdTemp)) →
            (v = (s.profile n).holdTemp → (t.zone z).inHold (s.profile n))
            ∧ (v ≠ (s.profile n).holdTemp → (t.zone z).stage = .ramp ∧ (t.zone z).setpoint = some v
              ∧ (t.zone z).timer = min 65535 ((s.zone z).timer + 1)))
          ∧ ((s.zone z).setpoint = none → (t.published z).state = .lost → (t.zone z).stage = .ramp
            ∧ (t.zone z).setpoint = some (s.profile n).frostFloor
            ∧ (t.zone z).timer = min 65535 ((s.zone z).timer + 1))
          ∧ ((s.zone z).setpoint = none → (t.published z).state = .unsettled → (t.zone z).stage = .ramp
            ∧ (t.zone z).setpoint = none ∧ (t.zone z).timer = min 65535 ((s.zone z).timer + 1))))
      ∧ ((s.zone z).stage = .hold →
        ((s.zone z).advance = true → (t.zone z).inCool (s.profile n) ∧ (t.zone z).advance = false)
        ∧ ((s.zone z).advance = false →
          ((((∃ k, t.zonePiece z k)
                ∧ ∀ k, t.zonePiece z k → (s.profile n).holdExit * 600 ≤ (t.piece k).accumulator)
              ∨ (s.profile n).maxHold ≤ min 65535 ((s.zone z).timer + 1)) → (t.zone z).inCool (s.profile n))
          ∧ (¬(((∃ k, t.zonePiece z k)
                ∧ ∀ k, t.zonePiece z k → (s.profile n).holdExit * 600 ≤ (t.piece k).accumulator)
              ∨ (s.profile n).maxHold ≤ min 65535 ((s.zone z).timer + 1)) → (t.zone z).stage = .hold
            ∧ (t.zone z).setpoint = some (s.profile n).holdTemp
            ∧ (t.zone z).timer = min 65535 ((s.zone z).timer + 1))))
      ∧ ((s.zone z).stage = .cool →
        (∀ v, ((∃ sp, (s.zone z).setpoint = some sp ∧ v = max (sp - (s.profile n).coolRate) (s.profile n).frostFloor)
            ∨ ((s.zone z).setpoint = none ∧ ∃ own, t.usable z = some own ∧ v = min own (s.profile n).holdTemp)) →
          (t.zone z).testedCool (s.profile n) (t.usable 16) v (min 65535 ((s.zone z).timer + 1)))
        ∧ ((s.zone z).setpoint = none → (t.published z).state = .lost → (t.zone z).stage = .cool
          ∧ (t.zone z).setpoint = some (s.profile n).holdTemp
          ∧ (t.zone z).timer = min 65535 ((s.zone z).timer + 1))
        ∧ ((s.zone z).setpoint = none → (t.published z).state = .unsettled → (t.zone z).stage = .cool
          ∧ (t.zone z).setpoint = none ∧ (t.zone z).timer = min 65535 ((s.zone z).timer + 1)))
      ∧ (((t.zone z).stage = .delay ∨ (t.zone z).stage = .ramp ∨ (t.zone z).stage = .hold ∨ (t.zone z).stage = .cool) →
        (∀ own sp, t.usable z = some own → (t.zone z).setpoint = some sp →
          ((t.zone z).stage = .hold → ((t.zone z).computed : Int)
            = max 0 (min 60 ((s.profile n).holdBias + (sp - own) * (s.profile n).gain / 10)))
          ∧ ((t.zone z).stage ≠ .hold → ((t.zone z).computed : Int)
            = if 0 < sp - own then max 0 (min 60 ((sp - own) * (s.profile n).gain / 10)) else 0))
        ∧ ((t.usable z = none ∨ (t.zone z).setpoint = none) → (t.zone z).computed = (s.profile n).fallback)))
    ∧ (((t.zone z).stage = .idle ∨ (t.zone z).stage = .startPending ∨ (t.zone z).stage = .done) →
      (t.zone z).computed = 0 ∧ (t.zone z).request = 0)
    ∧ ((∀ b, (s.zoneLayout z).bed = some b → (t.bed b).state ≠ .curing ∧ (t.bed b).state ≠ .cooling) →
      (t.zone z).request = 0)
    ∧ ((t.zone z).priority = 0 → (t.zone z).request = 0)
    ∧ (∀ b, (s.zoneLayout z).bed = some b → ((t.bed b).state = .curing ∨ (t.bed b).state = .cooling) →
      (t.zone z).priority ≠ 0 →
      ((t.zone z).stage = .delay ∨ (t.zone z).stage = .ramp ∨ (t.zone z).stage = .hold ∨ (t.zone z).stage = .cool) →
      (t.zone z).request = (match (s.zone z).follow with
        | some l => (t.zone l).computed
        | none => (t.zone z).computed))

/-- The preparation of a frame, at the scan completion that the reference conversion ends (R82, R89, R92, R93): pending K and
minimum open are applied first; the prepared frame carries them, the inhibit, and for each zone its priority and request as the
zone step left them; under inhibit nothing is allocated or trimmed, and otherwise an entry is trimmed exactly when its
allocation (`allocation`, R91 and R92) is less than its request. With a trimmed entry HEAT-TRIMMED stands on PL, unless a full
set dropped a posting; with none it is not posted. The running frame and the lines stand. -/
def Obligations.FramesPrepared : Prop :=
  ∀ (s : State) (raw : Nat), s.held = false → s.pcv.scan = .scanning 18 →
    ∃ (t : State) (f : Frame), exec (.referenceCheck raw) s = .next t
    ∧ t.sha = { k := s.sha.pendingK.getD s.sha.k, pendingK := none,
                minOpen := s.sha.pendingMinOpen.getD s.sha.minOpen, pendingMinOpen := none,
                inhibit := s.sha.inhibit, prepared := some f, running := s.sha.running }
    ∧ f.k = s.sha.pendingK.getD s.sha.k ∧ f.minOpen = s.sha.pendingMinOpen.getD s.sha.minOpen
    ∧ f.inhibited = s.sha.inhibit ∧ t.valves = s.valves
    ∧ f.entries.map FrameEntry.zone = List.range 16
    ∧ (∀ z, z < 16 → ∃ e, f.entry z = some e ∧ e.zone = z ∧ e.priority = (t.zone z).priority
        ∧ e.request = (t.zone z).request
        ∧ (s.sha.inhibit = true → e.allocation = 0 ∧ e.placement = none ∧ e.trimmed = false)
        ∧ (s.sha.inhibit = false →
          e.allocation = allocation f.k f.minOpen
            ((List.range 16).map (fun i => ⟨i, (t.zone i).priority, (t.zone i).request⟩)) z
          ∧ (e.trimmed = true ↔ e.allocation < e.request)
          ∧ (e.allocation = 0 → e.placement = none)))
    ∧ ((∃ e ∈ f.entries, e.trimmed = true) → (t.condSet .PL).overflow = false →
        ∃ r ∈ (t.condSet .PL).records, r.kind = .heatTrimmed ∧ r.subject = .none)
    ∧ ((∀ e ∈ f.entries, e.trimmed = false) → ∀ r ∈ (t.condSet .PL).records, r.kind = .heatTrimmed →
        r ∈ (s.condSet .PL).records)

/-- The beds evaluate their states at a scan completion (R26, R27), by the stages and the accumulators as they then stand: a CURING
bed whose zones all stand in COOL or DONE becomes COOLING, and a COOLING one READY where its zones are all DONE and its pieces
all release-ok, the one after the other if need be; a CURING bed with no zones becomes READY by its pieces alone. BED-READY
goes to the bed's flags and to PL, unless a full set dropped a posting. Every other bed stands. -/
def Obligations.BedsEvaluated : Prop :=
  ∀ (s : State) (raw b : Nat), s.held = false → s.pcv.scan = .scanning 18 → b ≤ 12 →
    ∃ t, exec (.referenceCheck raw) s = .next t
    ∧ ((s.bed b).state ≠ .curing → (s.bed b).state ≠ .cooling → t.bed b = s.bed b)
    ∧ (∃ st, t.bed b = { s.bed b with state := st })
    ∧ ((∃ z, s.zoneOf z b) →
      ((s.bed b).state = .curing → ((t.bed b).state = .curing ↔
        ¬∀ z, s.zoneOf z b → (t.zone z).stage = .cool ∨ (t.zone z).stage = .done))
      ∧ (((s.bed b).state = .curing ∨ (s.bed b).state = .cooling) → ((t.bed b).state = .ready ↔
        (∀ z, s.zoneOf z b → (t.zone z).stage = .done) ∧ ∀ n ∈ (s.bed b).pieces, (t.piece n).releaseOk = true))
      ∧ (((s.bed b).state = .curing ∨ (s.bed b).state = .cooling) →
        (t.bed b).state = .curing ∨ (t.bed b).state = .cooling ∨ (t.bed b).state = .ready)
      ∧ ((s.bed b).state = .cooling → (t.bed b).state ≠ .curing))
    ∧ ((¬∃ z, s.zoneOf z b) →
      ((s.bed b).state = .curing → (t.bed b).state =
        if (∀ n ∈ (s.bed b).pieces, (t.piece n).releaseOk = true) then .ready else .curing)
      ∧ ((s.bed b).state = .cooling → (t.bed b).state = .cooling))
    ∧ (((s.bed b).state = .curing ∨ (s.bed b).state = .cooling) → (t.bed b).state = .ready →
      (t.flags b).ready.isSome = true
      ∧ ((t.condSet .PL).overflow = false →
        ∃ r ∈ (t.condSet .PL).records, r.kind = .bedReady ∧ r.subject = .bed b))


/-! ## The steam header's allocation (chapter 6) -/

/-- An allocation is at most its zone's request, is 0 or at least the minimum open, and the allocations of a frame sum to at most
K × 60 (R91, R92, R95). Where a zone is given fewer steps than it requests, before the minimum open is applied, no zone of a
lower priority is given any (R91). What a zone is given, in full (R91): where the requests of a priority fit the capacity left
for it, each zone is given its request. Where they do not, all that is left is given: there is a share, each zone that requests
no more than it is given its request, and every other zone the share, the first of them by zone number, as many as a leftover
that is less than their number, one step more. A zone that requests nothing is given nothing. The allocation is what is given,
and 0 where that is below the minimum open (R92). -/
def Obligations.AllocationBounded : Prop :=
  (∀ (k m : Nat) (pubs : List PubEntry), (pubs.map PubEntry.zone).Nodup →
    (∀ e ∈ pubs, allocation k m pubs e.zone ≤ e.request)
    ∧ (∀ z, allocation k m pubs z = 0 ∨ m ≤ allocation k m pubs z)
    ∧ (pubs.map (fun e => allocation k m pubs e.zone)).sum ≤ k * 60)
  ∧ (∀ (k : Nat) (pubs : List PubEntry), (pubs.map PubEntry.zone).Nodup →
    ∀ hi ∈ pubs, ∀ lo ∈ pubs, 1 ≤ lo.priority → lo.priority < hi.priority → hi.priority ≤ 3 →
      listedSteps (fillLevels pubs [3, 2, 1] (k * 60)) hi.zone < hi.request →
      listedSteps (fillLevels pubs [3, 2, 1] (k * 60)) lo.zone = 0)
  ∧ ∀ (k m : Nat) (pubs : List PubEntry), (pubs.map PubEntry.zone).Pairwise (· < ·) →
    (∀ z, allocation k m pubs z = if givenSteps k pubs z < m then 0 else givenSteps k pubs z)
    ∧ (∀ e ∈ pubs, e.request = 0 ∨ e.priority = 0 → givenSteps k pubs e.zone = 0)
    ∧ ∀ p, 1 ≤ p → p ≤ 3 →
      (((levelOf pubs p).map PubEntry.request).sum ≤ leftFor k pubs p →
        ∀ e ∈ levelOf pubs p, givenSteps k pubs e.zone = e.request)
      ∧ (leftFor k pubs p < ((levelOf pubs p).map PubEntry.request).sum →
        ((levelOf pubs p).map (fun e => givenSteps k pubs e.zone)).sum = leftFor k pubs p
        ∧ ∃ share leftover : Nat, leftover < ((levelOf pubs p).filter (fun e => share < e.request)).length
          ∧ ∀ e ∈ levelOf pubs p,
            (e.request ≤ share → givenSteps k pubs e.zone = e.request)
            ∧ (share < e.request → givenSteps k pubs e.zone = share +
              if ((levelOf pubs p).filter (fun o => share < o.request && o.zone < e.zone)).length < leftover then 1 else 0))

/-! ## Bays, inventory and queries (chapter 7, R33, R48, R86, R99, R104, R138, R162, R179) -/

/-- BAY-OPEN of a configured, CLOSED bay opens it with the limit, an empty load and an empty shipped list (R112). BAY-CLOSE of an
OPEN bay with nothing pending answers up to five entries from the first asked for; where they are the last, the bay becomes
CLOSED, its load and list are cleared and the generation rises, and otherwise nothing changes (R114). -/
def Obligations.BaysOpenAndClose : Prop :=
  ∀ (s : State) (h : Header) (b : Nat), s.planner h → s.bayConfigured b = true →
    (∀ limit, 1 ≤ limit → limit ≤ 60 → (s.bay b).opened = false → exec (.bayOpen h [b, limit]) s = .next
      ((s.setBay b { s.bay b with opened := true, limit := some limit, load := 0, shipped := [] }).answered h .bayOpen ok))
    ∧ ∀ first, (s.bay b).opened = true → (s.bay b).pendingCount = 0 → 1 ≤ first →
      (first ≤ (s.bay b).shipped.length ∨ ((s.bay b).shipped = [] ∧ first = 1)) →
      ((s.bay b).shipped.length ≤ first + 4 → exec (.bayClose h [b, first]) s = .next
        (((s.setBay b { s.bay b with opened := false, limit := none, load := 0, shipped := [] }).bumpGeneration).answered h
          .bayClose { result := .done,
                      data := .bayEntries (s.bay b).shipped.length ((s.bay b).shipped.drop (first - 1)) true }))
      ∧ (first + 4 < (s.bay b).shipped.length → exec (.bayClose h [b, first]) s = .next
        (s.answered h .bayClose
          { result := .done,
            data := .bayEntries (s.bay b).shipped.length (((s.bay b).shipped.drop (first - 1)).take 5) false }))

/-- A PLACE-RECORD whose fields lie in range and whose cell takes the piece writes it into the lowest FREE record, on top of its
cell's stack, STOCK at that level and unclaimed; the generation rises (R115). A REMOVE-RECORD of an unclaimed top frees its
record, takes it from the stack and raises the generation (R116). No other record changes. That the cast minute may be absent
behind its presence byte, and the bytes of the bodies, are the model's (log entries 15 and 5). -/
def Obligations.InventoryWrites : Prop :=
  (∀ (s : State) (h : Header) (c n acc : Nat) (d : Desc) (m : Option Nat), s.planner h →
      (1 ≤ d.mark.length ∧ d.mark.length ≤ 12 ∧ (∀ k ∈ d.mark, 32 ≤ k ∧ k ≤ 126) ∧ d.mark.head? ≠ some 32) →
      (1 ≤ d.pour ∧ d.pour ≤ 65535) → (1 ≤ d.origin ∧ d.origin ≤ 12) → d.segment < 32 → (1 ≤ d.weight ∧ d.weight ≤ 7) →
      d.release ≤ 9999 → d.ship ≤ 9999 → acc ≤ 6000000 → (∀ k, m = some k → k ≤ 4294967295) →
      s.cellInUse c = true → d.release * 600 ≤ acc →
      (s.cell c).arrivals = [] → (s.cell c).pendingOut = 0 → (s.cell c).stack.length < (s.cellLayout c).limit →
      (∀ k, (s.cell c).stack.getLast? = some k → d.weight ≤ (s.piece k).weight) →
      n < 192 → (s.piece n).state = .free → (∀ i, i < n → (s.piece i).state ≠ .free) →
      ∃ t : State, exec (.placeRecord h (placeWritten c d acc m)) s = .next
          (t.answered h .placeRecord { result := .done, data := .slot n })
        ∧ t.piece n =
          { state := .stock, desc := some d, accumulator := acc, suspect := 0, castMinute := m,
            location := some (.cell c (s.cell c).stack.length), claim := none }
        ∧ (∀ i, i ≠ n → t.piece i = s.piece i)
        ∧ t.cell c = { s.cell c with stack := (s.cell c).stack ++ [n] } ∧ (∀ i, i ≠ c → t.cell i = s.cell i)
        ∧ t.stk.generation = (if s.stk.generation = 4294967295 then 0 else s.stk.generation + 1)
        ∧ t.stk.bays = s.stk.bays ∧ (∀ p, t.cursor p = s.cursor p)
        ∧ { t with pct := s.pct, stk := s.stk } = s)
    ∧ ∀ (s : State) (h : Header) (c n : Nat) (rest : List Nat), s.planner h → s.cellInUse c = true → n < 192 →
      (s.cell c).arrivals = [] → (s.cell c).pendingOut = 0 → (s.cell c).stack = rest ++ [n] → (s.piece n).claim = none →
      ∃ t : State, exec (.removeRecord h [c, n]) s = .next (t.answered h .removeRecord
          { result := .done, data := .removed (s.piece n).mark (s.piece n).pour (s.piece n).weight (s.piece n).accumulator })
        ∧ t.piece n = {} ∧ (∀ i, i ≠ n → t.piece i = s.piece i)
        ∧ t.cell c = { s.cell c with stack := rest } ∧ (∀ i, i ≠ c → t.cell i = s.cell i)
        ∧ t.stk.generation = (if s.stk.generation = 4294967295 then 0 else s.stk.generation + 1)
        ∧ t.stk.bays = s.stk.bays ∧ (∀ p, t.cursor p = s.cursor p)
        ∧ { t with pct := s.pct, stk := s.stk } = s

/-- The queries and the walk of the stock. STOCK-SEEK sets the cursor of its own port, and STOCK-READ answers with the cell under
it and moves it on, 0 after 47 (R117). PIECE-QUERY, BED-QUERY, ZONE-QUERY, MOVE-QUERY, CRANE-QUERY and COND-READ are answered
DONE from the records as they stand, and change none but the reply being sent (R33, R48, R86, R99, R104, R138, R162, R179).
That the zone's number is among the fields of a ZONE-QUERY reply, the trim of 0 shown of channel 18, and the bytes of the bodies
but PIECE-QUERY's, are the model's (log entries 42, 46 and 5). -/
def Obligations.QueriesAndWalk : Prop :=
  (∀ (s : State) (h : Header), s.master h → ∀ c, c < 48 → exec (.stockSeek h [c]) s = .next
      ((s.setCursor (portPoint h.port) c).answered h .stockSeek ok))
    ∧ (∀ (s : State) (h : Header), s.master h → ∃ r : StockReply,
      exec (.stockRead h [0]) s = .next
        ((s.setCursor (portPoint h.port)
            (if s.cursor (portPoint h.port) + 1 < 48 then s.cursor (portPoint h.port) + 1 else 0)).answered h .stockRead
          { result := .done, data := .stock r })
      ∧ r.cell = s.cursor (portPoint h.port) ∧ r.layout = s.cellLayout r.cell
      ∧ r.pendingIn = (s.cell r.cell).arrivals.length ∧ r.pendingOut = (s.cell r.cell).pendingOut
      ∧ r.stack.map StackItem.slot = (s.cell r.cell).stack ∧ r.generation = s.stk.generation)
    ∧ (∀ (s : State) (h : Header) (n : Nat), s.master h → n < 192 →
      ((s.piece n).state = .free → exec (.pieceQuery h [n]) s = .next
        (s.answered h .pieceQuery { result := .done, data := .freeSlot n }))
      ∧ ((s.piece n).state ≠ .free → ∃ r : PieceReply, exec (.pieceQuery h [n]) s = .next
          (s.answered h .pieceQuery { result := .done, data := .piece r }) ∧ r.slot = n ∧ r.piece = s.piece n))
    ∧ (∀ (s : State) (h : Header) (b : Nat), s.planner h → 1 ≤ b → b ≤ 12 → ∃ r : BedReply,
      exec (.bedQuery h [b]) s = .next (s.answered h .bedQuery { result := .done, data := .bed r })
      ∧ r.state = (s.bed b).state ∧ r.plan = (s.bed b).plan ∧ r.pieces = (s.bed b).pieces
      ∧ r.castMinute = (s.bed b).castMinute ∧ r.deadline = (s.bed b).deadline)
    ∧ (∀ (s : State) (h : Header) (n : Nat), s.planner h → n ≤ 18 → ∃ r : ZoneReply,
      exec (.zoneQuery h [n]) s = .next (s.answered h .zoneQuery { result := .done, data := .zoneRecord r })
      ∧ r.channel = s.channel n ∧ r.k = s.sha.k ∧ r.pendingK = s.sha.pendingK ∧ r.minOpen = s.sha.minOpen
      ∧ r.pendingMinOpen = s.sha.pendingMinOpen ∧ r.inhibit = s.sha.inhibit ∧ (r.zone.isSome = true ↔ n < 16)
      ∧ (r.converter.isSome = true ↔ n = 18) ∧ ∀ z, r.zone = some z → z.number = n ∧ z.zone = s.zone n)
    ∧ (∀ (s : State) (h : Header) (i : Nat) (m : Move), s.planner h → i < 18 → s.move i = some m →
      m.serial ≤ 4294967295 → (∀ j m', j < 18 → s.move j = some m' → m'.serial = m.serial → j = i) → ∃ r : MoveReply,
      exec (.moveQuery h (four m.serial)) s = .next (s.answered h .moveQuery { result := .done, data := .moveRecord r })
      ∧ r.slot = i ∧ r.move = m)
    ∧ (∀ (s : State) (h : Header) (x : Crane), s.planner h → ∃ r : CraneReply,
      exec (.craneQuery h [craneCode x]) s = .next (s.answered h .craneQuery { result := .done, data := .craneRecord r })
      ∧ r.crane = s.crane x ∧ r.gap = s.lyt.yard.gap ∧ r.breach = s.rru.breach ∧ r.breachCount = s.rru.breachCount
      ∧ r.deadlock = s.rru.deadlock ∧ r.queue.length = (s.work x).queue.length ∧ r.lane = (s.work x).lane
      ∧ r.mismatch = (s.work x).mismatch ∧ r.orphan = (s.work x).orphan ∧ r.lastOrder = (s.work x).lastOrder
      ∧ r.serial = s.mvu.serial ∧ ∀ n v, (n, v) ∈ r.vacates ↔ n < 32 ∧ s.vacate n = some v)
    ∧ ∀ (s : State) (h : Header), s.master h → ∃ r : CondReply,
      exec (.condRead h [0]) s = .next (s.answered h .condRead { result := .done, data := .conditions r })
      ∧ r.overflow = (s.condSet (portPoint h.port)).overflow ∧ r.records = (s.condSet (portPoint h.port)).records
      ∧ r.counts = ((s.port h.port).errors, (s.port h.port).overruns) ∧ (r.allCounts ≠ [] ↔ h.port = .PL)

/-! ## Conditions (chapter 11) -/

/-- A posting at a port's set (R176): gathered into the record of its kind and subject, its count held at 255, its place and first
minute kept; or appended as a new record of the current minute with count 1, the line high; or dropped by a full set, which
sets the overflow flag. What each report mode makes of a cause that appears and of one that ends (R177): whatever the modes, no
record of the kind and subject stays STANDING after the end. COND-ACK at the set of its own port (R179): no record of the
kind and subject is NOT-FOUND; a STANDING one is ACTIVE; any other is removed, the overflow flag cleared, and the line falls
with the last record (R180). REPORT-MODE stores the mode of a standing kind on a port, and answers BAD-FIELD naming the port,
the kind or the mode (R178, section 10.3). The field numbers, an unknown kind code as field 1 of a COND-ACK, and the codes and
bytes of the two bodies are the model's (log entries 13, 16 and 5). -/
def Obligations.ConditionSets : Prop :=
  (∀ (s : State) (p : Point) (k : CondKind) (subj : Subject) (st : CondStatus) (raise : Bool),
    (∀ before r after, (s.condSet p).records = before ++ r :: after → r.kind = k → r.subject = subj →
      (∀ q ∈ before ++ after, ¬(q.kind = k ∧ q.subject = subj)) →
      s.postAt p k subj st raise = s.setCondSet p { s.condSet p with
        records := before ++ { r with count := min 255 (r.count + 1), status := if raise then .standing else r.status }
          :: after })
    ∧ ((∀ r ∈ (s.condSet p).records, ¬(r.kind = k ∧ r.subject = subj)) →
      ((s.condSet p).records.length < (match p with | .PL => 32 | .CW => 8 | .CE => 8) →
        s.postAt p k subj st raise = s.setCondSet p { s.condSet p with
          records := (s.condSet p).records ++ [⟨k, subj, s.clk.minute, 1, st⟩], line := .high })
      ∧ ((match p with | .PL => 32 | .CW => 8 | .CE => 8) ≤ (s.condSet p).records.length →
        s.postAt p k subj st raise = s.setCondSet p { s.condSet p with overflow := true })))
  ∧ (∀ (s : State) (p : Point) (k : CondKind) (subj : Subject),
    s.postEvent p k subj = s.postAt p k subj .notice false
    ∧ s.raiseCause [p] k subj = (match s.modeOf p k with
      | .none => s
      | .raise => s.postAt p k subj .notice false
      | .clear => s
      | .both => s.postAt p k subj .standing true)
    ∧ (s.modeOf p k ≠ .clear → ∀ q, ((s.endCause [p] k subj).condSet q).records = (s.condSet q).records.map (fun r =>
        if r.kind = k ∧ r.subject = subj ∧ r.status = .standing then { r with status := .cleared } else r))
    ∧ (s.modeOf p k = .clear → ∀ q r, r ∈ ((s.endCause [p] k subj).condSet q).records → r.kind = k → r.subject = subj →
        r.status ≠ .standing)
    ∧ (s.modeOf p k = .clear → ((s.endCause [p] k subj).condSet p).overflow = false →
        ∃ r ∈ ((s.endCause [p] k subj).condSet p).records, r.kind = k ∧ r.subject = subj))
  ∧ (∀ (s : State) (h : Header) (k : CondKind) (subj : Subject), s.master h → subjectFits k subj = true →
      (∀ n, subjectValue subj = some n → n ≤ 4294967295) →
      ((∀ r ∈ (s.condSet (portPoint h.port)).records, ¬(r.kind = k ∧ r.subject = subj)) →
        exec (.condAck h (ackWritten k subj)) s = .next (s.answered h .condAck { result := .notFound }))
      ∧ ∀ (before after : List Cond) (r : Cond), (s.condSet (portPoint h.port)).records = before ++ r :: after →
        r.kind = k → r.subject = subj → (∀ q ∈ before ++ after, ¬(q.kind = k ∧ q.subject = subj)) →
        (r.status = .standing → exec (.condAck h (ackWritten k subj)) s = .next
          (s.answered h .condAck { result := .active }))
        ∧ (r.status ≠ .standing → exec (.condAck h (ackWritten k subj)) s = .next
          ((s.setCondSet (portPoint h.port) { s.condSet (portPoint h.port) with
              records := before ++ after
              overflow := false
              line := if before ++ after = [] then .low else .high }).answered h .condAck ok)))
  ∧ (∀ (s : State) (h : Header) (code presence a b c d : Nat), s.master h →
      (16 ≤ code → exec (.condAck h [code, presence, a, b, c, d]) s = .next (s.answered h .condAck (badFieldReply 1)))
      ∧ (code < 16 → 2 ≤ presence → exec (.condAck h [code, presence, a, b, c, d]) s = .next
          (s.answered h .condAck (badFieldReply 2))))
  ∧ ∀ (s : State) (h : Header), s.planner h →
      (∀ p k m, 3 ≤ p → exec (.reportMode h [p, k, m]) s = .next (s.answered h .reportMode (badFieldReply 1)))
      ∧ (∀ p k m, p < 3 → 16 ≤ k → exec (.reportMode h [p, k, m]) s = .next
          (s.answered h .reportMode (badFieldReply 2)))
      ∧ (∀ p (k : CondKind) m, p < 3 → k ∉ ([.breach, .craneStale, .hookMismatch, .deadlock, .probeLost, .converterFault,
            .panelLost] : List CondKind) → exec (.reportMode h [p, condKindCode k, m]) s = .next
          (s.answered h .reportMode (badFieldReply 2)))
      ∧ ∀ (k : CondKind), k ∈ ([.breach, .craneStale, .hookMismatch, .deadlock, .probeLost, .converterFault,
            .panelLost] : List CondKind) →
        (∀ p m, p < 3 → 4 ≤ m → exec (.reportMode h [p, condKindCode k, m]) s = .next
          (s.answered h .reportMode (badFieldReply 3)))
        ∧ ∀ (p : Point) (m : ReportMode), ∃ t : State,
          exec (.reportMode h [pointCode p, condKindCode k, modeCode m]) s = .next (t.answered h .reportMode ok)
          ∧ t.modeOf p k = m ∧ (∀ q k', (q, k') ≠ (p, k) → t.modeOf q k' = s.modeOf q k')
          ∧ (∀ q, (t.condSet q).records = (s.condSet q).records ∧ (t.condSet q).overflow = (s.condSet q).overflow
              ∧ (t.condSet q).line = (s.condSet q).line)
          ∧ { t with cnd := s.cnd } = s ∧ t.cnd.flags = s.cnd.flags

/-! ## Moves and the lane (sections 9.3, 9.4, 9.8) -/

/-- A MOVE-SUBMIT whose nine fields are in order (R144) and which passes every check (R145) is accepted as one step (R146): the
lowest empty slot, the serial counter's value, its record filled from the request and from R143 with state QUEUED, stop NONE and
no reason; a PREEMPT and a SET-DOWN not suspendable; its piece claimed, its space and its departure reserved; its entry at
the tail of its crane's queue, or for a PREEMPT at the head. Where a PREEMPT passes over the crane's waiting head, that move
becomes QUEUED with no reason, and a standing refusal that names it is withdrawn (R130, R146). It passes over nothing while
the crane has a move TO-PICK or LIFTED, or a yield, and every other record stands. That the waiting head is found by R148 as the
records stand, and that a yield is not passed over, is the model's (log entries 21 and 23). -/
def Obligations.MoveAccepted : Prop :=
  ∀ (s : State) (h : Header) (f : MoveFields), s.planner h → (∀ n, 1 ≤ n → n ≤ 9 → s.moveField f n) →
    (∀ n, 1 ≤ n → n ≤ 11 → s.submitCheck f n) →
    ∃ (t : State) (i : Nat) (m : Move), exec (.moveSubmit h (moveWritten f)) s = .next
        (t.answered h .moveSubmit { result := .done, data := .accepted s.mvu.serial i })
      ∧ i < 16 ∧ s.move i = none ∧ (∀ j, j < i → (s.move j).isSome = true)
      ∧ t.move i = some m ∧ m.serial = s.mvu.serial ∧ m.crane = submitCrane f ∧ m.state = .queued ∧ m.reason = none
      ∧ m.stop = .none ∧ m.origin = .planner
      ∧ (f.style = 0 → m.style = .normal) ∧ (f.style = 1 → m.style = .atomic) ∧ (f.style = 2 → m.style = .preempt)
      ∧ (m.suspendable = true ↔ f.suspendable = 1 ∧ f.style ≠ 2 ∧ f.kind ≠ 4)
      ∧ (f.kind = 0 → m.kind = .strip ∧ m.piece = some f.piece ∧ m.source = some (.bed f.sourceNum)
          ∧ m.dest = .cell f.destNum ∧ m.pick = some (s.piece f.piece).segment
          ∧ (s.cellLayout f.destNum).segment = some m.place)
      ∧ (f.kind = 1 → m.kind = .restack ∧ m.piece = some f.piece ∧ m.source = some (.cell f.sourceNum)
          ∧ m.dest = .cell f.destNum ∧ m.pick = (s.cellLayout f.sourceNum).segment
          ∧ (s.cellLayout f.destNum).segment = some m.place)
      ∧ (f.kind = 2 → m.kind = .loadOut ∧ m.piece = some f.piece ∧ m.source = some (.cell f.sourceNum)
          ∧ m.dest = .bay f.destNum ∧ m.pick = (s.cellLayout f.sourceNum).segment
          ∧ (s.bayLayout f.destNum).segment = some m.place)
      ∧ (f.kind = 3 → m.kind = .park ∧ m.piece = none ∧ m.source = none ∧ m.dest = .segment f.destNum ∧ m.pick = none
          ∧ m.place = f.destNum)
      ∧ (f.kind = 4 → m.kind = .setDown ∧ m.piece = some f.piece ∧ m.source = none ∧ m.dest = .cell f.destNum
          ∧ m.pick = none ∧ (s.cellLayout f.destNum).segment = some m.place)
      ∧ t.mvu.serial = (if s.mvu.serial = 4294967295 then 1 else s.mvu.serial + 1)
      ∧ (∀ j, j ≠ i → t.move j = s.move j ∨ (f.style = 2 ∧ j < 16 ∧ ∃ o, s.move j = some o ∧ o.state = .waiting
          ∧ t.move j = some { o with state := .queued, reason := none }))
      ∧ (∀ j o, f.style = 2 → s.waitingHead (submitCrane f) j o →
          t.move j = some { o with state := .queued, reason := none }
          ∧ (∀ k, k ≠ i → k ≠ j → t.move k = s.move k)
          ∧ ((s.crane (submitCrane f)).refusal.map Refused.serial = some o.serial →
              (t.crane (submitCrane f)).refusal = none)
          ∧ ((s.crane (submitCrane f)).refusal.map Refused.serial ≠ some o.serial → t.rru = s.rru ∧ t.cnd = s.cnd))
      ∧ ((f.style ≠ 2 ∨ (s.move (yieldSlot (submitCrane f))).isSome = true
            ∨ ∃ k o, k < 18 ∧ s.move k = some o ∧ o.crane = submitCrane f ∧ o.underWay = true) →
          (∀ j, j ≠ i → t.move j = s.move j) ∧ t.rru = s.rru ∧ t.cnd = s.cnd)
      ∧ (t.work m.crane).queue = (if f.style = 2 then .move i :: (s.work m.crane).queue
          else (s.work m.crane).queue ++ [.move i])
      ∧ t.work m.crane.other = s.work m.crane.other
      ∧ (∀ n, m.piece = some n → t.piece n = { s.piece n with claim := some s.mvu.serial })
      ∧ (∀ n, m.piece ≠ some n → t.piece n = s.piece n)
      ∧ (∀ n d, m.piece = some n → m.dest = .cell d → t.cell d =
          { s.cell d with arrivals := (s.cell d).arrivals ++ [n] })
      ∧ (∀ c, m.source = some (.cell c) → t.cell c = { s.cell c with pendingOut := (s.cell c).pendingOut + 1 })
      ∧ (∀ n b, m.piece = some n → m.dest = .bay b → t.bay b =
          { s.bay b with
            pendingWeight := (s.bay b).pendingWeight + (s.piece n).weight
            pendingCount := (s.bay b).pendingCount + 1 })
      ∧ (∀ c, m.dest ≠ .cell c → m.source ≠ some (.cell c) → t.cell c = s.cell c)
      ∧ (∀ b, m.dest ≠ .bay b → t.bay b = s.bay b)
      ∧ (∀ x, (t.crane x).interval = (s.crane x).interval ∧ (t.crane x).presence = (s.crane x).presence
          ∧ (t.crane x).position = (s.crane x).position)
      ∧ t.stk.generation = s.stk.generation ∧ t.lyt = s.lyt ∧ t.clk = s.clk ∧ t.rst = s.rst ∧ t.beds = s.beds
      ∧ t.pcv = s.pcv ∧ t.zcu = s.zcu ∧ t.sha = s.sha ∧ t.valves = s.valves ∧ t.lnk = s.lnk

/-- A MOVE-SUBMIT that is refused changes nothing and uses no serial. One with an offending field is answered BAD-FIELD naming the
first of them (R144; that a style, a type or a number that does not suit the kind is named as it is, is the model's, log entry
13). One whose fields are in order is answered by the first check of R145 that fails, with that check's refusal: FULL, STATE
with the orphan's slot, CLAIMED with the claiming serial, STATE with the bed's state, and then the stock checks of R106, R107 and
R113. -/
def Obligations.MoveRefused : Prop :=
  ∀ (s : State) (h : Header) (f : MoveFields) (n : Nat), s.planner h → 1 ≤ n →
    (n ≤ 9 → ¬s.moveField f n → (∀ k, 1 ≤ k → k < n → s.moveField f k) →
      exec (.moveSubmit h (moveWritten f)) s = .next (s.answered h .moveSubmit (badFieldReply n)))
    ∧ (n ≤ 11 → (∀ k, 1 ≤ k → k ≤ 9 → s.moveField f k) → ¬s.submitCheck f n →
      (∀ k, 1 ≤ k → k < n → s.submitCheck f k) →
      exec (.moveSubmit h (moveWritten f)) s = .next (s.answered h .moveSubmit (s.submitAnswer f n)))

/-- MOVE-CANCEL by the move's state (R158): no live move NOT-FOUND; LIFTED answers LOADED; TO-PICK has a stop with purpose CANCEL
set, or has it already; QUEUED, WAITING and SUSPENDED leave the table at once, with their claim and reservations
released (R103, R108, R159), no end of theirs posted, and every piece, cell and bay they do not name as it was; a
yield's crane's SUSPENDED move resumes (R157). -/
def Obligations.MoveCancelled : Prop :=
  (∀ (s : State) (h : Header) (n : Nat), s.planner h → n ≤ 4294967295 →
      (∀ i m, i < 18 → s.move i = some m → m.serial ≠ n) →
      exec (.moveCancel h (four n)) s = .next (s.answered h .moveCancel { result := .notFound }))
    ∧ ∀ (s : State) (h : Header) (i : Nat) (m : Move), s.planner h → i < 18 → s.move i = some m →
      m.serial ≤ 4294967295 → (∀ j m', j < 18 → s.move j = some m' → m'.serial = m.serial → j = i) →
      (m.isLifted = true → exec (.moveCancel h (four m.serial)) s = .next
        (s.answered h .moveCancel { result := .loaded }))
      ∧ (m.state = .toPick → (m.stop = .none ∨ m.stop = .owed .suspend ∨ m.stop = .sent .suspend) →
          exec (.moveCancel h (four m.serial)) s = .next
            ((s.setMove i (some { m with stop := .owed .cancel })).answered h .moveCancel
              { result := .done, data := .cancel true }))
      ∧ (m.state = .toPick → (m.stop = .owed .cancel ∨ m.stop = .sent .cancel) →
          exec (.moveCancel h (four m.serial)) s = .next
            (s.answered h .moveCancel { result := .done, data := .cancel true }))
      ∧ ((m.state = .queued ∨ m.state = .waiting ∨ m.state = .suspended) → i < 16 → ∃ t : State,
          exec (.moveCancel h (four m.serial)) s = .next
            (t.answered h .moveCancel { result := .done, data := .cancel false })
          ∧ t.move i = none ∧ (∀ j, j ≠ i → t.move j = s.move j) ∧ t.mvu.serial = s.mvu.serial
          ∧ (∀ e ∈ (t.work m.crane).queue, e ≠ .move i) ∧ (t.work m.crane).queue.head? ≠ some .barrier
          ∧ t.work m.crane.other = s.work m.crane.other
          ∧ (∀ n, m.piece = some n → t.piece n = { s.piece n with claim := none })
          ∧ (∀ n, m.piece ≠ some n → t.piece n = s.piece n)
          ∧ (∀ n d, m.piece = some n → m.dest = .cell d →
              (t.cell d).arrivals = (s.cell d).arrivals.filter (fun k => k ≠ n) ∧ (t.cell d).stack = (s.cell d).stack)
          ∧ (∀ c, m.piece.isSome = true → m.source = some (.cell c) →
              (t.cell c).pendingOut = (s.cell c).pendingOut - 1 ∧ (t.cell c).stack = (s.cell c).stack)
          ∧ (∀ c, (m.piece = none ∨ (m.dest ≠ .cell c ∧ m.source ≠ some (.cell c))) → t.cell c = s.cell c)
          ∧ (∀ n b, m.piece = some n → m.dest = .bay b → t.bay b =
              { s.bay b with
                pendingWeight := (s.bay b).pendingWeight - (s.piece n).weight
                pendingCount := (s.bay b).pendingCount - 1 })
          ∧ (∀ b, (m.piece = none ∨ m.dest ≠ .bay b) → t.bay b = s.bay b)
          ∧ (∀ p, ∀ r ∈ (t.condSet p).records,
              (r.kind = .moveDone ∨ r.kind = .moveFailed ∨ r.kind = .moveCancelled) → r ∈ (s.condSet p).records)
          ∧ ((s.work m.crane).lane ≠ .pending → s.rru.deadlock = none → t.cnd = s.cnd)
          ∧ (∀ x, (t.crane x).interval = (s.crane x).interval ∧ (t.crane x).presence = (s.crane x).presence)
          ∧ t.stk.generation = s.stk.generation ∧ t.lyt = s.lyt ∧ t.clk = s.clk ∧ t.rst = s.rst ∧ t.beds = s.beds
          ∧ t.pcv = s.pcv ∧ t.zcu = s.zcu ∧ t.sha = s.sha ∧ t.valves = s.valves ∧ t.lnk = s.lnk)
      ∧ ((m.state = .queued ∨ m.state = .waiting ∨ m.state = .suspended) → i = yieldSlot m.crane → m.piece = none →
          ∃ t : State,
          exec (.moveCancel h (four m.serial)) s = .next
            (t.answered h .moveCancel { result := .done, data := .cancel false })
          ∧ t.move i = none
          ∧ (∀ j o, j < 16 → s.move j = some o → t.move j =
              if o.crane = m.crane ∧ o.state = .suspended then some { o with state := .waiting, reason := none } else some o)
          ∧ t.pct = s.pct ∧ t.stk = s.stk ∧ t.lyt = s.lyt ∧ t.clk = s.clk ∧ t.beds = s.beds ∧ t.zcu = s.zcu)

/-- BARRIER (R147): a queue of 10 entries answers FULL; an empty queue answers DONE with no entry made; otherwise a barrier is
appended at the tail. The lane (R149): LANE-REQUEST for a lane in NONE makes it PENDING while a submitted move of the crane that
is not of a lane kind is TO-PICK or LIFTED, and otherwise ACTIVE with LANE-ACTIVE posted on PL; for another lane STATE.
LANE-RELEASE of a lane that is not NONE makes it NONE; of one in NONE STATE. For each, a crane other than W or E is BAD-FIELD.
What they do to the moves at a report that finds nothing of the crane under way and no yield (R147, R148): where every move of
the queue stands after a barrier or is passed over by the lane, none is asked for, those after a barrier are WAITING with BARRIER
and the others WAITING with LANE, the standing refusal of such a move is withdrawn, and the order is IDLE. Otherwise the first
that is neither is the head candidate: the moves passed over before it are WAITING with LANE, those after it QUEUED with no reason,
behind a barrier or not, and none of them has a standing refusal left. A queue changes in neither case. A PENDING lane becomes
ACTIVE, with LANE-ACTIVE on PL unless a full set dropped a posting, when the move it waits for ends by PLACED, PICK-FAILED or a
stop, or is suspended; at a report with no event, while that move goes on with no stop, it stays PENDING (R149). That a SET-DOWN
under way makes the lane PENDING, that a move behind the head candidate loses its refusal, and the field's number and codes, are
the model's (log entries 22, 21, 13 and 5). -/
def Obligations.BarrierAndLane : Prop :=
  (∀ (s : State) (h : Header), s.planner h →
    (∀ n, 2 ≤ n → exec (.barrier h [n]) s = .next (s.answered h .barrier (badFieldReply 1))
      ∧ exec (.laneRequest h [n]) s = .next (s.answered h .laneRequest (badFieldReply 1))
      ∧ exec (.laneRelease h [n]) s = .next (s.answered h .laneRelease (badFieldReply 1)))
    ∧ ∀ x : Crane,
      ((s.work x).queue.length = 10 → exec (.barrier h [craneCode x]) s = .next
          (s.answered h .barrier { result := .full }))
      ∧ ((s.work x).queue = [] → exec (.barrier h [craneCode x]) s = .next (s.answered h .barrier ok))
      ∧ ((s.work x).queue ≠ [] → (s.work x).queue.length < 10 → exec (.barrier h [craneCode x]) s = .next
          ((s.setWork x { s.work x with queue := (s.work x).queue ++ [.barrier] }).answered h .barrier ok))
      ∧ ((s.work x).lane ≠ .none →
        exec (.laneRequest h [craneCode x]) s = .next (s.answered h .laneRequest { result := .state })
        ∧ exec (.laneRelease h [craneCode x]) s = .next
          ((s.setWork x { s.work x with lane := .none }).answered h .laneRelease ok))
      ∧ ((s.work x).lane = .none →
        exec (.laneRelease h [craneCode x]) s = .next (s.answered h .laneRelease { result := .state }))
      ∧ (∀ i m, (s.work x).lane = .none → i < 16 → s.move i = some m → m.crane = x →
        (m.state = .toPick ∨ ∃ p, m.state = .lifted p) → (m.kind = .strip ∨ m.kind = .setDown) →
        exec (.laneRequest h [craneCode x]) s = .next
          ((s.setWork x { s.work x with lane := .pending }).answered h .laneRequest
            { result := .done, data := .lane .pending }))
      ∧ ((s.work x).lane = .none →
        (∀ i m, i < 16 → s.move i = some m → m.crane = x → (m.state = .toPick ∨ ∃ p, m.state = .lifted p) →
          m.kind ≠ .strip ∧ m.kind ≠ .setDown) →
        ∃ t : State, exec (.laneRequest h [craneCode x]) s = .next
            (t.answered h .laneRequest { result := .done, data := .lane .active })
          ∧ t.work x = { s.work x with lane := .active } ∧ t.work x.other = s.work x.other ∧ t.mvu.moves = s.mvu.moves
          ∧ ((t.condSet .PL).overflow = false →
              ∃ r ∈ (t.condSet .PL).records, r.kind = .laneActive ∧ r.subject = .crane x)
          ∧ t.condSet .CW = s.condSet .CW ∧ t.condSet .CE = s.condSet .CE
          ∧ { t with mvu := s.mvu, cnd := s.cnd } = s))
  ∧ (∀ (s : State) (h : Header) (x : Crane) (n : Nat) (r : Range), s.queueReport h x n r →
      ((∀ a j m, (s.work x).queue[a]? = some (.move j) → s.move j = some m → s.behindBarrier x a ∨ s.lanePasses x m) →
        ∃ t : State, exec (.craneReport h [n, 0, 0]) s = .next (t.answered h .craneReport
            { result := .done, data := .order .idle })
          ∧ (∀ a j m, (s.work x).queue[a]? = some (.move j) → s.move j = some m →
              (s.behindBarrier x a → t.move j = some { m with state := .waiting, reason := some .barrier })
              ∧ (¬s.behindBarrier x a → t.move j = some { m with state := .waiting, reason := some .lane }))
          ∧ (∀ j, .move j ∉ (s.work x).queue → t.move j = s.move j)
          ∧ (∀ q, (t.crane x).refusal = some q ↔ (s.crane x).refusal = some q
              ∧ ∀ j m, .move j ∈ (s.work x).queue → s.move j = some m → m.serial ≠ q.serial)
          ∧ (t.crane x).interval = some r ∧ t.crane x.other = s.crane x.other
          ∧ t.work x = { s.work x with lastOrder := some .idle } ∧ t.work x.other = s.work x.other
          ∧ { t with rru := s.rru, mvu := s.mvu, cnd := s.cnd } = s)
      ∧ ∀ a j m, (s.work x).queue[a]? = some (.move j) → s.move j = some m → ¬s.behindBarrier x a →
        ¬s.lanePasses x m →
        (∀ b k o, b < a → (s.work x).queue[b]? = some (.move k) → s.move k = some o → s.lanePasses x o) →
        ∃ (t : State) (d : Order), exec (.craneReport h [n, 0, 0]) s = .next (t.answered h .craneReport
            { result := .done, data := .order d })
          ∧ (∀ b k o, (s.work x).queue[b]? = some (.move k) → s.move k = some o →
              (b < a → t.move k = some { o with state := .waiting, reason := some .lane })
              ∧ (a < b → t.move k = some { o with state := .queued, reason := none })
              ∧ (b ≠ a → o.serial ≠ m.serial → ∀ q, (t.crane x).refusal = some q → q.serial ≠ o.serial))
          ∧ (t.work x).queue = (s.work x).queue ∧ (t.work x).lane = (s.work x).lane)
  ∧ ∀ (s : State) (h : Header) (x : Crane) (n i hook : Nat) (m : Move) (r : Range), s.soundReport h x n r →
    s.mainMove x i m → (m.kind = .strip ∨ m.kind = .setDown) → (s.work x).lane = .pending → hook ≤ 1 →
    (∀ event, ((event = 3 ∧ m.state = .lifted .toPlace ∧ m.place = n)
        ∨ (event = 4 ∧ m.state = .toPick ∧ m.pick = some n)
        ∨ (event = 0 ∧ m.state = .toPick ∧ ∃ p, m.stop = .sent p)) →
      ∃ (t : State) (d : Order), exec (.craneReport h [n, hook, event]) s = .next (t.answered h .craneReport
          { result := .done, data := .order d })
        ∧ (t.work x).lane = .active
        ∧ ((t.condSet .PL).overflow = false →
          ∃ c ∈ (t.condSet .PL).records, c.kind = .laneActive ∧ c.subject = .crane x))
    ∧ (m.underWay = true → m.stop = .none →
      ∃ (t : State) (d : Order), exec (.craneReport h [n, hook, 0]) s = .next (t.answered h .craneReport
          { result := .done, data := .order d })
        ∧ (t.work x).lane = .pending)

/-! ## The runway (chapter 8) -/

/-- DECLARE-OUT (R123). A crane other than W or E, and a segment beyond 31, are BAD-FIELD. An ACTIVE or OUT crane is answered
STATE with its presence; a STALE crane parked outside its frozen interval BAD-FIELD naming the segment; an UNSEEN crane, and a
STALE one with no interval, parked too close to the other crane or on a segment vacating from it IN-USE. Otherwise the crane
becomes OUT there: the segments a STALE crane gives back start their vacate records (R129), no record of CRANE-STALE of it
stays STANDING, and its moves take what R160 says. The other crane's interval stands. The field numbers, the cancel of a yield by
the part whatever stop it had, and the wait reason that a SUSPENDED move keeps, are the model's (log entries 13, 19 and 33). -/
def Obligations.DeclaredOut : Prop :=
  ∀ (s : State) (h : Header), s.planner h →
    (∀ c n, 2 ≤ c → exec (.declareOut h [c, n]) s = .next (s.answered h .declareOut (badFieldReply 1)))
    ∧ ∀ (x : Crane) (n : Nat),
      (32 ≤ n → exec (.declareOut h [craneCode x, n]) s = .next (s.answered h .declareOut (badFieldReply 2)))
      ∧ (n < 32 →
      (((s.crane x).presence = .active ∨ (s.crane x).presence = .out) → exec (.declareOut h [craneCode x, n]) s = .next
          (s.answered h .declareOut { result := .state, data := .presence (s.crane x).presence }))
      ∧ (∀ r, (s.crane x).presence = .stale → (s.crane x).interval = some r → r.has n = false →
          exec (.declareOut h [craneCode x, n]) s = .next (s.answered h .declareOut (badFieldReply 2)))
      ∧ (((s.crane x).presence = .unseen ∨ ((s.crane x).presence = .stale ∧ (s.crane x).interval = none)) →
          (s.clearFor x ⟨n, n⟩ = false ∨ ∃ v, s.vacate n = some v ∧ v.releasing = x.other) →
          exec (.declareOut h [craneCode x, n]) s = .next (s.answered h .declareOut { result := .inUse }))
      ∧ (((((s.crane x).presence = .unseen ∨ ((s.crane x).presence = .stale ∧ (s.crane x).interval = none))
            ∧ s.clearFor x ⟨n, n⟩ = true ∧ (∀ v, s.vacate n = some v → v.releasing = x))
          ∨ ((s.crane x).presence = .stale ∧ ∃ r, (s.crane x).interval = some r ∧ r.has n = true)) →
          ∃ t : State, exec (.declareOut h [craneCode x, n]) s = .next (t.answered h .declareOut ok)
            ∧ (t.crane x).presence = .out ∧ (t.crane x).position = some n ∧ (t.crane x).interval = some ⟨n, n⟩
            ∧ (t.crane x).outside = false ∧ (t.crane x).timer = none
            ∧ (t.crane x.other).interval = (s.crane x.other).interval
            ∧ (t.crane x.other).presence = (s.crane x.other).presence
            ∧ ((s.crane x).presence = .stale → ∀ r k, (s.crane x).interval = some r → k < 32 → r.has k = true → k ≠ n →
                1 ≤ (s.segment k).vacate → t.vacate k = some ⟨x, (s.segment k).vacate⟩)
            ∧ ((s.crane x).presence = .stale → ∀ p, ∀ c ∈ (t.condSet p).records, c.kind = .craneStale →
                c.subject = .crane x → c.status ≠ .standing)
            ∧ (s.yieldRight x → s.movesOut t x)
            ∧ t.lyt = s.lyt ∧ t.clk = s.clk ∧ t.rst = s.rst ∧ t.beds = s.beds ∧ t.pcv = s.pcv ∧ t.zcu = s.zcu
            ∧ t.sha = s.sha ∧ t.valves = s.valves ∧ t.lnk = s.lnk))

/-- A breach (R136): a valid report of a crane outside its interval, or of one too close to the other crane to take its first
one, raises the count and sets the crane's outside field, latches the breach and posts BREACH on PL, CW and CE where the latch
was CLEAR, and is ordered HOLD; one that is still outside, and one inside, raise nothing. BREACH-CLEAR (R137): with the latch
CLEAR it is answered STATE. Latched, the first crane, W before E, whose position does not lie inside its interval answers ACTIVE,
and nothing changes; where neither stands so the latch becomes CLEAR, no BREACH of the latched crane stays STANDING, and
the count and both crane records stand. -/
def Obligations.BreachLatchedAndCleared : Prop :=
  (∀ (s : State) (h : Header) (x : Crane) (n hook event : Nat), s.reporting h x → n < 32 → hook ≤ 1 → event ≤ 6 →
    ∃ (t : State) (r : Reply), exec (.craneReport h [n, hook, event]) s = .next (t.answered h .craneReport r)
      ∧ (((∃ q, (s.crane x).interval = some q ∧ q.has n = false)
            ∨ ((s.crane x).interval = none ∧ s.clearFor x ⟨n, n⟩ = false)) →
          (t.crane x).outside = true
          ∧ ((s.crane x).outside = false → t.rru.breachCount = min 65535 (s.rru.breachCount + 1))
          ∧ ((s.crane x).outside = true → t.rru.breachCount = s.rru.breachCount ∧ t.rru.breach = s.rru.breach)
          ∧ (∀ c, s.rru.breach = some c → t.rru.breach = some c)
          ∧ (s.rru.breach = none → (s.crane x).outside = false → t.rru.breach = some x ∧ r.data = .order .hold
            ∧ ∀ p, s.modeOf p .breach = .both → (t.condSet p).overflow = false →
              ∃ c ∈ (t.condSet p).records, c.kind = .breach ∧ c.subject = .crane x ∧ c.status = .standing))
      ∧ ((∃ q, (s.crane x).interval = some q ∧ q.has n = true) →
          (t.crane x).outside = false ∧ t.rru.breachCount = s.rru.breachCount ∧ t.rru.breach = s.rru.breach))
  ∧ ∀ (s : State) (h : Header), s.planner h →
    (s.rru.breach = none → exec (.breachClear h [0]) s = .next (s.answered h .breachClear { result := .state }))
    ∧ ∀ c, s.rru.breach = some c →
      (∀ n, (s.crane .W).position = some n → (∀ r, (s.crane .W).interval = some r → r.has n = false) →
        exec (.breachClear h [0]) s = .next (s.answered h .breachClear { result := .active, data := .crane .W }))
      ∧ (∀ n, (∀ k, (s.crane .W).position = some k → ∃ r, (s.crane .W).interval = some r ∧ r.has k = true) →
        (s.crane .E).position = some n → (∀ r, (s.crane .E).interval = some r → r.has n = false) →
        exec (.breachClear h [0]) s = .next (s.answered h .breachClear { result := .active, data := .crane .E }))
      ∧ ((∀ x n, (s.crane x).position = some n → ∃ r, (s.crane x).interval = some r ∧ r.has n = true) →
        ∃ t : State, exec (.breachClear h [0]) s = .next (t.answered h .breachClear ok)
          ∧ t.rru = { s.rru with breach := none }
          ∧ (∀ p, ∀ r ∈ (t.condSet p).records, r.kind = .breach → r.subject = .crane c → r.status ≠ .standing)
          ∧ { t with rru := s.rru, cnd := s.cnd } = s)

/-! ## Crane reports (R121, R122, sections 9.5 to 9.7, 9.10) -/

/-- A report out of range is answered BAD-FIELD naming its first bad field, and changes nothing (R121, step 1). A report with no
event of an ACTIVE crane inside its interval, with an empty hook, no move and nothing amiss, reloads the timer, stores position
and hook, and is answered DONE with the order IDLE (R121, R151). An UNSEEN crane's first report, clear of the other crane,
makes it ACTIVE with the one-segment interval of its position. A STALE crane's report makes it ACTIVE again with its interval as
it was, and no CRANE-STALE of it stays STANDING (R121, R122). -/
def Obligations.ReportsTaken : Prop :=
  ∀ (s : State) (h : Header) (x : Crane), s.reporting h x →
    (∀ n hook event, 32 ≤ n → exec (.craneReport h [n, hook, event]) s = .next
      (s.answered h .craneReport (badFieldReply 1)))
    ∧ (∀ n hook event, n < 32 → 2 ≤ hook → exec (.craneReport h [n, hook, event]) s = .next
      (s.answered h .craneReport (badFieldReply 2)))
    ∧ (∀ n hook event, n < 32 → hook < 2 → 7 ≤ event → exec (.craneReport h [n, hook, event]) s = .next
      (s.answered h .craneReport (badFieldReply 3)))
    ∧ (s.rru.breach = none → (s.work x).mismatch = false → (s.work x).orphan = none → (s.work x).queue = [] →
      (∀ i m, i < 18 → s.move i = some m → m.crane ≠ x) → s.move (yieldSlot x) = none →
      (∀ n r, n < 32 → (s.crane x).presence = .active → (s.crane x).interval = some r → r.has n = true →
        exec (.craneReport h [n, 0, 0]) s = .next
          (((s.setCrane x { s.crane x with
                position := some n, hook := some .empty, timer := some (s.presenceTimeout x), outside := false
              }).setWork x { s.work x with lastOrder := some .idle }).answered h .craneReport
            { result := .done, data := .order .idle }))
      ∧ (∀ n, n < 32 → (s.crane x).presence = .unseen → (s.crane x).interval = none → s.clearFor x ⟨n, n⟩ = true →
        exec (.craneReport h [n, 0, 0]) s = .next
          (((s.setCrane x { s.crane x with
                presence := .active, position := some n, hook := some .empty,
                timer := some (s.presenceTimeout x), interval := some ⟨n, n⟩, outside := false
              }).setWork x { s.work x with lastOrder := some .idle }).answered h .craneReport
            { result := .done, data := .order .idle }))
      ∧ ∀ n r, n < 32 → (s.crane x).presence = .stale → (s.crane x).interval = some r → r.has n = true →
        ∃ t : State, exec (.craneReport h [n, 0, 0]) s = .next
            (t.answered h .craneReport { result := .done, data := .order .idle })
          ∧ t.crane x = { s.crane x with
              presence := .active, position := some n, hook := some .empty, timer := some (s.presenceTimeout x),
              outside := false }
          ∧ t.crane x.other = s.crane x.other
          ∧ (∀ p, ∀ c ∈ (t.condSet p).records, c.kind = .craneStale → c.subject = .crane x → c.status ≠ .standing)
          ∧ { t with rru := s.rru, mvu := s.mvu, cnd := s.cnd } = s)

/-- A report that finds its crane's only move, ready to be asked for (R126, R127, R128, R150, R151). A gate that says no makes the
move WAITING with BED, STRENGTH or BURIED and leaves the standing refusal as it was. The runway unit's first check that fails
makes it WAITING with that check's reason and stands as the crane's refusal, every interval as it was: CRANE while the other
crane has no interval, LOADED-CONFLICT against the other crane's carry hull, RUNWAY where the need is not clear of the other
crane's interval, VACATE where the need adds a segment vacating from it. The order is then IDLE. Otherwise the leg is
granted: the move is TO-PICK, the interval becomes the need, the crane takes back its own vacating segments, a deadlock of the
move ends, and the order is GO. A LIFTED move's place leg is granted in the same way. What a RUNWAY or LOADED-CONFLICT calls
for in the other crane is in YieldsCalled; here it is STALE and waits on nothing. -/
def Obligations.LegsAsked : Prop :=
  (∀ (s : State) (h : Header) (x : Crane) (n i : Nat) (m : Move) (leg : Leg) (r : Range), s.asking h x n i m leg r →
    (∀ (why : WaitReason) (q : Option Refused),
      ((why = .bed ∧ q = (s.crane x).refusal ∧ leg = .pick ∧ ∃ b, m.source = some (.bed b)
          ∧ (s.bed b).state ≠ .released ∧ (s.bed b).state ≠ .stripping)
        ∨ (why = .strength ∧ q = (s.crane x).refusal ∧ m.kind = .loadOut ∧ (∀ b, m.source ≠ some (.bed b))
          ∧ ∃ p, m.piece = some p ∧ (s.piece p).shipOk = false)
        ∨ (why = .buried ∧ q = (s.crane x).refusal ∧ leg = .pick
          ∧ (∀ b, m.source = some (.bed b) → (s.bed b).state = .released ∨ (s.bed b).state = .stripping)
          ∧ (m.kind = .loadOut → ∀ p, m.piece = some p → (s.piece p).shipOk = true)
          ∧ ∃ p c, m.piece = some p ∧ ((m.source = some (.cell c) ∧ (s.cell c).stack.getLast? ≠ some p)
            ∨ (m.dest = .cell c ∧ (s.cell c).arrivals.head? ≠ some p)))
        ∨ (s.gatesPass m leg ∧ q = some ⟨m.serial, why, some (needOf r m leg)⟩
          ∧ ((why = .crane ∧ (s.crane x.other).interval = none)
            ∨ ∃ o, (s.crane x.other).interval = some o ∧ (s.crane x.other).presence = .stale
              ∧ (s.crane x.other).refusal = none ∧ m.style ≠ .preempt
              ∧ ((why = .loadedConflict ∧ leg = .pick ∧ m.style ≠ .atomic ∧ ∃ a, (s.crane x.other).hull = some a
                  ∧ (widen s.lyt.yard.gap x a).overlaps m.hull = true)
                ∨ (why = .runway ∧ s.loadedConflict x m leg = false
                  ∧ clearOf s.lyt.yard.gap x (needOf r m leg) o = false)
                ∨ (why = .vacate ∧ s.loadedConflict x m leg = false
                  ∧ clearOf s.lyt.yard.gap x (needOf r m leg) o = true
                  ∧ ∃ k v, k < 32 ∧ (needOf r m leg).has k = true ∧ r.has k = false ∧ s.vacate k = some v
                    ∧ v.releasing = x.other))))) →
      ∃ t : State, exec (.craneReport h [n, 0, 0]) s = .next (t.answered h .craneReport
          { result := .done, data := .order .idle })
        ∧ t.move i = some { m with state := .waiting, reason := some why } ∧ (∀ j, j ≠ i → t.move j = s.move j)
        ∧ t.crane x = { s.crane x with
            position := some n, hook := some .empty, timer := some (s.presenceTimeout x), outside := false, refusal := q }
        ∧ t.crane x.other = s.crane x.other ∧ t.rru.vacates = s.rru.vacates
        ∧ t.work x = { s.work x with lastOrder := some .idle } ∧ t.work x.other = s.work x.other
        ∧ { t with rru := s.rru, mvu := s.mvu } = s)
    ∧ (∀ o, s.gatesPass m leg → (s.crane x.other).interval = some o → s.loadedConflict x m leg = false →
      clearOf s.lyt.yard.gap x (needOf r m leg) o = true →
      (∀ k v, k < 32 → (needOf r m leg).has k = true → r.has k = false → s.vacate k = some v → v.releasing = x) →
      ∃ (t : State) (d : Detail), exec (.craneReport h [n, 0, 0]) s = .next (t.answered h .craneReport
          { result := .done, data := .order (.go ⟨m.serial, leg, if leg = .pick then m.pick.getD m.place else m.place, d⟩) })
        ∧ (leg = .park → d = .none) ∧ (∀ c, leg = .pick → m.source = some (.cell c) → d = .cell c)
        ∧ (∀ b p, leg = .pick → m.source = some (.bed b) → m.piece = some p →
            d = .bed b ((s.bed b).planSlots.idxOf p + 1))
        ∧ t.move i = some { m with state := .toPick, reason := none } ∧ (∀ j, j ≠ i → t.move j = s.move j)
        ∧ t.crane x = { s.crane x with
            position := some n, hook := some .empty, timer := some (s.presenceTimeout x), outside := false,
            interval := some (needOf r m leg), refusal := none }
        ∧ t.crane x.other = s.crane x.other
        ∧ (∀ k, k < 32 → (needOf r m leg).has k = true → r.has k = false → t.vacate k = none)
        ∧ (∀ k, ((needOf r m leg).has k = false ∨ r.has k = true) → t.vacate k = s.vacate k)
        ∧ (s.inDeadlock m.serial = true → t.rru.deadlock = none)
        ∧ t.work x = { s.work x with lastOrder := some .go } ∧ t.work x.other = s.work x.other
        ∧ (s.inDeadlock m.serial = false → { t with rru := s.rru, mvu := s.mvu } = s)))
  ∧ (∀ (r : Range) (m : Move) (leg : Leg), needOf r m leg =
      if m.style = .atomic ∧ leg = .pick then
        ⟨min r.lo (min (m.pick.getD m.place) m.place), max r.hi (max (m.pick.getD m.place) m.place)⟩
      else if leg = .pick then ⟨min r.lo (m.pick.getD m.place), max r.hi (m.pick.getD m.place)⟩
      else ⟨min r.lo m.place, max r.hi m.place⟩)
  ∧ ∀ (s : State) (h : Header) (x : Crane) (n i : Nat) (m : Move) (r o : Range), s.soundReport h x n r → s.onlyMove x i m →
    m.state = .lifted .waitPlace → m.stop = .none → m.piece.isSome = true →
    (m.kind = .setDown → ∀ c p, m.dest = .cell c → m.piece = some p → (s.cell c).arrivals.head? = some p) →
    (m.kind = .setDown → m.source = none) →
    (s.crane x.other).interval = some o → clearOf s.lyt.yard.gap x ⟨min r.lo m.place, max r.hi m.place⟩ o = true →
    (∀ k v, s.vacate k = some v → v.releasing = x) →
    ∃ (t : State) (d : Detail), exec (.craneReport h [n, 1, 0]) s = .next (t.answered h .craneReport
        { result := .done, data := .order (.go ⟨m.serial, .place, m.place, d⟩) })
      ∧ (∀ c, m.dest = .cell c → d = .cell c) ∧ (∀ b, m.dest = .bay b → d = .bay b)
      ∧ t.move i = some { m with state := .lifted .toPlace, reason := none } ∧ (∀ j, j ≠ i → t.move j = s.move j)
      ∧ (t.crane x).interval = some ⟨min r.lo m.place, max r.hi m.place⟩ ∧ (t.crane x).refusal = none
      ∧ t.crane x.other = s.crane x.other ∧ (t.work x).lastOrder = some .go
      ∧ t.pct = s.pct ∧ t.stk = s.stk ∧ t.beds = s.beds ∧ t.lyt = s.lyt

/-- PICKED and PLACED that fit the one move its crane has under way (R110, R111, R113, R128, R129, R153, R159). Picked leg by leg
from the top of a cell: the piece is on the hook, the cell one piece and one departure less, the move LIFTED in WAIT-PLACE with
any stop lapsed, the interval the reported segment with the rest given back, the carry hull the move's. Placed into a cell: the
piece is STOCK on top of it and unclaimed, the move gone, MOVE-DONE posted on PL unless a full set dropped a posting. Placed into
a bay: the piece is freed, and its entry stands in the shipped list. Each change of stock raises the generation. -/
def Obligations.PickedAndPlaced : Prop :=
  ∀ (s : State) (h : Header) (x : Crane) (n i p : Nat) (m : Move) (r : Range), s.soundReport h x n r → s.onlyMove x i m →
    (s.work x).orphan = none → m.piece = some p → m.kind ≠ .park → m.kind ≠ .setDown →
    (∀ c rest, m.state = .toPick → m.style ≠ .atomic → m.source = some (.cell c) → m.pick = some n →
      (s.cell c).stack = rest ++ [p] → p ∉ rest →
      ∃ t : State, exec (.craneReport h [n, 1, 2]) s = .next
          (t.answered h .craneReport { result := .done, data := .order .idle })
        ∧ t.piece p = { s.piece p with state := .hook, location := some (.crane x) }
        ∧ (∀ k, k ≠ p → t.piece k = s.piece k)
        ∧ t.cell c = { s.cell c with stack := rest, pendingOut := (s.cell c).pendingOut - 1 }
        ∧ (∀ k, k ≠ c → t.cell k = s.cell k)
        ∧ t.stk.generation = (if s.stk.generation = 4294967295 then 0 else s.stk.generation + 1)
        ∧ t.move i = some { m with state := .lifted .waitPlace, reason := none, stop := .none }
        ∧ (t.crane x).interval = some ⟨n, n⟩ ∧ (t.crane x).hull = some ⟨min n m.place, max n m.place⟩
        ∧ (∀ k, k < 32 → r.has k = true → k ≠ n → 1 ≤ (s.segment k).vacate →
            t.vacate k = some ⟨x, (s.segment k).vacate⟩)
        ∧ t.crane x.other = s.crane x.other
        ∧ { t with pct := s.pct, stk := s.stk, mvu := s.mvu, rru := s.rru } = s)
    ∧ (m.state = .lifted .toPlace → m.place = n → (∀ k, m.dest ≠ .segment k) →
      ∃ t : State, exec (.craneReport h [n, 0, 3]) s = .next
          (t.answered h .craneReport { result := .done, data := .order .idle })
        ∧ t.move i = none ∧ (t.work x).queue = [] ∧ (t.crane x).hull = none ∧ (t.crane x).interval = some ⟨n, n⟩
        ∧ ((t.condSet .PL).overflow = false →
            ∃ q ∈ (t.condSet .PL).records, q.kind = .moveDone ∧ q.subject = .serial m.serial)
        ∧ t.stk.generation = (if s.stk.generation = 4294967295 then 0 else s.stk.generation + 1)
        ∧ (∀ k, k ≠ p → t.piece k = s.piece k)
        ∧ (∀ d, m.dest = .cell d →
            t.piece p = { s.piece p with
              state := .stock, location := some (.cell d (s.cell d).stack.length), claim := none }
            ∧ t.cell d = { s.cell d with
                stack := (s.cell d).stack ++ [p], arrivals := (s.cell d).arrivals.filter (fun k => k ≠ p) })
        ∧ (∀ b, m.dest = .bay b → t.piece p = {}
            ∧ t.bay b = { s.bay b with
                shipped := (s.bay b).shipped ++ [⟨(s.piece p).mark, (s.piece p).pour, (s.piece p).weight, s.clk.minute⟩]
                load := (s.bay b).load + (s.piece p).weight
                pendingWeight := (s.bay b).pendingWeight - (s.piece p).weight
                pendingCount := (s.bay b).pendingCount - 1 })
        ∧ t.crane x.other = s.crane x.other
        ∧ { t with pct := s.pct, stk := s.stk, mvu := s.mvu, rru := s.rru, cnd := s.cnd } = s)

/-- The other ends of a leg (R31, R128, R153, R157, R159). ARRIVED of a PARK ends it, MOVE-DONE on PL, the interval its
target; the ARRIVED of a yield makes its crane's SUSPENDED moves WAITING. PICK-FAILED fails the move, MOVE-FAILED on PL: its claim
and its reservations are released, the piece stays and so does the interval. A strip pick takes the piece from its bed's list
onto the hook, and a RELEASED bed becomes STRIPPING. An ATOMIC move goes from its pick straight to its place leg, with the
interval its hull. Each posting is made unless a full set dropped one. -/
def Obligations.LegsEnd : Prop :=
  ∀ (s : State) (h : Header) (x : Crane) (n i : Nat) (m : Move) (r : Range), s.soundReport h x n r →
    (s.work x).orphan = none → m.state = .toPick →
    (s.onlyMove x i m → m.kind = .park → m.piece = none → m.place = n →
      ∃ t : State, exec (.craneReport h [n, 0, 1]) s = .next (t.answered h .craneReport
          { result := .done, data := .order .idle })
        ∧ t.move i = none ∧ (∀ j, j ≠ i → t.move j = s.move j) ∧ (t.work x).queue = []
        ∧ (t.crane x).interval = some ⟨n, n⟩ ∧ t.crane x.other = s.crane x.other
        ∧ ((t.condSet .PL).overflow = false →
            ∃ q ∈ (t.condSet .PL).records, q.kind = .moveDone ∧ q.subject = .serial m.serial)
        ∧ { t with mvu := s.mvu, rru := s.rru, cnd := s.cnd } = s)
    ∧ (s.move (yieldSlot x) = some m → m.crane = x → m.kind = .park → m.piece = none → m.place = n →
      (∀ j o, j < 18 → j ≠ yieldSlot x → s.move j = some o → o.crane = x → o.underWay = false) →
      ∃ t : State, exec (.craneReport h [n, 0, 1]) s = .next (t.answered h .craneReport
          { result := .done, data := .order .idle })
        ∧ t.move (yieldSlot x) = none ∧ (t.crane x).interval = some ⟨n, n⟩
        ∧ (∀ j o, (s.work x).queue = [.move j] → (s.work x).lane = .none → j < 16 → s.move j = some o → o.crane = x →
            o.state = .suspended → o.kind ≠ .setDown → t.move j = some { o with state := .waiting, reason := none })
        ∧ ((t.condSet .PL).overflow = false →
            ∃ q ∈ (t.condSet .PL).records, q.kind = .moveDone ∧ q.subject = .serial m.serial))
    ∧ (∀ p, s.onlyMove x i m → m.kind ≠ .park → m.piece = some p → m.pick = some n →
      (∃ t : State, exec (.craneReport h [n, 0, 4]) s = .next (t.answered h .craneReport
          { result := .done, data := .order .idle })
        ∧ t.move i = none ∧ (t.work x).queue = [] ∧ (t.crane x).interval = some r
        ∧ t.piece p = { s.piece p with claim := none } ∧ (∀ k, k ≠ p → t.piece k = s.piece k)
        ∧ (∀ c, m.dest = .cell c → (t.cell c).arrivals = (s.cell c).arrivals.filter (fun k => k ≠ p))
        ∧ (∀ c, m.source = some (.cell c) → (t.cell c).pendingOut = (s.cell c).pendingOut - 1)
        ∧ (∀ b, m.dest = .bay b → (t.bay b).pendingCount = (s.bay b).pendingCount - 1
            ∧ (t.bay b).pendingWeight = (s.bay b).pendingWeight - (s.piece p).weight)
        ∧ (∀ c, (t.cell c).stack = (s.cell c).stack) ∧ t.stk.generation = s.stk.generation ∧ t.beds = s.beds
        ∧ ((t.condSet .PL).overflow = false →
            ∃ q ∈ (t.condSet .PL).records, q.kind = .moveFailed ∧ q.subject = .serial m.serial))
      ∧ (∀ b, m.source = some (.bed b) → m.style ≠ .atomic →
        ∃ t : State, exec (.craneReport h [n, 1, 2]) s = .next (t.answered h .craneReport
            { result := .done, data := .order .idle })
          ∧ t.piece p = { s.piece p with state := .hook, location := some (.crane x) }
          ∧ (∀ k, k ≠ p → t.piece k = s.piece k)
          ∧ t.bed b = { s.bed b with
              pieces := (s.bed b).pieces.filter (fun k => k ≠ p)
              state := if (s.bed b).state = .released then .stripping else (s.bed b).state }
          ∧ (∀ b', b' ≠ b → t.bed b' = s.bed b') ∧ t.stk = s.stk
          ∧ t.move i = some { m with state := .lifted .waitPlace, reason := none, stop := .none }
          ∧ (t.crane x).interval = some ⟨n, n⟩ ∧ (t.crane x).hull = some ⟨min n m.place, max n m.place⟩)
      ∧ (m.style = .atomic → m.hull.within r = true →
        ∃ (t : State) (d : Detail), exec (.craneReport h [n, 1, 2]) s = .next (t.answered h .craneReport
            { result := .done, data := .order (.go ⟨m.serial, .place, m.place, d⟩) })
          ∧ t.move i = some { m with state := .lifted .toPlace, reason := none, stop := .none }
          ∧ (t.crane x).interval = some ⟨min n m.place, max n m.place⟩
          ∧ (t.crane x).hull = some ⟨min n m.place, max n m.place⟩
          ∧ (t.piece p).state = .hook ∧ (t.piece p).location = some (.crane x)))

/-- An event that does not fit is refused (R155): no move of the crane stands as the event needs it, or the runway unit does not
take a presence event (R122). The report is answered STATE and EVENT-MISMATCH posted on PL unless a full set dropped it; where
no stop is SENT, no piece, bed or cell changes, no leg is granted and the interval held stands. The hook (R156): one that
differs from the one expected (LOADED with a LIFTED move or an orphan, EMPTY otherwise) makes the mismatch yes, HOOK-MISMATCH on PL
and the crane's port where their mode is BOTH, and the order HOLD, with no leg granted; one that is as expected makes it no, and
no HOOK-MISMATCH of the crane stays STANDING and the HOLD is lifted but for a breach. -/
def Obligations.EventsAndHooksJudged : Prop :=
  (∀ (s : State) (h : Header) (x : Crane) (n hook event : Nat), s.reporting h x → n < 32 → hook ≤ 1 →
    ((event = 1 ∧ ∀ i m, i < 18 → s.move i = some m → m.crane = x →
        ¬(m.state = .toPick ∧ m.kind = .park ∧ m.place = n))
      ∨ ((event = 2 ∨ event = 4) ∧ ∀ i m, i < 18 → s.move i = some m → m.crane = x →
        ¬(m.state = .toPick ∧ m.kind ≠ .park ∧ m.pick = some n))
      ∨ (event = 3 ∧ ∀ i m, i < 18 → s.move i = some m → m.crane = x → ¬(m.state = .lifted .toPlace ∧ m.place = n))
      ∨ (event = 5 ∧ ((s.crane x).presence = .out ∨ ∃ r, (s.crane x).interval = some r ∧ r.has n = false))
      ∨ (event = 6 ∧ ((s.crane x).presence ≠ .out ∨ (s.crane x).interval ≠ some ⟨n, n⟩))) →
    ∃ (t : State) (o : Order), exec (.craneReport h [n, hook, event]) s = .next
        (t.answered h .craneReport { result := .state, data := .order o })
      ∧ ((t.condSet .PL).overflow = false →
          ∃ q ∈ (t.condSet .PL).records, q.kind = .eventMismatch ∧ q.subject = .crane x)
      ∧ ((∀ i m p, i < 18 → s.move i = some m → m.crane = x → m.stop ≠ .sent p) →
          t.pct = s.pct ∧ t.stk = s.stk ∧ t.beds = s.beds
          ∧ (∀ i m, t.move i = some m → m.state = .toPick → ∃ q, s.move i = some q ∧ q.state = .toPick)
          ∧ ∀ r, (s.crane x).interval = some r → (t.crane x).interval = some r))
  ∧ ∀ (s : State) (h : Header) (x : Crane) (n : Nat) (seen expected : Hook), s.reporting h x → n < 32 →
    (((∃ i m, i < 18 ∧ s.move i = some m ∧ m.crane = x ∧ m.isLifted = true) ∨ (s.work x).orphan.isSome = true) →
      expected = .loaded) →
    ((∀ i m, i < 18 → s.move i = some m → m.crane = x → m.isLifted = false) → (s.work x).orphan = none →
      expected = .empty) →
    ∃ (t : State) (o : Order), exec (.craneReport h [n, if seen = .loaded then 1 else 0, 0]) s = .next
        (t.answered h .craneReport { result := .done, data := .order o })
      ∧ (seen ≠ expected → (t.work x).mismatch = true ∧ o = .hold
        ∧ ((s.work x).mismatch = false → ∀ p : Point, (p = .PL ∨ p = (match x with | .W => .CW | .E => .CE)) →
          s.modeOf p .hookMismatch = .both → (t.condSet p).overflow = false →
          ∃ q ∈ (t.condSet p).records, q.kind = .hookMismatch ∧ q.subject = .crane x ∧ q.status = .standing)
        ∧ ∀ i m, t.move i = some m → m.state = .toPick → ∃ q, s.move i = some q ∧ q.state = .toPick)
      ∧ (seen = expected → (t.work x).mismatch = false ∧ (t.rru.breach = none → o ≠ .hold)
        ∧ ((s.work x).mismatch = true → ∀ p, ∀ q ∈ (t.condSet p).records, q.kind = .hookMismatch →
          q.subject = .crane x → q.status ≠ .standing))

/-- The stop of a TO-PICK move (R128, R151, R154). An OWED stop is ordered STOP at the next report with no event, becomes SENT, and
no grant is asked. At the report after that it completes: with purpose CANCEL the move leaves the table, its claim and its
reservations released and its end posted nowhere; with SUSPEND it is SUSPENDED with no stop. The interval then shrinks to the
reported segment where the report lay inside it; where it lay outside, the breach is latched and no shrink is taken. -/
def Obligations.StopsComplete : Prop :=
  ∀ (s : State) (h : Header) (x : Crane) (n i : Nat) (m : Move) (p : StopPurpose) (r : Range), s.reporting h x → n < 32 →
    s.onlyMove x i m → m.state = .toPick → (s.crane x).interval = some r → (s.crane x).presence = .active →
    (s.work x).orphan = none → (s.work x).mismatch = false → s.rru.breach = none →
    (m.stop = .owed p → r.has n = true →
      ∃ t : State, exec (.craneReport h [n, 0, 0]) s = .next (t.answered h .craneReport
          { result := .done, data := .order .stop })
        ∧ t.move i = some { m with stop := .sent p } ∧ (∀ j, j ≠ i → t.move j = s.move j)
        ∧ (t.crane x).interval = some r ∧ (t.work x).lastOrder = some .stop
        ∧ { t with mvu := s.mvu, rru := s.rru } = s)
    ∧ (m.stop = .sent p → ∃ (t : State) (q : Reply), exec (.craneReport h [n, 0, 0]) s = .next (t.answered h .craneReport q)
        ∧ (r.has n = true → (t.crane x).interval = some ⟨n, n⟩ ∧ q = { result := .done, data := .order .idle }
          ∧ ∀ k, k < 32 → r.has k = true → k ≠ n → 1 ≤ (s.segment k).vacate →
            t.vacate k = some ⟨x, (s.segment k).vacate⟩)
        ∧ (r.has n = false → (s.crane x).outside = false → (t.crane x).interval = some r ∧ t.rru.breach = some x
          ∧ q = { result := .done, data := .order .hold })
        ∧ (p = .suspend → t.move i = some { m with state := .suspended, stop := .none } ∧ t.pct = s.pct ∧ t.stk = s.stk)
        ∧ (p = .cancel → t.move i = none ∧ (t.work x).queue = []
          ∧ (∀ k, m.piece = some k → t.piece k = { s.piece k with claim := none })
          ∧ (∀ k c, m.piece = some k → m.dest = .cell c →
              (t.cell c).arrivals = (s.cell c).arrivals.filter (fun l => l ≠ k))
          ∧ (∀ c, m.piece.isSome = true → m.source = some (.cell c) →
              (t.cell c).pendingOut = (s.cell c).pendingOut - 1)
          ∧ (∀ k b, m.piece = some k → m.dest = .bay b → (t.bay b).pendingCount = (s.bay b).pendingCount - 1
              ∧ (t.bay b).pendingWeight = (s.bay b).pendingWeight - (s.piece k).weight)
          ∧ ∀ pt, ∀ c ∈ (t.condSet pt).records,
              (c.kind = .moveDone ∨ c.kind = .moveFailed ∨ c.kind = .moveCancelled) → c ∈ (s.condSet pt).records))

/-- A crane goes OUT by its own report inside its interval (R122, R160): OUT at the reported segment, with no timer; its yield is
cancelled by the part, with MOVE-CANCELLED unless a full set dropped it; a TO-PICK move with no stop, alone in its queue, waits again, a PARK with CRANE;
its LIFTED move stands in WAIT-PLACE with its carry hull; the order is IDLE. At IN-SERVICE at its parked segment it is ACTIVE
again and keeps that segment, and nothing is granted at that report (R160; R150 could be read to ask there, log entry 38). That
its yield is cancelled by the part whatever stop it had is the model's (log entry 19). -/
def Obligations.CraneGoesOutAndIn : Prop :=
  (∀ (s : State) (h : Header) (x : Crane) (n hook : Nat) (r : Range), s.reporting h x → n < 32 → hook ≤ 1 →
    (s.crane x).presence ≠ .out → (s.crane x).interval = some r → r.has n = true → s.yieldRight x →
    ∃ (t : State) (o : Order), exec (.craneReport h [n, hook, 5]) s = .next
        (t.answered h .craneReport { result := .done, data := .order o })
      ∧ (t.crane x).presence = .out ∧ (t.crane x).interval = some ⟨n, n⟩ ∧ (t.crane x).timer = none
      ∧ (t.crane x).position = some n ∧ (t.crane x.other).interval = (s.crane x.other).interval
      ∧ (s.rru.breach = none → (t.work x).mismatch = false → o = .idle)
      ∧ (∀ k, k < 32 → r.has k = true → k ≠ n → 1 ≤ (s.segment k).vacate →
          t.vacate k = some ⟨x, (s.segment k).vacate⟩)
      ∧ t.move (yieldSlot x) = none
      ∧ (∀ y, s.move (yieldSlot x) = some y → (t.condSet .PL).overflow = false →
          ∃ c ∈ (t.condSet .PL).records, c.kind = .moveCancelled ∧ c.subject = .serial y.serial)
      ∧ (∀ i m, s.mainMove x i m → (m.state = .toPick ∧ m.stop = .none) → (s.work x).queue = [.move i] →
          (s.work x).lane = .none → m.kind ≠ .setDown →
          ∃ why, t.move i = some { m with state := .waiting, reason := some why } ∧ (m.kind = .park → why = .crane))
      ∧ (∀ i m, s.mainMove x i m → (m.state = .toPick ∧ (m.stop = .owed .cancel ∨ m.stop = .sent .cancel)) →
          t.move i = none)
      ∧ ∀ i m p, s.mainMove x i m → m.state = .lifted p → m.stop = .none →
          (∃ why, t.move i = some { m with state := .lifted .waitPlace, reason := why })
          ∧ (t.crane x).hull = (s.crane x).hull)
  ∧ ∀ (s : State) (h : Header) (x : Crane) (n hook : Nat), s.reporting h x → n < 32 → hook ≤ 1 →
    (s.crane x).presence = .out → (s.crane x).interval = some ⟨n, n⟩ →
    ∃ (t : State) (o : Order), exec (.craneReport h [n, hook, 6]) s = .next
        (t.answered h .craneReport { result := .done, data := .order o })
      ∧ (t.crane x).presence = .active ∧ (t.crane x).interval = some ⟨n, n⟩
      ∧ (t.crane x).timer = some (s.presenceTimeout x) ∧ (t.crane x).position = some n
      ∧ ∀ i m, t.move i = some m → m.state = .toPick → ∃ q, s.move i = some q ∧ q.state = .toPick

/-- What a refusal of a crane's only move calls for (R130 to R135, R157). An idle crane that blocks it with RUNWAY is given a
yield one segment beyond the need and the gap, or DEADLOCK is posted where that lies outside 0 to 31. In a mutual wait, where
the other crane's standing RUNWAY refusal still fails against this crane's interval, the lower serial wins: the loser, if it is
suspendable, not LIFTED, has no live yield and a target within 0 to 31, is SUSPENDED and yields; else the winner; else
DEADLOCK is posted with both serials as the pair. A PREEMPT's RUNWAY suspends a suspendable head whatever the serials; one that
is TO-PICK takes a stop with purpose SUSPEND. A yield is a PARK in its crane's record with the next serial. The model's choices in
this: a crane that is STALE or OUT can be told to yield in a mutual wait or by a PREEMPT (log entry 19); the other crane's head is
found by its records as they stand (log entry 23); a suspension makes a SENT stop for a suspension OWED again (log entry 20); and
a SUSPENDED move keeps its wait reason (log entry 33). -/
def Obligations.YieldsCalled : Prop :=
  (∀ (g : Nat) (need : Range),
    yieldTarget g .E need = (if need.hi + g + 1 < 32 then some (need.hi + g + 1) else none)
    ∧ yieldTarget g .W need = (if g + 1 ≤ need.lo then some (need.lo - g - 1) else none))
  ∧ ∀ (s : State) (h : Header) (x : Crane) (n i : Nat) (m : Move) (leg : Leg) (r o : Range), s.asking h x n i m leg r →
    s.gatesPass m leg → (s.crane x.other).interval = some o →
    (s.loadedConflict x m leg = false → clearOf s.lyt.yard.gap x (needOf r m leg) o = false) →
    ∃ t : State, exec (.craneReport h [n, 0, 0]) s = .next (t.answered h .craneReport
        { result := .done, data := .order .idle })
      ∧ (t.crane x).interval = some r ∧ (t.crane x.other).interval = some o
      ∧ (s.loadedConflict x m leg = false → (s.crane x.other).presence = .active → (s.work x.other).orphan = none →
        s.move (yieldSlot x.other) = none → (∀ j q, j < 16 → s.move j = some q → q.crane ≠ x.other) →
        t.move i = some { m with state := .waiting, reason := some .runway }
        ∧ (t.crane x).refusal = some ⟨m.serial, .runway, some (needOf r m leg)⟩
        ∧ (∀ k, yieldTarget s.lyt.yard.gap x.other (needOf r m leg) = some k →
          t.move (yieldSlot x.other) = some
            { serial := s.mvu.serial, crane := x.other, kind := .park, style := .normal, suspendable := false,
              piece := none, source := none, dest := .segment k, pick := none, place := k, state := .waiting,
              reason := none, stop := .none, origin := .generated }
          ∧ t.mvu.serial = (if s.mvu.serial = 4294967295 then 1 else s.mvu.serial + 1) ∧ t.cnd = s.cnd)
        ∧ (yieldTarget s.lyt.yard.gap x.other (needOf r m leg) = none → s.rru.deadlock = none →
          t.rru.deadlock = some (m.serial, none) ∧ t.move (yieldSlot x.other) = none
          ∧ ∀ p, s.modeOf p .deadlock = .both → (t.condSet p).overflow = false →
            ∃ c ∈ (t.condSet p).records, c.kind = .deadlock ∧ c.subject = .serial m.serial ∧ c.status = .standing))
      ∧ (∀ (j : Nat) (q : Move) (theirs : Range), (s.crane x.other).refusal = some ⟨q.serial, .runway, some theirs⟩ →
        clearOf s.lyt.yard.gap x.other theirs r = false → j < 16 → s.move j = some q → q.crane = x.other →
        (∀ k q', k < 18 → s.move k = some q' → q'.serial = q.serial → k = j) →
        (∀ k q', k < 18 → s.move k = some q' → q'.serial = m.serial → k = i) → s.rru.deadlock = none →
        (s.loadedConflict x m leg = true ∨ m.style ≠ .preempt) →
        (∀ k, q.suspendable = true → q.isLifted = false → s.move (yieldSlot x.other) = none →
          yieldTarget s.lyt.yard.gap x.other (needOf r m leg) = some k →
          (m.serial < q.serial ∨ m.suspendable = false ∨ yieldTarget s.lyt.yard.gap x theirs = none) →
          (q.standing = true → t.move j = some { q with state := .suspended } ∧ (t.crane x.other).refusal = none)
          ∧ (∃ y, t.move (yieldSlot x.other) = some y ∧ y.serial = s.mvu.serial ∧ y.place = k ∧ y.state = .waiting)
          ∧ (∃ why, t.move i = some { m with state := .waiting, reason := some why })
          ∧ t.move (yieldSlot x) = none)
        ∧ (∀ k, m.suspendable = true → yieldTarget s.lyt.yard.gap x theirs = some k →
          (q.serial < m.serial ∨ q.suspendable = false ∨ q.isLifted = true ∨ s.move (yieldSlot x.other) ≠ none
            ∨ yieldTarget s.lyt.yard.gap x.other (needOf r m leg) = none) →
          (∃ why, t.move i = some { m with state := .suspended, reason := some why }) ∧ (t.crane x).refusal = none
          ∧ (∃ y, t.move (yieldSlot x) = some y ∧ y.serial = s.mvu.serial ∧ y.place = k ∧ y.state = .waiting)
          ∧ t.move j = some q)
        ∧ ((m.suspendable = false ∨ yieldTarget s.lyt.yard.gap x theirs = none) →
          (q.suspendable = false ∨ q.isLifted = true ∨ s.move (yieldSlot x.other) ≠ none
            ∨ yieldTarget s.lyt.yard.gap x.other (needOf r m leg) = none) →
          t.rru.deadlock = some (min m.serial q.serial, some (max m.serial q.serial)) ∧ t.move j = some q
          ∧ (∃ why, t.move i = some { m with state := .waiting, reason := some why })
          ∧ ∀ p, s.modeOf p .deadlock = .both → (t.condSet p).overflow = false →
            ∃ c ∈ (t.condSet p).records, c.kind = .deadlock ∧ c.subject = .serial (min m.serial q.serial)
              ∧ c.status = .standing))
      ∧ ∀ (j k : Nat) (q : Move), s.loadedConflict x m leg = false → m.style = .preempt → s.onlyMove x.other j q →
        (s.work x.other).lane = .none → q.suspendable = true →
        yieldTarget s.lyt.yard.gap x.other (needOf r m leg) = some k →
        (q.standing = true → t.move j = some { q with state := .suspended })
        ∧ (q.state = .toPick → (q.stop = .none ∨ q.stop = .owed .suspend ∨ q.stop = .sent .suspend) →
          t.move j = some { q with stop := .owed .suspend })
        ∧ ((q.standing = true ∨ q.state = .toPick) →
          ∃ y, t.move (yieldSlot x.other) = some y ∧ y.serial = s.mvu.serial ∧ y.place = k ∧ y.state = .waiting)

/-- SET-DOWN of an orphan (R161). As its crane's current work, at a report with a loaded hook and no event, it goes straight to
LIFTED in WAIT-PLACE at the reported segment, with its carry hull, and the order is IDLE. Its PLACED into a cell puts the piece on
top of it, STOCK and unclaimed, clears the orphan, and ends it with MOVE-DONE on PL unless a full set dropped it. -/
def Obligations.SetDownTaken : Prop :=
  ∀ (s : State) (h : Header) (x : Crane) (n i p : Nat) (m : Move) (r : Range), s.soundReport h x n r → s.onlyMove x i m →
    (s.work x).orphan = some p → m.kind = .setDown → m.piece = some p →
    ((m.state = .queued ∨ m.state = .waiting) →
      ∃ t : State, exec (.craneReport h [n, 1, 0]) s = .next (t.answered h .craneReport
          { result := .done, data := .order .idle })
        ∧ t.move i = some { m with pick := some n, state := .lifted .waitPlace, reason := none, stop := .none }
        ∧ (t.crane x).hull = some ⟨min n m.place, max n m.place⟩ ∧ (t.crane x).interval = some r
        ∧ (t.work x).orphan = some p ∧ t.crane x.other = s.crane x.other
        ∧ { t with rru := s.rru, mvu := s.mvu } = s)
    ∧ (∀ c, m.state = .lifted .toPlace → m.place = n → m.dest = .cell c →
      ∃ t : State, exec (.craneReport h [n, 0, 3]) s = .next (t.answered h .craneReport
          { result := .done, data := .order .idle })
        ∧ t.move i = none ∧ (t.work x).orphan = none ∧ (t.work x).queue = [] ∧ (t.crane x).hull = none
        ∧ (t.crane x).interval = some ⟨n, n⟩
        ∧ t.piece p = { s.piece p with
            state := .stock, location := some (.cell c (s.cell c).stack.length), claim := none }
        ∧ t.cell c = { s.cell c with
            stack := (s.cell c).stack ++ [p], arrivals := (s.cell c).arrivals.filter (fun k => k ≠ p) }
        ∧ ((t.condSet .PL).overflow = false →
            ∃ q ∈ (t.condSet .PL).records, q.kind = .moveDone ∧ q.subject = .serial m.serial))

/-! ## The link's own events (sections 10.1, 10.2, 10.4) -/

/-- The receivers of PL, CW and CE (R165, R166, R167, R173). Bytes other than A5h are discarded; a frame with a length byte
outside 2 to 120, or whose check differs from the check computed, raises the error count by one, and ends a chain under way; so
does a pause inside a frame, and none where no frame has begun. A chain frame opens a chain, or goes on with one of its sequence
and kind for up to three frames before the last, with the bodies joined; a fourth, and a gap after one, discard it. A frame in
HANDLING or REPLYING is counted, a good one as an overrun, a bad one as an error. Nothing else changes. One error for a bad
frame within a chain, and what follows another sequence, are the model's choice (log entries 8 and 9). -/
def Obligations.FramesReceived : Prop :=
  ∀ (s : State) (p : Port), s.held = false → p ≠ .BL → (s.port p).begun = [] →
    (∀ junk bytes, (∀ b ∈ junk, b ≠ 0xA5) →
      (badBytes bytes → ∀ c ∈ ([.badFrame p (plain (junk ++ bytes)), .byteGapTimeout p (plain (junk ++ bytes))] : List Instr),
        ((s.port p).rx ≠ .chain → exec c s = .next
          (s.setPort p { s.port p with errors := min 65535 ((s.port p).errors + 1) }))
        ∧ ((s.port p).rx = .chain → exec c s = .next (s.setPort p
          { rx := .hunt, inHand := none, frames := 0, joined := [], begun := [], reply := none,
            errors := min 65535 ((s.port p).errors + 1), overruns := (s.port p).overruns })))
      ∧ (begunBytes bytes →
        ((s.port p).rx ≠ .chain → exec (.byteGapTimeout p (plain (junk ++ bytes))) s = .next
          (s.setPort p { s.port p with errors := min 65535 ((s.port p).errors + 1) }))
        ∧ ((s.port p).rx = .chain → exec (.byteGapTimeout p (plain (junk ++ bytes))) s = .next (s.setPort p
          { rx := .hunt, inHand := none, frames := 0, joined := [], begun := [], reply := none,
            errors := min 65535 ((s.port p).errors + 1), overruns := (s.port p).overruns })))
      ∧ exec (.byteGapTimeout p (plain junk)) s = .next s ∧ exec (.badFrame p (plain junk)) s = .next s)
    ∧ ((s.port p).rx = .chain → exec (.chainGapTimeout p) s = .next (s.setPort p
        { rx := .hunt, inHand := none, frames := 0, joined := [], begun := [], reply := none,
          errors := min 65535 ((s.port p).errors + 1), overruns := (s.port p).overruns }))
    ∧ (∀ h k body, h.port = p →
      ((s.port p).rx = .hunt → exec (.chainFrame h k body) s = .next (s.setPort p
        { s.port p with rx := .chain, inHand := some (h.seq, k), frames := 1, joined := body, begun := [], reply := none }))
      ∧ ((s.port p).rx = .chain → (s.port p).inHand = some (h.seq, k) → (s.port p).frames < 3 →
        exec (.chainFrame h k body) s = .next (s.setPort p
          { s.port p with frames := (s.port p).frames + 1, joined := (s.port p).joined ++ body }))
      ∧ ((s.port p).rx = .chain → (s.port p).inHand = some (h.seq, k) → 3 ≤ (s.port p).frames →
        exec (.chainFrame h k body) s = .next (s.setPort p
          { rx := .hunt, inHand := none, frames := 0, joined := [], begun := [], reply := none,
            errors := min 65535 ((s.port p).errors + 1), overruns := (s.port p).overruns }))
      ∧ ((s.port p).rx = .chain → (s.port p).inHand ≠ some (h.seq, k) → exec (.chainFrame h k body) s = .next (s.setPort p
          { rx := .chain, inHand := some (h.seq, k), frames := 1, joined := body, begun := [], reply := none,
            errors := min 65535 ((s.port p).errors + 1), overruns := (s.port p).overruns }))
      ∧ (((s.port p).rx = .handling ∨ (s.port p).rx = .replying) → exec (.chainFrame h k body) s = .next
          (s.setPort p { s.port p with overruns := min 65535 ((s.port p).overruns + 1) })))
    ∧ (((s.port p).rx = .handling ∨ (s.port p).rx = .replying) →
        exec (.overrunFrame p true) s = .next
          (s.setPort p { s.port p with overruns := min 65535 ((s.port p).overruns + 1) })
        ∧ exec (.overrunFrame p false) s = .next
          (s.setPort p { s.port p with errors := min 65535 ((s.port p).errors + 1) }))

/-- Polling and missed answers (R171, R172). With no window open and no request in hand the next configured bed after the
last one polled, or the lowest where none is higher, is polled with its flags and the next poll number, and the window
opens. An answer missed closes the window and raises the bed's missed-poll count, held at 3, and the next bed is polled at once;
the third makes a PRESENT panel LOST, with PANEL-LOST STANDING in the bed's flags and on PL where its mode is BOTH and room is
left. A bad frame in the window, or one with a ninth bit, is a missed answer and an error of BL. The poll number after 255, that
the row BED_POLL is the first poll alone, and that a poll holds the first minutes of the flags, are the model's choice (log
entries 29, 27 and 45). -/
def Obligations.PollsAndMisses : Prop :=
  (∀ (s : State) (b : Nat), s.held = false → s.run = true → s.lnk.window = false → s.lnk.bl.rx = .hunt →
      s.bedConfigured b = true →
      (((s.lnk.poll.map Poll.bed).getD 0 < b
          ∧ ∀ a, (s.lnk.poll.map Poll.bed).getD 0 < a → a < b → s.bedConfigured a = false)
        ∨ ((∀ a, (s.lnk.poll.map Poll.bed).getD 0 < a → s.bedConfigured a = false)
          ∧ ∀ a, a < b → s.bedConfigured a = false)) →
      exec .bedPoll s = .next { s with lnk := { s.lnk with
        poll := some ⟨b, s.lnk.pollSeq, s.flags b⟩
        window := true
        pollSeq := (s.lnk.pollSeq + 1) % 256 } })
    ∧ (∀ (s : State) (q : Poll), s.held = false → s.lnk.window = true → s.lnk.poll = some q → s.lnk.bl.begun = [] →
      (((s.bed q.bed).missed < 2 ∨ (s.bed q.bed).panelLost = true) → ∃ u, exec .missedAnswer s = .next u
        ∧ exec .bedPoll ({ s with lnk := { s.lnk with window := false } }.setBed q.bed
          { s.bed q.bed with missed := min 3 ((s.bed q.bed).missed + 1) }) = .next u)
      ∧ (2 ≤ (s.bed q.bed).missed → (s.bed q.bed).panelLost = false → ∃ t u, exec .missedAnswer s = .next u
        ∧ exec .bedPoll t = .next u ∧ t.bed q.bed = { s.bed q.bed with missed := 3, panelLost := true }
        ∧ (∀ b, b ≠ q.bed → t.bed b = s.bed b ∧ t.flags b = s.flags b)
        ∧ (∃ f, (t.flags q.bed).panelLost = some f ∧ f.status = .standing)
        ∧ (s.modeOf .PL .panelLost = .both → (t.condSet .PL).overflow = false →
          ∃ c ∈ (t.condSet .PL).records, c.kind = .panelLost ∧ c.subject = .bed q.bed ∧ c.status = .standing)
        ∧ t.lnk = { s.lnk with window := false } ∧ t.condSet .CW = s.condSet .CW ∧ t.condSet .CE = s.condSet .CE
        ∧ { t with lnk := s.lnk, cnd := s.cnd, beds := s.beds } = s))
    ∧ ∀ (s : State) (q : Poll) (junk : List Nat) (chars : List Chr), s.held = false → s.lnk.window = true →
      s.lnk.poll = some q → s.lnk.bl.begun = [] → (∀ b ∈ junk, b ≠ 0xA5) →
      ((∃ l, (l < 2 ∨ 120 < l) ∧ chars = plain [0xA5, l]) ∨ chars = [⟨0xA5, true⟩]) → (s.bed q.bed).missed < 2 →
      exec (.badFrame .BL (plain junk ++ chars)) s = exec .bedPoll
        ({ s with lnk := { s.lnk with
            bl := { s.lnk.bl with errors := min 65535 (s.lnk.bl.errors + 1) }
            window := false } }.setBed q.bed { s.bed q.bed with missed := (s.bed q.bed).missed + 1 })

/-! ## The whole machine -/

/-- The state after reset meets every invariant below. -/
def Obligations.InvariantsAtReset : Prop :=
  State.reset.linesRight ∧ State.reset.setsRight ∧ State.reset.apart ∧ State.reset.accumulatorsHeld
    ∧ State.reset.clockRight ∧ State.reset.serialRight ∧ State.reset.tablesRight ∧ State.reset.namesRight
    ∧ State.reset.queuesRight ∧ State.reset.heatRight ∧ State.reset.budgetRight

/-- Every step keeps the attention lines right: high exactly while the port's set is not empty, and low while the part is held in
reset (R180); and no step puts into a condition set more records than its capacity or two of one kind and subject (R175,
R176). -/
def Obligations.StepKeepsConditionSets : Prop :=
  ∀ s t : State, step s = .next t → (s.linesRight → t.linesRight) ∧ (s.setsRight → t.setsRight)

/-- Every step keeps the cranes apart (R124): whatever is reported, granted, declared out or given back, two intervals held at the
same time stay separated by the gap. -/
def Obligations.StepKeepsCranesApart : Prop :=
  ∀ s t : State, step s = .next t → s.apart → t.apart

/-- Every step keeps each accumulator at most 6,000,000 and each suspect count at most 255 (R50); and none but a CAST-START, which
sets its pieces to 0, lowers the accumulator of a piece that is live before it and after it (R51). -/
def Obligations.AccumulatorsNeverFall : Prop :=
  (∀ s t : State, step s = .next t → s.accumulatorsHeld → t.accumulatorsHeld)
    ∧ ∀ (c : Instr) (s t : State) (n : Nat), exec c s = .next t → (∀ h body, c ≠ .castStart h body) → s.accumulatorsHeld →
        (s.piece n).live = true → (t.piece n).live = true → (s.piece n).accumulator ≤ (t.piece n).accumulator

/-- Every step keeps the clock in its ranges and RUNNING exactly in RUN (R9), and the serial counter in its range (R142); and every
step keeps every numbered table in its canonical form, with no record numbered outside the part and no record naming one that
is (R16, R37, R69, R141, R171; the form of the tables is the model's, log entry 36). Every step keeps every entry of a queue but a
barrier a live submitted move of the queue's crane, and none of them twice (R146, R147, R159). -/
def Obligations.StepKeepsClockAndTables : Prop :=
  ∀ s t : State, step s = .next t → (s.clockRight → t.clockRight) ∧ (s.serialRight → t.serialRight)
    ∧ (s.tablesRight ∧ s.namesRight → t.tablesRight ∧ t.namesRight)
    ∧ (s.queuesRight → t.queuesRight)

/-- RUN is entered by LOCK-LAYOUT alone and left by a reset alone, and in RUN the layout does not change: whatever command is executed
in RUN, the layout stands, or the command is a reset and the layout has its cold-reset value (R4, R7, R12). -/
def Obligations.LayoutFixedInRun : Prop :=
  ∀ (c : Instr) (s t : State), exec c s = .next t →
    (s.run = false → t.run = true → ∃ h body, c = .lockLayout h body)
    ∧ (s.run = true → t.lyt = s.lyt ∨ ((c = .coldReset ∨ c = .warmReset) ∧ t.lyt = {}))

/-- Every step keeps the heat in the cure: a zone with a request above 0 has a bed that is CURING or COOLING and a priority other
than 0 (R81), and in CONFIG no zone requests heat and no scan runs (R9, R12, R38). -/
def Obligations.HeatOnlyInCure : Prop :=
  ∀ s t : State, step s = .next t → s.clockRight → s.heatRight → t.heatRight

/-- Every step keeps each prepared and each running frame within its budget: at every step of it at most K valves are open (R94,
R95). A frame made for a publication opens each valve for exactly its allocation of steps (R94), the requests of a publication
being at most 60 (R69), and for no more in any case. -/
def Obligations.NoStepExceedsBudget : Prop :=
  (∀ s t : State, step s = .next t → s.budgetRight → t.budgetRight)
    ∧ ∀ (k m : Nat) (pubs : List PubEntry) (z : Nat), (pubs.map PubEntry.zone).Nodup →
      ((List.range 60).filter (fun step => (makeFrame k m false pubs).openAt step z)).length
        ≤ allocation k m pubs z
      ∧ ((∀ e ∈ pubs, e.request ≤ 60) →
        ((List.range 60).filter (fun step => (makeFrame k m false pubs).openAt step z)).length = allocation k m pubs z)

/-- Nothing is granted in a breach (R127, R136, R151): whatever command is executed, if the latch stands LATCHED after it, no move
has become TO-PICK, no WAIT-PLACE has become TO-PLACE (an ATOMIC pick's place leg was granted with it, R128), and no interval that
a crane held has grown. A valid report in a breach, whatever its event, is answered with the order HOLD, and the latch
stands. -/
def Obligations.NothingGrantedInBreach : Prop :=
  (∀ (c : Instr) (s t : State), exec c s = .next t → t.rru.breach.isSome = true →
    (∀ i m, t.move i = some m → m.state = .toPick → ∃ q, s.move i = some q ∧ q.state = .toPick)
    ∧ (∀ i m, t.move i = some m → m.state = .lifted .toPlace →
        ∃ q, s.move i = some q ∧ (q.state = .lifted .toPlace ∨ (q.state = .toPick ∧ q.style = .atomic)))
    ∧ ∀ x r q, (s.crane x).presence ≠ .unseen → (s.crane x).interval = some r → (t.crane x).interval = some q →
        r.lo ≤ q.lo ∧ q.hi ≤ r.hi)
  ∧ ∀ (s : State) (h : Header) (x c : Crane) (n hook event : Nat), s.reporting h x → n < 32 → hook ≤ 1 → event ≤ 6 →
    s.rru.breach = some c → ∃ (t : State) (r : Result), exec (.craneReport h [n, hook, event]) s = .next
        (t.answered h .craneReport { result := r, data := .order .hold })
      ∧ (r = .done ∨ r = .state) ∧ t.rru.breach = some c ∧ (t.work x).lastOrder = some .hold
      ∧ { t with beds := s.beds, pct := s.pct, stk := s.stk, rru := s.rru, mvu := s.mvu, cnd := s.cnd } = s

end
end

