-- ==== Sys2Proof/Laws/Tables.lean ====
section
/-! SUPPORT. Laws/Tables.lean: what the table operations do: a read after a write, a read of a built table, and the
canonical form, which every operation keeps. -/

namespace Sys2Proof

variable {α : Type}

theorem Tab.read_drop_same (d : α) (t : Tab α) (i : Nat) : (Tab.drop i t).read d i = d := by
  induction t with
  | nil => rfl
  | cons e rest ih =>
    obtain ⟨k, v⟩ := e
    by_cases h : k = i
    · simpa [Tab.drop, h] using ih
    · simpa [Tab.drop, Tab.read, h] using ih

theorem Tab.read_drop_other (d : α) (t : Tab α) {i j : Nat} (h : i ≠ j) : (Tab.drop i t).read d j = t.read d j := by
  induction t with
  | nil => rfl
  | cons e rest ih =>
    obtain ⟨k, v⟩ := e
    by_cases hk : k = i
    · subst hk; simpa [Tab.drop, Tab.read, h] using ih
    · by_cases hj : k = j
      · subst hj; simp [Tab.drop, Tab.read, hk]
      · simpa [Tab.drop, Tab.read, hk, hj] using ih

theorem Tab.read_insert_other (d : α) (t : Tab α) {i j : Nat} (v : α) (h : i ≠ j) :
    (Tab.insert i v t).read d j = t.read d j := by
  induction t with
  | nil => simp [Tab.insert, Tab.read, h]
  | cons e rest ih =>
    obtain ⟨k, w⟩ := e
    by_cases hk : i < k
    · simp [Tab.insert, Tab.read, hk, h]
    · by_cases hj : k = j
      · subst hj; simp [Tab.insert, Tab.read, hk]
      · simpa [Tab.insert, Tab.read, hk, hj] using ih

/-- An entry put into a table that lists no such number is the one read there. -/
theorem Tab.read_insert_drop (d : α) (t : Tab α) (i : Nat) (v : α) :
    (Tab.insert i v (Tab.drop i t)).read d i = v := by
  induction t with
  | nil => simp [Tab.insert, Tab.drop, Tab.read]
  | cons e rest ih =>
    obtain ⟨k, w⟩ := e
    by_cases hk : k = i
    · simpa [Tab.drop, hk] using ih
    · by_cases hl : i < k
      · simp [Tab.drop, hk, Tab.insert, hl, Tab.read]
      · simpa [Tab.drop, hk, Tab.insert, hl, Tab.read] using ih

theorem Tab.read_map_pairs (d : α) (f : Nat → α) (l : List Nat) (j : Nat) :
    Tab.read d (l.map (fun i => (i, f i))) j = if j ∈ l then f j else d := by
  induction l with
  | nil => simp [Tab.read]
  | cons a rest ih =>
    by_cases h : a = j
    · subst h; simp [Tab.read]
    · have h' : ¬ j = a := fun e => h e.symm
      simp [Tab.read, h, h', ih]

variable [DecidableEq α]

/-- A read after a write gives the value written there, and every other record as before. -/
theorem Tab.read_write (d : α) (t : Tab α) (i : Nat) (v : α) (j : Nat) :
    (t.write d i v).read d j = if i = j then v else t.read d j := by
  unfold Tab.write
  by_cases hv : v = d
  · by_cases h : i = j
    · subst h; simp [hv, Tab.read_drop_same]
    · simp [hv, h, Tab.read_drop_other]
  · by_cases h : i = j
    · subst h; simp [hv, Tab.read_insert_drop]
    · simp [hv, h, Tab.read_insert_other, Tab.read_drop_other]

theorem Tab.read_write_same (d : α) (t : Tab α) (i : Nat) (v : α) : (t.write d i v).read d i = v := by
  simp [Tab.read_write]

theorem Tab.read_write_other (d : α) (t : Tab α) {i j : Nat} (v : α) (h : i ≠ j) :
    (t.write d i v).read d j = t.read d j := by
  simp [Tab.read_write, h]

/-- A built table reads as it was built, and beyond its end as the cold-reset value. -/
theorem Tab.read_build (d : α) (n : Nat) (f : Nat → α) (j : Nat) :
    (Tab.build d n f).read d j = if j < n then f j else d := by
  unfold Tab.build
  rw [Tab.read_map_pairs]
  by_cases h : j < n
  · by_cases hf : f j = d
    · simp [h, hf]
    · simp [h, hf]
  · simp [h]

/-- A table changed record by record. -/
theorem Tab.read_mapAll (d : α) (n : Nat) (f : Nat → α → α) (t : Tab α) (j : Nat) :
    (Tab.mapAll d n f t).read d j = if j < n then f j (t.read d j) else d := Tab.read_build d n _ j

/-! ## The canonical form -/

theorem Tab.wfFrom_mono (d : α) (n : Nat) {lo lo' : Nat} (h : lo' ≤ lo) (t : Tab α) (w : t.wfFrom d n lo = true) :
    t.wfFrom d n lo' = true := by
  cases t with
  | nil => rfl
  | cons e rest =>
    obtain ⟨k, v⟩ := e
    simp only [Tab.wfFrom, Bool.and_eq_true, decide_eq_true_eq] at w ⊢
    exact ⟨⟨⟨by omega, w.1.1.2⟩, w.1.2⟩, w.2⟩

theorem Tab.wfFrom_drop (d : α) (n i : Nat) : ∀ (lo : Nat) (t : Tab α), t.wfFrom d n lo = true →
    (Tab.drop i t).wfFrom d n lo = true
  | _, [], _ => rfl
  | lo, (k, v) :: rest, w => by
    simp only [Tab.wfFrom, Bool.and_eq_true, decide_eq_true_eq] at w
    by_cases hk : k = i
    · simp only [Tab.drop, hk, if_true]
      exact Tab.wfFrom_drop d n i lo rest (Tab.wfFrom_mono d n (by omega) rest w.2)
    · simp only [Tab.drop, hk, if_false, Tab.wfFrom, Bool.and_eq_true, decide_eq_true_eq]
      exact ⟨w.1, Tab.wfFrom_drop d n i (k + 1) rest w.2⟩

theorem Tab.wfFrom_insert (d : α) (n i : Nat) (v : α) (hi : i < n) (hv : v ≠ d) : ∀ (lo : Nat) (t : Tab α), lo ≤ i →
    (Tab.drop i t).wfFrom d n lo = true → (Tab.insert i v (Tab.drop i t)).wfFrom d n lo = true
  | lo, [], h, _ => by simp [Tab.drop, Tab.insert, Tab.wfFrom, h, hi, hv]
  | lo, (k, w') :: rest, h, w => by
    by_cases hk : k = i
    · simp only [Tab.drop, hk, if_true] at w ⊢
      exact Tab.wfFrom_insert d n i v hi hv lo rest h w
    · simp only [Tab.drop, hk, if_false] at w ⊢
      by_cases hl : i < k
      · simp only [Tab.insert, hl, if_true]
        simp only [Tab.wfFrom, Bool.and_eq_true, decide_eq_true_eq] at w ⊢
        exact ⟨⟨⟨h, hi⟩, hv⟩, ⟨⟨by omega, w.1.1.2⟩, w.1.2⟩, w.2⟩
      · simp only [Tab.insert, hl, if_false]
        simp only [Tab.wfFrom, Bool.and_eq_true, decide_eq_true_eq] at w ⊢
        exact ⟨w.1, Tab.wfFrom_insert d n i v hi hv (k + 1) rest (by omega) w.2⟩

/-- A write keeps the canonical form. -/
theorem Tab.wf_write (d : α) (n : Nat) (t : Tab α) (i : Nat) (v : α) (hi : i < n) (w : t.wf d n = true) :
    (t.write d i v).wf d n = true := by
  unfold Tab.wf Tab.write at *
  by_cases hv : v = d
  · simpa [hv] using Tab.wfFrom_drop d n i 0 t w
  · simpa [hv] using Tab.wfFrom_insert d n i v hi hv 0 t (Nat.zero_le _) (Tab.wfFrom_drop d n i 0 t w)

theorem Tab.wfFrom_pairs (d : α) (n : Nat) (f : Nat → α) : ∀ (lo : Nat) (l : List Nat),
    l.Pairwise (· < ·) → (∀ i ∈ l, lo ≤ i ∧ i < n ∧ f i ≠ d) → Tab.wfFrom d n lo (l.map (fun i => (i, f i))) = true
  | _, [], _, _ => rfl
  | lo, a :: rest, hp, h => by
    have ha := h a (by simp)
    have hp' := List.pairwise_cons.mp hp
    simp only [List.map_cons, Tab.wfFrom, Bool.and_eq_true, decide_eq_true_eq]
    refine ⟨⟨⟨ha.1, ha.2.1⟩, ha.2.2⟩, Tab.wfFrom_pairs d n f (a + 1) rest hp'.2 ?_⟩
    intro i hi
    have := h i (by simp [hi])
    exact ⟨hp'.1 i hi, this.2⟩

/-- A built table has the canonical form. -/
theorem Tab.wf_build (d : α) (n : Nat) (f : Nat → α) : (Tab.build d n f).wf d n = true := by
  refine Tab.wfFrom_pairs d n f 0 _ (List.Pairwise.filter _ List.pairwise_lt_range) ?_
  intro i hi
  simp at hi
  exact ⟨Nat.zero_le _, hi.1, hi.2⟩

/-- A table changed record by record has the canonical form. -/
theorem Tab.wf_mapAll (d : α) (n : Nat) (f : Nat → α → α) (t : Tab α) : (Tab.mapAll d n f t).wf d n = true :=
  Tab.wf_build d n _

/-- A canonical table lists nothing but cold-reset values from its end on. -/
theorem Tab.read_of_wf (d : α) (n : Nat) : ∀ (lo : Nat) (t : Tab α), t.wfFrom d n lo = true → ∀ j, n ≤ j → t.read d j = d
  | _, [], _, _, _ => rfl
  | lo, (k, v) :: rest, w, j, hj => by
    simp only [Tab.wfFrom, Bool.and_eq_true, decide_eq_true_eq] at w
    have hk : k ≠ j := by omega
    simpa [Tab.read, hk] using Tab.read_of_wf d n (k + 1) rest w.2 j hj

end Sys2Proof
end

