-- ==== Sys2Proof/Laws/State.lean ====
section
/-! SUPPORT. Laws/State.lean: one lemma per field per record update, and what reading a record after an update gives. -/

namespace Sys2Proof.Machine

/-! ### setBed -/

@[simp] theorem State.setBed_lyt (s : State) (b : Nat) (r : Bed) : (s.setBed b r).lyt = s.lyt := rfl
@[simp] theorem State.setBed_clk (s : State) (b : Nat) (r : Bed) : (s.setBed b r).clk = s.clk := rfl
@[simp] theorem State.setBed_rst (s : State) (b : Nat) (r : Bed) : (s.setBed b r).rst = s.rst := rfl
@[simp] theorem State.setBed_pcv (s : State) (b : Nat) (r : Bed) : (s.setBed b r).pcv = s.pcv := rfl
@[simp] theorem State.setBed_zcu (s : State) (b : Nat) (r : Bed) : (s.setBed b r).zcu = s.zcu := rfl
@[simp] theorem State.setBed_sha (s : State) (b : Nat) (r : Bed) : (s.setBed b r).sha = s.sha := rfl
@[simp] theorem State.setBed_valves (s : State) (b : Nat) (r : Bed) : (s.setBed b r).valves = s.valves := rfl
@[simp] theorem State.setBed_pct (s : State) (b : Nat) (r : Bed) : (s.setBed b r).pct = s.pct := rfl
@[simp] theorem State.setBed_stk (s : State) (b : Nat) (r : Bed) : (s.setBed b r).stk = s.stk := rfl
@[simp] theorem State.setBed_rru (s : State) (b : Nat) (r : Bed) : (s.setBed b r).rru = s.rru := rfl
@[simp] theorem State.setBed_mvu (s : State) (b : Nat) (r : Bed) : (s.setBed b r).mvu = s.mvu := rfl
@[simp] theorem State.setBed_cnd (s : State) (b : Nat) (r : Bed) : (s.setBed b r).cnd = s.cnd := rfl
@[simp] theorem State.setBed_lnk (s : State) (b : Nat) (r : Bed) : (s.setBed b r).lnk = s.lnk := rfl
@[simp] theorem State.setBed_pending (s : State) (b : Nat) (r : Bed) : (s.setBed b r).pending = s.pending := rfl

/-! ### setChannel -/

@[simp] theorem State.setChannel_lyt (s : State) (c : Nat) (r : Channel) : (s.setChannel c r).lyt = s.lyt := rfl
@[simp] theorem State.setChannel_clk (s : State) (c : Nat) (r : Channel) : (s.setChannel c r).clk = s.clk := rfl
@[simp] theorem State.setChannel_rst (s : State) (c : Nat) (r : Channel) : (s.setChannel c r).rst = s.rst := rfl
@[simp] theorem State.setChannel_beds (s : State) (c : Nat) (r : Channel) : (s.setChannel c r).beds = s.beds := rfl
@[simp] theorem State.setChannel_zcu (s : State) (c : Nat) (r : Channel) : (s.setChannel c r).zcu = s.zcu := rfl
@[simp] theorem State.setChannel_sha (s : State) (c : Nat) (r : Channel) : (s.setChannel c r).sha = s.sha := rfl
@[simp] theorem State.setChannel_valves (s : State) (c : Nat) (r : Channel) : (s.setChannel c r).valves = s.valves := rfl
@[simp] theorem State.setChannel_pct (s : State) (c : Nat) (r : Channel) : (s.setChannel c r).pct = s.pct := rfl
@[simp] theorem State.setChannel_stk (s : State) (c : Nat) (r : Channel) : (s.setChannel c r).stk = s.stk := rfl
@[simp] theorem State.setChannel_rru (s : State) (c : Nat) (r : Channel) : (s.setChannel c r).rru = s.rru := rfl
@[simp] theorem State.setChannel_mvu (s : State) (c : Nat) (r : Channel) : (s.setChannel c r).mvu = s.mvu := rfl
@[simp] theorem State.setChannel_cnd (s : State) (c : Nat) (r : Channel) : (s.setChannel c r).cnd = s.cnd := rfl
@[simp] theorem State.setChannel_lnk (s : State) (c : Nat) (r : Channel) : (s.setChannel c r).lnk = s.lnk := rfl
@[simp] theorem State.setChannel_pending (s : State) (c : Nat) (r : Channel) : (s.setChannel c r).pending = s.pending := rfl

/-! ### setProfile -/

@[simp] theorem State.setProfile_lyt (s : State) (p : Nat) (r : Profile) : (s.setProfile p r).lyt = s.lyt := rfl
@[simp] theorem State.setProfile_clk (s : State) (p : Nat) (r : Profile) : (s.setProfile p r).clk = s.clk := rfl
@[simp] theorem State.setProfile_rst (s : State) (p : Nat) (r : Profile) : (s.setProfile p r).rst = s.rst := rfl
@[simp] theorem State.setProfile_beds (s : State) (p : Nat) (r : Profile) : (s.setProfile p r).beds = s.beds := rfl
@[simp] theorem State.setProfile_pcv (s : State) (p : Nat) (r : Profile) : (s.setProfile p r).pcv = s.pcv := rfl
@[simp] theorem State.setProfile_sha (s : State) (p : Nat) (r : Profile) : (s.setProfile p r).sha = s.sha := rfl
@[simp] theorem State.setProfile_valves (s : State) (p : Nat) (r : Profile) : (s.setProfile p r).valves = s.valves := rfl
@[simp] theorem State.setProfile_pct (s : State) (p : Nat) (r : Profile) : (s.setProfile p r).pct = s.pct := rfl
@[simp] theorem State.setProfile_stk (s : State) (p : Nat) (r : Profile) : (s.setProfile p r).stk = s.stk := rfl
@[simp] theorem State.setProfile_rru (s : State) (p : Nat) (r : Profile) : (s.setProfile p r).rru = s.rru := rfl
@[simp] theorem State.setProfile_mvu (s : State) (p : Nat) (r : Profile) : (s.setProfile p r).mvu = s.mvu := rfl
@[simp] theorem State.setProfile_cnd (s : State) (p : Nat) (r : Profile) : (s.setProfile p r).cnd = s.cnd := rfl
@[simp] theorem State.setProfile_lnk (s : State) (p : Nat) (r : Profile) : (s.setProfile p r).lnk = s.lnk := rfl
@[simp] theorem State.setProfile_pending (s : State) (p : Nat) (r : Profile) : (s.setProfile p r).pending = s.pending := rfl

/-! ### setZone -/

@[simp] theorem State.setZone_lyt (s : State) (z : Nat) (r : Zone) : (s.setZone z r).lyt = s.lyt := rfl
@[simp] theorem State.setZone_clk (s : State) (z : Nat) (r : Zone) : (s.setZone z r).clk = s.clk := rfl
@[simp] theorem State.setZone_rst (s : State) (z : Nat) (r : Zone) : (s.setZone z r).rst = s.rst := rfl
@[simp] theorem State.setZone_beds (s : State) (z : Nat) (r : Zone) : (s.setZone z r).beds = s.beds := rfl
@[simp] theorem State.setZone_pcv (s : State) (z : Nat) (r : Zone) : (s.setZone z r).pcv = s.pcv := rfl
@[simp] theorem State.setZone_sha (s : State) (z : Nat) (r : Zone) : (s.setZone z r).sha = s.sha := rfl
@[simp] theorem State.setZone_valves (s : State) (z : Nat) (r : Zone) : (s.setZone z r).valves = s.valves := rfl
@[simp] theorem State.setZone_pct (s : State) (z : Nat) (r : Zone) : (s.setZone z r).pct = s.pct := rfl
@[simp] theorem State.setZone_stk (s : State) (z : Nat) (r : Zone) : (s.setZone z r).stk = s.stk := rfl
@[simp] theorem State.setZone_rru (s : State) (z : Nat) (r : Zone) : (s.setZone z r).rru = s.rru := rfl
@[simp] theorem State.setZone_mvu (s : State) (z : Nat) (r : Zone) : (s.setZone z r).mvu = s.mvu := rfl
@[simp] theorem State.setZone_cnd (s : State) (z : Nat) (r : Zone) : (s.setZone z r).cnd = s.cnd := rfl
@[simp] theorem State.setZone_lnk (s : State) (z : Nat) (r : Zone) : (s.setZone z r).lnk = s.lnk := rfl
@[simp] theorem State.setZone_pending (s : State) (z : Nat) (r : Zone) : (s.setZone z r).pending = s.pending := rfl

/-! ### setPiece -/

@[simp] theorem State.setPiece_lyt (s : State) (n : Nat) (r : Piece) : (s.setPiece n r).lyt = s.lyt := rfl
@[simp] theorem State.setPiece_clk (s : State) (n : Nat) (r : Piece) : (s.setPiece n r).clk = s.clk := rfl
@[simp] theorem State.setPiece_rst (s : State) (n : Nat) (r : Piece) : (s.setPiece n r).rst = s.rst := rfl
@[simp] theorem State.setPiece_beds (s : State) (n : Nat) (r : Piece) : (s.setPiece n r).beds = s.beds := rfl
@[simp] theorem State.setPiece_pcv (s : State) (n : Nat) (r : Piece) : (s.setPiece n r).pcv = s.pcv := rfl
@[simp] theorem State.setPiece_zcu (s : State) (n : Nat) (r : Piece) : (s.setPiece n r).zcu = s.zcu := rfl
@[simp] theorem State.setPiece_sha (s : State) (n : Nat) (r : Piece) : (s.setPiece n r).sha = s.sha := rfl
@[simp] theorem State.setPiece_valves (s : State) (n : Nat) (r : Piece) : (s.setPiece n r).valves = s.valves := rfl
@[simp] theorem State.setPiece_stk (s : State) (n : Nat) (r : Piece) : (s.setPiece n r).stk = s.stk := rfl
@[simp] theorem State.setPiece_rru (s : State) (n : Nat) (r : Piece) : (s.setPiece n r).rru = s.rru := rfl
@[simp] theorem State.setPiece_mvu (s : State) (n : Nat) (r : Piece) : (s.setPiece n r).mvu = s.mvu := rfl
@[simp] theorem State.setPiece_cnd (s : State) (n : Nat) (r : Piece) : (s.setPiece n r).cnd = s.cnd := rfl
@[simp] theorem State.setPiece_lnk (s : State) (n : Nat) (r : Piece) : (s.setPiece n r).lnk = s.lnk := rfl
@[simp] theorem State.setPiece_pending (s : State) (n : Nat) (r : Piece) : (s.setPiece n r).pending = s.pending := rfl

/-! ### setCell -/

@[simp] theorem State.setCell_lyt (s : State) (c : Nat) (r : Cell) : (s.setCell c r).lyt = s.lyt := rfl
@[simp] theorem State.setCell_clk (s : State) (c : Nat) (r : Cell) : (s.setCell c r).clk = s.clk := rfl
@[simp] theorem State.setCell_rst (s : State) (c : Nat) (r : Cell) : (s.setCell c r).rst = s.rst := rfl
@[simp] theorem State.setCell_beds (s : State) (c : Nat) (r : Cell) : (s.setCell c r).beds = s.beds := rfl
@[simp] theorem State.setCell_pcv (s : State) (c : Nat) (r : Cell) : (s.setCell c r).pcv = s.pcv := rfl
@[simp] theorem State.setCell_zcu (s : State) (c : Nat) (r : Cell) : (s.setCell c r).zcu = s.zcu := rfl
@[simp] theorem State.setCell_sha (s : State) (c : Nat) (r : Cell) : (s.setCell c r).sha = s.sha := rfl
@[simp] theorem State.setCell_valves (s : State) (c : Nat) (r : Cell) : (s.setCell c r).valves = s.valves := rfl
@[simp] theorem State.setCell_pct (s : State) (c : Nat) (r : Cell) : (s.setCell c r).pct = s.pct := rfl
@[simp] theorem State.setCell_rru (s : State) (c : Nat) (r : Cell) : (s.setCell c r).rru = s.rru := rfl
@[simp] theorem State.setCell_mvu (s : State) (c : Nat) (r : Cell) : (s.setCell c r).mvu = s.mvu := rfl
@[simp] theorem State.setCell_cnd (s : State) (c : Nat) (r : Cell) : (s.setCell c r).cnd = s.cnd := rfl
@[simp] theorem State.setCell_lnk (s : State) (c : Nat) (r : Cell) : (s.setCell c r).lnk = s.lnk := rfl
@[simp] theorem State.setCell_pending (s : State) (c : Nat) (r : Cell) : (s.setCell c r).pending = s.pending := rfl

/-! ### setBay -/

@[simp] theorem State.setBay_lyt (s : State) (b : Nat) (r : Bay) : (s.setBay b r).lyt = s.lyt := rfl
@[simp] theorem State.setBay_clk (s : State) (b : Nat) (r : Bay) : (s.setBay b r).clk = s.clk := rfl
@[simp] theorem State.setBay_rst (s : State) (b : Nat) (r : Bay) : (s.setBay b r).rst = s.rst := rfl
@[simp] theorem State.setBay_beds (s : State) (b : Nat) (r : Bay) : (s.setBay b r).beds = s.beds := rfl
@[simp] theorem State.setBay_pcv (s : State) (b : Nat) (r : Bay) : (s.setBay b r).pcv = s.pcv := rfl
@[simp] theorem State.setBay_zcu (s : State) (b : Nat) (r : Bay) : (s.setBay b r).zcu = s.zcu := rfl
@[simp] theorem State.setBay_sha (s : State) (b : Nat) (r : Bay) : (s.setBay b r).sha = s.sha := rfl
@[simp] theorem State.setBay_valves (s : State) (b : Nat) (r : Bay) : (s.setBay b r).valves = s.valves := rfl
@[simp] theorem State.setBay_pct (s : State) (b : Nat) (r : Bay) : (s.setBay b r).pct = s.pct := rfl
@[simp] theorem State.setBay_rru (s : State) (b : Nat) (r : Bay) : (s.setBay b r).rru = s.rru := rfl
@[simp] theorem State.setBay_mvu (s : State) (b : Nat) (r : Bay) : (s.setBay b r).mvu = s.mvu := rfl
@[simp] theorem State.setBay_cnd (s : State) (b : Nat) (r : Bay) : (s.setBay b r).cnd = s.cnd := rfl
@[simp] theorem State.setBay_lnk (s : State) (b : Nat) (r : Bay) : (s.setBay b r).lnk = s.lnk := rfl
@[simp] theorem State.setBay_pending (s : State) (b : Nat) (r : Bay) : (s.setBay b r).pending = s.pending := rfl

/-! ### setMove -/

@[simp] theorem State.setMove_lyt (s : State) (i : Nat) (r : Option Move) : (s.setMove i r).lyt = s.lyt := rfl
@[simp] theorem State.setMove_clk (s : State) (i : Nat) (r : Option Move) : (s.setMove i r).clk = s.clk := rfl
@[simp] theorem State.setMove_rst (s : State) (i : Nat) (r : Option Move) : (s.setMove i r).rst = s.rst := rfl
@[simp] theorem State.setMove_beds (s : State) (i : Nat) (r : Option Move) : (s.setMove i r).beds = s.beds := rfl
@[simp] theorem State.setMove_pcv (s : State) (i : Nat) (r : Option Move) : (s.setMove i r).pcv = s.pcv := rfl
@[simp] theorem State.setMove_zcu (s : State) (i : Nat) (r : Option Move) : (s.setMove i r).zcu = s.zcu := rfl
@[simp] theorem State.setMove_sha (s : State) (i : Nat) (r : Option Move) : (s.setMove i r).sha = s.sha := rfl
@[simp] theorem State.setMove_valves (s : State) (i : Nat) (r : Option Move) : (s.setMove i r).valves = s.valves := rfl
@[simp] theorem State.setMove_pct (s : State) (i : Nat) (r : Option Move) : (s.setMove i r).pct = s.pct := rfl
@[simp] theorem State.setMove_stk (s : State) (i : Nat) (r : Option Move) : (s.setMove i r).stk = s.stk := rfl
@[simp] theorem State.setMove_rru (s : State) (i : Nat) (r : Option Move) : (s.setMove i r).rru = s.rru := rfl
@[simp] theorem State.setMove_cnd (s : State) (i : Nat) (r : Option Move) : (s.setMove i r).cnd = s.cnd := rfl
@[simp] theorem State.setMove_lnk (s : State) (i : Nat) (r : Option Move) : (s.setMove i r).lnk = s.lnk := rfl
@[simp] theorem State.setMove_pending (s : State) (i : Nat) (r : Option Move) : (s.setMove i r).pending = s.pending := rfl

/-! ### setVacate -/

@[simp] theorem State.setVacate_lyt (s : State) (n : Nat) (r : Option Vacate) : (s.setVacate n r).lyt = s.lyt := rfl
@[simp] theorem State.setVacate_clk (s : State) (n : Nat) (r : Option Vacate) : (s.setVacate n r).clk = s.clk := rfl
@[simp] theorem State.setVacate_rst (s : State) (n : Nat) (r : Option Vacate) : (s.setVacate n r).rst = s.rst := rfl
@[simp] theorem State.setVacate_beds (s : State) (n : Nat) (r : Option Vacate) : (s.setVacate n r).beds = s.beds := rfl
@[simp] theorem State.setVacate_pcv (s : State) (n : Nat) (r : Option Vacate) : (s.setVacate n r).pcv = s.pcv := rfl
@[simp] theorem State.setVacate_zcu (s : State) (n : Nat) (r : Option Vacate) : (s.setVacate n r).zcu = s.zcu := rfl
@[simp] theorem State.setVacate_sha (s : State) (n : Nat) (r : Option Vacate) : (s.setVacate n r).sha = s.sha := rfl
@[simp] theorem State.setVacate_valves (s : State) (n : Nat) (r : Option Vacate) : (s.setVacate n r).valves = s.valves := rfl
@[simp] theorem State.setVacate_pct (s : State) (n : Nat) (r : Option Vacate) : (s.setVacate n r).pct = s.pct := rfl
@[simp] theorem State.setVacate_stk (s : State) (n : Nat) (r : Option Vacate) : (s.setVacate n r).stk = s.stk := rfl
@[simp] theorem State.setVacate_mvu (s : State) (n : Nat) (r : Option Vacate) : (s.setVacate n r).mvu = s.mvu := rfl
@[simp] theorem State.setVacate_cnd (s : State) (n : Nat) (r : Option Vacate) : (s.setVacate n r).cnd = s.cnd := rfl
@[simp] theorem State.setVacate_lnk (s : State) (n : Nat) (r : Option Vacate) : (s.setVacate n r).lnk = s.lnk := rfl
@[simp] theorem State.setVacate_pending (s : State) (n : Nat) (r : Option Vacate) : (s.setVacate n r).pending = s.pending := rfl

/-! ### setFlags -/

@[simp] theorem State.setFlags_lyt (s : State) (b : Nat) (r : PanelFlags) : (s.setFlags b r).lyt = s.lyt := rfl
@[simp] theorem State.setFlags_clk (s : State) (b : Nat) (r : PanelFlags) : (s.setFlags b r).clk = s.clk := rfl
@[simp] theorem State.setFlags_rst (s : State) (b : Nat) (r : PanelFlags) : (s.setFlags b r).rst = s.rst := rfl
@[simp] theorem State.setFlags_beds (s : State) (b : Nat) (r : PanelFlags) : (s.setFlags b r).beds = s.beds := rfl
@[simp] theorem State.setFlags_pcv (s : State) (b : Nat) (r : PanelFlags) : (s.setFlags b r).pcv = s.pcv := rfl
@[simp] theorem State.setFlags_zcu (s : State) (b : Nat) (r : PanelFlags) : (s.setFlags b r).zcu = s.zcu := rfl
@[simp] theorem State.setFlags_sha (s : State) (b : Nat) (r : PanelFlags) : (s.setFlags b r).sha = s.sha := rfl
@[simp] theorem State.setFlags_valves (s : State) (b : Nat) (r : PanelFlags) : (s.setFlags b r).valves = s.valves := rfl
@[simp] theorem State.setFlags_pct (s : State) (b : Nat) (r : PanelFlags) : (s.setFlags b r).pct = s.pct := rfl
@[simp] theorem State.setFlags_stk (s : State) (b : Nat) (r : PanelFlags) : (s.setFlags b r).stk = s.stk := rfl
@[simp] theorem State.setFlags_rru (s : State) (b : Nat) (r : PanelFlags) : (s.setFlags b r).rru = s.rru := rfl
@[simp] theorem State.setFlags_mvu (s : State) (b : Nat) (r : PanelFlags) : (s.setFlags b r).mvu = s.mvu := rfl
@[simp] theorem State.setFlags_lnk (s : State) (b : Nat) (r : PanelFlags) : (s.setFlags b r).lnk = s.lnk := rfl
@[simp] theorem State.setFlags_pending (s : State) (b : Nat) (r : PanelFlags) : (s.setFlags b r).pending = s.pending := rfl

/-! ### bumpGeneration -/

@[simp] theorem State.bumpGeneration_lyt (s : State) : (s.bumpGeneration).lyt = s.lyt := rfl
@[simp] theorem State.bumpGeneration_clk (s : State) : (s.bumpGeneration).clk = s.clk := rfl
@[simp] theorem State.bumpGeneration_rst (s : State) : (s.bumpGeneration).rst = s.rst := rfl
@[simp] theorem State.bumpGeneration_beds (s : State) : (s.bumpGeneration).beds = s.beds := rfl
@[simp] theorem State.bumpGeneration_pcv (s : State) : (s.bumpGeneration).pcv = s.pcv := rfl
@[simp] theorem State.bumpGeneration_zcu (s : State) : (s.bumpGeneration).zcu = s.zcu := rfl
@[simp] theorem State.bumpGeneration_sha (s : State) : (s.bumpGeneration).sha = s.sha := rfl
@[simp] theorem State.bumpGeneration_valves (s : State) : (s.bumpGeneration).valves = s.valves := rfl
@[simp] theorem State.bumpGeneration_pct (s : State) : (s.bumpGeneration).pct = s.pct := rfl
@[simp] theorem State.bumpGeneration_rru (s : State) : (s.bumpGeneration).rru = s.rru := rfl
@[simp] theorem State.bumpGeneration_mvu (s : State) : (s.bumpGeneration).mvu = s.mvu := rfl
@[simp] theorem State.bumpGeneration_cnd (s : State) : (s.bumpGeneration).cnd = s.cnd := rfl
@[simp] theorem State.bumpGeneration_lnk (s : State) : (s.bumpGeneration).lnk = s.lnk := rfl
@[simp] theorem State.bumpGeneration_pending (s : State) : (s.bumpGeneration).pending = s.pending := rfl

/-! ### setCrane -/

@[simp] theorem State.setCrane_lyt (s : State) (x : Crane) (r : CraneRec) : (s.setCrane x r).lyt = s.lyt := by cases x <;> rfl
@[simp] theorem State.setCrane_clk (s : State) (x : Crane) (r : CraneRec) : (s.setCrane x r).clk = s.clk := by cases x <;> rfl
@[simp] theorem State.setCrane_rst (s : State) (x : Crane) (r : CraneRec) : (s.setCrane x r).rst = s.rst := by cases x <;> rfl
@[simp] theorem State.setCrane_beds (s : State) (x : Crane) (r : CraneRec) : (s.setCrane x r).beds = s.beds := by cases x <;> rfl
@[simp] theorem State.setCrane_pcv (s : State) (x : Crane) (r : CraneRec) : (s.setCrane x r).pcv = s.pcv := by cases x <;> rfl
@[simp] theorem State.setCrane_zcu (s : State) (x : Crane) (r : CraneRec) : (s.setCrane x r).zcu = s.zcu := by cases x <;> rfl
@[simp] theorem State.setCrane_sha (s : State) (x : Crane) (r : CraneRec) : (s.setCrane x r).sha = s.sha := by cases x <;> rfl
@[simp] theorem State.setCrane_valves (s : State) (x : Crane) (r : CraneRec) : (s.setCrane x r).valves = s.valves := by cases x <;> rfl
@[simp] theorem State.setCrane_pct (s : State) (x : Crane) (r : CraneRec) : (s.setCrane x r).pct = s.pct := by cases x <;> rfl
@[simp] theorem State.setCrane_stk (s : State) (x : Crane) (r : CraneRec) : (s.setCrane x r).stk = s.stk := by cases x <;> rfl
@[simp] theorem State.setCrane_mvu (s : State) (x : Crane) (r : CraneRec) : (s.setCrane x r).mvu = s.mvu := by cases x <;> rfl
@[simp] theorem State.setCrane_cnd (s : State) (x : Crane) (r : CraneRec) : (s.setCrane x r).cnd = s.cnd := by cases x <;> rfl
@[simp] theorem State.setCrane_lnk (s : State) (x : Crane) (r : CraneRec) : (s.setCrane x r).lnk = s.lnk := by cases x <;> rfl
@[simp] theorem State.setCrane_pending (s : State) (x : Crane) (r : CraneRec) : (s.setCrane x r).pending = s.pending := by cases x <;> rfl

/-! ### setWork -/

@[simp] theorem State.setWork_lyt (s : State) (x : Crane) (r : CraneWork) : (s.setWork x r).lyt = s.lyt := by cases x <;> rfl
@[simp] theorem State.setWork_clk (s : State) (x : Crane) (r : CraneWork) : (s.setWork x r).clk = s.clk := by cases x <;> rfl
@[simp] theorem State.setWork_rst (s : State) (x : Crane) (r : CraneWork) : (s.setWork x r).rst = s.rst := by cases x <;> rfl
@[simp] theorem State.setWork_beds (s : State) (x : Crane) (r : CraneWork) : (s.setWork x r).beds = s.beds := by cases x <;> rfl
@[simp] theorem State.setWork_pcv (s : State) (x : Crane) (r : CraneWork) : (s.setWork x r).pcv = s.pcv := by cases x <;> rfl
@[simp] theorem State.setWork_zcu (s : State) (x : Crane) (r : CraneWork) : (s.setWork x r).zcu = s.zcu := by cases x <;> rfl
@[simp] theorem State.setWork_sha (s : State) (x : Crane) (r : CraneWork) : (s.setWork x r).sha = s.sha := by cases x <;> rfl
@[simp] theorem State.setWork_valves (s : State) (x : Crane) (r : CraneWork) : (s.setWork x r).valves = s.valves := by cases x <;> rfl
@[simp] theorem State.setWork_pct (s : State) (x : Crane) (r : CraneWork) : (s.setWork x r).pct = s.pct := by cases x <;> rfl
@[simp] theorem State.setWork_stk (s : State) (x : Crane) (r : CraneWork) : (s.setWork x r).stk = s.stk := by cases x <;> rfl
@[simp] theorem State.setWork_rru (s : State) (x : Crane) (r : CraneWork) : (s.setWork x r).rru = s.rru := by cases x <;> rfl
@[simp] theorem State.setWork_cnd (s : State) (x : Crane) (r : CraneWork) : (s.setWork x r).cnd = s.cnd := by cases x <;> rfl
@[simp] theorem State.setWork_lnk (s : State) (x : Crane) (r : CraneWork) : (s.setWork x r).lnk = s.lnk := by cases x <;> rfl
@[simp] theorem State.setWork_pending (s : State) (x : Crane) (r : CraneWork) : (s.setWork x r).pending = s.pending := by cases x <;> rfl

/-! ### setCondSet -/

@[simp] theorem State.setCondSet_lyt (s : State) (p : Point) (r : CondSet) : (s.setCondSet p r).lyt = s.lyt := by cases p <;> rfl
@[simp] theorem State.setCondSet_clk (s : State) (p : Point) (r : CondSet) : (s.setCondSet p r).clk = s.clk := by cases p <;> rfl
@[simp] theorem State.setCondSet_rst (s : State) (p : Point) (r : CondSet) : (s.setCondSet p r).rst = s.rst := by cases p <;> rfl
@[simp] theorem State.setCondSet_beds (s : State) (p : Point) (r : CondSet) : (s.setCondSet p r).beds = s.beds := by cases p <;> rfl
@[simp] theorem State.setCondSet_pcv (s : State) (p : Point) (r : CondSet) : (s.setCondSet p r).pcv = s.pcv := by cases p <;> rfl
@[simp] theorem State.setCondSet_zcu (s : State) (p : Point) (r : CondSet) : (s.setCondSet p r).zcu = s.zcu := by cases p <;> rfl
@[simp] theorem State.setCondSet_sha (s : State) (p : Point) (r : CondSet) : (s.setCondSet p r).sha = s.sha := by cases p <;> rfl
@[simp] theorem State.setCondSet_valves (s : State) (p : Point) (r : CondSet) : (s.setCondSet p r).valves = s.valves := by cases p <;> rfl
@[simp] theorem State.setCondSet_pct (s : State) (p : Point) (r : CondSet) : (s.setCondSet p r).pct = s.pct := by cases p <;> rfl
@[simp] theorem State.setCondSet_stk (s : State) (p : Point) (r : CondSet) : (s.setCondSet p r).stk = s.stk := by cases p <;> rfl
@[simp] theorem State.setCondSet_rru (s : State) (p : Point) (r : CondSet) : (s.setCondSet p r).rru = s.rru := by cases p <;> rfl
@[simp] theorem State.setCondSet_mvu (s : State) (p : Point) (r : CondSet) : (s.setCondSet p r).mvu = s.mvu := by cases p <;> rfl
@[simp] theorem State.setCondSet_lnk (s : State) (p : Point) (r : CondSet) : (s.setCondSet p r).lnk = s.lnk := by cases p <;> rfl
@[simp] theorem State.setCondSet_pending (s : State) (p : Point) (r : CondSet) : (s.setCondSet p r).pending = s.pending := by cases p <;> rfl

/-! ### setPort -/

@[simp] theorem State.setPort_lyt (s : State) (p : Port) (r : PortRec) : (s.setPort p r).lyt = s.lyt := by cases p <;> rfl
@[simp] theorem State.setPort_clk (s : State) (p : Port) (r : PortRec) : (s.setPort p r).clk = s.clk := by cases p <;> rfl
@[simp] theorem State.setPort_rst (s : State) (p : Port) (r : PortRec) : (s.setPort p r).rst = s.rst := by cases p <;> rfl
@[simp] theorem State.setPort_beds (s : State) (p : Port) (r : PortRec) : (s.setPort p r).beds = s.beds := by cases p <;> rfl
@[simp] theorem State.setPort_pcv (s : State) (p : Port) (r : PortRec) : (s.setPort p r).pcv = s.pcv := by cases p <;> rfl
@[simp] theorem State.setPort_zcu (s : State) (p : Port) (r : PortRec) : (s.setPort p r).zcu = s.zcu := by cases p <;> rfl
@[simp] theorem State.setPort_sha (s : State) (p : Port) (r : PortRec) : (s.setPort p r).sha = s.sha := by cases p <;> rfl
@[simp] theorem State.setPort_valves (s : State) (p : Port) (r : PortRec) : (s.setPort p r).valves = s.valves := by cases p <;> rfl
@[simp] theorem State.setPort_pct (s : State) (p : Port) (r : PortRec) : (s.setPort p r).pct = s.pct := by cases p <;> rfl
@[simp] theorem State.setPort_stk (s : State) (p : Port) (r : PortRec) : (s.setPort p r).stk = s.stk := by cases p <;> rfl
@[simp] theorem State.setPort_rru (s : State) (p : Port) (r : PortRec) : (s.setPort p r).rru = s.rru := by cases p <;> rfl
@[simp] theorem State.setPort_mvu (s : State) (p : Port) (r : PortRec) : (s.setPort p r).mvu = s.mvu := by cases p <;> rfl
@[simp] theorem State.setPort_cnd (s : State) (p : Port) (r : PortRec) : (s.setPort p r).cnd = s.cnd := by cases p <;> rfl
@[simp] theorem State.setPort_pending (s : State) (p : Port) (r : PortRec) : (s.setPort p r).pending = s.pending := by cases p <;> rfl

/-! ### setCursor -/

@[simp] theorem State.setCursor_lyt (s : State) (p : Point) (c : Nat) : (s.setCursor p c).lyt = s.lyt := by cases p <;> rfl
@[simp] theorem State.setCursor_clk (s : State) (p : Point) (c : Nat) : (s.setCursor p c).clk = s.clk := by cases p <;> rfl
@[simp] theorem State.setCursor_rst (s : State) (p : Point) (c : Nat) : (s.setCursor p c).rst = s.rst := by cases p <;> rfl
@[simp] theorem State.setCursor_beds (s : State) (p : Point) (c : Nat) : (s.setCursor p c).beds = s.beds := by cases p <;> rfl
@[simp] theorem State.setCursor_pcv (s : State) (p : Point) (c : Nat) : (s.setCursor p c).pcv = s.pcv := by cases p <;> rfl
@[simp] theorem State.setCursor_zcu (s : State) (p : Point) (c : Nat) : (s.setCursor p c).zcu = s.zcu := by cases p <;> rfl
@[simp] theorem State.setCursor_sha (s : State) (p : Point) (c : Nat) : (s.setCursor p c).sha = s.sha := by cases p <;> rfl
@[simp] theorem State.setCursor_valves (s : State) (p : Point) (c : Nat) : (s.setCursor p c).valves = s.valves := by cases p <;> rfl
@[simp] theorem State.setCursor_pct (s : State) (p : Point) (c : Nat) : (s.setCursor p c).pct = s.pct := by cases p <;> rfl
@[simp] theorem State.setCursor_rru (s : State) (p : Point) (c : Nat) : (s.setCursor p c).rru = s.rru := by cases p <;> rfl
@[simp] theorem State.setCursor_mvu (s : State) (p : Point) (c : Nat) : (s.setCursor p c).mvu = s.mvu := by cases p <;> rfl
@[simp] theorem State.setCursor_cnd (s : State) (p : Point) (c : Nat) : (s.setCursor p c).cnd = s.cnd := by cases p <;> rfl
@[simp] theorem State.setCursor_lnk (s : State) (p : Point) (c : Nat) : (s.setCursor p c).lnk = s.lnk := by cases p <;> rfl
@[simp] theorem State.setCursor_pending (s : State) (p : Point) (c : Nat) : (s.setCursor p c).pending = s.pending := by cases p <;> rfl

/-! ### driveValves -/

@[simp] theorem State.driveValves_lyt (s : State) (f : Nat → Bool) : (s.driveValves f).lyt = s.lyt := rfl
@[simp] theorem State.driveValves_clk (s : State) (f : Nat → Bool) : (s.driveValves f).clk = s.clk := rfl
@[simp] theorem State.driveValves_rst (s : State) (f : Nat → Bool) : (s.driveValves f).rst = s.rst := rfl
@[simp] theorem State.driveValves_beds (s : State) (f : Nat → Bool) : (s.driveValves f).beds = s.beds := rfl
@[simp] theorem State.driveValves_pcv (s : State) (f : Nat → Bool) : (s.driveValves f).pcv = s.pcv := rfl
@[simp] theorem State.driveValves_zcu (s : State) (f : Nat → Bool) : (s.driveValves f).zcu = s.zcu := rfl
@[simp] theorem State.driveValves_sha (s : State) (f : Nat → Bool) : (s.driveValves f).sha = s.sha := rfl
@[simp] theorem State.driveValves_pct (s : State) (f : Nat → Bool) : (s.driveValves f).pct = s.pct := rfl
@[simp] theorem State.driveValves_stk (s : State) (f : Nat → Bool) : (s.driveValves f).stk = s.stk := rfl
@[simp] theorem State.driveValves_rru (s : State) (f : Nat → Bool) : (s.driveValves f).rru = s.rru := rfl
@[simp] theorem State.driveValves_mvu (s : State) (f : Nat → Bool) : (s.driveValves f).mvu = s.mvu := rfl
@[simp] theorem State.driveValves_cnd (s : State) (f : Nat → Bool) : (s.driveValves f).cnd = s.cnd := rfl
@[simp] theorem State.driveValves_lnk (s : State) (f : Nat → Bool) : (s.driveValves f).lnk = s.lnk := rfl
@[simp] theorem State.driveValves_pending (s : State) (f : Nat → Bool) : (s.driveValves f).pending = s.pending := rfl

/-! ### closeValves -/

@[simp] theorem State.closeValves_lyt (s : State) : (s.closeValves).lyt = s.lyt := rfl
@[simp] theorem State.closeValves_clk (s : State) : (s.closeValves).clk = s.clk := rfl
@[simp] theorem State.closeValves_rst (s : State) : (s.closeValves).rst = s.rst := rfl
@[simp] theorem State.closeValves_beds (s : State) : (s.closeValves).beds = s.beds := rfl
@[simp] theorem State.closeValves_pcv (s : State) : (s.closeValves).pcv = s.pcv := rfl
@[simp] theorem State.closeValves_zcu (s : State) : (s.closeValves).zcu = s.zcu := rfl
@[simp] theorem State.closeValves_sha (s : State) : (s.closeValves).sha = s.sha := rfl
@[simp] theorem State.closeValves_pct (s : State) : (s.closeValves).pct = s.pct := rfl
@[simp] theorem State.closeValves_stk (s : State) : (s.closeValves).stk = s.stk := rfl
@[simp] theorem State.closeValves_rru (s : State) : (s.closeValves).rru = s.rru := rfl
@[simp] theorem State.closeValves_mvu (s : State) : (s.closeValves).mvu = s.mvu := rfl
@[simp] theorem State.closeValves_cnd (s : State) : (s.closeValves).cnd = s.cnd := rfl
@[simp] theorem State.closeValves_lnk (s : State) : (s.closeValves).lnk = s.lnk := rfl
@[simp] theorem State.closeValves_pending (s : State) : (s.closeValves).pending = s.pending := rfl

/-! ### takeSerial -/

@[simp] theorem State.takeSerial_lyt (s : State) : (s.takeSerial).lyt = s.lyt := rfl
@[simp] theorem State.takeSerial_clk (s : State) : (s.takeSerial).clk = s.clk := rfl
@[simp] theorem State.takeSerial_rst (s : State) : (s.takeSerial).rst = s.rst := rfl
@[simp] theorem State.takeSerial_beds (s : State) : (s.takeSerial).beds = s.beds := rfl
@[simp] theorem State.takeSerial_pcv (s : State) : (s.takeSerial).pcv = s.pcv := rfl
@[simp] theorem State.takeSerial_zcu (s : State) : (s.takeSerial).zcu = s.zcu := rfl
@[simp] theorem State.takeSerial_sha (s : State) : (s.takeSerial).sha = s.sha := rfl
@[simp] theorem State.takeSerial_valves (s : State) : (s.takeSerial).valves = s.valves := rfl
@[simp] theorem State.takeSerial_pct (s : State) : (s.takeSerial).pct = s.pct := rfl
@[simp] theorem State.takeSerial_stk (s : State) : (s.takeSerial).stk = s.stk := rfl
@[simp] theorem State.takeSerial_rru (s : State) : (s.takeSerial).rru = s.rru := rfl
@[simp] theorem State.takeSerial_cnd (s : State) : (s.takeSerial).cnd = s.cnd := rfl
@[simp] theorem State.takeSerial_lnk (s : State) : (s.takeSerial).lnk = s.lnk := rfl
@[simp] theorem State.takeSerial_pending (s : State) : (s.takeSerial).pending = s.pending := rfl

/-! ### closeWindow -/

@[simp] theorem State.closeWindow_lyt (s : State) : (s.closeWindow).lyt = s.lyt := rfl
@[simp] theorem State.closeWindow_clk (s : State) : (s.closeWindow).clk = s.clk := rfl
@[simp] theorem State.closeWindow_rst (s : State) : (s.closeWindow).rst = s.rst := rfl
@[simp] theorem State.closeWindow_beds (s : State) : (s.closeWindow).beds = s.beds := rfl
@[simp] theorem State.closeWindow_pcv (s : State) : (s.closeWindow).pcv = s.pcv := rfl
@[simp] theorem State.closeWindow_zcu (s : State) : (s.closeWindow).zcu = s.zcu := rfl
@[simp] theorem State.closeWindow_sha (s : State) : (s.closeWindow).sha = s.sha := rfl
@[simp] theorem State.closeWindow_valves (s : State) : (s.closeWindow).valves = s.valves := rfl
@[simp] theorem State.closeWindow_pct (s : State) : (s.closeWindow).pct = s.pct := rfl
@[simp] theorem State.closeWindow_stk (s : State) : (s.closeWindow).stk = s.stk := rfl
@[simp] theorem State.closeWindow_rru (s : State) : (s.closeWindow).rru = s.rru := rfl
@[simp] theorem State.closeWindow_mvu (s : State) : (s.closeWindow).mvu = s.mvu := rfl
@[simp] theorem State.closeWindow_cnd (s : State) : (s.closeWindow).cnd = s.cnd := rfl
@[simp] theorem State.closeWindow_pending (s : State) : (s.closeWindow).pending = s.pending := rfl

/-! ### cutLinks -/

@[simp] theorem State.cutLinks_lyt (s : State) : (s.cutLinks).lyt = s.lyt := rfl
@[simp] theorem State.cutLinks_clk (s : State) : (s.cutLinks).clk = s.clk := rfl
@[simp] theorem State.cutLinks_rst (s : State) : (s.cutLinks).rst = s.rst := rfl
@[simp] theorem State.cutLinks_beds (s : State) : (s.cutLinks).beds = s.beds := rfl
@[simp] theorem State.cutLinks_pcv (s : State) : (s.cutLinks).pcv = s.pcv := rfl
@[simp] theorem State.cutLinks_zcu (s : State) : (s.cutLinks).zcu = s.zcu := rfl
@[simp] theorem State.cutLinks_sha (s : State) : (s.cutLinks).sha = s.sha := rfl
@[simp] theorem State.cutLinks_valves (s : State) : (s.cutLinks).valves = s.valves := rfl
@[simp] theorem State.cutLinks_pct (s : State) : (s.cutLinks).pct = s.pct := rfl
@[simp] theorem State.cutLinks_stk (s : State) : (s.cutLinks).stk = s.stk := rfl
@[simp] theorem State.cutLinks_rru (s : State) : (s.cutLinks).rru = s.rru := rfl
@[simp] theorem State.cutLinks_mvu (s : State) : (s.cutLinks).mvu = s.mvu := rfl
@[simp] theorem State.cutLinks_cnd (s : State) : (s.cutLinks).cnd = s.cnd := rfl
@[simp] theorem State.cutLinks_pending (s : State) : (s.cutLinks).pending = s.pending := rfl

/-! ### dropLines -/

@[simp] theorem State.dropLines_lyt (s : State) : (s.dropLines).lyt = s.lyt := rfl
@[simp] theorem State.dropLines_clk (s : State) : (s.dropLines).clk = s.clk := rfl
@[simp] theorem State.dropLines_rst (s : State) : (s.dropLines).rst = s.rst := rfl
@[simp] theorem State.dropLines_beds (s : State) : (s.dropLines).beds = s.beds := rfl
@[simp] theorem State.dropLines_pcv (s : State) : (s.dropLines).pcv = s.pcv := rfl
@[simp] theorem State.dropLines_zcu (s : State) : (s.dropLines).zcu = s.zcu := rfl
@[simp] theorem State.dropLines_sha (s : State) : (s.dropLines).sha = s.sha := rfl
@[simp] theorem State.dropLines_valves (s : State) : (s.dropLines).valves = s.valves := rfl
@[simp] theorem State.dropLines_pct (s : State) : (s.dropLines).pct = s.pct := rfl
@[simp] theorem State.dropLines_stk (s : State) : (s.dropLines).stk = s.stk := rfl
@[simp] theorem State.dropLines_rru (s : State) : (s.dropLines).rru = s.rru := rfl
@[simp] theorem State.dropLines_mvu (s : State) : (s.dropLines).mvu = s.mvu := rfl
@[simp] theorem State.dropLines_lnk (s : State) : (s.dropLines).lnk = s.lnk := rfl
@[simp] theorem State.dropLines_pending (s : State) : (s.dropLines).pending = s.pending := rfl

/-! ### lowValves -/

@[simp] theorem State.lowValves_lyt (s : State) : (s.lowValves).lyt = s.lyt := rfl
@[simp] theorem State.lowValves_clk (s : State) : (s.lowValves).clk = s.clk := rfl
@[simp] theorem State.lowValves_rst (s : State) : (s.lowValves).rst = s.rst := rfl
@[simp] theorem State.lowValves_beds (s : State) : (s.lowValves).beds = s.beds := rfl
@[simp] theorem State.lowValves_pcv (s : State) : (s.lowValves).pcv = s.pcv := rfl
@[simp] theorem State.lowValves_zcu (s : State) : (s.lowValves).zcu = s.zcu := rfl
@[simp] theorem State.lowValves_sha (s : State) : (s.lowValves).sha = s.sha := rfl
@[simp] theorem State.lowValves_pct (s : State) : (s.lowValves).pct = s.pct := rfl
@[simp] theorem State.lowValves_stk (s : State) : (s.lowValves).stk = s.stk := rfl
@[simp] theorem State.lowValves_rru (s : State) : (s.lowValves).rru = s.rru := rfl
@[simp] theorem State.lowValves_mvu (s : State) : (s.lowValves).mvu = s.mvu := rfl
@[simp] theorem State.lowValves_cnd (s : State) : (s.lowValves).cnd = s.cnd := rfl
@[simp] theorem State.lowValves_lnk (s : State) : (s.lowValves).lnk = s.lnk := rfl
@[simp] theorem State.lowValves_pending (s : State) : (s.lowValves).pending = s.pending := rfl

/-! ### setBegun -/

@[simp] theorem State.setBegun_lyt (s : State) (p : Port) (l : List Nat) : (s.setBegun p l).lyt = s.lyt := by cases p <;> rfl
@[simp] theorem State.setBegun_clk (s : State) (p : Port) (l : List Nat) : (s.setBegun p l).clk = s.clk := by cases p <;> rfl
@[simp] theorem State.setBegun_rst (s : State) (p : Port) (l : List Nat) : (s.setBegun p l).rst = s.rst := by cases p <;> rfl
@[simp] theorem State.setBegun_beds (s : State) (p : Port) (l : List Nat) : (s.setBegun p l).beds = s.beds := by cases p <;> rfl
@[simp] theorem State.setBegun_pcv (s : State) (p : Port) (l : List Nat) : (s.setBegun p l).pcv = s.pcv := by cases p <;> rfl
@[simp] theorem State.setBegun_zcu (s : State) (p : Port) (l : List Nat) : (s.setBegun p l).zcu = s.zcu := by cases p <;> rfl
@[simp] theorem State.setBegun_sha (s : State) (p : Port) (l : List Nat) : (s.setBegun p l).sha = s.sha := by cases p <;> rfl
@[simp] theorem State.setBegun_valves (s : State) (p : Port) (l : List Nat) : (s.setBegun p l).valves = s.valves := by cases p <;> rfl
@[simp] theorem State.setBegun_pct (s : State) (p : Port) (l : List Nat) : (s.setBegun p l).pct = s.pct := by cases p <;> rfl
@[simp] theorem State.setBegun_stk (s : State) (p : Port) (l : List Nat) : (s.setBegun p l).stk = s.stk := by cases p <;> rfl
@[simp] theorem State.setBegun_rru (s : State) (p : Port) (l : List Nat) : (s.setBegun p l).rru = s.rru := by cases p <;> rfl
@[simp] theorem State.setBegun_mvu (s : State) (p : Port) (l : List Nat) : (s.setBegun p l).mvu = s.mvu := by cases p <;> rfl
@[simp] theorem State.setBegun_cnd (s : State) (p : Port) (l : List Nat) : (s.setBegun p l).cnd = s.cnd := by cases p <;> rfl
@[simp] theorem State.setBegun_pending (s : State) (p : Port) (l : List Nat) : (s.setBegun p l).pending = s.pending := by cases p <;> rfl

/-! ### Reading after an update -/

theorem State.bed_setBed (s : State) (b : Nat) (r : Bed) (b' : Nat) :
    (s.setBed b r).bed b' = if b = b' then r else s.bed b' := Tab.read_write _ _ _ _ _
theorem State.channel_setChannel (s : State) (c : Nat) (r : Channel) (c' : Nat) :
    (s.setChannel c r).channel c' = if c = c' then r else s.channel c' := Tab.read_write _ _ _ _ _
theorem State.profile_setProfile (s : State) (p : Nat) (r : Profile) (p' : Nat) :
    (s.setProfile p r).profile p' = if p = p' then r else s.profile p' := Tab.read_write _ _ _ _ _
theorem State.zone_setZone (s : State) (z : Nat) (r : Zone) (z' : Nat) :
    (s.setZone z r).zone z' = if z = z' then r else s.zone z' := Tab.read_write _ _ _ _ _
theorem State.piece_setPiece (s : State) (n : Nat) (r : Piece) (n' : Nat) :
    (s.setPiece n r).piece n' = if n = n' then r else s.piece n' := Tab.read_write _ _ _ _ _
theorem State.cell_setCell (s : State) (c : Nat) (r : Cell) (c' : Nat) :
    (s.setCell c r).cell c' = if c = c' then r else s.cell c' := Tab.read_write _ _ _ _ _
theorem State.bay_setBay (s : State) (b : Nat) (r : Bay) (b' : Nat) :
    (s.setBay b r).bay b' = if b = b' then r else s.bay b' := Tab.read_write _ _ _ _ _
theorem State.move_setMove (s : State) (i : Nat) (r : Option Move) (i' : Nat) :
    (s.setMove i r).move i' = if i = i' then r else s.move i' := Tab.read_write _ _ _ _ _
theorem State.vacate_setVacate (s : State) (n : Nat) (r : Option Vacate) (n' : Nat) :
    (s.setVacate n r).vacate n' = if n = n' then r else s.vacate n' := Tab.read_write _ _ _ _ _
theorem State.flags_setFlags (s : State) (b : Nat) (r : PanelFlags) (b' : Nat) :
    (s.setFlags b r).flags b' = if b = b' then r else s.flags b' := Tab.read_write _ _ _ _ _
theorem State.crane_setCrane (s : State) (x : Crane) (r : CraneRec) (y : Crane) :
    (s.setCrane x r).crane y = if x = y then r else s.crane y := by cases x <;> cases y <;> rfl
theorem State.work_setWork (s : State) (x : Crane) (r : CraneWork) (y : Crane) :
    (s.setWork x r).work y = if x = y then r else s.work y := by cases x <;> cases y <;> rfl
theorem State.condSet_setCondSet (s : State) (p : Point) (r : CondSet) (q : Point) :
    (s.setCondSet p r).condSet q = if p = q then r else s.condSet q := by cases p <;> cases q <;> rfl
theorem State.port_setPort (s : State) (p : Port) (r : PortRec) (q : Port) :
    (s.setPort p r).port q = if p = q then r else s.port q := by cases p <;> cases q <;> rfl
theorem State.cursor_setCursor (s : State) (p : Point) (c : Nat) (q : Point) :
    (s.setCursor p c).cursor q = if p = q then c else s.cursor q := by cases p <;> cases q <;> rfl

/-- The vacate records and the other runway-wide records stand while a crane record is written. -/
theorem State.vacate_setCrane (s : State) (x : Crane) (r : CraneRec) (n : Nat) :
    (s.setCrane x r).vacate n = s.vacate n := by cases x <;> rfl
/-- The move table stands while a crane's queue record is written. -/
theorem State.move_setWork (s : State) (x : Crane) (r : CraneWork) (i : Nat) :
    (s.setWork x r).move i = s.move i := by cases x <;> rfl
/-- The queue records stand while the move table is written. -/
theorem State.work_setMove (s : State) (i : Nat) (r : Option Move) (x : Crane) :
    (s.setMove i r).work x = s.work x := by cases x <;> rfl
/-- The crane records stand while a vacate record is written. -/
theorem State.crane_setVacate (s : State) (n : Nat) (r : Option Vacate) (x : Crane) :
    (s.setVacate n r).crane x = s.crane x := by cases x <;> rfl
/-- The condition sets stand while panel flags are written. -/
theorem State.condSet_setFlags (s : State) (b : Nat) (r : PanelFlags) (p : Point) :
    (s.setFlags b r).condSet p = s.condSet p := by cases p <;> rfl

/-- Each valve line after every line has been driven (R3, R95). -/
theorem State.valve_driveValves (s : State) (f : Nat → Bool) (z : Nat) (h : z < Config.zones) :
    (s.driveValves f).valve z =
      if f z then senseOpened (s.zoneLayout z).sense else senseClosed (s.zoneLayout z).sense := by
  simp [State.valve, State.driveValves, Tab.read_build, h]

/-- Each valve line after every line has been closed (R3). -/
theorem State.valve_closeValves (s : State) (z : Nat) (h : z < Config.zones) :
    s.closeValves.valve z = senseClosed (s.zoneLayout z).sense := by
  simp [State.closeValves, State.valve_driveValves, h]

/-- Each valve line after every line has gone low (R14). -/
theorem State.valve_lowValves (s : State) (z : Nat) : s.lowValves.valve z = .low := rfl

/-- Each zone record after every zone record has been changed. -/
theorem State.zone_mapZones (s : State) (f : Nat → Zone → Zone) (z : Nat) :
    (s.mapZones f).zone z = if z < Config.zones then f z (s.zone z) else {} := Tab.read_mapAll _ _ _ _ _

/-- Each piece record after a maturity update (R53). -/
theorem State.piece_maturityUpdate (s : State) (n : Nat) :
    s.maturityUpdate.piece n = if n < Config.slots then s.updatedPiece (s.piece n) else {} := Tab.read_mapAll _ _ _ _ _

end Sys2Proof.Machine
end

