-- ==== Sys2Proof/Laws/Frames.lean ====
section
/-! SUPPORT. Laws/Frames.lean: what the shared operations of the condition, runway and move units can change, said once for
each: a later proof takes the records it needs unchanged from here and unfolds none of them. -/

namespace Sys2Proof.Machine

/-- `t` differs from `s` at most in the three condition sets. -/
def State.setsOnly (s t : State) : Prop := ∃ a b c, t = { s with cnd := { s.cnd with pl := a, cw := b, ce := c } }

/-- `t` differs from `s` at most in the runway unit and the condition sets. -/
def State.runwayOnly (s t : State) : Prop :=
  ∃ r a b c, t = { s with rru := r, cnd := { s.cnd with pl := a, cw := b, ce := c } }

/-- `t` differs from `s` at most in the runway unit, the move unit and the condition sets. -/
def State.movesOnly (s t : State) : Prop :=
  ∃ r m a b c, t = { s with rru := r, mvu := m, cnd := { s.cnd with pl := a, cw := b, ce := c } }

/-- `t` differs from `s` at most in beds, pieces, stock, the runway unit, the move unit and the condition sets. -/
def State.reportOnly (s t : State) : Prop :=
  ∃ e p k r m a b c, t = { s with
    beds := e, pct := p, stk := k, rru := r, mvu := m, cnd := { s.cnd with pl := a, cw := b, ce := c } }

theorem State.setsOnly.refl (s : State) : s.setsOnly s := ⟨_, _, _, rfl⟩
theorem State.setsOnly.trans {s t u : State} (h : s.setsOnly t) (g : t.setsOnly u) : s.setsOnly u := by
  obtain ⟨_, _, _, rfl⟩ := h; obtain ⟨_, _, _, rfl⟩ := g; exact ⟨_, _, _, rfl⟩
theorem State.runwayOnly.refl (s : State) : s.runwayOnly s := ⟨_, _, _, _, rfl⟩
theorem State.runwayOnly.trans {s t u : State} (h : s.runwayOnly t) (g : t.runwayOnly u) : s.runwayOnly u := by
  obtain ⟨_, _, _, _, rfl⟩ := h; obtain ⟨_, _, _, _, rfl⟩ := g; exact ⟨_, _, _, _, rfl⟩
theorem State.movesOnly.refl (s : State) : s.movesOnly s := ⟨_, _, _, _, _, rfl⟩
theorem State.movesOnly.trans {s t u : State} (h : s.movesOnly t) (g : t.movesOnly u) : s.movesOnly u := by
  obtain ⟨_, _, _, _, _, rfl⟩ := h; obtain ⟨_, _, _, _, _, rfl⟩ := g; exact ⟨_, _, _, _, _, rfl⟩
theorem State.reportOnly.refl (s : State) : s.reportOnly s := ⟨_, _, _, _, _, _, _, _, rfl⟩
theorem State.reportOnly.trans {s t u : State} (h : s.reportOnly t) (g : t.reportOnly u) : s.reportOnly u := by
  obtain ⟨_, _, _, _, _, _, _, _, rfl⟩ := h; obtain ⟨_, _, _, _, _, _, _, _, rfl⟩ := g
  exact ⟨_, _, _, _, _, _, _, _, rfl⟩
theorem State.setsOnly.runway {s t : State} (h : s.setsOnly t) : s.runwayOnly t := by
  obtain ⟨_, _, _, rfl⟩ := h; exact ⟨_, _, _, _, rfl⟩
theorem State.runwayOnly.moves {s t : State} (h : s.runwayOnly t) : s.movesOnly t := by
  obtain ⟨_, _, _, _, rfl⟩ := h; exact ⟨_, _, _, _, _, rfl⟩
theorem State.movesOnly.report {s t : State} (h : s.movesOnly t) : s.reportOnly t := by
  obtain ⟨_, _, _, _, _, rfl⟩ := h; exact ⟨_, _, _, _, _, _, _, _, rfl⟩

/-- A fold keeps what each of its steps keeps. -/
theorem foldl_keeps {α : Type} {R : State → State → Prop} (refl : ∀ s, R s s) (trans : ∀ {s t u}, R s t → R t u → R s u)
    {f : State → α → State} (h : ∀ s a, R s (f s a)) (l : List α) (s : State) : R s (l.foldl f s) := by
  induction l generalizing s with
  | nil => exact refl s
  | cons a l ih => exact trans (h s a) (ih _)

/-! ## Postings -/

theorem State.setCondSet_only (s : State) (p : Point) (r : CondSet) : s.setsOnly (s.setCondSet p r) := by
  cases p <;> exact ⟨_, _, _, rfl⟩
theorem State.postAt_only (s : State) (p : Point) (k : CondKind) (x : Subject) (st : CondStatus) (r : Bool) :
    s.setsOnly (s.postAt p k x st r) := s.setCondSet_only _ _
theorem State.postEvent_only (s : State) (p : Point) (k : CondKind) (x : Subject) : s.setsOnly (s.postEvent p k x) :=
  s.postAt_only _ _ _ _ _
theorem State.postStanding_only (s : State) (p : Point) (k : CondKind) (x : Subject) :
    s.setsOnly (s.postStanding p k x) := by
  unfold State.postStanding
  split
  · exact .refl s
  · exact s.postAt_only _ _ _ _ _
  · exact .refl s
  · exact s.postAt_only _ _ _ _ _
theorem State.raiseCause_only (s : State) (l : List Point) (k : CondKind) (x : Subject) :
    s.setsOnly (s.raiseCause l k x) :=
  foldl_keeps State.setsOnly.refl State.setsOnly.trans (fun t p => t.postStanding_only p k x) l s
theorem State.postCleared_only (s : State) (p : Point) (k : CondKind) (x : Subject) :
    s.setsOnly (s.postCleared p k x) := by
  unfold State.postCleared
  split
  · exact s.postAt_only _ _ _ _ _
  all_goals exact .refl s
theorem State.endCause_only (s : State) (l : List Point) (k : CondKind) (x : Subject) : s.setsOnly (s.endCause l k x) :=
  State.setsOnly.trans ⟨_, _, _, rfl⟩
    (foldl_keeps State.setsOnly.refl State.setsOnly.trans (fun t p => t.postCleared_only p k x) l _)

/-! ## The runway unit -/

theorem State.setCrane_only (s : State) (x : Crane) (r : CraneRec) : s.runwayOnly (s.setCrane x r) := by
  cases x <;> exact ⟨_, _, _, _, rfl⟩
theorem State.setVacate_only (s : State) (n : Nat) (r : Option Vacate) : s.runwayOnly (s.setVacate n r) :=
  ⟨_, _, _, _, rfl⟩
theorem State.giveBack_only (s : State) (x : Crane) (a b : Range) : s.runwayOnly (s.giveBack x a b) := by
  refine foldl_keeps State.runwayOnly.refl State.runwayOnly.trans (fun t n => ?_) _ s
  unfold State.startVacate
  split
  · exact t.setVacate_only _ _
  · exact .refl t
theorem State.setInterval_only (s : State) (x : Crane) (r : Range) : s.runwayOnly (s.setInterval x r) :=
  s.setCrane_only _ _
theorem State.shrinkTo_only (s : State) (x : Crane) (r : Range) : s.runwayOnly (s.shrinkTo x r) := by
  unfold State.shrinkTo
  split
  · split
    · exact (s.giveBack_only _ _ _).trans (State.setInterval_only _ _ _)
    · exact .refl s
  · exact .refl s
theorem State.endDeadlock_only (s : State) : s.runwayOnly s.endDeadlock := by
  unfold State.endDeadlock
  split
  · exact State.runwayOnly.trans ⟨_, _, _, _, rfl⟩ (State.endCause_only _ _ _ _).runway
  · exact .refl s
theorem State.endDeadlockOf_only (s : State) (n : Nat) : s.runwayOnly (s.endDeadlockOf n) := by
  unfold State.endDeadlockOf
  split
  · exact s.endDeadlock_only
  · exact .refl s
theorem State.postDeadlock_only (s : State) (a : Nat) (b : Option Nat) : s.runwayOnly (s.postDeadlock a b) := by
  unfold State.postDeadlock
  split
  · exact .refl s
  · exact s.endDeadlock_only.trans (State.runwayOnly.trans ⟨_, _, _, _, rfl⟩ (State.raiseCause_only _ _ _ _).runway)
theorem State.withdraw_only (s : State) (x : Crane) : s.runwayOnly (s.withdraw x) := by
  unfold State.withdraw
  split
  · exact (s.setCrane_only _ _).trans (State.endDeadlockOf_only _ _)
  · exact .refl s
theorem State.withdrawOf_only (s : State) (x : Crane) (n : Nat) : s.runwayOnly (s.withdrawOf x n) := by
  unfold State.withdrawOf
  split
  · exact s.withdraw_only x
  · exact .refl s
theorem State.withdrawOther_only (s : State) (x : Crane) (n : Nat) : s.runwayOnly (s.withdrawOther x n) := by
  unfold State.withdrawOther
  split
  · split
    · exact .refl s
    · exact s.withdraw_only x
  · exact .refl s
theorem State.setRefusal_only (s : State) (x : Crane) (r : Refused) : s.runwayOnly (s.setRefusal x r) :=
  (s.withdrawOther_only _ _).trans (State.setCrane_only _ _ _)
theorem State.grantInterval_only (s : State) (x : Crane) (n : Nat) (r : Range) :
    s.runwayOnly (s.grantInterval x n r) := by
  refine State.runwayOnly.trans (foldl_keeps State.runwayOnly.refl State.runwayOnly.trans (fun t k => ?_) _ s)
    ((State.setCrane_only _ _ _).trans (State.endDeadlockOf_only _ _))
  unfold State.takeBack
  split
  · exact t.setVacate_only _ _
  · exact .refl t
theorem State.seen_only (s : State) (x : Crane) (n : Nat) (k : Hook) : s.runwayOnly (s.seen x n k) := by
  unfold State.seen
  dsimp only
  split
  · exact s.setCrane_only _ _
  · exact s.setCrane_only _ _
  · exact s.setCrane_only _ _
  · exact (s.setCrane_only _ _).trans (State.endCause_only _ _ _ _).runway
theorem State.firstInterval_only (s : State) (x : Crane) (n : Nat) : s.runwayOnly (s.firstInterval x n) := by
  unfold State.firstInterval
  split
  · exact s.setInterval_only _ _
  · exact .refl s
theorem State.breached_only (s : State) (x : Crane) : s.runwayOnly (s.breached x) := by
  unfold State.breached
  dsimp only
  split
  · exact ⟨_, _, _, _, rfl⟩
  · exact State.runwayOnly.trans ⟨_, _, _, _, rfl⟩ (State.raiseCause_only _ _ _ _).runway
theorem State.breachTest_only (s : State) (x : Crane) (n : Nat) : s.runwayOnly (s.breachTest x n) := by
  unfold State.breachTest
  split
  · exact s.setCrane_only _ _
  · split
    · exact .refl s
    · exact (s.setCrane_only _ _).trans (State.breached_only _ _)
/-- Steps 2 to 5 of R121 change the runway unit and the condition sets alone. -/
theorem State.runwayReport_only (s : State) (x : Crane) (n : Nat) (k : Hook) : s.runwayOnly (s.runwayReport x n k) :=
  ((s.seen_only x n k).trans (State.firstInterval_only _ _ _)).trans (State.breachTest_only _ _ _)
theorem State.goOut_only (s : State) (x : Crane) (n : Nat) : s.runwayOnly (s.goOut x n) :=
  (s.shrinkTo_only _ _).trans (State.setCrane_only _ _ _)
theorem State.tickPresence_only (s : State) (x : Crane) : s.runwayOnly (s.tickPresence x) := by
  unfold State.tickPresence
  dsimp only
  split
  · split
    · split
      · exact (s.setCrane_only _ _).trans (State.raiseCause_only _ _ _ _).runway
      · exact s.setCrane_only _ _
    · exact .refl s
  · exact .refl s
/-- The runway unit's second tick changes the runway unit and the condition sets alone. -/
theorem State.runwayTick_only (s : State) : s.runwayOnly s.runwayTick :=
  ((s.tickPresence_only _).trans (State.tickPresence_only _ _)).trans ⟨_, _, _, _, rfl⟩

/-! ## The move unit -/

theorem State.setMove_only (s : State) (i : Nat) (m : Option Move) : s.movesOnly (s.setMove i m) := ⟨_, _, _, _, _, rfl⟩
theorem State.setWork_only (s : State) (x : Crane) (w : CraneWork) : s.movesOnly (s.setWork x w) := by
  cases x <;> exact ⟨_, _, _, _, _, rfl⟩
theorem State.setAside_only (s : State) (i : Nat) (m : Move) (st : MoveState) (w : Option WaitReason) :
    s.movesOnly (s.setAside i m st w) := (s.setMove_only _ _).trans (State.withdrawOf_only _ _ _).moves
theorem State.laneOn_only (s : State) (x : Crane) : s.movesOnly (s.laneOn x) :=
  (s.setWork_only _ _).trans (State.postEvent_only _ _ _ _).runway.moves
theorem State.laneSettle_only (s : State) (x : Crane) : s.movesOnly (s.laneSettle x) := by
  unfold State.laneSettle
  split
  · exact s.laneOn_only x
  · exact .refl s
theorem State.resumeSlot_only (x : Crane) (s : State) (i : Nat) : s.movesOnly (State.resumeSlot x s i) := by
  unfold State.resumeSlot
  split
  · split
    · exact s.setMove_only _ _
    · exact .refl s
  · exact .refl s
theorem State.resume_only (s : State) (x : Crane) : s.movesOnly (s.resume x) :=
  foldl_keeps State.movesOnly.refl State.movesOnly.trans (State.resumeSlot_only x) _ s
theorem State.postEnd_only (s : State) (n : Nat) (e : Ending) (f : Bool) : s.setsOnly (s.postEnd n e f) := by
  unfold State.postEnd
  split
  · exact s.postEvent_only _ _ _
  · exact s.postEvent_only _ _ _
  · split
    · exact s.postEvent_only _ _ _
    · exact .refl s
theorem State.dropHull_only (s : State) (m : Move) : s.runwayOnly (s.dropHull m) := by
  unfold State.dropHull
  split
  · exact s.setCrane_only _ _
  · exact .refl s
theorem State.suspendMove_only (s : State) (i : Nat) : s.movesOnly (s.suspendMove i) := by
  unfold State.suspendMove
  split
  · split
    · exact s.setAside_only _ _ _ _
    · split
      · exact (s.setMove_only _ _).trans (State.withdrawOf_only _ _ _).moves
      · exact .refl s
  · exact .refl s
theorem State.createYield_only (s : State) (x : Crane) (n : Nat) : s.movesOnly (s.createYield x n) :=
  ⟨_, _, _, _, _, rfl⟩
theorem State.callYield_only (s : State) (x : Crane) (n : Nat) (i : Option Nat) : s.movesOnly (s.callYield x n i) := by
  unfold State.callYield
  split
  · exact (s.suspendMove_only _).trans (State.createYield_only _ _ _)
  · exact s.createYield_only _ _
theorem State.mutualWait_only (s : State) (x : Crane) (n : Nat) (r : Range) : s.movesOnly (s.mutualWait x n r) := by
  unfold State.mutualWait
  dsimp only
  repeat' split
  all_goals first
    | exact .refl s
    | exact s.callYield_only _ _ _
    | exact (s.postDeadlock_only _ _).moves
/-- What a refusal calls for changes the runway and move units and the condition sets alone. -/
theorem State.resolveRefusal_only (s : State) (x : Crane) (m : Move) (w : WaitReason) (r : Range) :
    s.movesOnly (s.resolveRefusal x m w r) := by
  unfold State.resolveRefusal
  repeat' split
  all_goals first
    | exact .refl s
    | exact s.callYield_only _ _ _
    | exact (s.postDeadlock_only _ _).moves
    | exact s.mutualWait_only _ _ _
/-- A grant asked for changes the runway and move units and the condition sets alone. -/
theorem State.askLeg_only (s : State) (x : Crane) (i : Nat) (m : Move) (l : Leg) : s.movesOnly (s.askLeg x i m l) := by
  unfold State.askLeg
  split
  · exact (s.setMove_only _ _).trans (State.withdrawOther_only _ _ _).moves
  · split
    · exact (s.setMove_only _ _).trans (State.grantInterval_only _ _ _ _).moves
    · dsimp only
      split
      · exact ((s.setMove_only _ _).trans (State.setRefusal_only _ _ _).moves).trans (State.resolveRefusal_only _ _ _ _ _)
      · exact (s.setMove_only _ _).trans (State.setRefusal_only _ _ _).moves
/-- The examination of a queue changes the runway and move units and the condition sets alone. -/
theorem State.examine_only (x : Crane) (q : List Entry) : ∀ (b : Bool) (f : Option Nat) (s : State),
    s.movesOnly (State.examine x q b f s).1 := by
  induction q with
  | nil => intro b f s; exact .refl s
  | cons e q ih =>
    intro b f s
    cases e with
    | barrier => exact ih _ _ s
    | move i =>
      unfold State.examine
      split
      · exact ih _ _ s
      · split
        · split
          · exact (s.setAside_only _ _ _ _).trans (ih _ _ _)
          · exact ih _ _ s
        · split
          · exact ih _ _ s
          · split
            · exact (s.setAside_only _ _ _ _).trans (ih _ _ _)
            · split
              · exact (s.setAside_only _ _ _ _).trans (ih _ _ _)
              · exact ih _ _ s
theorem State.findWork_only (s : State) (x : Crane) : s.movesOnly (s.findWork x).1 := by
  unfold State.findWork
  split
  · exact .refl s
  · split
    · exact .refl s
    · exact State.examine_only _ _ _ _ _
theorem State.lift_only (s : State) (x : Crane) (i : Nat) (m : Move) (p : SubPhase) : s.movesOnly (s.lift x i m p) :=
  (s.setMove_only _ _).trans (State.setCrane_only _ _ _).moves
theorem State.resumeIfFree_only (s : State) (x : Crane) (l : List Nat) : s.movesOnly (s.resumeIfFree x l) := by
  unfold State.resumeIfFree
  split
  · exact .refl s
  · exact foldl_keeps State.movesOnly.refl State.movesOnly.trans (State.resumeSlot_only x) _ s
/-- Step 4 of R152 changes the runway and move units and the condition sets alone. -/
theorem State.work4_only (s : State) (x : Crane) (b : Bool) (l : List Nat) : s.movesOnly (s.work4 x b l) := by
  have h := (s.resumeIfFree_only x l).trans (State.findWork_only _ x)
  unfold State.work4
  dsimp only
  repeat' split
  all_goals first
    | exact h
    | exact h.trans (State.askLeg_only _ _ _ _ _)
    | skip
  unfold State.setDownLift
  split
  · exact h.trans (State.lift_only _ _ _ _ _)
  · exact h
theorem State.composeOrder_only (s : State) (x : Crane) : s.movesOnly (s.composeOrder x).1 := by
  unfold State.composeOrder
  repeat' split
  all_goals first
    | exact .refl s
    | exact s.setMove_only _ _
theorem State.giveOrder_only (s : State) (x : Crane) (b : Bool) : s.movesOnly (s.giveOrder x b).1 :=
  (s.composeOrder_only x).trans (State.setWork_only _ _ _)
theorem State.compareHook_only (s : State) (x : Crane) (k : Hook) : s.movesOnly (s.compareHook x k) := by
  unfold State.compareHook
  repeat' split
  all_goals first
    | exact .refl s
    | exact (s.setWork_only _ _).trans (State.endCause_only _ _ _ _).runway.moves
    | exact (s.setWork_only _ _).trans (State.raiseCause_only _ _ _ _).runway.moves

/-! ## Ends and reports -/

theorem State.setPiece_only (s : State) (n : Nat) (p : Piece) : s.reportOnly (s.setPiece n p) :=
  ⟨_, _, _, _, _, _, _, _, rfl⟩
theorem State.releaseMove_only (s : State) (m : Move) (e : Ending) : s.reportOnly (s.releaseMove m e) := by
  have d : ∀ (t : State) (n : Nat) (x : Dest), t.reportOnly (t.releaseDest n x) := by
    intro t n x; cases x <;> exact ⟨_, _, _, _, _, _, _, _, rfl⟩
  have u : ∀ (t : State) (x : Option Source), t.reportOnly (t.releaseSource x) := by
    intro t x; unfold State.releaseSource; split <;> exact ⟨_, _, _, _, _, _, _, _, rfl⟩
  unfold State.releaseMove
  repeat' split
  · exact s.setPiece_only _ _
  · exact ((d s _ _).trans (u _ _)).trans (State.setPiece_only _ _ _)
  · exact ((d s _ _).trans (u _ _)).trans (State.setPiece_only _ _ _)
  · exact .refl s
/-- The end of a move changes pieces, stock, the runway and move units and the condition sets alone. -/
theorem State.endMove_only (s : State) (i : Nat) (e : Ending) (f : Bool) : s.reportOnly (s.endMove i e f) := by
  unfold State.endMove
  split
  · exact .refl s
  · rename_i m _
    have h : ∀ t : State, t.movesOnly (((t.withdrawOf m.crane m.serial).dropHull m).laneSettle m.crane) := fun t =>
      ((t.withdrawOf_only _ _).moves.trans (State.dropHull_only _ _).moves).trans (State.laneSettle_only _ _)
    have g : s.reportOnly (((s.releaseMove m e).setMove i none)) :=
      (s.releaseMove_only m e).trans (State.setMove_only _ _ _).report
    dsimp only
    split
    · exact (g.trans ((((State.setWork_only _ _ _).trans (h _)).trans (State.resume_only _ _)).trans
        (State.postEnd_only _ _ _ _).runway.moves).report)
    · exact (g.trans (((State.setWork_only _ _ _).trans (h _)).trans (State.postEnd_only _ _ _ _).runway.moves).report)
theorem State.craneOut_only (s : State) (x : Crane) : s.reportOnly (s.craneOut x) := by
  have h := s.endMove_only (yieldSlot x) .cancelled true
  unfold State.craneOut
  dsimp only
  repeat' split
  all_goals first
    | exact h
    | exact h.trans (State.setMove_only _ _ _).report
    | skip
  unfold State.outToPick
  repeat' split
  all_goals first
    | exact h.trans (State.endMove_only _ _ _ _)
    | exact h.trans ((State.setMove_only _ _ _).trans (State.laneSettle_only _ _)).report
theorem State.toHook_only (s : State) (x : Crane) (n : Nat) : s.reportOnly (s.toHook x n) := s.setPiece_only _ _
theorem State.hookPiece_only (s : State) (x : Crane) (m : Move) : s.reportOnly (s.hookPiece x m) := by
  unfold State.hookPiece
  split <;> exact ⟨_, _, _, _, _, _, _, _, rfl⟩
theorem State.putDown_only (s : State) (m : Move) : s.reportOnly (s.putDown m) := by
  unfold State.putDown
  split <;> exact ⟨_, _, _, _, _, _, _, _, rfl⟩
theorem State.clearOrphan_only (s : State) (x : Crane) (m : Move) : s.movesOnly (s.clearOrphan x m) := by
  unfold State.clearOrphan
  split
  · exact s.setWork_only _ _
  · exact .refl s
/-- An event taken or refused changes beds, pieces, stock, the runway and move units and the condition sets alone. -/
theorem State.takeEvent_only (s : State) (x : Crane) (n e : Nat) : s.reportOnly (s.takeEvent x n e).1 := by
  have r : s.reportOnly (s.refuseEvent x).1 := (s.postEvent_only .PL .eventMismatch (.crane x)).runway.moves.report
  have p : ∀ i m, s.reportOnly (s.takePicked x i m n) := by
    intro i m
    unfold State.takePicked
    split <;> exact ((s.hookPiece_only x m).trans (State.lift_only _ _ _ _ _).report).trans
      (State.shrinkTo_only _ _ _).moves.report
  have q : ∀ i m, s.reportOnly (s.takePlaced x i m n) := fun i m =>
    (((s.putDown_only m).trans (State.clearOrphan_only _ _ _).report).trans (State.shrinkTo_only _ _ _).moves.report).trans
      (State.endMove_only _ _ _ _)
  have a : ∀ i, s.reportOnly (s.takeArrived x i n) := fun i =>
    (s.shrinkTo_only _ _).moves.report.trans (State.endMove_only _ _ _ _)
  unfold State.takeEvent
  split <;> (try split)
  all_goals first
    | exact .refl s
    | exact r
    | exact a _
    | exact p _ _
    | exact q _ _
    | exact s.endMove_only _ _ _
    | exact (s.goOut_only x n).moves.report.trans (State.craneOut_only _ _)
    | exact (s.setCrane_only _ _).moves.report
theorem State.completeStop_only (s : State) (x : Crane) (n : Nat) (b : Bool) : s.reportOnly (s.completeStop x n b) := by
  have h : ∀ t : State, t.runwayOnly (t.shrinkInside x n b) := by
    intro t
    unfold State.shrinkInside
    split
    · exact t.shrinkTo_only _ _
    · exact .refl t
  unfold State.completeStop
  repeat' split
  all_goals first
    | exact .refl s
    | exact (s.endMove_only _ _ _).trans (h _).moves.report
    | exact (((s.setMove_only _ _).trans (State.laneSettle_only _ _)).trans (h _).moves).report
/-- A CRANE-REPORT changes beds, pieces, stock, the runway and move units and the condition sets alone: the layout, the clock, the
converter, the zones, the steam header, the valve lines, the link and the queue stand. -/
theorem State.takeReport_only (s : State) (x : Crane) (n k e : Nat) : s.reportOnly (s.takeReport x n k e).1 := by
  unfold State.takeReport
  split
  · exact .refl s
  · exact ((((((s.runwayReport_only x n (hookOf k)).moves.report.trans (State.takeEvent_only _ _ _ _)).trans
      (State.compareHook_only _ _ _).report).trans (State.completeStop_only _ _ _ _)).trans
      (State.work4_only _ _ _ _).report).trans (State.giveOrder_only _ _ _).report)

/-! ## The planner's moves -/

/-- A MOVE-CANCEL changes pieces, stock, the runway and move units and the condition sets alone. -/
theorem State.cancelMove_only (s : State) (n : Nat) : s.reportOnly (s.cancelMove n).1 := by
  unfold State.cancelMove
  repeat' split
  all_goals first
    | exact .refl s
    | exact (s.setMove_only _ _).report
    | exact s.endMove_only _ _ _
/-- A MOVE-SUBMIT changes pieces, stock, the runway and move units and the condition sets alone. -/
theorem State.submitMove_only (s : State) (f : MoveFields) : s.reportOnly (s.submitMove f).1 := by
  have v : ∀ (t : State) (m : Move), t.reportOnly (t.reserveMove m) := by
    intro t m
    unfold State.reserveMove
    split
    · unfold State.reserveSource State.reserveDest
      split <;> split <;> exact ⟨_, _, _, _, _, _, _, _, rfl⟩
    · exact .refl t
  have q : ∀ (t : State) (m : Move) (i : Nat), t.movesOnly (t.enqueue m i) := by
    intro t m i
    unfold State.enqueue
    split
    · refine State.movesOnly.trans ?_ (State.setWork_only _ _ _)
      unfold State.passOver
      repeat' split
      all_goals first
        | exact .refl t
        | exact t.setAside_only _ _ _ _
    · exact t.setWork_only _ _
  unfold State.submitMove
  dsimp only
  repeat' split
  all_goals first
    | exact .refl s
    | exact (State.reportOnly.trans ⟨_, _, _, _, _, _, _, _, rfl⟩ (v _ _)).trans (q _ _ _).report
/-- A DECLARE-OUT changes pieces, stock, the runway and move units and the condition sets alone. -/
theorem State.declareOut_only (s : State) (n : Nat) (x : Crane) : s.reportOnly (State.declareOut n x s).1 := by
  have h : s.reportOnly (s.declareAt x n) := by
    have g : s.runwayOnly (((s.shrinkTo x (Range.point n)).setInterval x (Range.point n))) :=
      (s.shrinkTo_only _ _).trans (State.setInterval_only _ _ _)
    unfold State.declareAt
    dsimp only
    split
    · exact ((g.trans (State.setCrane_only _ _ _)).trans (State.endCause_only _ _ _ _).runway).moves.report.trans
        (State.craneOut_only _ _)
    · exact (g.trans (State.setCrane_only _ _ _)).moves.report.trans (State.craneOut_only _ _)
  unfold State.declareOut
  repeat' split
  all_goals first
    | exact .refl s
    | exact h

end Sys2Proof.Machine
end

