-- ==== Sys2Proof/Laws/Operands.lean ====
section
/-! SUPPORT. Laws/Operands.lean: each body that a master writes is read back as the fields it was written with. -/

namespace Sys2Proof.Machine

/-! ## Fields -/

@[simp] theorem word2_two (n : Nat) : word2 (n / 256) (n % 256) = n := by unfold word2; omega

@[simp] theorem word4_four (n : Nat) :
    word4 (n / 16777216) (n / 65536 % 256) (n / 256 % 256) (n % 256) = n := by unfold word4; omega

/-- A signed field of two bytes holds every value from −32,768 to 32,767. -/
theorem signed2_two (t : Int) (lo : -32768 ≤ t) (hi : t ≤ 32767) :
    signed2 ((t % 65536).toNat / 256) ((t % 65536).toNat % 256) = t := by
  unfold signed2
  rw [word2_two]
  split <;> omega

@[simp] theorem areaOf_code (a : Area) : areaOf (areaCode a) = some a := by cases a <;> rfl
@[simp] theorem senseOf_code (v : Sense) : senseOf (senseCode v) = some v := by cases v <;> rfl
@[simp] theorem craneCoded_code (x : Crane) : craneCoded (craneCode x) = some x := by cases x <;> rfl
@[simp] theorem pointOf_code (p : Point) : pointOf (pointCode p) = some p := by cases p <;> rfl
@[simp] theorem condKindOf_code (k : CondKind) : condKindOf (condKindCode k) = some k := by cases k <;> rfl
@[simp] theorem modeCoded_code (m : ReportMode) : modeCoded (modeCode m) = some m := by cases m <;> rfl
@[simp] theorem yesOf_code (b : Bool) : yesOf (if b then 1 else 0) = some b := by cases b <;> rfl

/-- No code beyond W and E names a crane. -/
theorem craneCoded_none (n : Nat) (h : 2 ≤ n) : craneCoded n = none := by
  match n, h with
  | _ + 2, _ => rfl

/-- No code beyond PL, CW and CE names a port. -/
theorem pointOf_none (n : Nat) (h : 3 ≤ n) : pointOf n = none := by
  match n, h with
  | _ + 3, _ => rfl

/-- No code beyond the sixteen kinds names a condition kind. -/
theorem condKindOf_none (n : Nat) (h : 16 ≤ n) : condKindOf n = none := by
  match n, h with
  | _ + 16, _ => rfl

/-- No code beyond the four modes names a report mode. -/
theorem modeCoded_none (n : Nat) (h : 4 ≤ n) : modeCoded n = none := by
  match n, h with
  | _ + 4, _ => rfl

theorem optByte_some (n : Nat) (h : n ≠ 255) : optByte n = some n := by simp [optByte, h]
theorem optByte_getD (n : Option Nat) (h : n ≠ some 255) : optByte (n.getD 255) = n := by
  cases n with
  | none => rfl
  | some v => exact optByte_some v (fun e => h (e ▸ rfl))

theorem optRange_some (r : Range) (h : r.lo ≠ 255) : optRange r.lo r.hi = some r := by simp [optRange, h]

/-- A mark of at most twelve characters is read back from its length and its places. -/
theorem markOf_written (m : List Nat) (n : Nat) (h : m.length ≤ 12) :
    markOf m.length (m ++ List.replicate n 0x20) = m := by simp [markOf, h]

@[simp] theorem markWritten_length (m : List Nat) : (markWritten m).length = 1 + (m.length + (12 - m.length)) := by
  simp [markWritten]; omega

/-! ## Bodies -/

@[simp] theorem fieldWord4_written (f : Nat → State → Answer) (n : Nat) (s : State) : fieldWord4 f (four n) s = f n s := by
  simp [fieldWord4, fields4, four]

@[simp] theorem fieldCrane_written (f : Crane → State → Answer) (x : Crane) (s : State) :
    fieldCrane f [craneCode x] s = f x s := by
  simp [fieldCrane, fields1]

@[simp] theorem moveBody_written (f : MoveFields → State → Answer) (m : MoveFields) (s : State) :
    moveBody f (moveWritten m) s = f m s := rfl

@[simp] theorem moveWritten_length (m : MoveFields) : (moveWritten m).length = 9 := rfl

theorem yardBody_written (f : Yard → State → Answer) (y : Yard) (s : State) (d0 : -32768 ≤ y.datum) (d1 : y.datum ≤ 32767)
    (c0 : -32768 ≤ y.cap) (c1 : y.cap ≤ 32767) : yardBody f (yardWritten y) s = f y s := by
  simp [yardWritten, twoSigned, two, yardBody, signed2_two, d0, d1, c0, c1]

theorem profileBody_written (f : Nat → Profile → State → Answer) (n : Nat) (p : Profile) (s : State)
    (f0 : 0 ≤ p.frostFloor) (f1 : p.frostFloor ≤ 32767) (h0 : 0 ≤ p.holdTemp) (h1 : p.holdTemp ≤ 32767)
    (r0 : 0 ≤ p.releaseDelta) (r1 : p.releaseDelta ≤ 32767) (a : 0 ≤ p.rampRate) (b : 0 ≤ p.holdBias) (c : 0 ≤ p.gain)
    (d : 0 ≤ p.coolRate) : profileBody f (profileWritten n p) s = f n p s := by
  have e1 := signed2_two p.frostFloor (by omega) f1
  have e2 := signed2_two p.holdTemp (by omega) h1
  have e3 := signed2_two p.releaseDelta (by omega) r1
  simp [profileWritten, twoSigned, two, profileBody, e1, e2, e3, a, b, c, d]

/-- The length of a piece description as it is written: that of the entries of a PLAN-LOAD (log entry 5). -/
theorem pieceWritten_length (p : PieceSpec) (h : p.mark.length ≤ 12) : (pieceWritten p).length = planEntry := by
  simp [pieceWritten, two, planEntry]; omega

theorem pieceOf_written (p : PieceSpec) (h : p.mark.length ≤ 12) : pieceOf (pieceWritten p) = p := by
  have e : (p.mark ++ List.replicate (12 - p.mark.length) 0x20).length = 12 := by simp; omega
  unfold pieceWritten markWritten pieceOf
  simp only [List.cons_append, List.append_assoc]
  rw [← List.append_assoc p.mark, List.drop_append_of_le_length (by omega), List.drop_eq_nil_of_le (by omega),
    List.take_append_of_le_length (by omega), List.take_of_length_le (by omega)]
  simp [two, markOf_written _ _ h]

theorem runs_written (pieces : List PieceSpec) (h : ∀ p ∈ pieces, p.mark.length ≤ 12) (fuel : Nat)
    (hf : pieces.length ≤ fuel) : runs planEntry fuel (pieces.flatMap pieceWritten) = pieces.map pieceWritten := by
  induction pieces generalizing fuel with
  | nil => cases fuel <;> rfl
  | cons p rest ih =>
    cases fuel with
    | zero => simp at hf
    | succ n =>
      have e := pieceWritten_length p (h p (by simp))
      have ne : (pieceWritten p ++ rest.flatMap pieceWritten).isEmpty = false := by
        cases hp : pieceWritten p with
        | nil => simp [hp, planEntry] at e
        | cons _ _ => rfl
      simp only [List.flatMap_cons, runs, ne, Bool.false_eq_true, if_false, List.map_cons]
      rw [List.take_append_of_le_length (by omega), List.take_of_length_le (by omega),
        List.drop_append_of_le_length (by omega), List.drop_eq_nil_of_le (by omega), List.nil_append,
        ih (fun q hq => h q (by simp [hq])) n (by simp at hf; omega)]

/-- The length of a PLAN-LOAD's body (section 2.3, log entry 5). -/
theorem planWritten_length (b pour profile : Nat) (pieces : List PieceSpec) (h : ∀ p ∈ pieces, p.mark.length ≤ 12) :
    (planWritten b pour profile pieces).length = planFixed + planEntry * pieces.length := by
  have e : (pieces.flatMap pieceWritten).length = planEntry * pieces.length := by
    induction pieces with
    | nil => rfl
    | cons p rest ih =>
      simp only [List.flatMap_cons, List.length_append, List.length_cons, pieceWritten_length p (h p (by simp)),
        ih (fun q hq => h q (by simp [hq]))]
      ring
  simp [planWritten, two, planFixed, e]
  ring

theorem planBody_written (f : Nat → Nat → Nat → List PieceSpec → State → Answer) (b pour profile : Nat)
    (pieces : List PieceSpec) (s : State) (h : ∀ p ∈ pieces, p.mark.length ≤ 12) :
    planBody f (planWritten b pour profile pieces) s = f b pour profile pieces s := by
  have g : ∀ l : List PieceSpec, l.length ≤ (l.flatMap pieceWritten).length := by
    intro l
    induction l with
    | nil => simp
    | cons p rest ih => simp [pieceWritten, two]; omega
  have e : (pieces.map pieceWritten).map pieceOf = pieces := by
    rw [List.map_map]
    exact (List.map_congr_left (fun p hp => pieceOf_written p (h p hp))).trans (List.map_id pieces)
  simp only [planWritten, two, List.cons_append, List.nil_append, planBody, word2_two]
  rw [runs_written pieces h _ (g pieces), e]

/-- A PLAN-LOAD of 1 to 16 pieces fits its kind (R169, step 2). -/
theorem bodyFits_plan (b pour profile : Nat) (pieces : List PieceSpec) (h : ∀ p ∈ pieces, p.mark.length ≤ 12)
    (lo : 1 ≤ pieces.length) (hi : pieces.length ≤ 16) :
    bodyFits .planLoad (planWritten b pour profile pieces).length = true := by
  rw [planWritten_length b pour profile pieces h]
  simp only [bodyFits, planFixed, planEntry]
  rw [Bool.and_eq_true, Bool.and_eq_true]
  exact ⟨⟨decide_eq_true (by omega), decide_eq_true (by omega)⟩, decide_eq_true (by omega)⟩

/-- The length of a PLACE-RECORD's body (log entry 5). -/
theorem placeWritten_length (c : Nat) (d : Desc) (acc : Nat) (m : Option Nat) (h : d.mark.length ≤ 12) :
    (placeWritten c d acc m).length = 32 := by
  simp [placeWritten, two, four, fourOr]; omega

theorem placeBody_written (f : Nat → Desc → Nat → Bool → Option Nat → State → Answer) (c : Nat) (d : Desc) (acc : Nat)
    (m : Option Nat) (s : State) (h : d.mark.length ≤ 12) :
    placeBody f (placeWritten c d acc m) s = f c d acc true m s := by
  have e : (d.mark ++ List.replicate (12 - d.mark.length) 0x20).length = 12 := by simp; omega
  unfold placeWritten markWritten placeBody
  simp only [List.cons_append, List.nil_append, List.append_assoc]
  rw [← List.append_assoc d.mark, List.drop_append_of_le_length (by omega), List.drop_eq_nil_of_le (by omega),
    List.take_append_of_le_length (by omega), List.take_of_length_le (by omega)]
  cases m <;> simp [two, four, fourOr, markOf_written _ _ h, presenceOk, optWord4]

@[simp] theorem ackBody_written (f : Nat → Nat → Nat → State → Answer) (k : CondKind) (subj : Subject) (s : State) :
    ackBody f (ackWritten k subj) s =
      f (condKindCode k) (if (subjectValue subj).isSome then 1 else 0) ((subjectValue subj).getD 0) s := by
  simp [ackWritten, fourOr, four, ackBody]

/-- A subject of its kind's sort is read back. -/
theorem subjectOf_written (k : CondKind) (subj : Subject) (h : subjectFits k subj = true) :
    subjectOf k (if (subjectValue subj).isSome then 1 else 0) ((subjectValue subj).getD 0) = some subj := by
  cases subj <;> cases k <;> simp_all [subjectFits, subjectValue, subjectOf]

end Sys2Proof.Machine
end

