-- ==== Sys2Proof/Laws/Requests.lean ====
section
/-! SUPPORT. Laws/Requests.lean: what the shared operation `State.request` does, case by case; a meaning of a request is one
of these with an owner of its own. -/

namespace Sys2Proof.Machine

/-- Every request command is the one shared operation, with an owner of its own: what holds of `State.request` for every owner
holds of every request. -/
theorem exec_requestCommand (h : Header) (k : Kind) (body : List Nat) :
    ∃ owner : List Nat → State → Answer, ∀ s, exec (requestCommand h k body) s = .next (s.request h k body owner) := by
  cases k <;> exact ⟨_, fun _ => rfl⟩

/-- A record of any other block stands while a request is taken in hand. -/
@[simp] theorem State.toHandling_lyt (s : State) (p : Port) (q : Nat) (k : Kind) : (s.toHandling p q k).lyt = s.lyt := by
  simp [State.toHandling]

/-- The mode stands while a request is taken in hand. -/
@[simp] theorem State.toHandling_run (s : State) (p : Port) (q : Nat) (k : Kind) : (s.toHandling p q k).run = s.run := by
  simp [State.run]

/-- An awaited request on PL, CW or CE is taken in hand, and its body is the message. -/
theorem State.receive_awaited (s : State) (h : Header) (k : Kind) (body : List Nat) (a : s.awaits h.port) :
    s.receive h k body = (s.toHandling h.port h.seq k, some body) := by
  obtain ⟨port, seq⟩ := h
  obtain ⟨_, hne, hr⟩ := a
  cases port <;> simp_all [State.receive]

/-- A panel's request in its answer window is taken in hand, and is its answer. -/
theorem State.receive_panel (s : State) (h : Header) (k : Kind) (body : List Nat) (b : Nat) (a : s.answering h b) :
    s.receive h k body = ((s.heard b).toHandling .BL h.seq k, some body) := by
  obtain ⟨port, seq⟩ := h
  obtain ⟨hp, _, hw, hb⟩ := a
  simp only at hp
  subst hp
  cases hq : s.lnk.poll with
  | none => simp [hq] at hb
  | some p =>
    simp [hq] at hb
    subst hb
    simp [State.receive, hq, hw, State.heard]

/-- A request in hand, answered: the port's record, and nothing else. -/
theorem State.handled_answered (s : State) (h : Header) (k : Kind) (r : Reply) :
    (s.toHandling h.port h.seq k).sendReply h.port r = s.answered h k r := by
  obtain ⟨port, seq⟩ := h
  cases port <;> rfl

/-- The address character of a reply is what a statement says it is (section 10.1). -/
theorem State.replyAddress_eq (s : State) (p : Port) : s.replyAddress p = s.addressBefore p := by cases p <;> rfl

/-- A held part receives nothing (R14). -/
theorem State.request_held (s : State) (h : Header) (k : Kind) (body : List Nat) (owner : List Nat → State → Answer)
    (a : s.held = true) : s.request h k body owner = s := by simp [State.request, a]

/-- An awaited request that the link answers itself. -/
theorem State.request_linked (s : State) (h : Header) (k : Kind) (body : List Nat) (owner : List Nat → State → Answer)
    (r : Reply) (a : s.awaits h.port) (l : linkAnswer s.run h.port k body.length = some r) :
    s.request h k body owner = s.answered h k r := by
  rw [State.request, State.receive_awaited s h k body a, if_neg (by simp [a.1])]
  simp only [State.toHandling_run, l, State.handled_answered]

/-- An awaited request that reaches its owning block. -/
theorem State.request_taken (s : State) (h : Header) (k : Kind) (body : List Nat) (owner : List Nat → State → Answer)
    (a : s.awaits h.port) (l : linkAnswer s.run h.port k body.length = none) :
    s.request h k body owner = (owner body (s.toHandling h.port h.seq k)).1.sendReply h.port
      (owner body (s.toHandling h.port h.seq k)).2 := by
  rw [State.request, State.receive_awaited s h k body a, if_neg (by simp [a.1])]
  simp only [State.toHandling_run, l]

/-- A kind that is permitted, admitted in the mode, and whose body fits, is handed to its owning block. -/
theorem linkAnswer_none {run : Bool} {p : Port} {k : Kind} {n : Nat} (hu : ∀ c, k ≠ .unknown c)
    (hp : permitted k p = true) (hr : run = false → admittedInConfig k = true) (hl : run = true → lockedInRun k = false)
    (hf : bodyFits k n = true) : linkAnswer run p k n = none := by
  cases k <;> cases run <;> simp_all [linkAnswer]

/-- The mode stands while a panel's answer is taken. -/
theorem State.heard_run (s : State) (b : Nat) : (s.heard b).run = s.run := by
  have : (s.heard b).lyt = s.lyt := by
    simp only [State.heard, State.panelAnswered]
    split
    · simp [State.endCause, State.postCleared, State.unflagPanelLost, List.foldl]
      split <;> simp [State.postAt, State.closeWindow]
    · simp [State.closeWindow]
  simp [State.run, this]

/-- The last poll sent stands while a panel's answer is taken. -/
theorem State.heard_poll (s : State) (b : Nat) : (s.heard b).lnk.poll = s.lnk.poll := by
  simp only [State.heard, State.panelAnswered]
  split
  · simp [State.endCause, State.postCleared, State.unflagPanelLost, List.foldl]
    split <;> simp [State.postAt, State.closeWindow]
  · simp [State.closeWindow]

/-- A reply on BL follows the address character of the bed that answered (R171). -/
theorem State.heard_address (s : State) (h : Header) (b : Nat) (a : s.answering h b) :
    (s.heard b).replyAddress .BL = some ⟨b, true⟩ := by
  obtain ⟨q, hq, rfl⟩ := Option.map_eq_some_iff.mp a.2.2.2
  simp [State.replyAddress, State.heard_poll, hq, Poll.address, addressChar]

/-- A panel's request in its answer window that reaches the bed table. -/
theorem State.request_panel (s : State) (h : Header) (k : Kind) (body : List Nat) (owner : List Nat → State → Answer)
    (b : Nat) (a : s.panel h b) (hp : permitted k .BL = true) (hf : bodyFits k body.length = true) :
    s.request h k body owner = (owner body ((s.heard b).toHandling .BL h.seq k)).1.sendReply .BL
      (owner body ((s.heard b).toHandling .BL h.seq k)).2 := by
  have l : linkAnswer ((s.heard b).toHandling .BL h.seq k).run .BL k body.length = none := by
    simp only [State.toHandling_run, State.heard_run, a.2]
    cases k <;> simp_all [linkAnswer, permitted, lockedInRun]
  rw [State.request, State.receive_panel s h k body b a.1, if_neg (by simp [a.1.2.1])]
  simp only [a.1.1, l]

/-- The planner's requests in RUN that are permitted on PL and are no layout write reach their owning block. -/
theorem State.request_planner (s : State) (h : Header) (k : Kind) (body : List Nat) (owner : List Nat → State → Answer)
    (a : s.planner h) (hp : permitted k .PL = true) (hl : lockedInRun k = false) (hf : bodyFits k body.length = true) :
    s.request h k body owner = (owner body (s.toHandling h.port h.seq k)).1.sendReply h.port
      (owner body (s.toHandling h.port h.seq k)).2 := by
  obtain ⟨h1, h3, h4⟩ := a
  refine State.request_taken s h k body owner (h1 ▸ h3) ?_
  cases k <;> simp_all [linkAnswer, permitted, lockedInRun]

/-- The planner's requests in CONFIG that CONFIG admits reach their owning block. -/
theorem State.request_loading (s : State) (h : Header) (k : Kind) (body : List Nat) (owner : List Nat → State → Answer)
    (a : s.loading h) (hl : admittedInConfig k = true) (hf : bodyFits k body.length = true) :
    s.request h k body owner = (owner body (s.toHandling h.port h.seq k)).1.sendReply h.port
      (owner body (s.toHandling h.port h.seq k)).2 := by
  obtain ⟨h1, h3, h4⟩ := a
  refine State.request_taken s h k body owner (h1 ▸ h3) ?_
  cases k <;> simp_all [linkAnswer, permitted, lockedInRun, admittedInConfig]

/-- A request of PL, CW or CE in RUN that its port permits and that is no layout write reaches its owning block. -/
theorem State.request_master (s : State) (h : Header) (k : Kind) (body : List Nat) (owner : List Nat → State → Answer)
    (a : s.master h) (hp : permitted k h.port = true) (hl : lockedInRun k = false) (hf : bodyFits k body.length = true) :
    s.request h k body owner = (owner body (s.toHandling h.port h.seq k)).1.sendReply h.port
      (owner body (s.toHandling h.port h.seq k)).2 := by
  obtain ⟨h3, h4⟩ := a
  refine State.request_taken s h k body owner h3 ?_
  cases k <;> simp_all [linkAnswer, lockedInRun]
  all_goals simp [permitted] at hp

end Sys2Proof.Machine
end

