-- ==== Sys2Proof/Machine/Wire.lean ====
section
/-! DEFINITION. Wire.lean: the bytes of what the part sends, where the spec gives them: the frame and the chain (section
10.1, R164, R166), the result codes (R169), and the reply layouts of section 10.6. No record depends on these bytes. -/

namespace Sys2Proof.Machine

/-! ## Frames -/

/-- One byte. -/
def byte (n : Nat) : Byte := BitVec.ofNat 8 n

/-- Two bytes, high byte first (section 10.1). -/
def bytes2 (n : Nat) : List Byte := [byte (n / 256), byte n]

/-- Four bytes, high byte first (section 10.1). -/
def bytes4 (n : Nat) : List Byte := bytes2 (n / 65536) ++ bytes2 n

/-- A temperature, signed in two's complement (section 10.1). -/
def bytesTemp (t : Int) : List Byte := bytes2 (BitVec.ofInt 16 t).toNat

/-- The bytes a frame's check is computed over, as they are sent: length, sequence, kind, body (R164). -/
def framePayload (seq kind : Nat) (more : Bool) (body : List Byte) : List Byte :=
  byte (body.length + 1) :: byte seq :: byte (if more then kind + 128 else kind) :: body

/-- A frame as it is sent: sync, payload, check (section 10.1, R164). `more`: another frame of the message follows. -/
def frameSent (seq kind : Nat) (more : Bool) (body : List Byte) : List Byte :=
  byte 0xA5 :: framePayload seq kind more body ++ bytes2 (frameCheck (framePayload seq kind more body)).toNat

/-- A message as it is sent: one frame, or a chain of two to four (R166). `fuel` bounds the frames. That every frame of a chain but
the last is filled with 119 bytes of the body is the model's choice (log entry 47). -/
def messageSent (seq kind : Nat) : Nat → List Byte → List (List Byte)
  | 0, _ => []
  | fuel + 1, body =>
    if body.length ≤ 119 then [frameSent seq kind false body]
    else frameSent seq kind true (body.take 119) :: messageSent seq kind fuel (body.drop 119)

/-- A frame as characters on a line: on BL its address character before it, the one character with the ninth bit set (section
10.1). -/
def frameOnLine (address : Option Chr) (frame : List Byte) : List Chr :=
  address.toList ++ frame.map (fun b => ⟨b.toNat, false⟩)

/-- A reply as characters on its line, from the bytes of its body (section 10.1, R166, R171). -/
def Sent.onLine (r : Sent) (seq kind : Nat) (body : List Byte) : List Chr :=
  (messageSent seq kind 4 body).flatMap (frameOnLine r.address)

/-- A poll as characters on BL, from the kind and the bytes of its frame's body, which the spec does not give (R171). -/
def Poll.onLine (q : Poll) (kind : Nat) (body : List Byte) : List Chr :=
  frameOnLine (some q.address) (frameSent q.seq kind false body)

/-! ## Result codes (R169) -/

/-- The code of a result (R169). -/
def Result.code : Result → Nat
  | .done => 0x00
  | .unknown => 0x01
  | .wrongPort => 0x02
  | .badField => 0x03
  | .notRunning => 0x04
  | .state => 0x05
  | .full => 0x06
  | .notFound => 0x07
  | .inUse => 0x08
  | .claimed => 0x09
  | .buried => 0x0A
  | .weight => 0x0B
  | .loaded => 0x0C
  | .active => 0x0D
  | .locked => 0x0E

/-! ## CRANE-REPORT reply (section 10.6) -/

/-- The leg of a GO order. -/
def Leg.code : Leg → Nat
  | .pick => 1
  | .place => 2
  | .park => 3

/-- The detail of a GO order: its kind, a and b. -/
def Detail.bytes : Detail → List Byte
  | .none => [byte 0, byte absent, byte absent]
  | .bed b position => [byte 1, byte b, byte position]
  | .cell c => [byte 2, byte c, byte absent]
  | .bay b => [byte 3, byte b, byte absent]

/-- The order of a CRANE-REPORT reply, from offset 1 on. -/
def Order.bytes : Order → List Byte
  | .idle => [byte 0]
  | .go g => byte 1 :: bytes4 g.serial ++ [byte g.leg.code, byte g.target] ++ g.detail.bytes
  | .stop => [byte 2]
  | .hold => [byte 3]

/-- The body of a CRANE-REPORT reply. -/
def craneReportBody (r : Reply) : List Byte :=
  byte r.result.code ::
    (match r.data with
     | .order o => o.bytes
     | .field n => [byte n]
     | _ => [])

/-! ## MOVE-SUBMIT reply (section 10.6) -/

/-- The body of a DONE reply to a MOVE-SUBMIT: the serial and the slot. -/
def moveSubmitBody (serial slot : Nat) : List Byte := byte Result.done.code :: bytes4 serial ++ [byte slot]

/-! ## PIECE-QUERY reply (section 10.6) -/

/-- The code of a piece state. -/
def PieceState.code : PieceState → Nat
  | .free => 0
  | .planned => 1
  | .cast => 2
  | .hook => 3
  | .stock => 4

/-- The code of a probe state. -/
def ProbeState.code : ProbeState → Nat
  | .unsettled => 0
  | .valid => 1
  | .held => 2
  | .lost => 3

/-- A flag as the bit of a given weight. -/
def bitOf (weight : Nat) (b : Bool) : Nat := if b then weight else 0

/-- A mark in twelve places, unused places 20h. -/
def markBytes (m : List Nat) : List Byte := (m ++ List.replicate (12 - m.length) 0x20).map byte

/-- The location field. A clear presence bit makes it meaningless; FFh stands there then (R170). -/
def locationBytes : Option Location → List Byte
  | some (.bed b n) => [byte 1, byte b, byte n]
  | some (.crane c) => [byte 2, byte (craneCode c), byte absent]
  | some (.cell c level) => [byte 3, byte c, byte level]
  | none => [byte absent, byte absent, byte absent]

/-- The source field: channel, probe state, temperature. FFh stands where there is no source, or no usable temperature
(R170). -/
def sourceBytes : Option (Nat × Published) → List Byte
  | some (c, p) => [byte c, byte p.state.code] ++ (p.temp.map bytesTemp).getD [byte absent, byte absent]
  | none => [byte absent, byte absent, byte absent, byte absent]

/-- The body of a PIECE-QUERY reply for a slot that is not FREE. -/
def pieceQueryBody (r : PieceReply) : List Byte :=
  let p := r.piece
  let d := p.desc.getD ⟨[], 0, 0, 0, 0, 0, 0⟩
  [byte Result.done.code, byte r.slot, byte p.state.code,
    byte (bitOf 1 p.castMinute.isSome + bitOf 2 p.location.isSome + bitOf 4 p.claim.isSome + bitOf 8 r.source.isSome),
    byte d.mark.length] ++ markBytes d.mark ++ bytes2 d.pour ++ [byte d.origin, byte d.segment, byte d.weight]
    ++ bytes2 d.release ++ bytes2 d.ship ++ bytes4 p.accumulator ++ [byte p.suspect]
    ++ bytes4 (p.castMinute.getD Config.word32Max) ++ locationBytes p.location
    ++ bytes4 (p.claim.getD Config.word32Max)
    ++ [byte (bitOf 1 r.releaseOk + bitOf 2 r.shipOk + bitOf 4 r.top), byte r.above, byte r.unclaimedAbove]
    ++ sourceBytes r.source

/-- The body of a PIECE-QUERY reply for a FREE slot: it ends after the state. -/
def pieceFreeBody (slot : Nat) : List Byte := [byte Result.done.code, byte slot, byte PieceState.free.code]

end Sys2Proof.Machine
end

