-- ==== Sys2Proof/Tests/Slice0.lean ====
section
/-! SUPPORT. Slice0.lean: small tests against the spec's own examples, the smoke test of WellFormed, and for every statement
with hypotheses concrete states and operands that meet them together, clause by clause (`wit_<statement>`). -/

namespace Sys2Proof.Machine

set_option Elab.async false

/-! ## Small states -/

/-- A header of a planner's request. -/
def hP : Header := ⟨.PL, 7⟩
/-- A header of the west crane's request. -/
def hW : Header := ⟨.CW, 7⟩
/-- A header of a panel's request. -/
def hB : Header := ⟨.BL, 7⟩

/-- A small yard in RUN: bed 1 on segments 1 to 4 in the hall with zones 0 and 1, cells 0 and 1 at segment 16, bay 1 at 20. -/
def yard : State :=
  { lyt :=
      { segments := [(1, ⟨.hall, 4⟩), (2, ⟨.hall, 4⟩), (3, ⟨.hall, 4⟩), (4, ⟨.hall, 4⟩)]
        beds := [(1, ⟨true, some ⟨1, 4⟩⟩)]
        zones := [(0, ⟨some 1, some ⟨1, 2⟩, .openHigh, none⟩), (1, ⟨some 1, some ⟨3, 4⟩, .openLow, none⟩)]
        cells := [(0, ⟨some 16, 0, 4⟩), (1, ⟨some 16, 1, 4⟩)]
        bays := [(1, ⟨some 20⟩)]
        locked := true }
    clk := { minute := 100, second := 10, running := true } }

/-- The yard in CONFIG, as it stands before LOCK-LAYOUT. -/
def unlocked : State := { yard with lyt := { yard.lyt with locked := false }, clk := {} }

/-- The yard with bed 1 polled and its answer window open. -/
def polled (b : Bed) : State :=
  { yard with beds := [(1, b)], lnk := { poll := some ⟨1, 0, {}⟩, window := true, pollSeq := 1 } }

/-- A piece description. -/
def slab : Desc := { mark := [65, 49], pour := 9, origin := 1, segment := 2, weight := 3, release := 10, ship := 20 }

/-- A description as a PLAN-LOAD carries it. -/
def spec : PieceSpec := { mark := [65, 49], segment := 2, weight := 3, release := 10, ship := 20 }

/-- A crane at work: ACTIVE at segment `lo` with an interval. -/
def activeAt (lo hi : Nat) : CraneRec :=
  { presence := .active, position := some lo, hook := some .empty, interval := some ⟨lo, hi⟩, timer := some 3 }

/-- The yard with both cranes ACTIVE. -/
def manned : State := { yard with rru := { west := activeAt 8 10, east := activeAt 25 26 } }

/-- A PARK of the west crane to segment 12. -/
def park : Move :=
  { serial := 5, crane := .W, kind := .park, style := .normal, suspendable := true, piece := none, source := none,
    dest := .segment 12, pick := none, place := 12, state := .queued, reason := none, stop := .none, origin := .planner }

/-- A RESTACK of piece 7 from cell 0 to cell 1, both at segment 16. -/
def restack (st : MoveState) : Move :=
  { serial := 5, crane := .W, kind := .restack, style := .normal, suspendable := true, piece := some 7,
    source := some (.cell 0), dest := .cell 1, pick := some 16, place := 16, state := st, reason := none, stop := .none,
    origin := .planner }

/-- The next state of a command, for looking at one step. -/
def after (i : Instr) (s : State) : State :=
  match exec i s with
  | .next t => t
  | .fault _ => s
  | .refused _ => s

/-- The reply on PL after a command. -/
def replyPL (i : Instr) (s : State) : Option Reply := ((after i s).port .PL).reply.map Sent.reply

/-! ## WellFormed: an ill-formed term for each check -/

theorem test_wf_sequence : Instr.wf (.setK ⟨.PL, 256⟩ [3]) = false := by decide
theorem test_wf_body_empty : Instr.wf (.heatOff hP []) = false := by decide
theorem test_wf_body_long : Instr.wf (.planLoad hP (List.replicate 120 0)) = false := by decide +kernel
theorem test_wf_body_byte : Instr.wf (.setK hP [256]) = false := by decide
theorem test_wf_bed : Instr.wf (.permitExpiry 13) = false := by decide
theorem test_wf_bed_zero : Instr.wf (.permitExpiry 0) = false := by decide
theorem test_wf_segment : Instr.wf (.vacateExpiry 32) = false := by decide
theorem test_wf_raw : Instr.wf (.conversionEnd 4096) = false := by decide
theorem test_wf_reference : Instr.wf (.referenceCheck 4096) = false := by decide
theorem test_wf_kind_known : Instr.wf (.unknownKind hP 0x41 [0]) = false := by decide
theorem test_wf_kind_code : Instr.wf (.unknownKind hP 128 [0]) = false := by decide
theorem test_wf_chain_kind : Instr.wf (.chainFrame hP (.unknown 0) [0]) = false := by decide
theorem test_wf_char : Instr.wf (.badFrame .PL [⟨256, false⟩]) = false := by decide
theorem test_wf_ninth : Instr.wf (.badFrame .PL [⟨1, true⟩]) = false ∧ Instr.wf (.badFrame .BL [⟨1, true⟩]) = true := by decide
theorem test_wf_gap_char : Instr.wf (.byteGapTimeout .CW [⟨1, true⟩]) = false := by decide
theorem test_wf_good : Instr.wf (.craneReport hW [255, 0, 0]) = true := by decide

/-! ## The spec's own examples, one step each -/

/-- Section 3.2 and 3.8: raw 2500 with trim 0 is 423. -/
theorem test_convert : convert 2500 0 = 423 := by decide
/-- Section 3.8: raw 1200 with trim -35 is -40. -/
theorem test_convert_trimmed : convert 1200 (-35) = -40 := by decide
/-- R39: the result is held in -400 to 950. -/
theorem test_convert_held : convert 4000 50 = 950 ∧ convert 1 (-20) = -400 := by decide
/-- R40: the reference window is 2008 to 2088. -/
theorem test_reference_window :
    refInWindow 2008 = true ∧ refInWindow 2088 = true ∧ refInWindow 2007 = false ∧ refInWindow 2089 = false := by decide
/-- R2: the vacate interval 45 is stored as 30 (section 1.7). -/
theorem test_vacate_clamped : (after (.layoutSegment hP [13, 0, 45]) State.reset).segment 13 = ⟨.hall, 30⟩ := by decide
/-- R3: an OPEN-LOW zone's line is high when closed, at once. -/
theorem test_sense_moves_line :
    (after (.layoutZone hP (zoneWritten 2 none none .openLow none)) State.reset).valve 2 = .high := by decide
/-- R170: FFh in an optional field is absent: a cell with no segment is no longer in use. -/
theorem test_absent_segment : ((after (.layoutCell hP [0, 255, 0, 4]) unlocked).cellLayout 0).segment = none := by decide
/-- R6: a failing check is answered with its number and the record's. Bed 1's range leaves the hall. -/
theorem test_lock_refused :
    replyPL (.lockLayout hP [0]) { unlocked with lyt := { unlocked.lyt with segments := [] } }
      = some { result := .badField, data := .lockCheck 3 1 } := by decide
/-- R7: a lock that passes enters RUN. -/
theorem test_lock_passes : (after (.lockLayout hP [0]) unlocked).run = true := by decide
/-- R9: 4,294,967,295 is followed by 0. -/
theorem test_minute_wraps :
    (after .minuteTick { yard with clk := ⟨4294967295, 59, true⟩ }).clk = ⟨0, 0, true⟩ := by decide
/-- R10: 60 seconds make a minute; the 59th does not. -/
theorem test_second_before_minute : (after .secondTick { yard with clk := ⟨100, 58, true⟩ }).clk = ⟨100, 59, true⟩ := by decide
/-- R12: a supply lost while a RESTART holds the part, and back before the end, leaves the reset a warm one. -/
theorem test_restart_hold_supply :
    (after .retentionSupplyLoss { yard with rst := { hold := .restart } }).rst.supplyLost = false := by decide
/-- R13: a RESTART in CONFIG is answered NOT-RUNNING. -/
theorem test_restart_in_config : replyPL (.restart hP [0]) unlocked = some { result := .notRunning } := by decide
/-- R14: in a cold reset every valve line is low, an OPEN-LOW zone's too. -/
theorem test_cold_hold_lines : (after .resetLineAssert { unlocked with valves := [(1, .high)] }).valve 1 = .low := by decide
/-- R29: the permit deadline is the minute plus the window, as it wraps. -/
theorem test_deadline_wraps : addMinutes 4294967290 30 = 24 := by decide
/-- R142: 4,294,967,295 is followed by 1. -/
theorem test_serial_wraps : nextSerial 4294967295 = 1 := by decide
/-- R117: the cursor after 47 is 0. -/
theorem test_cursor_wraps : nextCursor 47 = 0 ∧ nextCursor 46 = 47 := by decide
/-- R132: with G 1, a west need up to segment 21 sends the east crane to 23; none beyond 31. -/
theorem test_yield_target : yieldTarget 1 .E ⟨14, 21⟩ = some 23 ∧ yieldTarget 1 .E ⟨14, 30⟩ = none
    ∧ yieldTarget 1 .W ⟨2, 9⟩ = some 0 ∧ yieldTarget 1 .W ⟨1, 9⟩ = none := by decide
/-- R124: separation is strict. -/
theorem test_separation : separated 1 ⟨8, 10⟩ ⟨12, 13⟩ = true ∧ separated 1 ⟨8, 10⟩ ⟨11, 13⟩ = false := by decide
/-- R164: the check of the nine bytes 31h to 39h from FFFFh with 1021h is 29B1h, the catalogued value of this check. -/
theorem test_check : frameCheck [0x31#8, 0x32#8, 0x33#8, 0x34#8, 0x35#8, 0x36#8, 0x37#8, 0x38#8, 0x39#8] = 0x29B1#16 := by
  decide +kernel
/-- R165: the hunt discards bytes other than A5h, a length byte outside 2 to 120 is one error, and the receiver hunts again from
the byte after it, where a frame that then stands is found too. -/
theorem test_hunt : (after (.badFrame .PL (plain [0x00, 0xA5, 121, 0x01, 0xA5, 1])) yard).port .PL = { errors := 2 } := by decide
/-- R165: a pause with no frame begun is no fault; with one begun it is. -/
theorem test_gap : (after (.byteGapTimeout .PL (plain [0x00])) yard).port .PL = {}
    ∧ (after (.byteGapTimeout .PL (plain [0xA5, 5])) yard).port .PL = { errors := 1 } := by decide
/-- R166: the body of a request whose chain frames came before it is the bodies joined: LAYOUT-SEGMENT 13, hall, 9 seconds, in
two frames. -/
theorem test_chain_joined :
    (after (.layoutSegment hP [0, 9]) (after (.chainFrame hP .layoutSegment [13]) State.reset)).segment 13 = ⟨.hall, 9⟩ := by
  decide
/-- Section 10.6: a HOLD order ends the reply body at offset 1. -/
theorem test_hold_body : craneReportBody { result := .done, data := .order .hold } = [0x00#8, 0x03#8] := by decide
/-- Section 10.6: a GO to cell 5 at segment 20, serial 258. -/
theorem test_go_body : craneReportBody { result := .done, data := .order (.go ⟨258, .place, 20, .cell 5⟩) }
    = [0x00#8, 0x01#8, 0x00#8, 0x00#8, 0x01#8, 0x02#8, 0x02#8, 0x14#8, 0x02#8, 0x05#8, 0xFF#8] := by decide
/-- Section 10.6: the PIECE-QUERY body of a piece that is not FREE is 49 bytes. -/
theorem test_piece_body : (pieceQueryBody (yard.pieceReply 4)).length = 49 := by decide
/-- R169: a CRANE-REPORT body of two bytes does not fit: BAD-FIELD naming field 0. -/
theorem test_length : ((after (.craneReport hW [8, 0]) manned).port .CW).reply = some ⟨none, badFieldReply 0⟩ := by decide
/-- R45: a trim of 80 is stored as 50, one of -80 as -50. -/
theorem test_trim_clamped : ((after (.probeTrim hP [3, 0, 80]) yard).channel 3).trim = 50
    ∧ ((after (.probeTrim hP [3, 0xFF, 0xB0]) yard).channel 3).trim = -50 := by decide
/-- R46: sample time is not clamped. -/
theorem test_sample_time_refused : replyPL (.sampleTime hP [9]) yard = some (badFieldReply 1) := by decide
/-- R97: HEAT-OFF ends a running frame with the inhibit already SET too. -/
theorem test_heat_off : (after (.heatOff hP [0]) { yard with sha := { inhibit := true, running := some (⟨6, 3, true, []⟩, 4) } }).sha
    = { inhibit := true } := by decide
/-- R22: SETUP-DONE moves an EMPTY bed to SETUP. -/
theorem test_setup_done : ((after (.setupDone hB [0]) (polled {})).bed 1).state = .setup := by decide
/-- R21: a second SETUP-DONE is answered STATE with SETUP; R171: after the address character of bed 1. -/
theorem test_setup_done_again : ((after (.setupDone hB [0]) (polled { state := .setup })).port .BL).reply
    = some ⟨some ⟨1, true⟩, { result := .state, data := .bedState .setup }⟩ := by decide
/-- R171 and section 10.1: a reply on BL is the bed's number with the ninth bit set and then the frame, its ninth bits clear. -/
theorem test_address_before_reply :
    ((Sent.onLine ⟨some ⟨12, true⟩, ok⟩ 7 0x60 [byte 0]).take 3).map (fun c => (c.byte, c.ninth))
      = [(12, true), (0xA5, false), (2, false)] := by decide +kernel
/-- R18: a PLAN-LOAD with pour id 0 names field 2. -/
theorem test_plan_pour : replyPL (.planLoad hP (planWritten 1 0 0 [spec])) yard = some (badFieldReply 2) := by decide
/-- R19: a plan's pieces take the lowest FREE records. -/
theorem test_plan_slots :
    replyPL (.planLoad hP (planWritten 1 9 0 [spec, { spec with segment := 3 }])) yard
      = some { result := .done, data := .slots [0, 1] } := by
  decide +kernel
/-- R172: the third missed answer makes the panel LOST (section 10.7). -/
theorem test_panel_lost : (after .missedAnswer (polled { missed := 2 })).bed 1 = { missed := 3, panelLost := true } := by decide
/-- R171: after a missed answer the next bed is polled at once: the only configured bed again, with the next poll number. -/
theorem test_polled_at_once : (after .missedAnswer (polled {})).lnk = { poll := some ⟨1, 1, {}⟩, window := true, pollSeq := 2 } := by
  decide
/-- R167: a request while the port is REPLYING is an overrun (section 10.7). -/
theorem test_overrun :
    ((after (.craneReport hW [8, 0, 0]) { manned with lnk := { cw := { rx := .replying } } }).port .CW).overruns = 1 := by decide
/-- R121: a report at segment 32 is BAD-FIELD naming field 1. -/
theorem test_report_segment : ((after (.craneReport hW [32, 0, 0]) manned).port .CW).reply = some ⟨none, badFieldReply 1⟩ := by decide
/-- R136: a report outside the interval latches the breach. -/
theorem test_breach : (after (.craneReport hW [14, 0, 0]) manned).rru.breach = some .W := by decide +kernel

/-! ## Lemmas for the witnesses -/

/-- No vacate record stands in an empty table. -/
theorem no_vacates (s : State) (h : s.rru.vacates = []) (n : Nat) : s.vacate n = none := by
  simp [State.vacate, h, Tab.read]

/-- What holds of the moves in the table's eighteen slots holds of every move asked for there. -/
theorem each_move {s : State} {P : Nat → Move → Prop} (h : ∀ j, j < 18 → ∀ m ∈ s.move j, P j m) :
    ∀ j m, j < 18 → s.move j = some m → P j m := fun j m hj e => h j hj m e

/-! ## Witnesses: the link, resets, and the timebase -/

theorem wit_StepTakesFront : State.reset.pending = [] := by decide

/-- The west port in a receive state, with a request or a chain in hand. -/
def westIn (r : RxState) (q : Option (Nat × Kind)) (frames : Nat) : State :=
  { manned with lnk := { cw := { rx := r, inHand := q, frames := frames, joined := [1] } } }

/-- The yard held in reset by its line. -/
def heldByLine (s : State) : State := { s with rst := { s.rst with hold := .line } }

theorem wit_RequestsReceived :
    (heldByLine manned).held = true
    ∧ (manned.held = false ∧ hB.port = .BL ∧ manned.lnk.window = false)
    ∧ (∀ r ∈ [RxState.handling, .replying], (westIn r none 0).held = false ∧ hW.port ≠ .BL
        ∧ ((westIn r none 0).port hW.port).rx = r)
    ∧ (((westIn .chain (some (7, .condRead)) 1).port hW.port).rx = .chain
        ∧ ((westIn .chain (some (7, .condRead)) 1).port hW.port).inHand = some (hW.seq, .condRead))
    ∧ (((westIn .chain (some (6, .condRead)) 1).port hW.port).rx = .chain
        ∧ ((westIn .chain (some (6, .condRead)) 1).port hW.port).inHand ≠ some (hW.seq, .condRead)) := by decide

theorem wit_KindsAndPorts :
    (yard.awaits hP.port ∧ (∃ code, Kind.unknown 0x7F = .unknown code))
    ∧ (yard.awaits hW.port ∧ permitted .setK hW.port = false ∧ ∀ code, Kind.setK ≠ .unknown code)
    ∧ ((polled {}).answering hB 1 ∧ permitted .setK .BL = false) := by
  refine ⟨⟨by decide, _, rfl⟩, ⟨by decide, by decide, fun _ => by simp⟩, by decide⟩

theorem wit_LinkAnswers :
    (unlocked.awaits hP.port ∧ permitted .setK hP.port = true ∧ unlocked.run = false ∧ admittedInConfig .setK = false)
    ∧ (yard.awaits hP.port ∧ permitted .lockLayout hP.port = true ∧ yard.run = true ∧ lockedInRun .lockLayout = true)
    ∧ (lockedInRun .setK = false ∧ bodyFits .setK [3, 3].length = false)
    ∧ (permitted .profileWrite hP.port = true ∧ admittedInConfig .profileWrite = true ∧ bodyFits .profileWrite 17 = false)
    ∧ (yard.awaits hP.port ∧ bodyFits .planLoad 22 = false ∧ bodyFits .planLoad 308 = true ∧ bodyFits .planLoad 309 = false)
    ∧ ((polled {}).panel hB 1 ∧ permitted .nothing hB.port = true ∧ bodyFits .nothing 2 = false) := by
  decide

theorem wit_ColdResets :
    ((heldByLine unlocked).held = true ∧ (heldByLine unlocked).run = false)
    ∧ ({ yard with rst := { hold := .line, retention := false } }.held = true
        ∧ { yard with rst := { hold := .line, retention := false } }.rst.retention = false)
    ∧ ({ yard with rst := { hold := .restart, supplyLost := true } }.held = true
        ∧ { yard with rst := { hold := .restart, supplyLost := true } }.rst.supplyLost = true) := by decide

theorem wit_LineHolds :
    (yard.rst.hold ≠ .line ∧ yard.run = true ∧ yard.rst.retention = true)
    ∧ (unlocked.rst.hold ≠ .line ∧ unlocked.run = false)
    ∧ ({ yard with rst := { hold := .restart, retention := false } }.rst.hold ≠ .line
        ∧ { yard with rst := { hold := .restart, retention := false } }.rst.retention = false) := by decide

/-- A yard held by the line, with a permitted bed, a zone in HOLD, an orphan and a piece on the other hook. -/
def heldYard : State :=
  { yard with
    rst := { hold := .line }
    beds := [(1, { state := .permitted, deadline := some 120, missed := 2 }), (12, { state := .curing })]
    zcu := { zones := [(0, { stage := .hold, profile := some 0 }), (15, { stage := .delay, profile := some 7 })] }
    pct := [(4, { state := .hook, location := some (.crane .W), claim := some 9 }),
            (191, { state := .hook, location := some (.crane .E) })]
    mvu := { east := { orphan := some 191 } } }

theorem wit_WarmResetKeeps :
    heldYard.held = true ∧ heldYard.run = true ∧ heldYard.rst.retention = true ∧ heldYard.rst.supplyLost = false
    ∧ (heldYard.bed 1).state = .permitted ∧ (heldYard.bed 12).state ≠ .permitted
    ∧ (heldYard.zone 0).profile = some 0 ∧ (heldYard.zone 15).profile = some 7 ∧ (heldYard.piece 4).state = .hook
    ∧ (heldYard.piece 4).location = some (.crane .W) := by decide

theorem wit_RestartAndSupply :
    yard.planner hP
    ∧ ((westIn .replying none 0).held = false ∧ ((westIn .replying none 0).port .CW).rx = .replying ∧ Port.CW ≠ .BL)
    ∧ (let s := { yard with lnk := { pl := { rx := .replying } } }; (s.port .PL).rx = .replying ∧ s.rst.restartOwed = false)
    ∧ (let s := { polled {} with lnk := { bl := { rx := .replying } } }; s.held = false ∧ (s.port .BL).rx = .replying)
    ∧ (let s := { yard with lnk := { pl := { rx := .replying } }, rst := { restartOwed := true } }
       s.held = false ∧ (s.port .PL).rx = .replying ∧ s.rst.restartOwed = true ∧ s.run = true ∧ s.rst.retention = true)
    ∧ (heldByLine yard).rst.hold = .line ∧ { yard with rst := { hold := .restart } }.rst.hold ≠ .line := by decide

/-- A moving yard: timers, two vacate records and a running frame. -/
def moving (second : Nat) : State :=
  { manned with
    clk := { minute := 100, second := second, running := true }
    rru := { manned.rru with vacates := [(3, some ⟨.W, 2⟩), (31, some ⟨.E, 1⟩)], east := {} }
    sha := { running := some (⟨6, 3, false, []⟩, 58) } }

/-- The west crane's presence timer at its last second. -/
def timedOut : State := { manned with rru := { manned.rru with west := { manned.rru.west with timer := some 1 } } }

theorem wit_SecondsAndTimers :
    ((moving 58).ticking = true ∧ (moving 58).clk.second < 59
      ∧ ((moving 58).crane .W).presence = .active ∧ ((moving 58).crane .W).timer = some 3
      ∧ ((moving 58).crane .E).presence ≠ .active ∧ (moving 58).vacate 3 = some ⟨.W, 2⟩ ∧ (moving 58).vacate 4 = none
      ∧ (moving 58).sha.prepared = none ∧ (moving 58).sha.running = some (⟨6, 3, false, []⟩, 58))
    ∧ ((heldByLine yard).held = true ∧ unlocked.clk.running = false)
    ∧ (timedOut.ticking = true ∧ (timedOut.crane .W).presence = .active ∧ (timedOut.crane .W).timer = some 1
      ∧ ∀ p ∈ ([.PL, .CE] : List Point), timedOut.modeOf p .craneStale = .both
        ∧ (timedOut.condSet p).records.length + 1 < setCapacity p)
    ∧ ((moving 58).vacate 31 = some ⟨.E, 1⟩) := by decide

/-- A permit that runs out at the next minute, and one that does not. -/
def permitYard : State :=
  { yard with
    clk := { minute := 4294967295, second := 59, running := true }
    beds := [(1, { state := .permitted, deadline := some 0 }), (2, { state := .permitted, deadline := some 1 })] }

theorem wit_MinuteCounted :
    permitYard.ticking = true ∧ 59 ≤ permitYard.clk.second ∧ (permitYard.bed 1).state = .permitted
    ∧ (permitYard.bed 1).deadline = some 0 ∧ (after .minuteTick permitYard).clk.minute = 0
    ∧ (permitYard.bed 2).deadline ≠ some 0 ∧ (permitYard.condSet .PL).records.length < 18
    ∧ (permitYard.bed 12).state ≠ .permitted := by decide

/-- A frame that opens zone 15 for its first three steps. -/
def someFrame : Frame := ⟨6, 3, false, [⟨15, 2, 3, 3, false, some (0, 0)⟩]⟩

theorem wit_FramesBeginAndEnd :
    (let s := { yard with sha := { prepared := some someFrame } }; s.ticking = true ∧ s.sha.prepared = some someFrame)
    ∧ ∀ n ∈ [58, 59], (let s := { yard with sha := { running := some (someFrame, n) } }
       s.ticking = true ∧ s.sha.prepared = none ∧ s.sha.running = some (someFrame, n)) := by decide

/-! ## Witnesses: probes and maturity -/

/-- The yard with the converter at a channel. -/
def scanningAt (c : Nat) : State := { yard with pcv := { scan := .scanning c } }

theorem wit_ConversionsJudged :
    (∀ c ∈ [0, 17], (scanningAt c).held = false ∧ (scanningAt c).pcv.scan = .scanning c)
    ∧ ∀ r ∈ [ConvResult.short, .opened, .refFail], r ≠ .good := by decide

/-- The converter at its reference channel, with one conversion taken and one discarded; zone 0's channel one bad conversion
from LOST. -/
def atReference (fault : Bool) : State :=
  { yard with pcv := { scan := .scanning 18, fault := fault, refPass := !fault,
                       channels := [(0, { badRun := 3 })],
                       record := [(0, some (.taken 2500 .good (some 423))), (17, some .discarded)] } }

theorem wit_ReferenceCompletes :
    ((atReference false).held = false ∧ (atReference false).pcv.scan = .scanning 18
      ∧ (atReference false).pcv.record.read none 0 = some (.taken 2500 .good (some 423))
      ∧ (atReference false).pcv.record.read none 17 = some .discarded)
    ∧ ((after (.referenceCheck 2007) (atReference false)).pcv.refPass = false ∧ (atReference false).pcv.fault = false
      ∧ (atReference false).modeOf .PL .converterFault = .both ∧ (atReference false).modeOf .PL .probeLost = .both
      ∧ ((atReference false).channel 0).state ≠ .lost
      ∧ ((after (.referenceCheck 2007) (atReference false)).channel 0).state = .lost
      ∧ ((atReference false).zoneLayout 0).bed = some 1 ∧ ((atReference false).condSet .PL).records.length < 14)
    ∧ ((after (.referenceCheck 2088) (atReference true)).pcv.refPass = true ∧ (atReference true).pcv.fault = true) := by
  decide +kernel

/-- Pieces in stock, in bed 1 over zone 0 and over none, and on both hooks; both ambients and zone 0 published. -/
def pieceYard : State :=
  { yard with
    lyt := { yard.lyt with zones := [(0, ⟨some 1, some ⟨1, 2⟩, .openHigh, none⟩)] }
    pcv := { scan := .scanning 18, channels := [(17, { state := .valid, temp := some 950 })] }
    rru := { west := { presence := .active, position := some 1 }, east := {} }
    pct := [(0, { state := .stock, desc := some slab, location := some (.cell 0 0) }),
            (1, { state := .cast, desc := some slab, location := some (.bed 1 4) }),
            (2, { state := .hook, desc := some slab, location := some (.crane .W) }),
            (3, { state := .hook, desc := some slab, location := some (.crane .E) }),
            (191, { state := .cast, desc := some slab, location := some (.bed 1 2) })] }

theorem wit_MaturityCredit :
    (pieceYard.held = false ∧ pieceYard.pcv.scan = .scanning 18)
    ∧ ((pieceYard.piece 0).live = true ∧ pieceYard.sourceOf (pieceYard.piece 0) = some 17
      ∧ (after (.referenceCheck 2048) pieceYard).published 17 = ⟨.valid, some 950⟩)
    ∧ ((pieceYard.piece 191).live = true ∧ pieceYard.sourceOf (pieceYard.piece 191) = some 0
      ∧ ((after (.referenceCheck 2048) pieceYard).published 0).state = .unsettled)
    ∧ (pieceYard.piece 190).live = false
    ∧ ((pieceYard.piece 191).location = some (.bed 1 2) ∧ (pieceYard.zoneLayout 0).range = some ⟨1, 2⟩
      ∧ (∀ z', z' < 16 → ∀ r' ∈ (pieceYard.zoneLayout z').range, (pieceYard.zoneLayout z').bed = some 1 → r'.lo ≤ 2 → 2 ≤ r'.hi →
          z' = 0))
    ∧ ((pieceYard.piece 1).location = some (.bed 1 4)
      ∧ ∀ z, z < 16 → ∀ r ∈ (pieceYard.zoneLayout z).range, (pieceYard.zoneLayout z).bed = some 1 → ¬(r.lo ≤ 4 ∧ 4 ≤ r.hi))
    ∧ ((pieceYard.piece 2).location = some (.crane .W) ∧ (pieceYard.crane .W).position = some 1
      ∧ (pieceYard.segment 1).area = .hall ∧ (pieceYard.segment 5).area = .yard)
    ∧ ((pieceYard.piece 3).location = some (.crane .E) ∧ (pieceYard.crane .E).position = none) := by decide +kernel

/-! ## Witnesses: the layout, plans and panels -/

/-- The cold-reset profile. -/
def plainProfile : Profile := {}

theorem wit_LayoutStored :
    (State.reset.loading hP ∧ unlocked.loading hP)
    ∧ (let p := plainProfile
       0 ≤ p.frostFloor ∧ p.frostFloor ≤ 150 ∧ p.delay ≤ 600 ∧ 1 ≤ p.rampRate ∧ p.rampRate ≤ 50 ∧ 200 ≤ p.holdTemp
         ∧ p.holdTemp ≤ 700 ∧ 0 ≤ p.holdBias ∧ p.holdBias ≤ 60 ∧ 1 ≤ p.gain ∧ p.gain ≤ 60 ∧ p.holdExit ≤ 9999
         ∧ 60 ≤ p.maxHold ∧ p.maxHold ≤ 2880 ∧ 1 ≤ p.coolRate ∧ p.coolRate ≤ 50 ∧ 50 ≤ p.releaseDelta
         ∧ p.releaseDelta ≤ 300 ∧ p.fallback ≤ 60)
    ∧ (yard.planner hP
      ∧ ∀ z, z < 16 → (yard.zone z).profile = some 7 → ((yard.zone z).stage = .idle ∨ (yard.zone z).stage = .done)) := by
  decide

/-- A layout of one cell, on a segment of the hall. -/
def hallCell : State := { State.reset with lyt := { segments := [(0, ⟨.hall, 4⟩)], cells := [(0, ⟨some 0, 0, 4⟩)] } }

/-- A layout with no bed, no zone in use and no bay fails none of the checks but those of the cells. -/
theorem no_bed_checks (s : State) (hb : s.lyt.beds = []) (hz : s.lyt.zones = []) (hy : s.lyt.bays = []) (n i : Nat)
    (h8 : n ≠ 8) (h9 : n ≠ 9) : ¬s.failsCheck n i := by
  unfold State.failsCheck
  split <;>
    simp_all [State.bedRange, State.zoneOf, State.bayAt, State.bedConfigured, State.bedLayout, State.zoneLayout,
      State.bayLayout, Tab.read]

theorem wit_LockedLayoutIsChecked :
    (hallCell.loading hP ∧ hallCell.rangesGiven ∧ hallCell.failsCheck 8 0 ∧ (∀ i, i < 0 → ¬hallCell.failsCheck 8 i)
      ∧ ∀ n i, n < 8 → ¬hallCell.failsCheck n i)
    ∧ (State.reset.loading hP ∧ State.reset.rangesGiven ∧ ∀ n i, ¬State.reset.failsCheck n i) := by
  refine ⟨⟨by decide, ?_, ⟨0, ⟨by decide, rfl⟩, by decide⟩, by omega, fun n i h => ?_⟩, by decide, ?_, fun n i => ?_⟩
  · constructor <;> simp [hallCell, State.zoneOf, State.bedConfigured, State.bedLayout, State.zoneLayout, Tab.read, State.reset]
  · exact no_bed_checks _ rfl rfl rfl _ _ (by omega) (by omega)
  · constructor <;> simp [State.zoneOf, State.bedConfigured, State.bedLayout, State.zoneLayout, Tab.read, State.reset]
  · by_cases h8 : n = 8
    · subst h8
      simp [State.failsCheck, State.cellAt, State.cellLayout, State.reset, Tab.read]
    · by_cases h9 : n = 9
      · subst h9
        simp [State.failsCheck, State.cellAt, State.cellLayout, State.reset, Tab.read]
      · exact no_bed_checks _ rfl rfl rfl _ _ h8 h9

/-- Bed 1 in a state with a plan of slots 0 and 191. -/
def plannedYard (st : BedState) : State :=
  { yard with
    beds := [(1, { state := st, plan := some ⟨9, 0, [0, 191]⟩, pieces := [0, 191] })]
    pct := [(0, { state := .planned, desc := some slab }), (191, { state := .planned, desc := some slab })] }

/-- The yard with every piece record in stock. -/
def fullYard : State := { yard with pct := (List.range 192).map (fun n => (n, { state := .stock, desc := some slab })) }

/-- The piece description's fields are in their ranges. -/
theorem spec_fields (n : Nat) : pieceField ⟨1, 4⟩ spec n := by
  unfold pieceField
  split <;> decide

/-- A description that is refused at its last field, its ship target. -/
def farSpec : PieceSpec := { spec with ship := 10000 }

theorem wit_PlanLoaded :
    ((plannedYard .setup).planner hP ∧ spec.mark.length ≤ 12 ∧ (plannedYard .setup).bedConfigured 2 = false)
    ∧ ((plannedYard .casting).bedConfigured 1 = true ∧ ((plannedYard .casting).bed 1).state ≠ .empty
        ∧ ((plannedYard .casting).bed 1).state ≠ .setup)
    ∧ ((plannedYard .setup).bedConfigured 1 = true ∧ ((plannedYard .setup).bed 1).state = .setup
        ∧ ((plannedYard .setup).bedLayout 1).range = some ⟨1, 4⟩
        ∧ (∀ p ∈ List.replicate 16 spec, ∀ n, pieceField ⟨1, 4⟩ p n)
        ∧ ((plannedYard .setup).bed 1).planSlots.Nodup
        ∧ (∀ n ∈ ((plannedYard .setup).bed 1).planSlots, n < 192 ∧ ((plannedYard .setup).piece n).state = .planned)
        ∧ (List.replicate 16 spec).length ≤ (plannedYard .setup).freeCount + ((plannedYard .setup).bed 1).planSlots.length)
    ∧ (fullYard.planner hP ∧ (fullYard.bed 1).planSlots = []
        ∧ fullYard.freeCount + (fullYard.bed 1).planSlots.length < [spec].length)
    -- the sixteenth description is the first that is out of range, at its last field
    ∧ ((List.replicate 15 spec ++ [farSpec])[15]? = some farSpec ∧ ¬pieceField ⟨1, 4⟩ farSpec 5
        ∧ (∀ m, m < 5 → pieceField ⟨1, 4⟩ farSpec m)
        ∧ ∀ (k m : Nat) (q : PieceSpec), k < 15 → (List.replicate 15 spec ++ [farSpec])[k]? = some q → pieceField ⟨1, 4⟩ q m)
    -- the pour id of 0, and the first profile id beyond the eight
    ∧ (plannedYard .setup).planner hP
    -- a mark's length byte of 13, with descriptions before it and behind it
    ∧ ((∀ p ∈ [spec], ∀ n, pieceField ⟨1, 4⟩ p n) ∧ (List.replicate 18 65).length = 18
        ∧ (List.replicate 266 0).length = 19 * 14 ∧ [spec].length + 1 + 14 ≤ 16) := by
  refine ⟨by decide, by decide, ⟨by decide, by decide, by decide, fun p h n => ?_, by decide, by decide, by decide +kernel⟩,
    by decide +kernel, ⟨by decide +kernel, ?_, fun m h => ?_, fun k m q h e => ?_⟩, by decide, fun p h n => ?_, List.length_replicate,
    List.length_replicate, by decide⟩
  · rw [List.eq_of_mem_replicate h]
    exact spec_fields n
  · simp [pieceField, farSpec]
  · have f := spec_fields m
    interval_cases m <;> exact f
  · rw [List.getElem?_append_left (by simpa using h)] at e
    rw [List.eq_of_mem_replicate (List.mem_of_getElem? e)]
    exact spec_fields m
  · rw [List.mem_singleton.mp h]
    exact spec_fields n

/-- Bed 1 polled in a state, with a plan. -/
def panelAt (st : BedState) : State :=
  { plannedYard st with lnk := { poll := some ⟨1, 0, {}⟩, window := true, pollSeq := 1 } }

theorem wit_PlansFreed :
    ((plannedYard .empty).planner hP ∧ (plannedYard .empty).bedConfigured 1 = true
      ∧ ((plannedYard .empty).bed 1).state = .empty
      ∧ ((plannedYard .empty).bed 1).plan = some ⟨9, 0, [0, 191]⟩)
    ∧ ((panelAt .casting).panel hB 1 ∧ ((panelAt .casting).bed 1).state = .casting
      ∧ ((panelAt .casting).bed 1).plan = some ⟨9, 0, [0, 191]⟩) := by decide

theorem wit_SetupDoneTaken :
    (polled {}).panel hB 1 ∧ ((polled {}).bed 1).state = .empty ∧ (polled {}).planner hP
    ∧ (polled {}).bedConfigured 1 = true ∧ planFieldRefusal ((polled {}).bedLayout 1).range 9 7 [spec] = none
    ∧ ((polled {}).bed 1).planSlots = [] ∧ 1 ≤ (polled {}).freeCount := by decide +kernel

theorem wit_CastsStartAndEnd :
    ((panelAt .setup).panel hB 1 ∧ ((panelAt .setup).bed 1).state = .setup
        ∧ ((panelAt .setup).bed 1).plan = some ⟨9, 0, [0, 191]⟩)
    ∧ ((polled { state := .setup }).panel hB 1 ∧ ((polled { state := .setup }).bed 1).state = .setup
        ∧ ((polled { state := .setup }).bed 1).plan = none)
    ∧ ((panelAt .casting).panel hB 1 ∧ ((panelAt .casting).bed 1).state = .casting
        ∧ ((panelAt .casting).bed 1).plan = some ⟨9, 0, [0, 191]⟩ ∧ ((panelAt .casting).zoneLayout 0).bed = some 1
        ∧ ((panelAt .casting).zoneLayout 15).bed ≠ some 1) := by decide

/-- Bed 1 READY under a hall at 150, its zones at the temperatures given, its pieces at the accumulators given. The release
delta is 200, and the pieces' release target 10 degree-hours is 6,000. -/
def readyYard (t0 t1 : Int) (a b : Nat) : State :=
  { panelAt .ready with
    pcv := { published := [(0, ⟨.valid, some t0⟩), (1, ⟨.held, some t1⟩), (16, ⟨.valid, some 150⟩)] }
    pct := [(0, { state := .cast, desc := some slab, accumulator := a }),
            (191, { state := .cast, desc := some slab, accumulator := b })] }

theorem wit_ReleaseDecided :
    (let s := readyYard 350 350 6000 6000
     s.panel hB 1 ∧ (s.bed 1).state = .ready ∧ (s.bed 1).plan = some ⟨9, 0, [0, 191]⟩ ∧ s.usable 16 = some 150
       ∧ (∀ z, z < 16 → (s.zoneLayout z).bed = some 1 →
           (s.usable z).isSome = true ∧ (s.usable z).getD 0 - 150 ≤ (s.profile 0).releaseDelta)
       ∧ (∀ n ∈ (s.bed 1).pieces, (s.piece n).releaseOk = true))
    ∧ (let s := readyYard 350 350 6000 5999
       (s.bed 1).pieces = [0] ++ 191 :: [] ∧ (s.piece 0).releaseOk = true ∧ (s.piece 191).releaseOk = false)
    ∧ (let s := readyYard 350 351 6000 6000
       (s.zoneLayout 1).bed = some 1 ∧ s.usable 1 = some 351 ∧ (s.profile 0).releaseDelta < 351 - 150 ∧ s.usable 0 = some 350)
    ∧ ((panelAt .ready).panel hB 1 ∧ ((panelAt .ready).bed 1).state = .ready ∧ (panelAt .ready).usable 16 = none) := by
  decide

theorem wit_PanelEventsByState :
    ((panelAt .permitted).panel hB 1 ∧ ((panelAt .permitted).bed 1).state = .permitted)
    ∧ ((polled { state := .stripping }).panel hB 1 ∧ ((polled { state := .stripping }).bed 1).state = .stripping
        ∧ ((polled { state := .stripping }).bed 1).pieces = [])
    ∧ ((panelAt .stripping).panel hB 1 ∧ ((panelAt .stripping).bed 1).state = .stripping
        ∧ ((panelAt .stripping).bed 1).pieces ≠ [])
    ∧ ((panelAt .curing).panel hB 1
        ∧ ((panelAt .curing).bed 1).state ≠ .empty ∧ ((panelAt .curing).bed 1).state ≠ .setup
        ∧ ((panelAt .curing).bed 1).state ≠ .casting ∧ ((panelAt .curing).bed 1).state ≠ .ready
        ∧ ((panelAt .curing).bed 1).state ≠ .permitted ∧ ((panelAt .curing).bed 1).state ≠ .stripping) := by decide

theorem wit_PanelHeard :
    ((polled {}).panel hB 1 ∧ ((polled {}).bed 1).panelLost = false)
    ∧ (let s := { polled { panelLost := true, missed := 3 } with cnd := { flags := [(1, { panelLost := some ⟨99, 1, .standing⟩ })] } }
       s.panel hB 1 ∧ (s.bed 1).panelLost = true ∧ (s.flags 1).panelLost = some ⟨99, 1, .standing⟩) := by decide

/-! ## Witnesses: zones, steam, the converter's settings and the scan completion -/

theorem wit_HeatSettings :
    (yard.planner hP ∧ (yard.zoneLayout 1).bed.isSome = true ∧ (yard.zoneLayout 0).bed = (yard.zoneLayout 1).bed
      ∧ (yard.zone 0).follow = none ∧ (∀ i, i < 16 → (yard.zone i).follow ≠ some 1))
    ∧ (∀ st ∈ [Stage.delay, .ramp, .hold], (({ yard with zcu := { zones := [(15, { stage := st })] } }).zone 15).stage = st)
    ∧ ((yard.zone 15).stage ≠ .delay ∧ (yard.zone 15).stage ≠ .ramp ∧ (yard.zone 15).stage ≠ .hold)
    ∧ ({ yard with sha := { yard.sha with inhibit := true } } : State).planner hP := by decide

theorem wit_ConverterSettings :
    (yard.planner hP ∧ yard.pcv.scan ≠ .scanning 17 ∧ yard.pcv.scan = .idle)
    ∧ ((scanningAt 17).planner hP ∧ (scanningAt 17).pcv.scan = .scanning 17)
    ∧ ((atReference true).planner hP ∧ (atReference true).pcv.scan = .scanning 18 ∧ (atReference true).pcv.refPass = false
      ∧ (atReference true).pcv.record.read none 0 = some (.taken 2500 .good (some 423))
      ∧ (atReference true).pcv.record.read none 17 = some .discarded)
    ∧ (atReference false).pcv.refPass = true := by decide

/-- Bed 1 CURING with profile 0 as given, zone 0 as given and zone 1 DONE, its channel and the hall's as given, and piece 0 over
zone 0 with an accumulator; at the last conversion of a scan. -/
def curing (p : Profile) (z : Zone) (own hall : Channel) (acc : Nat) : State :=
  { yard with
    beds := [(1, { state := .curing, plan := some ⟨9, 0, [0]⟩, pieces := [0] })]
    zcu := { profiles := [(0, p)], zones := [(0, { z with profile := some 0 }), (1, { stage := .done, profile := some 0 })] }
    pcv := { scan := .scanning 18, channels := [(0, own), (16, hall)] }
    pct := [(0, { state := .cast, desc := some slab, accumulator := acc, location := some (.bed 1 2) })] }

/-- A VALID channel at a temperature. -/
def validAt (t : Int) : Channel := { state := .valid, temp := some t }

/-- The state after the scan completion of `curing`. -/
def cured (p : Profile) (z : Zone) (own hall : Channel) (acc : Nat) : State := after (.referenceCheck 2048) (curing p z own hall acc)

theorem wit_ZoneStep :
    ((curing {} {} {} {} 0).held = false ∧ (curing {} {} {} {} 0).pcv.scan = .scanning 18)
    ∧ (∀ z, ((curing {} z {} {} 0).zone 0).profile = some 0)
    ∧ (((curing {} {} {} {} 0).zone 0).stage = .idle ∧ ((curing {} {} {} {} 0).zone 1).stage = .done)
    ∧ (((curing {} { stage := .startPending } {} {} 0).zone 0).stage = .startPending
      ∧ 0 < ((curing {} {} {} {} 0).profile 0).delay ∧ ((curing { delay := 0 } {} {} {} 0).profile 0).delay = 0)
    ∧ (let z := (curing {} { stage := .delay, timer := 179 } {} {} 0).zone 0
       z.stage = .delay ∧ z.advance = false ∧ 180 ≤ min 65535 (z.timer + 1))
    ∧ (let z := (curing {} { stage := .delay, timer := 178, advance := true } {} {} 0).zone 0
       z.stage = .delay ∧ z.advance = true ∧ min 65535 (z.timer + 1) < 180)
    ∧ (let z := (curing {} { stage := .ramp, setpoint := some 547 } {} {} 0).zone 0
       z.stage = .ramp ∧ z.advance = false ∧ z.setpoint = some 547 ∧ min (547 + 3) (550 : Int) = 550
         ∧ min (546 + 3) (550 : Int) ≠ 550)
    ∧ ((cured {} { stage := .ramp } (validAt 120) {} 0).usable 0 = some 120
      ∧ ((cured {} { stage := .ramp } { state := .lost } {} 0).published 0).state = .lost
      ∧ ((cured {} { stage := .ramp } {} {} 0).published 0).state = .unsettled)
    ∧ (let s := cured {} { stage := .hold, timer := 3 } (validAt 500) {} 300000
       s.zonePiece 0 0 ∧ 500 * 600 ≤ (s.piece 0).accumulator ∧ min 65535 (3 + 1) < (s.profile 0).maxHold)
    ∧ (let s := cured {} { stage := .hold, timer := 719 } (validAt 500) {} 0
       (s.piece 0).accumulator < 500 * 600 ∧ (s.profile 0).maxHold ≤ min 65535 (719 + 1))
    ∧ (let s := cured {} { stage := .cool, setpoint := some 52 } (validAt 500) (validAt 100) 0
       s.usable 16 = some 100 ∧ max (52 - 2) (50 : Int) = 50)
    ∧ ((cured {} { stage := .hold } (validAt 500) {} 0).usable 0 = some 500
      ∧ ((cured {} { stage := .hold } (validAt 500) {} 0).zone 0).setpoint = some 550
      ∧ ((cured {} { stage := .hold } (validAt 500) {} 0).bed 1).state = .curing) := by
  refine ⟨by decide, fun z => rfl, by decide, by decide, by decide, by decide, by decide, by decide +kernel,
    ⟨⟨1, ⟨1, 2⟩, by decide +kernel⟩, by decide +kernel⟩, by decide +kernel, by decide +kernel, by decide +kernel⟩

theorem wit_FramesPrepared :
    (let s := { curing {} { stage := .hold } (validAt 500) {} 0 with sha := { k := 1, pendingK := some 8, pendingMinOpen := some 10 } }
     s.held = false ∧ s.pcv.scan = .scanning 18 ∧ s.sha.inhibit = false)
    ∧ (let s := { curing {} { stage := .hold } (validAt 500) {} 0 with sha := { minOpen := 10, pendingK := some 1 } }
       ((after (.referenceCheck 2048) s).condSet .PL).overflow = false)
    ∧ (let s := { curing { gain := 60 } { stage := .hold } (validAt 100) {} 0 with sha := { inhibit := true } }
       s.pcv.scan = .scanning 18 ∧ s.sha.inhibit = true) := by decide +kernel

theorem wit_BedsEvaluated :
    (let s := curing {} { stage := .done } (validAt 100) {} 6000
     s.held = false ∧ s.pcv.scan = .scanning 18 ∧ (s.bed 1).state = .curing ∧ s.zoneOf 0 1
       ∧ ((after (.referenceCheck 2048) s).bed 1).state = .ready
       ∧ ((after (.referenceCheck 2048) s).condSet .PL).overflow = false ∧ (s.bed 12).state ≠ .curing)
    ∧ (let s := { curing {} { stage := .done } (validAt 100) {} 6000 with
                  beds := [(1, { state := .cooling, pieces := [0] }), (12, { state := .curing })] }
       (s.bed 1).state = .cooling ∧ (s.bed 12).state = .curing ∧ ∀ z, z < 16 → (s.zoneLayout z).bed ≠ some 12) := by
  refine ⟨⟨by decide, by decide, by decide, ⟨by decide, by decide⟩, by decide +kernel, by decide +kernel, by decide⟩, by decide⟩

theorem wit_AllocationBounded :
    (([⟨0, 3, 60⟩, ⟨1, 2, 60⟩] : List PubEntry).map PubEntry.zone).Nodup
    ∧ (let pubs : List PubEntry := [⟨0, 3, 60⟩, ⟨1, 2, 60⟩, ⟨2, 3, 60⟩]
       (pubs.map PubEntry.zone).Nodup ∧ (⟨2, 3, 60⟩ : PubEntry) ∈ pubs ∧ (⟨1, 2, 60⟩ : PubEntry) ∈ pubs
       ∧ listedSteps (fillLevels pubs [3, 2, 1] (1 * 60)) 2 < 60)
    -- a level that fits the capacity to its last step, and one that asks for one step more
    ∧ (let pubs : List PubEntry := [⟨0, 3, 20⟩, ⟨7, 3, 40⟩, ⟨9, 2, 0⟩, ⟨15, 0, 0⟩]
       (pubs.map PubEntry.zone).Pairwise (· < ·) ∧ ((levelOf pubs 3).map PubEntry.request).sum = leftFor 1 pubs 3
       ∧ (⟨7, 3, 40⟩ : PubEntry) ∈ levelOf pubs 3 ∧ (⟨9, 2, 0⟩ : PubEntry) ∈ pubs ∧ (⟨15, 0, 0⟩ : PubEntry) ∈ pubs)
    ∧ (let pubs : List PubEntry := [⟨0, 3, 19⟩, ⟨2, 2, 11⟩, ⟨7, 2, 16⟩, ⟨9, 2, 15⟩]
       (pubs.map PubEntry.zone).Pairwise (· < ·) ∧ leftFor 1 pubs 2 + 1 = ((levelOf pubs 2).map PubEntry.request).sum
       ∧ (⟨2, 2, 11⟩ : PubEntry) ∈ levelOf pubs 2 ∧ (⟨9, 2, 15⟩ : PubEntry) ∈ levelOf pubs 2) := by decide +kernel

/-- What each of two zones of one priority is given where three of them ask for a step more than is left (R91). -/
theorem test_allocation_shares :
    (let pubs : List PubEntry := [⟨0, 3, 19⟩, ⟨2, 2, 11⟩, ⟨7, 2, 16⟩, ⟨9, 2, 15⟩]
     [0, 2, 7, 9].map (givenSteps 1 pubs) = [19, 11, 15, 15]) := by decide +kernel

/-! ## Witnesses: bays, inventory, queries and conditions -/

/-- Bay 1 open with entries shipped. -/
def openBay (n : Nat) : State :=
  { yard with stk := { bays := [(1, { opened := true, limit := some 60, load := n, shipped := List.replicate n ⟨[65], 9, 1, 50⟩ })] } }

theorem wit_BaysOpenAndClose :
    (yard.planner hP ∧ yard.bayConfigured 1 = true ∧ (yard.bay 1).opened = false)
    ∧ ((openBay 6).planner hP ∧ (openBay 6).bayConfigured 1 = true ∧ ((openBay 6).bay 1).opened = true
        ∧ ((openBay 6).bay 1).pendingCount = 0 ∧ ((openBay 6).bay 1).shipped.length ≤ 2 + 4
        ∧ 1 + 4 < ((openBay 6).bay 1).shipped.length)
    ∧ (((openBay 0).bay 1).opened = true ∧ ((openBay 0).bay 1).shipped = []) := by decide

/-- Cell 0 with two pieces, slot 7 the top. -/
def stocked : State :=
  { yard with
    stk := { cells := [(0, { stack := [5, 7] })] }
    pct := [(5, { state := .stock, desc := some slab, accumulator := 6000, location := some (.cell 0 0) }),
            (7, { state := .stock, desc := some slab, accumulator := 6000, location := some (.cell 0 1) })] }

theorem wit_InventoryWrites :
    (stocked.planner hP
        ∧ (1 ≤ slab.mark.length ∧ slab.mark.length ≤ 12 ∧ (∀ k ∈ slab.mark, 32 ≤ k ∧ k ≤ 126) ∧ slab.mark.head? ≠ some 32)
        ∧ (1 ≤ slab.pour ∧ slab.pour ≤ 65535) ∧ (1 ≤ slab.origin ∧ slab.origin ≤ 12) ∧ slab.segment < 32
        ∧ (1 ≤ slab.weight ∧ slab.weight ≤ 7) ∧ slab.release ≤ 9999 ∧ slab.ship ≤ 9999 ∧ stocked.cellInUse 0 = true
        ∧ slab.release * 600 ≤ 6000 ∧ (stocked.cell 0).arrivals = [] ∧ (stocked.cell 0).pendingOut = 0
        ∧ (stocked.cell 0).stack.length < (stocked.cellLayout 0).limit ∧ (stocked.cell 0).stack.getLast? = some 7
        ∧ slab.weight ≤ (stocked.piece 7).weight ∧ (stocked.piece 0).state = .free)
    ∧ (stocked.cell 0).stack = [5] ++ [7] ∧ (stocked.piece 7).claim = none := by decide

theorem wit_QueriesAndWalk :
    (stocked.master hW ∧ stocked.master hP ∧ stocked.planner hP)
    ∧ ((stocked.piece 191).state = .free ∧ (stocked.piece 7).state ≠ .free)
    ∧ ({ yard with stk := { cursorPL := 47 } }).cursor .PL = 47
    ∧ (let s := { yard with mvu := { moves := [(17, some { park with crane := .E, origin := .generated })] } }
       s.move 17 = some { park with crane := .E, origin := .generated } ∧ park.serial ≤ 4294967295
         ∧ ∀ j, j < 18 → ∀ m' ∈ s.move j, m'.serial = park.serial → j = 17) := by decide

/-- A set of PL with a standing record between two others, and the overflow flag. -/
def signalled : State :=
  { yard with cnd := { pl :=
      { records := [⟨.moveDone, .serial 3, 90, 255, .notice⟩, ⟨.breach, .crane .W, 91, 1, .standing⟩,
          ⟨.restarted, .none, 92, 1, .notice⟩]
        line := .high
        overflow := true } } }

/-- A full set of the west port. -/
def signalledFull : State :=
  { yard with cnd := { cw := { records := (List.range 8).map (fun n => ⟨.moveDone, .serial n, 90, 1, .notice⟩), line := .high } } }

theorem wit_ConditionSets :
    ((signalled.condSet .PL).records = [⟨.moveDone, .serial 3, 90, 255, .notice⟩]
          ++ ⟨.breach, .crane .W, 91, 1, .standing⟩ :: [⟨.restarted, .none, 92, 1, .notice⟩]
        ∧ ∀ q ∈ ([⟨.moveDone, .serial 3, 90, 255, .notice⟩, ⟨.restarted, .none, 92, 1, .notice⟩] : List Cond),
            ¬(q.kind = .breach ∧ q.subject = .crane .W))
    ∧ ((signalled.condSet .PL).records = [] ++ ⟨.moveDone, .serial 3, 90, 255, .notice⟩
          :: [⟨.breach, .crane .W, 91, 1, .standing⟩, ⟨.restarted, .none, 92, 1, .notice⟩])
    ∧ ((∀ r ∈ (signalled.condSet .PL).records, ¬(r.kind = .moveDone ∧ r.subject = .serial 4))
        ∧ (signalled.condSet .PL).records.length < 32)
    ∧ ((∀ r ∈ (signalledFull.condSet .CW).records, ¬(r.kind = .breach ∧ r.subject = .crane .W))
        ∧ 8 ≤ (signalledFull.condSet .CW).records.length)
    ∧ (signalled.modeOf .PL .breach ≠ .clear
        ∧ (let s := { signalled with cnd := { signalled.cnd with pl := { signalled.cnd.pl with modes := [(condIndex .breach, .clear)] } } }
           s.modeOf .PL .breach = .clear))
    ∧ (signalled.master hP ∧ subjectFits .breach (.crane .W) = true ∧ subjectFits .moveDone (.serial 4294967295) = true
        ∧ subjectValue (.serial 4294967295) = some 4294967295)
    ∧ (CondKind.moveDone ∉ ([.breach, .craneStale, .hookMismatch, .deadlock, .probeLost, .converterFault, .panelLost] : List CondKind))
    ∧ yard.planner hP := by decide

/-! ## Witnesses: moves, the lane and the runway -/

/-- A RESTACK of slot 7 from cell 0 to cell 1 by the west crane, in a style. -/
def restackFields (style : Nat) : MoveFields := ⟨0, 1, style, 1, 7, 2, 0, 1, 1⟩

/-- What the stocked yard holds, as the checks of a submission ask for it. -/
theorem stocked_holds : (∀ c, (stocked.cell c).arrivals = []) ∧ (∀ i, stocked.move i = none) ∧ (∀ x, stocked.work x = {})
    ∧ (stocked.piece 5).location = some (.cell 0 0) ∧ (stocked.piece 7).location = some (.cell 0 1) := by
  refine ⟨fun c => ?_, fun i => ?_, fun x => by cases x <;> rfl, by decide, by decide⟩
  · by_cases h : 0 = c <;> simp [State.cell, stocked, Tab.read, h]
  · simp [State.move, stocked, yard, Tab.read]

/-- The nine fields of the RESTACK are in order, and all its checks pass. -/
theorem restack_passes (style : Nat) (hs : style ≤ 2) :
    (∀ n, 1 ≤ n → n ≤ 9 → stocked.moveField (restackFields style) n)
    ∧ ∀ n, 1 ≤ n → n ≤ 11 → stocked.submitCheck (restackFields style) n := by
  obtain ⟨h1, h2, h3, -, h5⟩ := stocked_holds
  constructor
  · intro n a b
    interval_cases n <;> simp [State.moveField, restackFields] <;> first | omega | decide
  · intro n a b
    interval_cases n <;> simp [State.submitCheck, restackFields, h1, h2, h3, h5] <;> first | exact ⟨0, by omega⟩ | decide

theorem wit_MoveAccepted : stocked.planner hP ∧ ∀ style, style ≤ 2 →
    (∀ n, 1 ≤ n → n ≤ 9 → stocked.moveField (restackFields style) n)
    ∧ ∀ n, 1 ≤ n → n ≤ 11 → stocked.submitCheck (restackFields style) n := ⟨by decide, restack_passes⟩

/-- A PREEMPT PARK of the west crane to segment 31. -/
def preemptFields : MoveFields := ⟨0, 3, 2, 0, 255, 255, 255, 3, 31⟩

/-- The west crane's queue under an active lane: a STRIP in slot 0 that the lane passes over, and a PARK in slot 3, WAITING with
the standing refusal. -/
def headWaits (st : MoveState) : State :=
  { manned with
    rru := { manned.rru with west := { activeAt 8 10 with refusal := some ⟨9, .crane, some ⟨8, 12⟩⟩ } }
    mvu := { moves := [(0, some { park with kind := .strip, state := .waiting, reason := some .lane, serial := 4 }),
               (3, some { park with serial := 9, state := st, reason := some .crane })]
             west := { queue := [.move 0, .move 3], lane := .active }, serial := 10 } }

/-- What the moves of that queue are. -/
theorem headWaits_moves (st : MoveState) (k : Nat) (q : Move) (e : (headWaits st).move k = some q) :
    (k = 0 ∧ q.kind = .strip ∧ q.state = .waiting ∧ q.style = .normal)
      ∨ (k = 3 ∧ q.state = st ∧ q.style = .normal) := by
  by_cases h0 : 0 = k
  · subst h0
    simp only [State.move, headWaits, Tab.read, if_true] at e
    cases e
    exact .inl ⟨rfl, rfl, rfl, rfl⟩
  · by_cases h3 : 3 = k
    · subst h3
      simp [State.move, headWaits, Tab.read] at e
      subst e
      exact .inr ⟨rfl, rfl, rfl⟩
    · simp [State.move, headWaits, Tab.read, h0, h3] at e

theorem preempt_passes (st : MoveState) :
    (∀ n, 1 ≤ n → n ≤ 9 → (headWaits st).moveField preemptFields n)
    ∧ ∀ n, 1 ≤ n → n ≤ 11 → (headWaits st).submitCheck preemptFields n := by
  constructor
  · intro n a b
    interval_cases n <;> simp [State.moveField, preemptFields]
  · intro n a b
    interval_cases n <;> simp [State.submitCheck, preemptFields]
    · exact ⟨⟨1, by decide, rfl⟩, (by decide : 2 < 10)⟩
    · intro i m _ e _ f
      rcases headWaits_moves st i m e with h | h
      · rw [h.2.2.2] at f
        cases f
      · rw [h.2.2] at f
        cases f
    · intro k e
      cases e

/-- A PREEMPT passes over a waiting head, and one finds a move TO-PICK, or a yield. -/
theorem wit_MoveAccepted_preempt :
    ((headWaits .waiting).planner hP ∧ submitCrane preemptFields = .W
      ∧ (∃ o, (headWaits .waiting).waitingHead .W 3 o
          ∧ ((headWaits .waiting).crane .W).refusal.map Refused.serial = some o.serial))
    ∧ ((headWaits .toPick).planner hP ∧ ∃ o, (headWaits .toPick).move 3 = some o ∧ o.crane = .W ∧ o.underWay = true)
    ∧ ∀ st, (∀ n, 1 ≤ n → n ≤ 9 → (headWaits st).moveField preemptFields n)
      ∧ ∀ n, 1 ≤ n → n ≤ 11 → (headWaits st).submitCheck preemptFields n := by
  refine ⟨⟨by decide, rfl, _, ⟨by decide, rfl, rfl, rfl, fun k q _ e _ => ?_, rfl, fun h => (by cases h.2), ⟨1, rfl, fun b h => ?_⟩⟩, rfl⟩,
    ⟨by decide, _, rfl, rfl, rfl⟩, preempt_passes⟩
  · rcases headWaits_moves _ k q e with h | h
    · simp [Move.underWay, h.2.2.1]
    · simp [Move.underWay, h.2.1]
  · interval_cases b
    exact ⟨0, _, rfl, rfl, .inr ⟨by decide, rfl⟩⟩

theorem wit_MoveRefused :
    (stocked.planner hP
      ∧ ¬stocked.moveField { restackFields 0 with destNum := 0 } 9
      ∧ ∀ k, 1 ≤ k → k < 9 → stocked.moveField { restackFields 0 with destNum := 0 } k)
    ∧ (¬stocked.submitCheck { restackFields 0 with piece := 5 } 11
      ∧ (∀ k, 1 ≤ k → k ≤ 9 → stocked.moveField { restackFields 0 with piece := 5 } k)
      ∧ ∀ k, 1 ≤ k → k < 11 → stocked.submitCheck { restackFields 0 with piece := 5 } k) := by
  obtain ⟨h1, h2, h3, h4, -⟩ := stocked_holds
  refine ⟨⟨by decide, ?_, fun k a b => ?_⟩, ?_, fun k a b => ?_, fun k a b => ?_⟩
  · simp [State.moveField, restackFields]
  · interval_cases k <;> simp [State.moveField, restackFields]
  · simp only [State.submitCheck, restackFields]
    decide
  · interval_cases k <;> simp [State.moveField, restackFields]
    decide
  · interval_cases k <;> simp [State.submitCheck, restackFields, h1, h2, h3, h4] <;> first | exact ⟨0, by omega⟩ | decide

/-- The yard with the PARK, in a state and with a stop, in slot 15. -/
def parked (st : MoveState) (stop : Stop) : State :=
  { manned with mvu := { moves := [(15, some { park with state := st, stop := stop })], west := { queue := [.move 15] } } }

/-- The west crane's yield, and its suspended RESTACK. -/
def yieldYard (st : MoveState) : State :=
  { stocked with
    rru := manned.rru
    mvu := { moves := [(0, some (restack .suspended)), (16, some { park with serial := 6, state := st, origin := .generated })]
             west := { queue := [.move 0] } } }

theorem wit_MoveCancelled :
    (yard.planner hP ∧ ∀ i, i < 18 → yard.move i = none)
    ∧ (∀ st ∈ ([.lifted .toPlace, .toPick, .queued, .waiting, .suspended] : List MoveState),
        (parked st .none).planner hP ∧ (parked st .none).move 15 = some { park with state := st }
        ∧ ∀ j, j < 18 → ∀ m' ∈ (parked st .none).move j, m'.serial = park.serial → j = 15)
    ∧ (parked .toPick (.sent .cancel)).move 15 = some { park with state := .toPick, stop := .sent .cancel }
    ∧ ((yieldYard .waiting).planner hP ∧ yieldSlot .W = 16
        ∧ (yieldYard .waiting).move 16 = some { park with serial := 6, state := .waiting, origin := .generated }
        ∧ (yieldYard .waiting).move 0 = some (restack .suspended)
        ∧ ∀ j, j < 18 → ∀ m' ∈ (yieldYard .waiting).move j, m'.serial = 6 → j = 16) := by decide

/-- A STRIP of piece 0 of bed 1 to cell 1. -/
def strip (st : MoveState) : Move :=
  { serial := 5, crane := .W, kind := .strip, style := .normal, suspendable := true, piece := some 0,
    source := some (.bed 1), dest := .cell 1, pick := some 2, place := 16, state := st, reason := none, stop := .none,
    origin := .planner }

theorem wit_BarrierAndLane :
    (yard.planner hP ∧ (yard.work .W).queue = [])
    ∧ ({ yard with mvu := { west := { queue := List.replicate 10 .barrier } } }.work .W).queue.length = 10
    ∧ ({ yard with mvu := { west := { queue := List.replicate 9 .barrier } } }.work .W).queue.length < 10
    ∧ (let s := { yard with mvu := { west := { lane := .pending } } }; s.planner hP ∧ (s.work .W).lane ≠ .none)
    ∧ (let s := { yard with mvu := { moves := [(15, some (strip .toPick))] } }
       s.planner hP ∧ (s.work .W).lane = .none ∧ s.move 15 = some (strip .toPick))
    ∧ ((yard.work .W).lane = .none ∧ (∀ i, i < 16 → yard.move i = none)
        ∧ ((after (.laneRequest hP [0]) yard).condSet .PL).overflow = false) := by decide

/-- The west crane STALE with its interval 8 to 10 frozen, its yield under way. -/
def staleYard : State :=
  { yieldYard .toPick with rru := { manned.rru with west := { activeAt 8 10 with presence := .stale, timer := none } } }

theorem wit_DeclaredOut :
    (manned.planner hP ∧ (manned.crane .W).presence = .active)
    ∧ (staleYard.planner hP ∧ (staleYard.crane .W).presence = .stale ∧ (staleYard.crane .W).interval = some ⟨8, 10⟩
        ∧ Range.has ⟨8, 10⟩ 11 = false ∧ Range.has ⟨8, 10⟩ 10 = true ∧ 1 ≤ (staleYard.segment 8).vacate)
    ∧ staleYard.yieldRight .W
    ∧ ((yard.crane .E).presence = .unseen ∧ yard.clearFor .E ⟨31, 31⟩ = true ∧ yard.vacate 31 = none)
    ∧ (let s := { manned with rru := { manned.rru with east := {} } }
       (s.crane .E).presence = .unseen ∧ s.clearFor .E ⟨11, 11⟩ = false)
    ∧ (let s := { yard with rru := { vacates := [(31, some ⟨.W, 1⟩)], east := { presence := .stale } } }
       (s.crane .E).presence = .stale ∧ (s.crane .E).interval = none ∧ s.vacate 31 = some ⟨.W, 1⟩) := by
  refine ⟨by decide, by decide, ?_, by decide, by decide, by decide⟩
  intro y e
  have f : some { park with serial := 6, state := .toPick, origin := .generated } = some y := e
  cases f
  decide

/-- What an interval of a crane must have at a segment, said of the interval that it has. -/
theorem each_interval {o : Option Range} {n : Nat} (h : ∀ r ∈ o, r.has n = false) : ∀ r, o = some r → r.has n = false :=
  fun r e => h r e

theorem wit_BreachLatchedAndCleared :
    (manned.reporting hW .W ∧ (manned.crane .W).interval = some ⟨8, 10⟩ ∧ Range.has ⟨8, 10⟩ 11 = false
        ∧ (manned.crane .W).outside = false ∧ manned.rru.breach = none ∧ Range.has ⟨8, 10⟩ 10 = true)
    ∧ (let s := { manned with rru := { manned.rru with west := {} } }
       s.reporting hW .W ∧ (s.crane .W).interval = none ∧ s.clearFor .W ⟨24, 24⟩ = false
         ∧ ((after (.craneReport hW [24, 0, 0]) s).condSet .CE).overflow = false ∧ s.modeOf .CE .breach = .both)
    ∧ (yard.planner hP ∧ yard.rru.breach = none)
    ∧ (let s := { manned with rru := { manned.rru with breach := some .W } }
       s.planner hP ∧ s.rru.breach = some .W ∧ ∀ x ∈ ([.W, .E] : List Crane), ∀ n ∈ (s.crane x).position,
         s.insideInterval x n = true)
    ∧ (let s := { manned with rru := { manned.rru with breach := some .W, west := { activeAt 8 10 with position := some 11 } } }
       (s.crane .W).position = some 11 ∧ ∀ r ∈ (s.crane .W).interval, r.has 11 = false)
    ∧ (let s := { manned with rru := { manned.rru with breach := some .E, east := { activeAt 25 26 with position := some 24 } } }
       (s.crane .E).position = some 24 ∧ (∀ r ∈ (s.crane .E).interval, r.has 24 = false)
         ∧ (s.crane .W).position = some 8 ∧ Range.has ⟨8, 10⟩ 8 = true) := by decide +kernel

/-! ## Witnesses: crane reports -/

/-- What a report that finds nothing amiss asks of a state, as one question to decide. -/
theorem sound_of {s : State} {h : Header} {x : Crane} {n : Nat} {r : Range}
    (a : s.reporting h x ∧ n < 32 ∧ s.rru.breach = none ∧ (s.work x).mismatch = false ∧ (s.crane x).presence = .active
      ∧ (s.crane x).interval = some r ∧ r.has n = true) : s.soundReport h x n r :=
  ⟨a.1, a.2.1, a.2.2.1, a.2.2.2.1, a.2.2.2.2.1, a.2.2.2.2.2.1, a.2.2.2.2.2.2⟩

/-- What a crane's only move asks of a state, as one question to decide. -/
theorem only_of {s : State} {x : Crane} {i : Nat} {m : Move}
    (a : i < 16 ∧ s.move i = some m ∧ m.crane = x ∧ (s.work x).queue = [.move i] ∧ s.move (yieldSlot x) = none
      ∧ ∀ j, j < 18 → j ≠ i → ∀ o ∈ s.move j, o.crane ≠ x) : s.onlyMove x i m :=
  ⟨a.1, a.2.1, a.2.2.1, a.2.2.2.1, a.2.2.2.2.1, fun j o hj d e => a.2.2.2.2.2 j hj d o e⟩

/-- What a move ready to be asked for asks of a state, as one question to decide. -/
theorem asking_of {s : State} {h : Header} {x : Crane} {n i : Nat} {m : Move} {leg : Leg} {r : Range}
    (a : s.soundReport h x n r) (b : s.onlyMove x i m)
    (c : (s.work x).orphan = none ∧ (s.work x).lane = .none ∧ (m.state = .queued ∨ m.state = .waiting) ∧ m.stop = .none
      ∧ ((m.kind = .park ∧ leg = .park) ∨ (m.kind ≠ .park ∧ m.kind ≠ .setDown ∧ m.piece.isSome = true ∧ leg = .pick))
      ∧ ∀ q ∈ (s.crane x).refusal, q.serial = m.serial) : s.asking h x n i m leg r :=
  ⟨a, b, c.1, c.2.1, c.2.2.1, c.2.2.2.1, c.2.2.2.2.1, fun q e => c.2.2.2.2.2 q e⟩

/-- The west crane on 8 to 10 with move `m` in slot 0 alone; the stock of `stocked` with slot 7 on its way from cell 0 to cell 1;
bed 1 in a state with piece 0 in it. -/
def worked (m : Move) (east : CraneRec) (bed : BedState) : State :=
  { stocked with
    beds := [(1, { state := bed, plan := some ⟨9, 0, [0]⟩, pieces := [0] })]
    stk := { cells := [(0, { stack := [5, 7], pendingOut := 1 }), (1, { arrivals := [7] })] }
    pct := (0, { state := .cast, desc := some slab, accumulator := 6000, location := some (.bed 1 2), claim := some 5 })
      :: (stocked.pct.write {} 7 { stocked.piece 7 with claim := some 5 })
    rru := { west := activeAt 8 10, east := east }
    mvu := { moves := [(0, some m)], west := { queue := [.move 0] }, serial := 6 } }

/-- A LOAD-OUT of slot 7 from cell 0 to bay 1, before its ship target of 12,000. -/
def loadOut : Move := { restack .queued with kind := .loadOut, dest := .bay 1, place := 20 }

/-- The east crane STALE with an interval and a carry hull. -/
def staleEast (lo hi : Nat) (hull : Option Range) : CraneRec :=
  { activeAt lo hi with presence := .stale, timer := none, hull := hull }

/-- The RESTACK's gates let its pick leg pass. -/
theorem restack_gates (st : MoveState) (east : CraneRec) (bed : BedState) :
    (worked (restack st) east bed).gatesPass (restack st) .pick := by
  refine fun _ => ⟨?_, ?_, ?_, ?_⟩
  · intro b h
    simp [restack] at h
  · intro h
    simp [restack] at h
  · intro c p h1 h2
    simp only [restack, Option.some.injEq, Source.cell.injEq] at h1 h2
    subst h1 h2
    rfl
  · intro c p h1 h2
    simp only [restack, Option.some.injEq, Dest.cell.injEq] at h1 h2
    subst h1 h2
    rfl

/-- A PARK has no gate to pass. -/
theorem park_gates (s : State) (m : Move) : s.gatesPass m .park := fun h => by cases h

/-- The move of `worked` is asked for by a report at segment 8. -/
theorem worked_asked (m : Move) (east : CraneRec) (bed : BedState) (leg : Leg) (hm : m.crane = .W)
    (a : (m.state = .queued ∨ m.state = .waiting) ∧ m.stop = .none
      ∧ ((m.kind = .park ∧ leg = .park) ∨ (m.kind ≠ .park ∧ m.kind ≠ .setDown ∧ m.piece.isSome = true ∧ leg = .pick))) :
    (worked m east bed).asking hW .W 8 0 m leg ⟨8, 10⟩ := by
  refine asking_of (sound_of ⟨⟨rfl, ⟨rfl, by decide, rfl⟩, rfl⟩, by decide, rfl, rfl, rfl, rfl, rfl⟩)
    (only_of ⟨by decide, rfl, hm, rfl, rfl, fun j _ d o e => ?_⟩)
    ⟨rfl, rfl, a.1, a.2.1, a.2.2, fun q e => by cases e⟩
  have f : ¬(0 = j) := fun h => d h.symm
  simp [State.move, worked, Tab.read, f] at e

theorem wit_ReportsTaken :
    (manned.reporting hW .W ∧ manned.rru.breach = none ∧ (manned.work .W).mismatch = false
        ∧ (manned.work .W).orphan = none ∧ (manned.work .W).queue = [] ∧ (∀ i, i < 18 → manned.move i = none)
        ∧ (manned.crane .W).presence = .active ∧ (manned.crane .W).interval = some ⟨8, 10⟩
        ∧ Range.has ⟨8, 10⟩ 10 = true)
    ∧ (yard.reporting hW .W ∧ (yard.crane .W).presence = .unseen ∧ (yard.crane .W).interval = none
        ∧ yard.clearFor .W ⟨31, 31⟩ = true)
    ∧ (let s := { yard with rru := { west := staleEast 8 10 none } }
       (s.crane .W).presence = .stale ∧ (s.crane .W).interval = some ⟨8, 10⟩) := by decide

theorem wit_LegsAsked :
    -- BED, STRENGTH and BURIED
    ((worked (strip .queued) (activeAt 25 26) .ready).asking hW .W 8 0 (strip .queued) .pick ⟨8, 10⟩
      ∧ (strip .queued).source = some (.bed 1) ∧ ((worked (strip .queued) (activeAt 25 26) .ready).bed 1).state = .ready)
    ∧ ((worked loadOut (activeAt 25 26) .ready).asking hW .W 8 0 loadOut .pick ⟨8, 10⟩ ∧ loadOut.piece = some 7
      ∧ ((worked loadOut (activeAt 25 26) .ready).piece 7).shipOk = false)
    ∧ (let m := { restack .waiting with piece := some 5 }
       (worked m (activeAt 25 26) .ready).asking hW .W 8 0 m .pick ⟨8, 10⟩
         ∧ ((worked m (activeAt 25 26) .ready).cell 0).stack.getLast? ≠ some 5)
    -- CRANE, LOADED-CONFLICT, RUNWAY and VACATE
    ∧ ((worked park {} .ready).asking hW .W 8 0 park .park ⟨8, 10⟩ ∧ ((worked park {} .ready).crane .E).interval = none)
    ∧ (let s := worked (restack .queued) (staleEast 25 26 (some ⟨17, 26⟩)) .ready
       s.asking hW .W 8 0 (restack .queued) .pick ⟨8, 10⟩ ∧ s.gatesPass (restack .queued) .pick
         ∧ (s.crane .E).hull = some ⟨17, 26⟩
         ∧ (widen s.lyt.yard.gap .W ⟨17, 26⟩).overlaps (restack .queued).hull = true)
    ∧ (let s := worked park (staleEast 13 14 none) .ready
       s.asking hW .W 8 0 park .park ⟨8, 10⟩ ∧ s.gatesPass park .park ∧ s.loadedConflict .W park .park = false
         ∧ clearOf s.lyt.yard.gap .W (needOf ⟨8, 10⟩ park .park) ⟨13, 14⟩ = false ∧ park.style ≠ .preempt)
    ∧ (let s := { worked park (staleEast 14 15 none) .ready with
                  rru := { west := activeAt 8 10, east := staleEast 14 15 none, vacates := [(12, some ⟨.E, 2⟩)] } }
       s.loadedConflict .W park .park = false ∧ clearOf s.lyt.yard.gap .W (needOf ⟨8, 10⟩ park .park) ⟨14, 15⟩ = true
         ∧ Range.has (needOf ⟨8, 10⟩ park .park) 12 = true ∧ Range.has ⟨8, 10⟩ 12 = false ∧ s.vacate 12 = some ⟨.E, 2⟩)
    -- the grants of a pick or a park leg, and of a place leg
    ∧ (let s := worked (restack .queued) (activeAt 25 26) .ready
       s.asking hW .W 8 0 (restack .queued) .pick ⟨8, 10⟩ ∧ s.gatesPass (restack .queued) .pick
         ∧ (s.crane .E).interval = some ⟨25, 26⟩ ∧ s.loadedConflict .W (restack .queued) .pick = false
         ∧ clearOf s.lyt.yard.gap .W (needOf ⟨8, 10⟩ (restack .queued) .pick) ⟨25, 26⟩ = true ∧ ∀ k, s.vacate k = none)
    ∧ (let m := restack (.lifted .waitPlace)
       let s := worked m (activeAt 25 26) .ready
       s.soundReport hW .W 8 ⟨8, 10⟩ ∧ s.onlyMove .W 0 m ∧ m.stop = .none ∧ m.piece.isSome = true
         ∧ (s.crane .E).interval = some ⟨25, 26⟩ ∧ clearOf s.lyt.yard.gap .W ⟨8, 16⟩ ⟨25, 26⟩ = true
         ∧ ∀ k v, s.vacate k = some v → v.releasing = .W) := by
  refine ⟨⟨worked_asked _ _ _ _ rfl (by decide), by decide⟩, ⟨worked_asked _ _ _ _ rfl (by decide), by decide⟩,
    ⟨worked_asked _ _ _ _ rfl (by decide), by decide⟩, ⟨worked_asked _ _ _ _ rfl (by decide), by decide⟩,
    ⟨worked_asked _ _ _ _ rfl (by decide), restack_gates _ _ _, by decide⟩,
    ⟨worked_asked _ _ _ _ rfl (by decide), park_gates _ _, by decide⟩, by decide,
    ⟨worked_asked _ _ _ _ rfl (by decide), restack_gates _ _ _, by decide, by decide, by decide, no_vacates _ rfl⟩,
    ⟨sound_of (by decide), only_of (by decide), by decide, by decide, by decide, by decide, fun k v e => ?_⟩⟩
  rw [no_vacates _ rfl] at e
  cases e

/-- The west crane on 14 to 16 with a move in slot 0 alone, and what stands with it. -/
def hauling (m : Move) (orphan : Option Nat) : State :=
  { worked m (activeAt 25 26) .released with
    rru := { west := { activeAt 14 16 with position := some 15 }, east := activeAt 25 26 }
    mvu := { moves := [(0, some m)], west := { queue := [.move 0], orphan := orphan }, serial := 6 } }

theorem wit_PickedAndPlaced :
    (let s := hauling (restack .toPick) none
     s.soundReport hW .W 16 ⟨14, 16⟩ ∧ s.onlyMove .W 0 (restack .toPick) ∧ (s.work .W).orphan = none
       ∧ (s.cell 0).stack = [5] ++ [7] ∧ 7 ∉ [5] ∧ 1 ≤ (s.segment 14).vacate)
    ∧ (let s := hauling (restack (.lifted .toPlace)) none
       s.soundReport hW .W 16 ⟨14, 16⟩ ∧ s.onlyMove .W 0 (restack (.lifted .toPlace))
         ∧ ∀ k, (restack (.lifted .toPlace)).dest ≠ .segment k)
    ∧ (let m := { loadOut with state := .lifted .toPlace, place := 16 }
       (hauling m none).soundReport hW .W 16 ⟨14, 16⟩ ∧ (hauling m none).onlyMove .W 0 m ∧ m.dest = .bay 1)
    ∧ ((after (.craneReport hW [16, 0, 3]) (hauling (restack (.lifted .toPlace)) none)).condSet .PL).overflow = false := by
  refine ⟨⟨sound_of (by decide), only_of (by decide), by decide⟩,
    ⟨sound_of (by decide), only_of (by decide), fun k => by simp [restack]⟩,
    ⟨sound_of (by decide), only_of (by decide), by decide⟩, by decide +kernel⟩

/-- A PARK of the west crane to segment 16, TO-PICK. -/
def parkHere : Move := { park with dest := .segment 16, place := 16, state := .toPick }

/-- The west crane's yield at its target, over its suspended RESTACK. -/
def yielding : State :=
  { hauling parkHere none with
    mvu := { moves := [(0, some (restack .suspended)), (16, some { parkHere with serial := 6, origin := .generated })]
             west := { queue := [.move 0] } } }

theorem wit_LegsEnd :
    (let s := hauling parkHere none
     s.soundReport hW .W 16 ⟨14, 16⟩ ∧ s.onlyMove .W 0 parkHere ∧ (s.work .W).orphan = none)
    ∧ (yielding.soundReport hW .W 16 ⟨14, 16⟩ ∧ (yielding.work .W).orphan = none
      ∧ yielding.move (yieldSlot .W) = some { parkHere with serial := 6, origin := .generated }
      ∧ (∀ j, j < 18 → j ≠ 16 → ∀ o ∈ yielding.move j, o.underWay = false)
      ∧ (yielding.work .W).queue = [.move 0] ∧ yielding.move 0 = some (restack .suspended))
    ∧ (let s := hauling (restack .toPick) none
       s.soundReport hW .W 16 ⟨14, 16⟩ ∧ s.onlyMove .W 0 (restack .toPick))
    ∧ (let m := { strip .toPick with pick := some 16 }
       let s := hauling m none
       s.soundReport hW .W 16 ⟨14, 16⟩ ∧ s.onlyMove .W 0 m ∧ m.style ≠ .atomic ∧ (s.bed 1).state = .released)
    ∧ (let m := { restack .toPick with style := .atomic, place := 15 }
       let s := hauling m none
       s.soundReport hW .W 16 ⟨14, 16⟩ ∧ s.onlyMove .W 0 m ∧ m.hull.within ⟨14, 16⟩ = true) := by
  refine ⟨⟨sound_of (by decide), only_of (by decide), by decide⟩, ⟨sound_of (by decide), by decide⟩,
    ⟨sound_of (by decide), only_of (by decide)⟩, ⟨sound_of (by decide), only_of (by decide), by decide⟩,
    ⟨sound_of (by decide), only_of (by decide), by decide⟩⟩

theorem wit_EventsAndHooksJudged :
    -- an event that no move stands as needed for, and a presence event that is not taken
    (manned.reporting hW .W ∧ (∀ i, i < 18 → manned.move i = none)
      ∧ ((after (.craneReport hW [8, 0, 1]) manned).condSet .PL).overflow = false)
    ∧ ((manned.crane .W).interval = some ⟨8, 10⟩ ∧ Range.has ⟨8, 10⟩ 11 = false)
    ∧ ((manned.crane .W).presence ≠ .out)
    ∧ (let s := { manned with rru := { manned.rru with west := { activeAt 8 10 with presence := .out } } }
       (s.crane .W).presence = .out ∧ (s.crane .W).interval ≠ some ⟨8, 8⟩)
    -- a hook that differs from the one expected, and one that is as expected after a mismatch
    ∧ (manned.reporting hW .W ∧ (manned.work .W).orphan = none ∧ (manned.work .W).mismatch = false
      ∧ manned.modeOf .CW .hookMismatch = .both
      ∧ ((after (.craneReport hW [8, 1, 0]) manned).condSet .CW).overflow = false)
    ∧ (let s := { hauling (restack (.lifted .waitPlace)) none with
                  mvu := { moves := [(0, some (restack (.lifted .waitPlace)))], west := { queue := [.move 0], mismatch := true } } }
       s.reporting hW .W ∧ s.move 0 = some (restack (.lifted .waitPlace)) ∧ (s.work .W).mismatch = true
         ∧ (after (.craneReport hW [16, 1, 0]) s).rru.breach = none) := by decide +kernel

theorem wit_StopsComplete :
    ∀ st ∈ ([.owed .cancel, .owed .suspend, .sent .cancel, .sent .suspend] : List Stop),
      (let m := { restack .toPick with stop := st }
       let s := hauling m none
       s.reporting hW .W ∧ s.onlyMove .W 0 m ∧ (s.crane .W).interval = some ⟨14, 16⟩ ∧ (s.crane .W).presence = .active
         ∧ (s.work .W).orphan = none ∧ (s.work .W).mismatch = false ∧ s.rru.breach = none
         ∧ Range.has ⟨14, 16⟩ 16 = true ∧ Range.has ⟨14, 16⟩ 17 = false ∧ (s.crane .W).outside = false) := by
  intro st h
  fin_cases h <;> exact ⟨by decide, only_of (by decide), by decide⟩

theorem wit_CraneGoesOutAndIn :
    (let s := yieldYard .toPick
     s.reporting hW .W ∧ (s.crane .W).presence ≠ .out ∧ (s.crane .W).interval = some ⟨8, 10⟩ ∧ s.rru.breach = none
       ∧ s.yieldRight .W ∧ (after (.craneReport hW [8, 0, 5]) s).work .W = { queue := [.move 0], lastOrder := some .idle }
       ∧ ((after (.craneReport hW [8, 0, 5]) s).condSet .PL).overflow = false)
    ∧ (∀ m ∈ ([restack .toPick, { restack .toPick with stop := .sent .cancel }, restack (.lifted .toPlace)] : List Move),
       (hauling m none).reporting hW .W ∧ (hauling m none).yieldRight .W ∧ (hauling m none).mainMove .W 0 m
         ∧ ((hauling m none).work .W).queue = [.move 0] ∧ ((hauling m none).work .W).lane = .none)
    ∧ (let s := { worked park {} .ready with rru := { west := { activeAt 8 8 with presence := .out } } }
       s.reporting hW .W ∧ (s.crane .W).presence = .out ∧ (s.crane .W).interval = some ⟨8, 8⟩) := by
  refine ⟨⟨by decide, by decide, by decide, by decide, fun y e => ?_, by decide +kernel, by decide +kernel⟩, fun m h => ?_, by decide⟩
  · have f : some { park with serial := 6, state := .toPick, origin := .generated } = some y := e
    cases f
    decide
  · have alone : ∀ j o, j < 16 → j ≠ 0 → (hauling m none).move j = some o → o.crane = .W → o.underWay = false := by
      intro j o _ d e
      simp only [State.move, hauling, Tab.read] at e
      simp_all [eq_comm]
    have yields : (hauling m none).yieldRight .W := fun y e => by cases e
    fin_cases h <;> exact ⟨by decide, yields, ⟨by decide, rfl, rfl, alone⟩, by decide, by decide⟩

/-- The west crane's move in slot 0 against the east crane's in slot 1, whose RUNWAY refusal stands. -/
def waiting (m q : Move) : State :=
  { worked m (activeAt 13 14) .ready with
    rru := { west := activeAt 8 10,
             east := { activeAt 13 14 with refusal := some ⟨q.serial, .runway, some ⟨q.place, 14⟩⟩ } }
    mvu := { moves := [(0, some m), (1, some q)], west := { queue := [.move 0] }, east := { queue := [.move 1] }, serial := 7 } }

/-- A PARK of the east crane to segment 9. -/
def parkEast (serial : Nat) (suspendable : Bool) : Move :=
  { park with crane := .E, dest := .segment 9, place := 9, serial := serial, suspendable := suspendable, state := .waiting,
              reason := some .runway }

/-- The west crane's move of `waiting` is asked for by a report at segment 8. -/
theorem waiting_asked (m q : Move) (hm : m.crane = .W ∧ m.kind = .park ∧ m.state = .queued ∧ m.stop = .none) (hq : q.crane = .E) :
    (waiting m q).asking hW .W 8 0 m .park ⟨8, 10⟩ := by
  refine asking_of (sound_of ⟨⟨rfl, ⟨rfl, by decide, rfl⟩, rfl⟩, by decide, rfl, rfl, rfl, rfl, rfl⟩)
    (only_of ⟨by decide, rfl, hm.1, rfl, rfl, fun j _ d o e => ?_⟩)
    ⟨rfl, rfl, .inl hm.2.2.1, hm.2.2.2, .inl ⟨hm.2.1, rfl⟩, fun r e => by cases e⟩
  have f : ¬(0 = j) := fun h => d h.symm
  by_cases g : 1 = j
  · simp [State.move, waiting, Tab.read, ← g] at e
    simp [← e, hq]
  · simp [State.move, waiting, Tab.read, f, g] at e

theorem wit_YieldsCalled :
    -- the other crane ACTIVE with no move: a yield, and DEADLOCK where its target lies outside 0 to 31
    (let s := worked park (activeAt 13 14) .ready
     s.asking hW .W 8 0 park .park ⟨8, 10⟩ ∧ s.gatesPass park .park ∧ (s.crane .E).interval = some ⟨13, 14⟩
       ∧ s.loadedConflict .W park .park = false ∧ clearOf s.lyt.yard.gap .W (needOf ⟨8, 10⟩ park .park) ⟨13, 14⟩ = false
       ∧ (s.crane .E).presence = .active ∧ (s.work .E).orphan = none ∧ s.move (yieldSlot .E) = none
       ∧ yieldTarget s.lyt.yard.gap .E (needOf ⟨8, 10⟩ park .park) = some 14)
    ∧ (let m := { park with dest := .segment 30, place := 30 }
       yieldTarget 1 .E (needOf ⟨8, 10⟩ m .park) = none ∧ (worked m (activeAt 13 14) .ready).rru.deadlock = none)
    -- a mutual wait: the other is suspended, this one is, or neither can be
    ∧ (let q := parkEast 6 true
       let s := waiting park q
       s.asking hW .W 8 0 park .park ⟨8, 10⟩ ∧ (s.crane .E).refusal = some ⟨6, .runway, some ⟨9, 14⟩⟩
         ∧ clearOf s.lyt.yard.gap .E ⟨9, 14⟩ ⟨8, 10⟩ = false ∧ s.move 1 = some q ∧ s.rru.deadlock = none
         ∧ q.suspendable = true ∧ q.isLifted = false ∧ s.move (yieldSlot .E) = none ∧ park.serial < q.serial
         ∧ q.standing = true ∧ yieldTarget s.lyt.yard.gap .E (needOf ⟨8, 10⟩ park .park) = some 14)
    ∧ (let q := parkEast 4 true
       (waiting park q).asking hW .W 8 0 park .park ⟨8, 10⟩ ∧ q.serial < park.serial ∧ park.suspendable = true
         ∧ yieldTarget 1 .W ⟨9, 14⟩ = some 7)
    ∧ (let q := parkEast 4 false
       let m := { park with suspendable := false }
       (waiting m q).asking hW .W 8 0 m .park ⟨8, 10⟩ ∧ m.suspendable = false ∧ q.suspendable = false)
    -- a PREEMPT over a waiting and over a moving move
    ∧ (∀ st ∈ ([.waiting, .toPick] : List MoveState),
       (let q := { parkEast 4 true with state := st }
        let m := { park with style := .preempt, suspendable := false }
        let s := waiting m q
        s.asking hW .W 8 0 m .park ⟨8, 10⟩ ∧ s.onlyMove .E 1 q ∧ (s.work .E).lane = .none ∧ q.suspendable = true)) := by
  refine ⟨⟨worked_asked _ _ _ _ rfl (by decide), park_gates _ _, by decide⟩, by decide,
    ⟨waiting_asked _ _ (by decide) rfl, by decide⟩, ⟨waiting_asked _ _ (by decide) rfl, by decide⟩,
    ⟨waiting_asked _ _ (by decide) rfl, by decide⟩, fun st h => ?_⟩
  fin_cases h <;> exact ⟨waiting_asked _ _ (by decide) rfl, only_of (by decide), by decide⟩

/-- A SET-DOWN of the orphan in slot 7 to cell 1. -/
def setDown (st : MoveState) : Move :=
  { restack st with kind := .setDown, source := none, pick := none, suspendable := false }

theorem wit_SetDownTaken :
    ∀ st ∈ ([.queued, .waiting, .lifted .toPlace] : List MoveState),
      (let s := hauling (setDown st) (some 7)
       s.soundReport hW .W 16 ⟨14, 16⟩ ∧ s.onlyMove .W 0 (setDown st) ∧ (s.work .W).orphan = some 7
         ∧ (setDown st).piece = some 7 ∧ (setDown st).place = 16) := by
  intro st h
  fin_cases h <;> exact ⟨sound_of (by decide), only_of (by decide), by decide⟩

/-! ## Witnesses: the link's own events, and the whole machine -/

theorem wit_FramesReceived :
    (yard.held = false ∧ Port.PL ≠ .BL ∧ (yard.port .PL).begun = [] ∧ (yard.port .PL).rx = .hunt)
    ∧ badBytes [0xA5, 121] ∧ badBytes [0xA5, 2, 0, 1, 0, 0, 0] ∧ begunBytes [0xA5] ∧ begunBytes [0xA5, 2, 0, 1, 0, 0]
    ∧ (((westIn .chain (some (7, .condRead)) 2).port .CW).rx = .chain
      ∧ ((westIn .chain (some (7, .condRead)) 2).port .CW).inHand = some (hW.seq, .condRead)
      ∧ ((westIn .chain (some (7, .condRead)) 2).port .CW).frames < 3)
    ∧ 3 ≤ ((westIn .chain (some (7, .condRead)) 3).port .CW).frames
    ∧ ((westIn .chain (some (6, .condRead)) 1).port .CW).inHand ≠ some (hW.seq, .condRead)
    ∧ ∀ r ∈ [RxState.handling, .replying], ((westIn r none 0).port .CW).rx = r ∧ ((westIn r none 0).port .CW).begun = [] := by
  refine ⟨by decide, .inl ⟨121, by omega, rfl⟩, .inr ⟨2, 0, 1, [0], 0, 0, by omega, by omega, rfl, by decide +kernel, rfl⟩, .inl rfl,
    .inr ⟨2, [0, 1, 0, 0], by omega, by omega, by decide, rfl⟩, by decide, by decide, by decide, by decide⟩

theorem wit_PollsAndMisses :
    (yard.held = false ∧ yard.run = true ∧ yard.lnk.window = false ∧ yard.lnk.bl.rx = .hunt ∧ yard.bedConfigured 1 = true
        ∧ (yard.lnk.poll.map Poll.bed).getD 0 < 1)
    ∧ (let s := { yard with lnk := { poll := some ⟨1, 255, {}⟩ } }
       (∀ a, a ≤ 12 → (s.lnk.poll.map Poll.bed).getD 0 < a → s.bedConfigured a = false) ∧ s.bedConfigured 0 = false)
    ∧ ((polled { missed := 1 }).lnk.window = true ∧ (polled { missed := 1 }).lnk.poll = some ⟨1, 0, {}⟩
        ∧ (polled { missed := 1 }).lnk.bl.begun = [] ∧ ((polled { missed := 1 }).bed 1).missed < 2)
    ∧ (2 ≤ ((polled { missed := 2 }).bed 1).missed ∧ ((polled { missed := 2 }).bed 1).panelLost = false
        ∧ (polled { missed := 2 }).modeOf .PL .panelLost = .both) := by decide

theorem wit_StepKeepsConditionSets :
    step signalled = .next signalled ∧ signalled.linesRight ∧ signalled.setsRight := by
  refine ⟨rfl, fun p => ?_, fun p => ?_⟩ <;> cases p <;> decide

theorem wit_StepKeepsCranesApart : step manned = .next manned ∧ manned.apart := by
  refine ⟨rfl, fun w e hw he => ?_, by decide⟩
  have h1 : some (⟨8, 10⟩ : Range) = some w := hw
  have h2 : some (⟨25, 26⟩ : Range) = some e := he
  cases h1
  cases h2
  decide

theorem wit_AccumulatorsNeverFall :
    step pieceYard = .next pieceYard ∧ pieceYard.accumulatorsHeld
    ∧ exec (.referenceCheck 2048) pieceYard = .next (after (.referenceCheck 2048) pieceYard)
    ∧ (∀ h body, Instr.referenceCheck 2048 ≠ .castStart h body) ∧ (pieceYard.piece 191).live = true
    ∧ ((after (.referenceCheck 2048) pieceYard).piece 191).live = true := by
  refine ⟨rfl, fun n => ?_, rfl, fun _ _ => by simp, by decide, by decide +kernel⟩
  simp only [State.piece, pieceYard, Tab.read]
  repeat' split
  all_goals decide

/-- The queues of a state, as one question to decide. -/
theorem queues_of {s : State}
    (h : ∀ x ∈ [Crane.W, .E],
      (∀ e ∈ (s.work x).queue, e = .barrier ∨ ∃ j, j < 16 ∧ e = .move j ∧ (s.move j).map Move.crane = some x)
      ∧ ∀ a, a < (s.work x).queue.length → ∀ b, b < (s.work x).queue.length →
        (s.work x).queue[a]? = (s.work x).queue[b]? → (s.work x).queue[a]? ≠ some .barrier → a = b) : s.queuesRight := by
  intro x
  have g := h x (by cases x <;> simp)
  constructor
  · intro a j e
    rcases g.1 _ (List.mem_of_getElem? e) with f | ⟨i, hi, f, hm⟩
    · cases f
    · cases f
      cases m : s.move j with
      | none => simp [m] at hm
      | some o => exact ⟨hi, o, rfl, by simpa [m] using hm⟩
  · intro a b j ha hb
    exact g.2 a (List.getElem?_eq_some_iff.mp ha).1 b (List.getElem?_eq_some_iff.mp hb).1 (ha.trans hb.symm)
      (by rw [ha]; simp)

/-- The west crane on 8 to 10 with a queue, a STRIP in slot 0 and a PARK in slot 15. -/
def queued (lane : Lane) (q : List Entry) : State :=
  { manned with
    rru := { manned.rru with west := { activeAt 8 10 with refusal := some ⟨6, .crane, some ⟨8, 12⟩⟩ } }
    mvu := { moves := [(0, some (strip .queued)), (15, some { park with serial := 6, state := .waiting, reason := some .crane })]
             west := { queue := q, lane := lane }, serial := 7 } }

/-- What the moves of that queue are. -/
theorem queued_moves (lane : Lane) (q : List Entry) (k : Nat) (m : Move) (e : (queued lane q).move k = some m) :
    (k = 0 ∧ m = strip .queued) ∨ (k = 15 ∧ m = { park with serial := 6, state := .waiting, reason := some .crane }) := by
  by_cases h0 : 0 = k
  · subst h0
    exact .inl ⟨rfl, by simpa [State.move, queued, Tab.read] using e.symm⟩
  · by_cases h3 : 15 = k
    · subst h3
      exact .inr ⟨rfl, by simpa [State.move, queued, Tab.read] using e.symm⟩
    · simp [State.move, queued, Tab.read, h0, h3] at e

/-- A report finds the crane's work in that queue. -/
theorem queued_report (lane : Lane) (q : List Entry) (h : (queued lane q).queuesRight) :
    (queued lane q).queueReport hW .W 8 ⟨8, 10⟩ := by
  refine ⟨⟨⟨rfl, ⟨rfl, by decide, rfl⟩, rfl⟩, by decide, rfl, rfl, rfl, rfl, rfl⟩, rfl, fun k m _ e _ => ?_, rfl, rfl, h⟩
  rcases queued_moves lane q k m e with ⟨-, f⟩ | ⟨-, f⟩ <;> subst f <;> exact ⟨rfl, by decide⟩

/-- A move alone with its crane is the one a lane waits for. -/
theorem hauled (m : Move) (lane : Lane) (hm : m.crane = .W) :
    (let s := { hauling m none with mvu := { (hauling m none).mvu with west := { queue := [.move 0], lane := lane } } }
     s.soundReport hW .W 16 ⟨14, 16⟩ ∧ s.mainMove .W 0 m ∧ (s.work .W).lane = lane) := by
  refine ⟨⟨⟨rfl, ⟨rfl, by decide, rfl⟩, rfl⟩, by decide, rfl, rfl, rfl, rfl, rfl⟩, ⟨by decide, rfl, hm, fun j o _ d e => ?_⟩, rfl⟩
  have f : ¬(0 = j) := fun h => d h.symm
  simp [State.move, hauling, Tab.read, f] at e

theorem wit_BarrierAndLane_reports :
    -- every move passed over by the lane or behind a barrier
    ((queued .pending [.move 0, .barrier, .move 15]).queueReport hW .W 8 ⟨8, 10⟩
      ∧ ∀ a j m, ((queued .pending [.move 0, .barrier, .move 15]).work .W).queue[a]? = some (.move j) →
        (queued .pending [.move 0, .barrier, .move 15]).move j = some m →
        (queued .pending [.move 0, .barrier, .move 15]).behindBarrier .W a
          ∨ (queued .pending [.move 0, .barrier, .move 15]).lanePasses .W m)
    -- a head candidate before a barrier, and one behind a move that the lane passes over
    ∧ ((queued .none [.move 0, .barrier, .move 15]).queueReport hW .W 8 ⟨8, 10⟩
      ∧ ¬(queued .none [.move 0, .barrier, .move 15]).behindBarrier .W 0
      ∧ ¬(queued .none [.move 0, .barrier, .move 15]).lanePasses .W (strip .queued))
    ∧ ((queued .active [.move 0, .move 15, .barrier]).queueReport hW .W 8 ⟨8, 10⟩
      ∧ ¬(queued .active [.move 0, .move 15, .barrier]).behindBarrier .W 1
      ∧ (queued .active [.move 0, .move 15, .barrier]).lanePasses .W (strip .queued))
    -- the move that a PENDING lane waits for, at its end, at its suspension and while it goes on
    ∧ ∀ m ∈ ([strip (.lifted .toPlace), { strip .toPick with pick := some 16 },
        { strip .toPick with stop := .sent .suspend }, { strip .toPick with stop := .sent .cancel }] : List Move),
      (let s := { hauling m none with mvu := { (hauling m none).mvu with west := { queue := [.move 0], lane := .pending } } }
       s.soundReport hW .W 16 ⟨14, 16⟩ ∧ s.mainMove .W 0 m ∧ (s.work .W).lane = .pending) ∧ m.kind = .strip
        ∧ m.underWay = true := by
  refine ⟨⟨queued_report _ _ (queues_of (by decide)), fun a j m e f => ?_⟩,
    ⟨queued_report _ _ (queues_of (by decide)), ?_, fun h => h.1 rfl⟩,
    ⟨queued_report _ _ (queues_of (by decide)), ?_, by decide, rfl⟩, fun m h => ⟨hauled m _ ?_, ?_, ?_⟩⟩
  · rcases queued_moves _ _ j m f with ⟨-, g⟩ | ⟨i, -⟩
    · subst g
      exact .inr ⟨by decide, rfl⟩
    · subst i
      rcases a with _ | _ | a
      · cases e
      · cases e
      · exact .inl ⟨1, by omega, rfl⟩
  · rintro ⟨b, h, -⟩
    omega
  · rintro ⟨b, h, e⟩
    interval_cases b
    cases e
  all_goals
    simp only [List.mem_cons, List.not_mem_nil, or_false] at h
    rcases h with h | h | h | h <;> subst h <;> rfl

/-- A barrier and the lane hold what they hold (R148): one report of the crane whose queue has nothing else. -/
theorem test_barrier_and_lane_hold :
    (let s := queued .pending [.move 0, .barrier, .move 15]
     let t := after (.craneReport hW [8, 0, 0]) s
     (t.move 0).map (fun m => (m.state, m.reason)) = some (.waiting, some .lane)
       ∧ (t.move 15).map (fun m => (m.state, m.reason)) = some (.waiting, some .barrier)
       ∧ (t.crane .W).refusal = none) := by decide +kernel

theorem wit_StepKeepsClockAndTables :
    step yard = .next yard ∧ yard.clockRight ∧ { yard with mvu := { serial := 4294967295 } }.serialRight
    ∧ (queued .pending [.move 0, .barrier, .move 15]).queuesRight
    ∧ yard.tablesRight ∧ yard.namesRight := by
  refine ⟨rfl, by unfold State.clockRight; decide, by unfold State.serialRight; decide,
    queues_of (by decide), by
      refine ⟨by decide, by decide, by decide, by decide, by decide, by decide, by decide, fun p => ?_⟩
      cases p <;> decide,
    ?_, ?_, ?_, ?_, ?_⟩
  · simp [State.bed, yard, Tab.read]
  · simp [State.move, yard, Tab.read]
  · intro z b e
    simp only [State.zoneLayout, yard, Tab.read] at e
    by_cases h0 : 0 = z <;> by_cases h1 : 1 = z <;> simp_all [Config.beds] <;> omega
  · simp [yard]
  · simp [yard]

theorem wit_LayoutFixedInRun :
    (after (.lockLayout hP [0]) unlocked).run = true ∧ unlocked.run = false ∧ yard.run = true := by decide

theorem wit_HeatOnlyInCure : step yard = .next yard ∧ yard.clockRight ∧ yard.heatRight := by
  refine ⟨rfl, by unfold State.clockRight; decide, fun z _ h => ?_, by decide⟩
  simp [State.zone, yard, Tab.read] at h

theorem wit_NoStepExceedsBudget :
    (let s := { yard with sha := { k := 1, running := some ({ someFrame with k := 1 }, 58) } }
     step s = .next s ∧ s.budgetRight)
    ∧ (([⟨0, 3, 60⟩, ⟨1, 2, 60⟩] : List PubEntry).map PubEntry.zone).Nodup
    ∧ ∀ e ∈ ([⟨0, 3, 60⟩, ⟨1, 2, 60⟩] : List PubEntry), e.request ≤ 60 := by
  refine ⟨⟨rfl, fun f h step hs => ?_⟩, by decide, by decide⟩
  rcases h with h | ⟨n, h⟩
  · cases h
  · cases h
    revert hs step
    decide +kernel

theorem wit_NothingGrantedInBreach :
    (let s := { manned with rru := { manned.rru with breach := some .E } }
     (after .bedPoll s).rru.breach.isSome = true ∧ s.reporting hW .W ∧ s.rru.breach = some .E)
    ∧ (let s := hauling { restack .toPick with style := .atomic, place := 15 } none
       (after (.craneReport hW [17, 1, 2]) s).rru.breach.isSome = true) := by decide +kernel

end Sys2Proof.Machine
end

section
/-! SUPPORT. Proofs/PlansAndPanels.lean: what a panel's answer, a panel event and a PLAN-LOAD do, each said once, and the two
orders of PLAN-LOAD and SETUP-DONE (R18, R19, R21, R22). -/

namespace Sys2Proof.Machine

/-! ## The checks of a PLAN-LOAD (R18) -/

/-- No check fails exactly where every check holds. -/
theorem firstBad_eq_none (l : List Bool) : firstBad l = none ↔ ∀ c ∈ l, c = true := by
  induction l with
  | nil => simp [firstBad]
  | cons c rest ih => cases c <;> simp [firstBad, ih]

theorem firstBadPiece_eq_none (r : Option Range) (i : Nat) (pieces : List PieceSpec) :
    firstBadPiece r i pieces = none ↔ ∀ p ∈ pieces, firstBad (pieceSpecChecks r p) = none := by
  induction pieces generalizing i with
  | nil => simp [firstBadPiece]
  | cons p rest ih =>
    cases e : firstBad (pieceSpecChecks r p) <;> simp [firstBadPiece, e, ih]

/-- A piece description that passes its checks has a mark of at most twelve characters (section 2.3). -/
theorem mark_length_of_checks {r : Option Range} {p : PieceSpec} (h : firstBad (pieceSpecChecks r p) = none) :
    p.mark.length ≤ 12 := by
  have ok : markOk p.mark = true := (firstBad_eq_none _).mp h _ (by simp [pieceSpecChecks])
  simp only [markOk, Bool.and_eq_true, decide_eq_true_eq] at ok
  obtain ⟨⟨⟨_, atMost⟩, _⟩, _⟩ := ok
  exact atMost

/-- A plan with no field out of range has 1 to 16 pieces, and each of them passes its checks. -/
theorem pieces_of_planFieldRefusal_none {r : Option Range} {pour profile : Nat} {pieces : List PieceSpec}
    (h : planFieldRefusal r pour profile pieces = none) :
    1 ≤ pieces.length ∧ pieces.length ≤ 16 ∧ ∀ p ∈ pieces, firstBad (pieceSpecChecks r p) = none := by
  unfold planFieldRefusal at h
  split at h
  · cases h
  · next fields =>
    have count : decide (1 ≤ pieces.length) && decide (pieces.length ≤ 16) :=
      (firstBad_eq_none _).mp fields _ (by simp)
    simp only [Bool.and_eq_true, decide_eq_true_eq] at count
    obtain ⟨atLeast, atMost⟩ := count
    exact ⟨atLeast, atMost, (firstBadPiece_eq_none r 1 pieces).mp (Option.map_eq_none_iff.mp h)⟩

/-- The body of such a plan fits its kind and is read back field by field (R169, section 2.3). -/
theorem planBody_accepted {r : Option Range} {pour profile : Nat} {pieces : List PieceSpec} (b : Nat)
    (h : planFieldRefusal r pour profile pieces = none) :
    bodyFits .planLoad (planWritten b pour profile pieces).length = true
      ∧ ∀ (f : Nat → Nat → Nat → List PieceSpec → State → Answer) (s : State),
          planBody f (planWritten b pour profile pieces) s = f b pour profile pieces s := by
  obtain ⟨atLeast, atMost, checks⟩ := pieces_of_planFieldRefusal_none h
  have marks : ∀ p ∈ pieces, p.mark.length ≤ 12 := fun p hp => mark_length_of_checks (checks p hp)
  exact ⟨bodyFits_plan b pour profile pieces marks atLeast atMost, fun f s => planBody_written f b pour profile pieces s marks⟩

/-! ## PLAN-LOAD at the bed table (R19) -/

/-- `t` differs from `s` at most in the piece table. -/
def State.piecesOnly (s t : State) : Prop := ∃ p, t = { s with pct := p }

theorem State.piecesOnly.refl (s : State) : s.piecesOnly s := ⟨_, rfl⟩
theorem State.piecesOnly.trans {s t u : State} (h : s.piecesOnly t) (g : t.piecesOnly u) : s.piecesOnly u := by
  obtain ⟨_, rfl⟩ := h; obtain ⟨_, rfl⟩ := g; exact ⟨_, rfl⟩

theorem State.freePieces_only (s : State) (l : List Nat) : s.piecesOnly (s.freePieces l) :=
  foldl_keeps State.piecesOnly.refl State.piecesOnly.trans (fun _ _ => ⟨_, rfl⟩) l s

theorem State.takePlanned_only (s : State) (b pour : Nat) (p : PieceSpec) : s.piecesOnly (s.takePlanned b pour p).1 := by
  unfold State.takePlanned
  split
  · exact ⟨_, rfl⟩
  · exact .refl s

theorem State.takeAll_only (b pour : Nat) (pieces : List PieceSpec) (s : State) :
    s.piecesOnly (State.takeAll b pour pieces s).1 := by
  induction pieces generalizing s with
  | nil => exact .refl s
  | cons p rest ih => exact (s.takePlanned_only b pour p).trans (ih _)

/-- A PLAN-LOAD that passes every check of R18 is DONE: the bed holds the plan with the slots taken for it, and beside the bed
only the piece table changes. -/
theorem State.loadPlan_accepted {s : State} {b pour profile : Nat} {pieces : List PieceSpec}
    (configured : s.bedConfigured b = true) (stands : (s.bed b).state = .empty ∨ (s.bed b).state = .setup)
    (fields : planFieldRefusal (s.bedLayout b).range pour profile pieces = none)
    (room : pieces.length ≤ s.freeCount + (s.bed b).planSlots.length) :
    ∃ (t : State) (l : List Nat), s.piecesOnly t
      ∧ s.loadPlan b pour profile pieces
          = Answer.done (t.setBed b { s.bed b with plan := some ⟨pour, profile, l⟩, pieces := l }) (.slots l) := by
  refine ⟨_, (State.takeAll b pour pieces (s.freePieces (s.bed b).planSlots)).2,
    (s.freePieces_only (s.bed b).planSlots).trans (State.takeAll_only b pour pieces _), ?_⟩
  have inPlace : ¬ ((s.bed b).state ≠ .empty && (s.bed b).state ≠ .setup) = true := by
    rcases stands with e | e <;> simp [e]
  unfold State.loadPlan
  rw [if_neg (by simp [configured]), if_neg inPlace]
  simp only [fields]
  rw [if_neg (by omega)]

/-- `t` differs from `s` at most in the beds, the piece table and the record of port PL. -/
def State.planLoadOnly (s t : State) : Prop := ∃ e p r, t = { s with beds := e, pct := p, lnk := { s.lnk with pl := r } }

/-- A planner's PLAN-LOAD that passes every check of R18: the bed keeps its state and holds the plan (R19). -/
theorem exec_planLoad_accepted {s : State} {h : Header} {b pour profile : Nat} {pieces : List PieceSpec}
    (planner : s.planner h) (configured : s.bedConfigured b = true)
    (stands : (s.bed b).state = .empty ∨ (s.bed b).state = .setup)
    (fields : planFieldRefusal (s.bedLayout b).range pour profile pieces = none)
    (room : pieces.length ≤ s.freeCount + (s.bed b).planSlots.length) :
    ∃ (t : State) (l : List Nat), exec (.planLoad h (planWritten b pour profile pieces)) s = .next t ∧ s.planLoadOnly t
      ∧ t.bed b = { s.bed b with plan := some ⟨pour, profile, l⟩, pieces := l } := by
  obtain ⟨fits, readBack⟩ := planBody_accepted b fields
  obtain ⟨port, seq⟩ := h
  obtain rfl : port = .PL := planner.1
  obtain ⟨t, l, ⟨p, rfl⟩, loaded⟩ := State.loadPlan_accepted (s := s.toHandling .PL seq .planLoad) configured stands fields room
  refine ⟨_, l, congrArg Host.Outcome.next (State.request_planner s _ .planLoad _ _ planner rfl rfl fits), ?_, ?_⟩
  · rw [readBack, loaded]
    exact ⟨_, _, _, rfl⟩
  · rw [readBack, loaded]
    exact (State.bed_setBed _ b _ b).trans (if_pos rfl)

/-! ## A panel's answer (R171, R172) and a panel event (R21) -/

/-- `t` differs from `s` at most in the beds, the condition unit and the answer window. -/
def State.heardOnly (s t : State) : Prop :=
  ∃ e c w, t = { s with beds := e, cnd := c, lnk := { s.lnk with window := w } }

/-- What a panel's answer leaves of its bed's record, and what else it can change. -/
theorem State.heard_effect (s : State) (b : Nat) :
    (s.heard b).bed b = { s.bed b with missed := 0, panelLost := false } ∧ s.heardOnly (s.heard b) := by
  have written : (s.closeWindow.setBed b { s.bed b with missed := 0, panelLost := false }).bed b
      = { s.bed b with missed := 0, panelLost := false } := (State.bed_setBed _ b _ b).trans (if_pos rfl)
  unfold State.heard State.panelAnswered
  simp only
  split
  · obtain ⟨_, _, _, e⟩ := State.endCause_only
      ((s.closeWindow.setBed b { s.closeWindow.bed b with missed := 0, panelLost := false }).unflagPanelLost b)
      [.PL] .panelLost (.bed b)
    rw [e]
    exact ⟨written, _, _, _, rfl⟩
  · exact ⟨written, _, _, _, rfl⟩

/-- A panel event that finds its bed in the state it is listed for is taken by the bed table. -/
theorem panelEvent_listed {s : State} {h : Header} {b : Nat} {at_ : BedState} (panel : s.panel h b)
    (stands : (s.bed b).state = at_) (f : Nat → State → Answer) (q : Nat) (k : Kind) :
    panelEvent at_ f [0] ((s.heard b).toHandling .BL q k) = f b ((s.heard b).toHandling .BL q k) := by
  obtain ⟨⟨_, _, _, polled⟩, _⟩ := panel
  have bed : (((s.heard b).toHandling .BL q k).lnk.poll.map Poll.bed).getD 0 = b :=
    congrArg (Option.getD · 0) ((congrArg (Option.map Poll.bed) (s.heard_poll b)).trans polled)
  have found : (((s.heard b).toHandling .BL q k).bed b).state = at_ :=
    (congrArg Bed.state (s.heard_effect b).1).trans stands
  simp only [panelEvent, noFields, fields1, if_true, bed, found]

/-- A bed written while a request is in hand, and the request answered. -/
theorem State.setBed_answered (s : State) (h : Header) (k : Kind) (b : Nat) (r : Bed) (a : Reply) :
    ((s.toHandling h.port h.seq k).setBed b r).sendReply h.port a = (s.setBed b r).answered h k a := by
  obtain ⟨port, seq⟩ := h
  cases port <;> rfl

/-- SETUP-DONE in EMPTY (R22). -/
theorem exec_setupDone_empty {s : State} {h : Header} {b : Nat} (panel : s.panel h b) (empty : (s.bed b).state = .empty) :
    exec (.setupDone h [0]) s = .next
      (((s.heard b).setBed b { (s.heard b).bed b with state := .setup }).answered h .setupDone ok) := by
  have taken := State.request_panel s h .setupDone [0]
    (panelEvent .empty fun b t => Answer.done (t.setBed b { t.bed b with state := .setup })) b panel rfl rfl
  rw [panelEvent_listed panel empty] at taken
  obtain ⟨port, seq⟩ := h
  obtain ⟨⟨rfl, _⟩, _⟩ := panel
  exact congrArg Host.Outcome.next
    (taken.trans (State.setBed_answered (s.heard b) ⟨.BL, seq⟩ .setupDone b { (s.heard b).bed b with state := .setup } ok))

/-- The bed records stand while a reply begins. -/
theorem State.answered_bed (s : State) (h : Header) (k : Kind) (r : Reply) (b : Nat) : (s.answered h k r).bed b = s.bed b := by
  obtain ⟨port, seq⟩ := h
  cases port <;> rfl

/-- SETUP-DONE in EMPTY leaves the bed's record in SETUP, its panel PRESENT, and the rest of it as it was, the plan too. -/
theorem State.bed_setupDone (s : State) (h : Header) (b : Nat) :
    (((s.heard b).setBed b { (s.heard b).bed b with state := .setup }).answered h .setupDone ok).bed b
      = { s.bed b with state := .setup, missed := 0, panelLost := false } := by
  rw [State.answered_bed, State.bed_setBed, if_pos rfl, (s.heard_effect b).1]

/-! ## PLAN-LOAD and SETUP-DONE in either order (R22) -/

/-- A PLAN-LOAD leaves the answer window of a panel open. -/
theorem State.planLoadOnly.panel {s t : State} {h : Header} {b : Nat} (only : s.planLoadOnly t) (panel : s.panel h b) :
    t.panel h b := by
  obtain ⟨_, _, _, rfl⟩ := only
  exact panel

/-- PLAN-LOAD, then SETUP-DONE. -/
theorem planLoad_then_setupDone {s : State} {h hp : Header} {b pour profile : Nat} {pieces : List PieceSpec}
    (panel : s.panel h b) (empty : (s.bed b).state = .empty) (planner : s.planner hp) (configured : s.bedConfigured b = true)
    (fields : planFieldRefusal (s.bedLayout b).range pour profile pieces = none)
    (room : pieces.length ≤ s.freeCount + (s.bed b).planSlots.length) :
    ∃ (t u : State) (l : List Nat), exec (.planLoad hp (planWritten b pour profile pieces)) s = .next t
      ∧ exec (.setupDone h [0]) t = .next u ∧ (u.bed b).state = .setup ∧ (u.bed b).plan = some ⟨pour, profile, l⟩ := by
  obtain ⟨t, l, loaded, only, bed⟩ := exec_planLoad_accepted planner configured (.inl empty) fields room
  have stillEmpty : (t.bed b).state = .empty := by rw [bed]; exact empty
  refine ⟨t, _, l, loaded, exec_setupDone_empty (only.panel panel) stillEmpty, ?_, ?_⟩
  · rw [State.bed_setupDone]
  · rw [State.bed_setupDone, bed]

/-- `t` differs from `s` at most in the beds, the condition unit, the answer window and the record of port BL. -/
def State.panelOnly (s t : State) : Prop :=
  ∃ e c w r, t = { s with beds := e, cnd := c, lnk := { s.lnk with window := w, bl := r } }

/-- What SETUP-DONE can change. -/
theorem State.setupDone_only {s : State} {h : Header} {b : Nat} (panel : s.panel h b) (r : Bed) :
    s.panelOnly (((s.heard b).setBed b r).answered h .setupDone ok) := by
  obtain ⟨port, seq⟩ := h
  obtain ⟨⟨rfl, _⟩, _⟩ := panel
  obtain ⟨_, _, _, e⟩ := (s.heard_effect b).2
  rw [e]
  exact ⟨_, _, _, _, rfl⟩

/-- A panel's request leaves the planner's port awaiting, and the layout and the piece table as they were. -/
theorem State.panelOnly.planner {s t : State} {hp : Header} (only : s.panelOnly t) (planner : s.planner hp) :
    t.planner hp ∧ (∀ b, t.bedConfigured b = s.bedConfigured b) ∧ (∀ b, t.bedLayout b = s.bedLayout b)
      ∧ t.freeCount = s.freeCount := by
  obtain ⟨_, _, _, _, rfl⟩ := only
  exact ⟨planner, fun _ => rfl, fun _ => rfl, rfl⟩

/-- SETUP-DONE, then PLAN-LOAD. -/
theorem setupDone_then_planLoad {s : State} {h hp : Header} {b pour profile : Nat} {pieces : List PieceSpec}
    (panel : s.panel h b) (empty : (s.bed b).state = .empty) (planner : s.planner hp) (configured : s.bedConfigured b = true)
    (fields : planFieldRefusal (s.bedLayout b).range pour profile pieces = none)
    (room : pieces.length ≤ s.freeCount + (s.bed b).planSlots.length) :
    ∃ (t u : State) (l : List Nat), exec (.setupDone h [0]) s = .next t
      ∧ exec (.planLoad hp (planWritten b pour profile pieces)) t = .next u ∧ (u.bed b).state = .setup
      ∧ (u.bed b).plan = some ⟨pour, profile, l⟩ := by
  have bed := s.bed_setupDone h b
  obtain ⟨awaits, sameConfigured, sameLayout, sameFree⟩ :=
    (State.setupDone_only panel { (s.heard b).bed b with state := .setup }).planner planner
  obtain ⟨u, l, loaded, _, bedAfter⟩ := exec_planLoad_accepted (b := b) (pour := pour) (profile := profile) (pieces := pieces)
    awaits ((sameConfigured b).trans configured) (.inr (by rw [bed])) (by rw [sameLayout]; exact fields)
    (by rw [sameFree, bed]; exact room)
  refine ⟨_, u, l, exec_setupDone_empty panel empty, loaded, ?_, ?_⟩
  · rw [bedAfter, bed]
  · rw [bedAfter]

/-- Settles O20: SETUP-DONE is one panel event at the bed table, and neither it nor a PLAN-LOAD takes from the other what its
checks look at. -/
theorem setupDoneTaken : Obligations.SetupDoneTaken := by
  intro s h b panel empty
  refine ⟨exec_setupDone_empty panel empty, (s.heard_effect b).1, ?_⟩
  intro hp pour profile pieces planner configured fields _ _ room
  exact ⟨planLoad_then_setupDone panel empty planner configured fields room,
    setupDone_then_planLoad panel empty planner configured fields room⟩

end Sys2Proof.Machine
end

section
/-! SUPPORT. Proofs/ColdReset.lean: what stands after a cold reset (R12, R34). -/

namespace Sys2Proof.Machine

/-- COLD_RESET leaves the records as a cold reset has them, whatever stood before (R12). -/
theorem exec_coldReset (s : State) : exec .coldReset s = .next s.chilled := rfl

@[simp] theorem State.chilled_bed (s : State) (b : Nat) : s.chilled.bed b = {} := rfl
@[simp] theorem State.chilled_piece (s : State) (n : Nat) : s.chilled.piece n = {} := rfl

/-- Settles O5: a table that lists nothing reads as its cold-reset value at every number, and a record kept by port or by crane is
looked at port by port and crane by crane. -/
theorem resetValues : Obligations.ResetValues := by
  refine ⟨rfl, rfl, rfl,
    /- LYT -/ rfl, fun _ => rfl, fun _ => rfl, fun _ => rfl, fun _ => rfl, fun _ => rfl,
    /- BED -/ fun _ => rfl,
    /- PCV -/ fun _ => rfl, rfl, rfl, rfl, rfl, fun _ => rfl, fun _ => rfl,
    /- ZCU, SHA -/ fun _ => rfl, fun _ => rfl, rfl, fun _ => rfl,
    /- PCT, STK -/ fun _ => rfl, fun _ => rfl, fun _ => rfl, rfl, ?cursors,
    /- RRU, MVU -/ ?cranes, fun _ => rfl, rfl, rfl, rfl, fun _ => rfl, rfl, ?works,
    /- CND, LNK -/ ?sets, ?modes, fun _ => rfl, ?ports, rfl, rfl, rfl,
    ?coldReset⟩
  case cursors => intro p; cases p <;> rfl
  case cranes => intro x; cases x <;> rfl
  case works => intro x; cases x <;> rfl
  case sets => intro p; cases p <;> exact ⟨rfl, rfl, rfl⟩
  case modes => intro p k; cases p <;> rfl
  case ports => intro p; cases p <;> rfl
  case coldReset =>
    intro s
    exact ⟨s.chilled, exec_coldReset s, s.chilled_bed, fun n => congrArg Piece.state (s.chilled_piece n)⟩

end Sys2Proof.Machine
end

section
/-! SUPPORT. Proofs/Maturity.lean: what a scan completion can change, part by part, and with it the credit that the published
set gives every live piece from its source (R41, R53 to R59). -/

namespace Sys2Proof.Machine

/-! ## The source of a piece (R54 to R56) -/

/-- Zone `z` belongs to bed `b` and its range holds the segment (R54). -/
def State.zoneCovers (s : State) (b seg z : Nat) : Bool :=
  (s.zoneLayout z).bed = some b && ((s.zoneLayout z).range.map (fun r => r.has seg)).getD false

theorem State.zoneCovers_iff (s : State) (b seg z : Nat) :
    s.zoneCovers b seg z = true ↔
      (s.zoneLayout z).bed = some b ∧ ∃ r, (s.zoneLayout z).range = some r ∧ r.lo ≤ seg ∧ seg ≤ r.hi := by
  cases e : (s.zoneLayout z).range <;> simp [State.zoneCovers, Range.has, e]

/-- The source of a STOCK piece looks at nothing but its state (R56). -/
theorem State.sourceOf_stock (s : State) {p : Piece} (stock : p.state = .stock) : s.sourceOf p = some Config.yardChannel := by
  unfold State.sourceOf
  rw [stock]

/-- The source of a CAST piece: the lowest zone of its bed over its segment, with none the hall (R54). -/
theorem State.sourceOf_cast (s : State) {p : Piece} {b seg : Nat} (cast : p.state = .cast)
    (loc : p.location = some (.bed b seg)) :
    s.sourceOf p = some (((List.range Config.zones).find? (s.zoneCovers b seg)).getD Config.hallChannel) := by
  unfold State.sourceOf
  rw [cast, loc]
  rfl

/-- With one zone alone over its segment, a CAST piece draws on that zone's channel (R54). -/
theorem State.sourceOf_cast_zone (s : State) {p : Piece} {b seg z : Nat} (cast : p.state = .cast)
    (loc : p.location = some (.bed b seg)) (zone : z < Config.zones) (covers : s.zoneCovers b seg z = true)
    (only : ∀ z', z' < Config.zones → s.zoneCovers b seg z' = true → z' = z) : s.sourceOf p = some z := by
  have found : (List.range Config.zones).find? (s.zoneCovers b seg) = some z := by
    refine List.find?_range_eq_some.mpr ⟨covers, List.mem_range.mpr zone, fun j below => ?_⟩
    have notCovering : ¬ s.zoneCovers b seg j = true := fun c => Nat.ne_of_lt below (only j (below.trans zone) c)
    simpa using notCovering
  rw [s.sourceOf_cast cast loc, found, Option.getD_some]

/-- With no zone over its segment, a CAST piece draws on the hall ambient (R54). -/
theorem State.sourceOf_cast_hall (s : State) {p : Piece} {b seg : Nat} (cast : p.state = .cast)
    (loc : p.location = some (.bed b seg)) (uncovered : ∀ z, z < Config.zones → ¬ s.zoneCovers b seg z = true) :
    s.sourceOf p = some Config.hallChannel := by
  have missed : (List.range Config.zones).find? (s.zoneCovers b seg) = none :=
    List.find?_eq_none.mpr fun z inRange => uncovered z (List.mem_range.mp inRange)
  rw [s.sourceOf_cast cast loc, missed, Option.getD_none]

/-- The source of a HOOK piece under a crane with no position (R55). -/
theorem State.sourceOf_hook_unplaced (s : State) {p : Piece} {x : Crane} (hook : p.state = .hook)
    (loc : p.location = some (.crane x)) (unplaced : (s.crane x).position = none) :
    s.sourceOf p = some Config.yardChannel := by
  unfold State.sourceOf
  rw [hook, loc]
  simp only [unplaced]

/-- The source of a HOOK piece by the area of the segment its crane stands at (R55). -/
theorem State.sourceOf_hook_at (s : State) {p : Piece} {x : Crane} {k : Nat} (hook : p.state = .hook)
    (loc : p.location = some (.crane x)) (placed : (s.crane x).position = some k) :
    s.sourceOf p = some (if (s.segment k).area = .hall then Config.hallChannel else Config.yardChannel) := by
  unfold State.sourceOf
  rw [hook, loc]
  simp only [placed]

/-! ## One piece at a maturity update (R57 to R59) -/

theorem Published.usable_of_valid_or_held {p : Published} (h : p.state = .valid ∨ p.state = .held) : p.usable = p.temp := by
  unfold Published.usable
  rcases h with h | h <;> rw [h]

theorem Published.usable_of_unsettled_or_lost {p : Published} (h : p.state = .unsettled ∨ p.state = .lost) :
    p.usable = none := by
  unfold Published.usable
  rcases h with h | h <;> rw [h]

/-- A live piece with a source is credited from the published entry of that source. -/
theorem State.updatedPiece_live {s : State} {p : Piece} {c : Nat} (live : p.live = true) (source : s.sourceOf p = some c) :
    s.updatedPiece p = p.credited s.lyt.yard.datum s.lyt.yard.cap (s.usable c) := by
  simp only [State.updatedPiece, source, live, if_true]

theorem State.updatedPiece_not_live (s : State) {p : Piece} (notLive : p.live = false) : s.updatedPiece p = p := by
  unfold State.updatedPiece
  split
  · rw [if_neg (by simp [notLive])]
  · rfl

/-! ## What a scan completion can change -/

/-- `t` differs from `s` at most in the converter and the condition unit: the completion up to its publication (R40, R41, R43,
R44). -/
def State.probesOnly (s t : State) : Prop := ∃ p c, t = { s with pcv := p, cnd := c }

theorem State.probesOnly.refl (s : State) : s.probesOnly s := ⟨_, _, rfl⟩
theorem State.probesOnly.trans {s t u : State} (h : s.probesOnly t) (g : t.probesOnly u) : s.probesOnly u := by
  obtain ⟨_, _, rfl⟩ := h; obtain ⟨_, _, rfl⟩ := g; exact ⟨_, _, rfl⟩
theorem State.setsOnly.probes {s t : State} (h : s.setsOnly t) : s.probesOnly t := by
  obtain ⟨_, _, _, rfl⟩ := h; exact ⟨_, _, rfl⟩

theorem State.setFlags_only (s : State) (b : Nat) (f : PanelFlags) : s.probesOnly (s.setFlags b f) := ⟨_, _, rfl⟩

theorem State.unflagProbeLost_only (s : State) (b : Nat) : s.probesOnly (s.unflagProbeLost b) := by
  unfold State.unflagProbeLost
  split
  · exact .refl s
  · exact s.setFlags_only _ _

theorem State.probeLost_only (s : State) (c : Nat) : s.probesOnly (s.probeLost c) := by
  have raised := (s.raiseCause_only [.PL] .probeLost (.channel c)).probes
  unfold State.probeLost
  dsimp only
  split
  · exact raised.trans (State.setFlags_only _ _ _)
  · exact raised

theorem State.probeFound_only (s : State) (c : Nat) : s.probesOnly (s.probeFound c) := by
  have ended := (s.endCause_only [.PL] .probeLost (.channel c)).probes
  unfold State.probeFound
  dsimp only
  split
  · exact ended.trans (State.unflagProbeLost_only _ _)
  · exact ended

theorem State.probePosting_only (before s : State) (c : Nat) : s.probesOnly (State.probePosting before s c) := by
  unfold State.probePosting
  split
  · exact .refl s
  · split
    · exact s.probeLost_only c
    · split
      · exact s.probeFound_only c
      · exact .refl s

theorem State.checkReference_only (s : State) (raw : Nat) : s.probesOnly (s.checkReference raw) := by
  have checked : s.probesOnly { s with pcv := { s.pcv with refPass := refInWindow raw, fault := !refInWindow raw } } :=
    ⟨_, _, rfl⟩
  unfold State.checkReference
  dsimp only
  split
  · exact checked.trans (State.raiseCause_only _ _ _ _).probes
  · split
    · exact checked.trans (State.endCause_only _ _ _ _).probes
    · exact checked

/-- `t` differs from `s` at most in the beds, the zone control unit, the allocator and the condition unit: what the completion
hands on beside the maturity update (R26, R71). -/
def State.handedOnly (s t : State) : Prop := ∃ e z a c, t = { s with beds := e, zcu := z, sha := a, cnd := c }

theorem State.handedOnly.refl (s : State) : s.handedOnly s := ⟨_, _, _, _, rfl⟩
theorem State.handedOnly.trans {s t u : State} (h : s.handedOnly t) (g : t.handedOnly u) : s.handedOnly u := by
  obtain ⟨_, _, _, _, rfl⟩ := h; obtain ⟨_, _, _, _, rfl⟩ := g; exact ⟨_, _, _, _, rfl⟩
theorem State.setsOnly.handed {s t : State} (h : s.setsOnly t) : s.handedOnly t := by
  obtain ⟨_, _, _, rfl⟩ := h; exact ⟨_, _, _, _, rfl⟩

theorem State.setBed_only (s : State) (b : Nat) (r : Bed) : s.handedOnly (s.setBed b r) := ⟨_, _, _, _, rfl⟩

theorem State.becomeReady_only (s : State) (b : Nat) : s.handedOnly (s.becomeReady b) :=
  ((s.setBed_only b _).trans (State.postEvent_only _ _ _ _).handed).trans ⟨_, _, _, _, rfl⟩

theorem State.evaluateCooling_only (s : State) (b : Nat) : s.handedOnly (s.evaluateCooling b) := by
  unfold State.evaluateCooling
  split
  · exact s.becomeReady_only b
  · exact .refl s

theorem State.evaluateBed_only (s : State) (b : Nat) : s.handedOnly (s.evaluateBed b) := by
  unfold State.evaluateBed
  split
  case h_1 =>
    split
    · split
      · exact s.becomeReady_only b
      · exact .refl s
    · split
      · exact (s.setBed_only b _).trans (State.evaluateCooling_only _ b)
      · exact .refl s
  case h_2 =>
    split
    · exact .refl s
    · exact s.evaluateCooling_only b
  case h_3 => exact .refl s

theorem State.evaluateBeds_only (s : State) : s.handedOnly s.evaluateBeds :=
  foldl_keeps State.handedOnly.refl State.handedOnly.trans State.evaluateBed_only _ s

theorem State.prepareFrame_only (s : State) (pubs : List PubEntry) : s.handedOnly (s.prepareFrame pubs) := by
  unfold State.prepareFrame
  dsimp only
  split
  · exact State.handedOnly.trans ⟨_, _, _, _, rfl⟩ (State.postEvent_only _ _ _ _).handed
  · exact ⟨_, _, _, _, rfl⟩

theorem State.handStage_only (s : State) (z : Nat) : s.handedOnly (s.handStage z) := by
  unfold State.handStage
  split
  · exact s.evaluateBed_only _
  · exact .refl s

theorem State.mapZones_only (s : State) (f : Nat → Zone → Zone) : s.handedOnly (s.mapZones f) := ⟨_, _, _, _, rfl⟩

theorem State.zonesStepped_only (s : State) : s.handedOnly s.zonesStepped :=
  (((s.mapZones_only _).trans (State.mapZones_only _ _)).trans (State.mapZones_only _ _)).trans (State.mapZones_only _ _)

theorem State.zoneStep_only (s : State) : s.handedOnly s.zoneStep :=
  (s.zonesStepped_only.trans (State.prepareFrame_only _ _)).trans
    (foldl_keeps State.handedOnly.refl State.handedOnly.trans State.handStage_only _ _)

theorem State.handScan_only (s : State) : s.maturityUpdate.handedOnly s.handScan :=
  (State.evaluateBeds_only _).trans (State.zoneStep_only _)

/-- A scan completion publishes, and then hands the publication on (R41). -/
theorem State.completeScan_parts (s : State) : ∃ v, s.probesOnly v ∧ s.completeScan = v.handScan := by
  have updated : s.probesOnly s.channelsUpdated := ⟨_, _, rfl⟩
  have posted := foldl_keeps State.probesOnly.refl State.probesOnly.trans (State.probePosting_only s)
    (List.range Config.channels) s.channelsUpdated
  unfold State.completeScan
  generalize (List.range Config.channels).foldl (State.probePosting s) s.channelsUpdated = t at posted
  exact ⟨_, (updated.trans posted).trans ⟨_, _, rfl⟩, rfl⟩

/-- The end of the reference conversion, out of reset: the check, the entry of channel 18, and the completion (R40, R41). -/
theorem exec_referenceCheck_atRef {s : State} (raw : Nat) (free : s.held = false) (atRef : s.pcv.scan = .scanning 18) :
    exec (.referenceCheck raw) s = .next ((s.checkReference raw).enterConversion Config.refChannel (judgeRef raw)) := by
  have arm : exec (.referenceCheck raw) s = execReferenceCheck raw s := rfl
  rw [arm, execReferenceCheck, if_neg (by simp [free]), atRef]
  rfl

/-- Channel 18 is the last: its entry is put into the scan record and the scan completes. -/
theorem State.enterConversion_parts (s : State) (e : ScanEntry) :
    ∃ v, s.probesOnly v ∧ s.enterConversion Config.refChannel e = v.handScan := by
  obtain ⟨v, kept, completed⟩ := State.completeScan_parts { s with pcv := { s.pcv with
    record := s.pcv.record.write none Config.refChannel (some e), scan := .scanning (Config.refChannel + 1) } }
  refine ⟨v, State.probesOnly.trans ⟨_, _, rfl⟩ kept, ?_⟩
  rw [← completed, State.enterConversion, if_neg (by decide)]

/-- The command is the converter's and the condition unit's work, then what the publication sets going. -/
theorem exec_referenceCheck_parts {s : State} (raw : Nat) (free : s.held = false) (atRef : s.pcv.scan = .scanning 18) :
    ∃ v, s.probesOnly v ∧ exec (.referenceCheck raw) s = .next v.handScan := by
  obtain ⟨v, kept, entered⟩ := (s.checkReference raw).enterConversion_parts (judgeRef raw)
  exact ⟨v, (s.checkReference_only raw).trans kept, (exec_referenceCheck_atRef raw free atRef).trans (by rw [entered])⟩

/-! ## The credit (R53) -/

/-- What is handed on touches neither the credited pieces nor the published set. -/
theorem State.handedOnly.piece_and_usable {v t : State} (h : v.maturityUpdate.handedOnly t) :
    (∀ n, n < Config.slots → t.piece n = v.updatedPiece (v.piece n)) ∧ ∀ c, t.usable c = v.usable c := by
  obtain ⟨_, _, _, _, rfl⟩ := h
  exact ⟨fun n slot => (v.piece_maturityUpdate n).trans (if_pos slot), fun _ => rfl⟩

/-- After the end of the reference conversion every live piece with a source has been credited once, from the set then published
and by the source that it had before; a record that is not live stands. -/
theorem exec_referenceCheck_piece {s : State} (raw : Nat) (free : s.held = false) (atRef : s.pcv.scan = .scanning 18) :
    ∃ t, exec (.referenceCheck raw) s = .next t
      ∧ (∀ n c, n < Config.slots → (s.piece n).live = true → s.sourceOf (s.piece n) = some c →
          t.piece n = (s.piece n).credited s.lyt.yard.datum s.lyt.yard.cap (t.usable c))
      ∧ ∀ n, n < Config.slots → (s.piece n).live = false → t.piece n = s.piece n := by
  obtain ⟨v, ⟨_, _, rfl⟩, runs⟩ := exec_referenceCheck_parts raw free atRef
  obtain ⟨piece, usable⟩ := (State.handScan_only _).piece_and_usable
  refine ⟨_, runs, fun n c slot live source => ?_, fun n slot notLive => ?_⟩
  · rw [usable c]
    exact (piece n slot).trans (State.updatedPiece_live live source)
  · exact (piece n slot).trans (State.updatedPiece_not_live _ notLive)

/-- Settles O15: the completion is one maturity update between the publication, which touches neither a piece nor what a source is
found by, and the beds and zones, which touch no piece. -/
theorem maturityCredit : Obligations.MaturityCredit := by
  refine ⟨fun s raw n free atRef slot => ?credit, fun s p => ⟨s.sourceOf_stock, ?cast, ?uncovered, ?hook⟩⟩
  case credit =>
    obtain ⟨t, runs, credited, notLive⟩ := exec_referenceCheck_piece raw free atRef
    refine ⟨t, runs, fun c T live source stands temp => ?_, fun c live source stands => ?_, notLive n slot⟩
    · have usable : t.usable c = some T := (Published.usable_of_valid_or_held stands).trans temp
      rw [credited n c slot live source, usable]
      rfl
    · have unusable : t.usable c = none := Published.usable_of_unsettled_or_lost stands
      rw [credited n c slot live source, unusable]
      rfl
  case cast =>
    intro b seg z r cast loc zone bed range low high only
    refine s.sourceOf_cast_zone cast loc zone ((s.zoneCovers_iff b seg z).mpr ⟨bed, r, range, low, high⟩) ?_
    intro z' zone' covers
    obtain ⟨bed', r', range', low', high'⟩ := (s.zoneCovers_iff b seg z').mp covers
    exact only z' r' zone' bed' range' low' high'
  case uncovered =>
    intro b seg cast loc uncovered
    refine s.sourceOf_cast_hall cast loc fun z zone covers => ?_
    obtain ⟨bed, r, range, holds⟩ := (s.zoneCovers_iff b seg z).mp covers
    exact uncovered z r zone bed range holds
  case hook =>
    intro x hook loc
    refine ⟨s.sourceOf_hook_unplaced hook loc, fun k placed => ⟨fun hall => ?_, fun yard => ?_⟩⟩
    · rw [s.sourceOf_hook_at hook loc placed, hall]
      rfl
    · rw [s.sourceOf_hook_at hook loc placed, yard]
      rfl

end Sys2Proof.Machine
end

section
/-! SUPPORT. Proofs/Steps.lean: what any command can do, said once. A command is the link's work, then one act of an owning block
or one event of the part, then the link's work again; an invariant that the link's primitive steps and every act keep is kept by
every command, and so by every step. -/

namespace Sys2Proof.Machine

/-! ## The link's work -/

/-- One primitive step of the link: a port's record written, the answer window closed, the next bed polled, a panel's answer missed or
taken (chapter 10). -/
inductive State.LinkStep : State → State → Prop
  | port (s : State) (p : Port) (r : PortRec) : LinkStep s (s.setPort p r)
  | window (s : State) : LinkStep s s.closeWindow
  | poll (s : State) : LinkStep s s.pollNext
  | missed (s : State) (q : Poll) (free : s.held = false) (polled : s.lnk.poll = some q) : LinkStep s (s.panelMissed q.bed)
  | answered (s : State) (q : Poll) (free : s.held = false) (polled : s.lnk.poll = some q) :
    LinkStep s (s.panelAnswered q.bed)

/-- Any number of the link's primitive steps. -/
abbrev State.linked : State → State → Prop := Relation.ReflTransGen State.LinkStep

theorem State.linked.refl (s : State) : s.linked s := Relation.ReflTransGen.refl

theorem State.LinkStep.linked {s t : State} (h : s.LinkStep t) : s.linked t := Relation.ReflTransGen.single h

theorem State.linked.port {s t : State} (h : s.linked t) (p : Port) (r : PortRec) : s.linked (t.setPort p r) :=
  Relation.ReflTransGen.tail h (.port t p r)

/-- What the link's primitive steps keep, the link keeps. -/
theorem State.linked.keeps {I : State → Prop} (link : ∀ {s t}, State.LinkStep s t → I s → I t) {s t : State} (h : s.linked t)
    (i : I s) : I t := by
  induction h with
  | refl => exact i
  | tail _ last ih => exact link last ih

/-- The link steps leave the reset inputs alone. -/
theorem State.LinkStep.rst {s t : State} (h : s.LinkStep t) : t.rst = s.rst := by
  cases h with
  | port p r => exact State.setPort_rst ..
  | window => rfl
  | poll =>
    unfold State.pollNext
    split
    · rfl
    · split <;> rfl
  | missed q =>
    unfold State.panelMissed
    dsimp only
    split
    · obtain ⟨_, _, _, e⟩ := State.raiseCause_only (s.setBed q.bed
        { s.bed q.bed with missed := holdAt 3 (s.bed q.bed).missed, panelLost := true }) [.PL] .panelLost (.bed q.bed)
      rw [e]; rfl
    · rfl
  | answered q =>
    unfold State.panelAnswered
    dsimp only
    split
    · obtain ⟨_, _, _, e⟩ := State.endCause_only
        ((s.setBed q.bed { s.bed q.bed with missed := 0, panelLost := false }).unflagPanelLost q.bed) [.PL] .panelLost (.bed q.bed)
      rw [e]; rfl
    · rfl

/-- The link's work leaves the part out of reset. -/
theorem State.linked.held {s t : State} (h : s.linked t) (free : s.held = false) : t.held = false :=
  h.keeps (I := fun s => s.held = false) (fun step free => by unfold State.held at *; rw [step.rst]; exact free) free

/-! ## The link's own events -/

theorem State.linked.missAnswer {s t : State} (h : s.linked t) (free : t.held = false) : s.linked t.missAnswer := by
  unfold State.missAnswer
  split
  · next q _ polled =>
    exact ((h.tail (.window t)).tail (.missed t.closeWindow q free polled)).tail (.poll _)
  · exact h

theorem State.linked.badOn {s t : State} (h : s.linked t) (free : t.held = false) (p : Port) : s.linked (t.badOn p) := by
  unfold State.badOn
  split
  · split
    · exact (h.port _ _).missAnswer ((State.linked.port (.refl t) .BL _).held free)
    · exact h
  · split
    · exact (h.port _ _).port _ _
    · exact h.port _ _

theorem State.linked.takeChar {s t : State} (h : s.linked t) (free : t.held = false) (p : Port) (c : Chr) :
    s.linked (State.takeChar p t c).1 := by
  unfold State.takeChar
  split
  · exact h
  · split
    · exact h
    · dsimp only
      split
      · exact h.port _ _
      · exact h.badOn free p
      · split
        · exact h.port _ _
        · exact h.port _ _

theorem State.linked.feed (p : Port) (chars : List Chr) {s t : State} (h : s.linked t) (free : t.held = false) :
    s.linked (State.feed p chars t) := by
  induction chars generalizing t with
  | nil => exact h
  | cons c rest ih =>
    have taken := h.takeChar free p c
    unfold State.feed
    split
    · exact ih taken ((State.linked.takeChar (.refl t) free p c).held free)
    · exact taken

theorem State.linked.chainOn {s : State} (p : Port) (q : Nat) (k : Kind) (body : List Nat) : s.linked (s.chainOn p q k body) := by
  have here := State.linked.refl s
  unfold State.chainOn
  dsimp only
  split
  · exact here.port _ _
  · split
    · split
      · exact (here.port _ _).port _ _
      · exact here.port _ _
    · exact ((here.port _ _).port _ _).port _ _
  · exact here.port _ _
  · exact here.port _ _

/-- What the link does to take a request in hand, or to discard it. -/
theorem State.linked.receive {s : State} (free : s.held = false) (h : Header) (k : Kind) (body : List Nat) :
    s.linked (s.receive h k body).1 := by
  have here := State.linked.refl s
  unfold State.receive
  split
  · split
    · next q _ polled =>
      exact (State.linked.port ((here.tail (.window s)).tail (.answered s.closeWindow q free polled)) .BL _ :)
    · exact here
  · split
    · exact here.port _ _
    · split
      · exact here.port _ _
      · exact ((here.port _ _).port _ _).port _ _
    · exact here.port _ _
    · exact here.port _ _

/-! ## What an owning block can do -/

/-- A panel's bed: the one last polled (R171). -/
def State.panelBed (s : State) : Nat := (s.lnk.poll.map Poll.bed).getD 0

/-- A layout write (R2). -/
inductive State.LayoutAct (s : State) : State → Prop
  | segment (n a v) : LayoutAct s (s.writeSegment n a v).1
  | bed (b y r) : LayoutAct s (s.writeBed b y r).1
  | zone (z b r v f) : LayoutAct s (s.writeZone z b r v f).1
  | cell (n seg row limit) : LayoutAct s (s.writeCell n seg row limit).1
  | bay (b n) : LayoutAct s (s.writeBay b n).1
  | yard (y) : LayoutAct s (s.writeYard y).1

/-- An act of the planner or of a panel at the bed table, the zone control unit, the piece table or the stock unit. -/
inductive State.TableAct (c : Instr) (s : State) : State → Prop
  | planLoad (b pour profile pieces) : TableAct c s (s.loadPlan b pour profile pieces).1
  | planClear (b) : TableAct c s (s.clearPlan b).1
  | priority (z p) (zone : z < Config.zones) : TableAct c s (s.setZone z { s.zone z with pendingPriority := some p })
  | follow (z lead) : TableAct c s (s.setFollow z lead).1
  | advance (z) (zone : z < Config.zones) : TableAct c s (s.setZone z { s.zone z with advance := true })
  | bayOpen (b limit) : TableAct c s (s.openBay b limit).1
  | bayClose (b first) : TableAct c s (s.closeBay b first).1
  | place (n d acc ok m) : TableAct c s (s.placeRecord n d acc ok m).1
  | remove (n i) : TableAct c s (s.removeRecord n i).1
  | cursor (p n) : TableAct c s (s.setCursor p n)
  | setupDone (stands : (s.bed s.panelBed).state = .empty) :
    TableAct c s (s.setBed s.panelBed { s.bed s.panelBed with state := .setup })
  | castStart (stands : (s.bed s.panelBed).state = .setup) (only : ∃ h body, c = .castStart h body) :
    TableAct c s (s.castStart s.panelBed).1
  | castEnd (stands : (s.bed s.panelBed).state = .casting) :
    TableAct c s ((s.bedZones s.panelBed).foldl (State.startZone ((s.bed s.panelBed).plan.map Plan.profile))
      (s.setBed s.panelBed { s.bed s.panelBed with state := .curing }))
  | pourAbort (stands : (s.bed s.panelBed).state = .casting) :
    TableAct c s ((s.freePieces (s.bed s.panelBed).planSlots).setBed s.panelBed
      { s.bed s.panelBed with state := .setup, plan := none, castMinute := none, pieces := [] })
  | release (stands : (s.bed s.panelBed).state = .ready) : TableAct c s (s.requestRelease s.panelBed).1
  | strandsCut (stands : (s.bed s.panelBed).state = .permitted) :
    TableAct c s (s.setBed s.panelBed { s.bed s.panelBed with state := .released, deadline := none })
  | bedClear (stands : (s.bed s.panelBed).state = .stripping) : TableAct c s (s.clearBed s.panelBed).1

/-- A setting of the steam header allocator (R96 to R98). -/
inductive State.SteamAct (s : State) : State → Prop
  | heatOff : SteamAct s s.heatOff
  | heatOn : SteamAct s { s with sha := { s.sha with inhibit := false } }
  | budget (k) : SteamAct s { s with sha := { s.sha with pendingK := some k } }
  | minOpen (n) : SteamAct s { s with sha := { s.sha with pendingMinOpen := some n } }

/-- A setting of the probe converter, or the end of a conversion (R39, R40, R45 to R47). -/
inductive State.ProbeAct (s : State) : State → Prop
  | trim (n t) : ProbeAct s (s.setTrim n t).1
  | sampleTime (n) : ProbeAct s { s with pcv := { s.pcv with sampleTime := n } }.discardConversion
  | conversion (n e) (scans : s.pcv.scan = .scanning n) (channel : n < Config.refChannel) : ProbeAct s (s.enterConversion n e)
  | reference (raw) (scans : s.pcv.scan = .scanning Config.refChannel) :
    ProbeAct s ((s.checkReference raw).enterConversion Config.refChannel (judgeRef raw))

/-- An act at the move and runway units: the planner's, or a crane's report (chapters 8 and 9). -/
inductive State.MoveAct (s : State) : State → Prop
  | submit (f) : MoveAct s (s.submitMove f).1
  | cancel (n) : MoveAct s (s.cancelMove n).1
  | barrier (x) : MoveAct s (s.putBarrier x).1
  | laneRequest (x) : MoveAct s (s.requestLane x).1
  | laneRelease (x) : MoveAct s (s.releaseLane x).1
  | declareOut (n x) : MoveAct s (s.declareOut n x).1
  | breachClear : MoveAct s s.clearBreach.1
  | report (x n hook event) : MoveAct s (s.takeReport x n hook event).1

/-- An act at the condition unit (R178, R179, R181). -/
inductive State.CondAct (s : State) : State → Prop
  | acknowledge (p k subj) : CondAct s (s.acknowledge p k subj).1
  | mode (p k m) : CondAct s (s.setMode p k m).1
  | flagsAck : CondAct s (s.setFlags s.panelBed (s.flags s.panelBed).acked)

/-- What the command `c` can do at the block that owns it, from the state `s` with the request in hand. -/
inductive State.Served (c : Instr) (s : State) : State → Prop
  | nothing : Served c s s
  | layout {t} (config : s.run = false) (act : s.LayoutAct t) : Served c s t
  | lock (config : s.run = false) (only : ∃ h body, c = .lockLayout h body) : Served c s s.enterRun
  | clock (m) (config : s.run = false) (fits : m ≤ Config.word32Max) :
    Served c s { s with clk := { minute := m, second := 0, running := false } }
  | profile (n p) : Served c s (s.writeProfile n p).1
  | table {t} (run : s.run = true) (act : s.TableAct c t) : Served c s t
  | steam {t} (run : s.run = true) (act : s.SteamAct t) : Served c s t
  | probe {t} (run : s.run = true) (act : s.ProbeAct t) : Served c s t
  | move {t} (run : s.run = true) (act : s.MoveAct t) : Served c s t
  | condition {t} (run : s.run = true) (act : s.CondAct t) : Served c s t
  | restart (run : s.run = true) : Served c s { s with rst := { s.rst with restartOwed := true } }

/-- What the command `c` can do between the link's work before it and after it: the act of an owning block, or an event of the resets,
of the supply, of the timebase or of the probe inputs. -/
inductive State.Does (c : Instr) (s : State) : State → Prop
  | served {t} (free : s.held = false) (act : s.Served c t) : Does c s t
  | chilled (only : c = .coldReset ∨ c = .warmReset) : Does c s s.chilled
  | warmed (only : c = .warmReset) (run : s.run = true) : Does c s s.warmed
  | hold (h) (holds : h ≠ .none) : Does c s (s.enterHold h)
  | supplyLost : Does c s { s.lowValves with rst := { s.rst with retention := false, supplyLost := true } }
  | supply (r) : Does c s { s with rst := { s.rst with retention := r } }
  | second (ticks : s.ticking = true) : Does c s s.countSecond
  | probe {t} (free : s.held = false) (act : s.ProbeAct t) : Does c s t

/-! ## The operand forms -/

/-- A refused request does nothing at its owning block. -/
theorem State.Served.refused {c : Instr} {s : State} (r : Result) (d : Data) : s.Served c (Answer.refuse s r d).1 := .nothing

section
variable {c : Instr} {s : State}

theorem State.Served.fields1 {f : Nat → State → Answer} (h : ∀ a, s.Served c (f a s).1) (m : List Nat) :
    s.Served c (Machine.fields1 f m s).1 := by
  unfold Machine.fields1
  split
  · exact h _
  · exact .nothing

theorem State.Served.fields2 {f : Nat → Nat → State → Answer} (h : ∀ a b, s.Served c (f a b s).1) (m : List Nat) :
    s.Served c (Machine.fields2 f m s).1 := by
  unfold Machine.fields2
  split
  · exact h _ _
  · exact .nothing

theorem State.Served.fields3 {f : Nat → Nat → Nat → State → Answer} (h : ∀ a b d, s.Served c (f a b d s).1) (m : List Nat) :
    s.Served c (Machine.fields3 f m s).1 := by
  unfold Machine.fields3
  split
  · exact h _ _ _
  · exact .nothing

theorem State.Served.fields4 {f : Nat → Nat → Nat → Nat → State → Answer} (h : ∀ a b d e, s.Served c (f a b d e s).1)
    (m : List Nat) : s.Served c (Machine.fields4 f m s).1 := by
  unfold Machine.fields4
  split
  · exact h _ _ _ _
  · exact .nothing

theorem State.Served.fieldWord4 {f : Nat → State → Answer} (h : ∀ a, s.Served c (f a s).1) (m : List Nat) :
    s.Served c (Machine.fieldWord4 f m s).1 := State.Served.fields4 (fun _ _ _ _ => h _) m

theorem State.Served.noFields {f : State → Answer} (h : s.Served c (f s).1) (m : List Nat) :
    s.Served c (Machine.noFields f m s).1 := by
  refine State.Served.fields1 (fun a => ?_) m
  split
  · exact h
  · exact .nothing

theorem State.Served.fieldCrane {f : Crane → State → Answer} (h : ∀ x, s.Served c (f x s).1) (m : List Nat) :
    s.Served c (Machine.fieldCrane f m s).1 := by
  refine State.Served.fields1 (fun a => ?_) m
  split
  · exact h _
  · exact .nothing

theorem State.Served.yardBody {f : Yard → State → Answer} (h : ∀ y, s.Served c (f y s).1) (m : List Nat) :
    s.Served c (Machine.yardBody f m s).1 := by
  unfold Machine.yardBody
  split
  · exact h _
  · exact .nothing

theorem State.Served.profileBody {f : Nat → Profile → State → Answer} (h : ∀ n p, s.Served c (f n p s).1) (m : List Nat) :
    s.Served c (Machine.profileBody f m s).1 := by
  unfold Machine.profileBody
  split
  · exact h _ _
  · exact .nothing

theorem State.Served.planBody {f : Nat → Nat → Nat → List PieceSpec → State → Answer} (h : ∀ b p n l, s.Served c (f b p n l s).1)
    (m : List Nat) : s.Served c (Machine.planBody f m s).1 := by
  unfold Machine.planBody
  split
  · exact h _ _ _ _
  · exact .nothing

theorem State.Served.moveBody {f : MoveFields → State → Answer} (h : ∀ y, s.Served c (f y s).1) (m : List Nat) :
    s.Served c (Machine.moveBody f m s).1 := by
  unfold Machine.moveBody
  split
  · exact h _
  · exact .nothing

theorem State.Served.placeBody {f : Nat → Desc → Nat → Bool → Option Nat → State → Answer}
    (h : ∀ n d a k o, s.Served c (f n d a k o s).1) (m : List Nat) : s.Served c (Machine.placeBody f m s).1 := by
  unfold Machine.placeBody
  split
  · split
    · exact h _ _ _ _ _
    · exact .nothing
  · exact .nothing

theorem State.Served.ackBody {f : Nat → Nat → Nat → State → Answer} (h : ∀ a b d, s.Served c (f a b d s).1) (m : List Nat) :
    s.Served c (Machine.ackBody f m s).1 := by
  unfold Machine.ackBody
  split
  · exact h _ _ _
  · exact .nothing

theorem State.Served.zoneBody {f : Nat → Option Nat → Option Range → Option Sense → Option Nat → State → Answer}
    (h : ∀ z b r v w, s.Served c (f z b r v w s).1) (m : List Nat) : s.Served c (Machine.zoneBody f m s).1 := by
  unfold Machine.zoneBody
  split
  · exact h _ _ _ _ _
  · exact .nothing

/-- A panel event does what its meaning does in the state it is listed for, and nothing in another (R21). -/
theorem State.Served.panelEvent {at_ : BedState} {f : Nat → State → Answer}
    (h : (s.bed s.panelBed).state = at_ → s.Served c (f s.panelBed s).1) (m : List Nat) :
    s.Served c (Machine.panelEvent at_ f m s).1 := by
  refine State.Served.noFields ?_ m
  dsimp only
  split
  · next stands => exact h stands
  · exact .nothing

end

/-! ## Every command -/

/-- What the link hands on is admitted in the mode (R4, R8). -/
theorem linkAnswer_passes {run : Bool} {p : Port} {k : Kind} {n : Nat} (h : linkAnswer run p k n = none) :
    (run = false → admittedInConfig k = true) ∧ (run = true → lockedInRun k = false) := by
  unfold linkAnswer at h
  split at h
  · cases h
  · split_ifs at h with _ config locked
    simp only [Bool.and_eq_true, not_and, Bool.not_eq_true, decide_eq_true_eq, Bool.not_eq_false] at config locked
    exact ⟨config, locked⟩

/-- A request is the link's work, the act of its owning block, and the link's reply. -/
theorem State.request_does {c : Instr} (s : State) (h : Header) (k : Kind) (body : List Nat) (owner : List Nat → State → Answer)
    (serves : ∀ (m : List Nat) (u : State), (u.run = false → admittedInConfig k = true) → (u.run = true → lockedInRun k = false) →
      u.Served c (owner m u).1) :
    ∃ u v, s.linked u ∧ u.Does c v ∧ v.linked (s.request h k body owner) := by
  unfold State.request
  split
  · exact ⟨s, _, .refl s, .supply s.rst.retention, .refl s⟩
  · next free =>
    have free : s.held = false := by simpa using free
    have taken := State.linked.receive free h k body
    have freeAfter := taken.held free
    revert taken freeAfter
    rcases s.receive h k body with ⟨u, _ | m⟩ <;> intro taken freeAfter
    · exact ⟨u, u, taken, .served freeAfter .nothing, .refl u⟩
    · dsimp only at taken freeAfter ⊢
      split
      · exact ⟨u, u, taken, .served freeAfter .nothing, State.linked.port (.refl u) _ _⟩
      · next asked =>
        obtain ⟨config, run⟩ := linkAnswer_passes asked
        exact ⟨u, _, taken, .served freeAfter (serves m u config run), State.linked.port (.refl _) _ _⟩

/-- The same of a command whose meaning is a request. -/
theorem request_does {c : Instr} {s t : State} {h : Header} {k : Kind} {body : List Nat} {owner : List Nat → State → Answer}
    (runs : (.next (s.request h k body owner) : Outcome) = .next t)
    (serves : ∀ (m : List Nat) (u : State), (u.run = false → admittedInConfig k = true) →
      (u.run = true → lockedInRun k = false) → u.Served c (owner m u).1) :
    ∃ u v, s.linked u ∧ u.Does c v ∧ v.linked t := by
  obtain rfl := Host.Outcome.next.inj runs
  exact s.request_does h k body owner serves

theorem run_of_refused {u : State} {k : Kind} (config : u.run = false → admittedInConfig k = true)
    (refused : admittedInConfig k = false) : u.run = true := by
  cases e : u.run with
  | true => rfl
  | false => exact absurd (config e) (by simp [refused])

theorem config_of_locked {u : State} {k : Kind} (run : u.run = true → lockedInRun k = false)
    (locked : lockedInRun k = true) : u.run = false := by
  cases e : u.run with
  | false => rfl
  | true => exact absurd (run e) (by simp [locked])

/-- A command that does the link's work alone. -/
theorem link_does {c : Instr} {s t : State} (h : s.linked t) : ∃ u v, s.linked u ∧ u.Does c v ∧ v.linked t :=
  ⟨t, t, h, .supply t.rst.retention, .refl t⟩

/-- A command that does one act or event alone. -/
theorem act_does {c : Instr} {s t : State} (h : s.Does c t) : ∃ u v, s.linked u ∧ u.Does c v ∧ v.linked t :=
  ⟨s, t, .refl s, h, .refl t⟩

/-- One second of the timebase, or nothing. -/
theorem tick_does {c : Instr} (s : State) (due : Bool) :
    ∃ u v, s.linked u ∧ u.Does c v ∧ v.linked (if due then s.tick else s) := by
  unfold State.tick
  split
  · split
    · next ticks => exact act_does (.second ticks)
    · exact link_does (.refl s)
  · exact link_does (.refl s)

/-- A hold that has begun at the end of a RESTART's reply ends as the hold of the same records would (R13). -/
theorem State.enterHold_chilled (s : State) (h : Hold) : (s.enterHold h).chilled = s.chilled := by
  unfold State.enterHold
  split <;> rfl

theorem State.enterHold_warmed (s : State) (h : Hold) : (s.enterHold h).warmed = s.warmed := by
  unfold State.enterHold
  split <;> rfl

theorem State.enterHold_run (s : State) (h : Hold) : (s.enterHold h).run = s.run := by
  unfold State.enterHold
  split <;> rfl

theorem leaveHold_does (s : State) : s.Does .warmReset s.leaveHold := by
  unfold State.leaveHold
  split
  · next warm =>
    simp only [Bool.and_eq_true] at warm
    exact .warmed rfl warm.1.1
  · exact .chilled (.inr rfl)

theorem enterHold_leaveHold_does (s : State) (h : Hold) : s.Does .warmReset (s.enterHold h).leaveHold := by
  unfold State.leaveHold
  rw [State.enterHold_chilled, State.enterHold_warmed, State.enterHold_run]
  split
  · next warm =>
    simp only [Bool.and_eq_true] at warm
    exact .warmed rfl warm.1.1
  · exact .chilled (.inr rfl)

/-- Every command is the link's work, one act or event, and the link's work. -/
theorem exec_does {c : Instr} {s t : State} (runs : exec c s = .next t) : ∃ u v, s.linked u ∧ u.Does c v ∧ v.linked t := by
  cases c with
  | coldReset =>
    obtain rfl := Host.Outcome.next.inj runs
    exact act_does (.chilled (.inl rfl))
  | resetLineAssert =>
    obtain rfl := Host.Outcome.next.inj runs
    split
    · exact link_does (.refl s)
    · exact act_does (.hold .line (by decide))
    · exact act_does (.hold .line (by decide))
  | warmReset =>
    obtain rfl := Host.Outcome.next.inj runs
    split
    · exact act_does (leaveHold_does s)
    · exact act_does (leaveHold_does s)
    · split
      · exact act_does (enterHold_leaveHold_does s .restart)
      · exact link_does (.refl s)
  | retentionSupplyLoss =>
    obtain rfl := Host.Outcome.next.inj runs
    split
    · exact act_does .supplyLost
    · exact act_does (.supply false)
  | retentionSupplyReturn =>
    obtain rfl := Host.Outcome.next.inj runs
    exact act_does (.supply true)
  | secondTick =>
    obtain rfl := Host.Outcome.next.inj runs
    exact tick_does s true
  | minuteTick =>
    obtain rfl := Host.Outcome.next.inj runs
    exact tick_does s _
  | permitExpiry b =>
    obtain rfl := Host.Outcome.next.inj runs
    exact tick_does s _
  | presenceTimeout x =>
    obtain rfl := Host.Outcome.next.inj runs
    exact tick_does s _
  | vacateExpiry n =>
    obtain rfl := Host.Outcome.next.inj runs
    exact tick_does s _
  | frameBegin =>
    obtain rfl := Host.Outcome.next.inj runs
    exact tick_does s _
  | frameEnd =>
    obtain rfl := Host.Outcome.next.inj runs
    exact tick_does s _
  | conversionEnd raw =>
    obtain rfl := Host.Outcome.next.inj runs
    split
    · exact link_does (.refl s)
    · next free =>
      split
      · next n scans =>
        split
        · next channel => exact act_does (.probe (by simpa using free) (.conversion n _ scans channel))
        · exact link_does (.refl s)
      · exact link_does (.refl s)
  | referenceCheck raw =>
    obtain rfl := Host.Outcome.next.inj runs
    split
    · exact link_does (.refl s)
    · next free =>
      split
      · next n scans =>
        split
        · next channel =>
          subst channel
          exact act_does (.probe (by simpa using free) (.reference raw scans))
        · exact link_does (.refl s)
      · exact link_does (.refl s)
  | layoutSegment h body => exact request_does runs fun m u config run => .fields3 (fun n _ v => .layout (config_of_locked run rfl) (.segment n _ v)) m
  | layoutBed h body => exact request_does runs fun m u config run => .fields4 (fun b _ _ _ => .layout (config_of_locked run rfl) (.bed b _ _)) m
  | layoutZone h body => exact request_does runs fun m u config run => .zoneBody (fun z b r v f => .layout (config_of_locked run rfl) (.zone z b r v f)) m
  | layoutCell h body => exact request_does runs fun m u config run => .fields4 (fun n _ row limit => .layout (config_of_locked run rfl) (.cell n _ row limit)) m
  | layoutBay h body => exact request_does runs fun m u config run => .fields2 (fun b _ => .layout (config_of_locked run rfl) (.bay b _)) m
  | layoutYard h body => exact request_does runs fun m u config run => .yardBody (fun y => .layout (config_of_locked run rfl) (.yard y)) m
  | profileWrite h body => exact request_does runs fun m u config run => .profileBody (fun n p => .profile n p) m
  | lockLayout h body =>
    refine request_does runs fun m u config run => .noFields ?_ m
    split
    · exact .nothing
    · exact .lock (config_of_locked run rfl) ⟨h, body, rfl⟩
  | setClock h body =>
    refine request_does runs fun m u config run => .fieldWord4 (fun n => ?_) m
    split
    · next fits => exact .clock n (config_of_locked run rfl) fits
    · exact .nothing
  | planLoad h body => exact request_does runs fun m u config run => .planBody (fun b p n l => .table (run_of_refused config rfl) (.planLoad b p n l)) m
  | planClear h body => exact request_does runs fun m u config run => .fields1 (fun b => .table (run_of_refused config rfl) (.planClear b)) m
  | moveSubmit h body => exact request_does runs fun m u config run => .moveBody (fun f => .move (run_of_refused config rfl) (.submit f)) m
  | moveCancel h body => exact request_does runs fun m u config run => .fieldWord4 (fun n => .move (run_of_refused config rfl) (.cancel n)) m
  | barrier h body => exact request_does runs fun m u config run => .fieldCrane (fun x => .move (run_of_refused config rfl) (.barrier x)) m
  | laneRequest h body => exact request_does runs fun m u config run => .fieldCrane (fun x => .move (run_of_refused config rfl) (.laneRequest x)) m
  | laneRelease h body => exact request_does runs fun m u config run => .fieldCrane (fun x => .move (run_of_refused config rfl) (.laneRelease x)) m
  | declareOut h body =>
    refine request_does runs fun m u config run => .fields2 (fun a n => ?_) m
    split
    · exact .move (run_of_refused config rfl) (.declareOut n _)
    · exact .nothing
  | breachClear h body => exact request_does runs fun m u config run => .noFields (.move (run_of_refused config rfl) .breachClear) m
  | zonePriority h body =>
    refine request_does runs fun m u config run => .fields2 (fun z p => ?_) m
    split
    · exact .nothing
    · next fits =>
      exact .table (run_of_refused config rfl) (.priority z p (of_decide_eq_true ((firstBad_eq_none _).mp fits _ (by simp))))
  | zoneFollow h body => exact request_does runs fun m u config run => .fields2 (fun z _ => .table (run_of_refused config rfl) (.follow z _)) m
  | advance h body =>
    refine request_does runs fun m u config run => .fields1 (fun z => ?_) m
    split
    · next zone =>
      split
      · exact .table (run_of_refused config rfl) (.advance z zone)
      · exact .table (run_of_refused config rfl) (.advance z zone)
      · exact .table (run_of_refused config rfl) (.advance z zone)
      · exact .nothing
    · exact .nothing
  | heatOff h body => exact request_does runs fun m u config run => .noFields (.steam (run_of_refused config rfl) .heatOff) m
  | heatOn h body => exact request_does runs fun m u config run => .noFields (.steam (run_of_refused config rfl) .heatOn) m
  | setK h body =>
    refine request_does runs fun m u config run => .fields1 (fun n => ?_) m
    split
    · exact .steam (run_of_refused config rfl) (.budget n)
    · exact .nothing
  | setMinopen h body =>
    refine request_does runs fun m u config run => .fields1 (fun n => ?_) m
    split
    · exact .steam (run_of_refused config rfl) (.minOpen n)
    · exact .nothing
  | sampleTime h body =>
    refine request_does runs fun m u config run => .fields1 (fun n => ?_) m
    split
    · exact .probe (run_of_refused config rfl) (.sampleTime n)
    · exact .nothing
  | probeTrim h body => exact request_does runs fun m u config run => .fields3 (fun n _ _ => .probe (run_of_refused config rfl) (.trim n _)) m
  | bayOpen h body => exact request_does runs fun m u config run => .fields2 (fun b limit => .table (run_of_refused config rfl) (.bayOpen b limit)) m
  | bayClose h body => exact request_does runs fun m u config run => .fields2 (fun b first => .table (run_of_refused config rfl) (.bayClose b first)) m
  | placeRecord h body => exact request_does runs fun m u config run => .placeBody (fun n d a k o => .table (run_of_refused config rfl) (.place n d a k o)) m
  | removeRecord h body => exact request_does runs fun m u config run => .fields2 (fun n i => .table (run_of_refused config rfl) (.remove n i)) m
  | stockSeek h body =>
    refine request_does runs fun m u config run => .fields1 (fun n => ?_) m
    split
    · exact .table (run_of_refused config rfl) (.cursor _ n)
    · exact .nothing
  | stockRead h body => exact request_does runs fun m u config run => .noFields (.table (run_of_refused config rfl) (.cursor _ _)) m
  | pieceQuery h body =>
    refine request_does runs fun m u config run => .fields1 (fun n => ?_) m
    split
    · exact .nothing
    · split <;> exact .nothing
  | bedQuery h body =>
    refine request_does runs fun m u config run => .fields1 (fun n => ?_) m
    split <;> exact .nothing
  | zoneQuery h body =>
    refine request_does runs fun m u config run => .fields1 (fun n => ?_) m
    split <;> exact .nothing
  | moveQuery h body =>
    refine request_does runs fun m u config run => .fieldWord4 (fun n => ?_) m
    split
    · split <;> exact .nothing
    · exact .nothing
  | craneQuery h body => exact request_does runs fun m u config run => .fieldCrane (fun _ => .nothing) m
  | condRead h body => exact request_does runs fun m u config run => .noFields .nothing m
  | condAck h body =>
    refine request_does runs fun m u config run => .ackBody (fun a b n => ?_) m
    split
    · exact .nothing
    · split
      · exact .condition (run_of_refused config rfl) (.acknowledge _ _ _)
      · exact .nothing
  | reportMode h body => exact request_does runs fun m u config run => .fields3 (fun p k n => .condition (run_of_refused config rfl) (.mode p k n)) m
  | restart h body => exact request_does runs fun m u config run => .noFields (.restart (run_of_refused config rfl)) m
  | setupDone h body => exact request_does runs fun m u config run => .panelEvent (fun stands => .table (run_of_refused config rfl) (.setupDone stands)) m
  | castEnd h body => exact request_does runs fun m u config run => .panelEvent (fun stands => .table (run_of_refused config rfl) (.castEnd stands)) m
  | pourAbort h body => exact request_does runs fun m u config run => .panelEvent (fun stands => .table (run_of_refused config rfl) (.pourAbort stands)) m
  | releaseRequest h body => exact request_does runs fun m u config run => .panelEvent (fun stands => .table (run_of_refused config rfl) (.release stands)) m
  | strandsCut h body => exact request_does runs fun m u config run => .panelEvent (fun stands => .table (run_of_refused config rfl) (.strandsCut stands)) m
  | bedClear h body => exact request_does runs fun m u config run => .panelEvent (fun stands => .table (run_of_refused config rfl) (.bedClear stands)) m
  | castStart h body => exact request_does runs fun m u config run => .panelEvent (fun stands => .table (run_of_refused config rfl) (.castStart stands ⟨h, body, rfl⟩)) m
  | flagsAck h body =>
    refine request_does runs fun m u config run => .noFields ?_ m
    dsimp only
    split <;> exact .condition (run_of_refused config rfl) .flagsAck
  | nothing h body => exact request_does runs fun m u config run => .noFields .nothing m
  | unknownKind h code body => exact request_does runs fun m u config run => .nothing
  | badFrame p chars =>
    obtain rfl := Host.Outcome.next.inj runs
    split
    · exact link_does (.refl s)
    · next free => exact link_does (.feed p chars (.refl s) (by simpa using free))
  | byteGapTimeout p chars =>
    obtain rfl := Host.Outcome.next.inj runs
    split
    · exact link_does (.refl s)
    · next free =>
      have fed : s.linked (State.feed p chars s) := .feed p chars (.refl s) (by simpa using free)
      split
      · exact link_does fed
      · exact link_does (fed.badOn (fed.held (by simpa using free)) p)
  | chainFrame h k body =>
    obtain rfl := Host.Outcome.next.inj runs
    split
    · exact link_does (.refl s)
    · next free =>
      split
      · exact link_does (State.linked.badOn (.refl s) (by simpa using free) .BL)
      · exact link_does (.chainOn _ _ _ _)
  | chainGapTimeout p =>
    obtain rfl := Host.Outcome.next.inj runs
    split
    · exact link_does (((State.linked.refl s).port _ _).port _ _)
    · exact link_does (.refl s)
  | overrunFrame p good =>
    obtain rfl := Host.Outcome.next.inj runs
    split
    · exact link_does (.refl s)
    · split
      · split <;> exact link_does (State.linked.port (.refl s) _ _)
      · split <;> exact link_does (State.linked.port (.refl s) _ _)
      · exact link_does (.refl s)
      · exact link_does (.refl s)
  | replySent p =>
    obtain rfl := Host.Outcome.next.inj runs
    split
    · split
      · split
        · exact act_does (.hold .restart (by decide))
        · exact link_does (State.linked.port (.refl s) _ _)
      · exact link_does (((State.linked.refl s).port .BL _).tail (.poll _))
      · exact link_does (State.linked.port (.refl s) _ _)
    · exact link_does (.refl s)
  | bedPoll =>
    obtain rfl := Host.Outcome.next.inj runs
    exact link_does (State.LinkStep.poll s).linked
  | missedAnswer =>
    obtain rfl := Host.Outcome.next.inj runs
    split
    · exact link_does (.refl s)
    · next free =>
      simp only [Bool.or_eq_true, not_or, Bool.not_eq_true] at free
      exact link_does (State.linked.missAnswer (.refl s) free.1)
  | craneReport h body => exact request_does runs fun m u config run => .fields3 (fun n hook event => .move (run_of_refused config rfl) (.report _ n hook event)) m

/-- What the link's primitive steps and every act and event keep, every command keeps. -/
theorem exec_keeps {I : State → Prop} (link : ∀ {s t}, State.LinkStep s t → I s → I t)
    (does : ∀ {c s t}, State.Does c s t → I s → I t) {c : Instr} {s t : State} (runs : exec c s = .next t) (i : I s) : I t := by
  obtain ⟨u, v, before, act, after⟩ := exec_does runs
  exact after.keeps link (does act (before.keeps link i))

/-- A step idles, or it takes the front command from the queue and executes it. -/
theorem step_cases {s t : State} (h : step s = .next t) :
    t = s ∨ ∃ c rest, exec c { s with pending := rest } = .next t := by
  unfold step at h
  split at h
  · exact .inl (Host.Outcome.next.inj h).symm
  · exact .inr ⟨_, _, h⟩

/-- What the link's primitive steps and every act and event keep, every step keeps, if it does not look at the queue of commands. -/
theorem step_keeps {I : State → Prop} (queue : ∀ {s} (l : List Instr), I s → I { s with pending := l })
    (link : ∀ {s t}, State.LinkStep s t → I s → I t) (does : ∀ {c s t}, State.Does c s t → I s → I t) {s t : State}
    (h : step s = .next t) (i : I s) : I t := by
  rcases step_cases h with rfl | ⟨c, rest, runs⟩
  · exact i
  · exact exec_keeps link does runs (queue rest i)

end Sys2Proof.Machine
end

section
/-! SUPPORT. Proofs/Acts.lean: which records each kind of act can change at all, and with it the two statements that need no more:
the queue of commands is no command's (O1), and in RUN the layout is a reset's alone (O57). -/

namespace Sys2Proof.Machine

/-! ## What each kind of act can change -/

theorem State.LinkStep.only {s t : State} (h : s.LinkStep t) :
    ∃ e c l, t = { s with beds := e, cnd := c, lnk := l } := by
  cases h with
  | port p r => cases p <;> exact ⟨_, _, _, rfl⟩
  | window => exact ⟨_, _, _, rfl⟩
  | poll =>
    unfold State.pollNext
    split
    · exact ⟨_, _, _, rfl⟩
    · split <;> exact ⟨_, _, _, rfl⟩
  | missed q =>
    unfold State.panelMissed
    dsimp only
    split
    · obtain ⟨_, _, _, e⟩ := State.raiseCause_only (s.setBed q.bed
        { s.bed q.bed with missed := holdAt 3 (s.bed q.bed).missed, panelLost := true }) [.PL] .panelLost (.bed q.bed)
      rw [e]; exact ⟨_, _, _, rfl⟩
    · exact ⟨_, _, _, rfl⟩
  | answered q =>
    unfold State.panelAnswered
    dsimp only
    split
    · obtain ⟨_, _, _, e⟩ := State.endCause_only
        ((s.setBed q.bed { s.bed q.bed with missed := 0, panelLost := false }).unflagPanelLost q.bed) [.PL] .panelLost (.bed q.bed)
      rw [e]; exact ⟨_, _, _, rfl⟩
    · exact ⟨_, _, _, rfl⟩

theorem State.linked.only {s t : State} (h : s.linked t) : ∃ e c l, t = { s with beds := e, cnd := c, lnk := l } := by
  induction h with
  | refl => exact ⟨_, _, _, rfl⟩
  | tail _ last ih =>
    obtain ⟨_, _, _, rfl⟩ := ih
    obtain ⟨_, _, _, rfl⟩ := last.only
    exact ⟨_, _, _, rfl⟩

/-- A layout write leaves the lock alone. -/
theorem State.LayoutAct.only {s t : State} (h : s.LayoutAct t) :
    ∃ a b c d e y v, t = { s with
      lyt := { s.lyt with segments := a, beds := b, zones := c, cells := d, bays := e, yard := y }, valves := v } := by
  cases h with
  | segment n a v => unfold State.writeSegment; split <;> exact ⟨_, _, _, _, _, _, _, rfl⟩
  | bed b y r => unfold State.writeBed; split <;> exact ⟨_, _, _, _, _, _, _, rfl⟩
  | zone z b r v f => unfold State.writeZone; split <;> exact ⟨_, _, _, _, _, _, _, rfl⟩
  | cell n seg row limit => unfold State.writeCell; split <;> exact ⟨_, _, _, _, _, _, _, rfl⟩
  | bay b n => unfold State.writeBay; split <;> exact ⟨_, _, _, _, _, _, _, rfl⟩
  | yard y => unfold State.writeYard; split <;> exact ⟨_, _, _, _, _, _, _, rfl⟩

theorem State.writeProfile_only (s : State) (n : Nat) (p : Profile) :
    ∃ q, (s.writeProfile n p).1 = { s with zcu := { s.zcu with profiles := q } } := by
  unfold State.writeProfile
  split
  · exact ⟨_, rfl⟩
  · split <;> exact ⟨_, rfl⟩

/-- `t` differs from `s` at most in beds, zones, pieces and stock. -/
def State.tablesOnly (s t : State) : Prop :=
  ∃ e z p k, t = { s with beds := e, zcu := { s.zcu with zones := z }, pct := p, stk := k }

theorem State.tablesOnly.refl (s : State) : s.tablesOnly s := ⟨_, _, _, _, rfl⟩

theorem State.tablesOnly.trans {s t u : State} (h : s.tablesOnly t) (g : t.tablesOnly u) : s.tablesOnly u := by
  obtain ⟨_, _, _, _, rfl⟩ := h; obtain ⟨_, _, _, _, rfl⟩ := g; exact ⟨_, _, _, _, rfl⟩

theorem State.piecesOnly.tables {s t : State} (h : s.piecesOnly t) : s.tablesOnly t := by
  obtain ⟨_, rfl⟩ := h; exact ⟨_, _, _, _, rfl⟩

theorem State.loadPlan_only (s : State) (b pour profile : Nat) (l : List PieceSpec) :
    s.tablesOnly (s.loadPlan b pour profile l).1 := by
  unfold State.loadPlan
  dsimp only
  repeat' split
  any_goals exact .refl s
  exact ((s.freePieces_only _).trans (State.takeAll_only b pour l _)).tables.trans ⟨_, _, _, _, rfl⟩

theorem State.clearPlan_only (s : State) (b : Nat) : s.tablesOnly (s.clearPlan b).1 := by
  unfold State.clearPlan
  dsimp only
  repeat' split
  any_goals exact .refl s
  exact (s.freePieces_only _).tables.trans ⟨_, _, _, _, rfl⟩

theorem State.castStart_only (s : State) (b : Nat) : s.tablesOnly (s.castStart b).1 := by
  unfold State.castStart
  split
  · exact .refl s
  · exact State.tablesOnly.trans (foldl_keeps State.tablesOnly.refl State.tablesOnly.trans (fun _ _ => ⟨_, _, _, _, rfl⟩) _ s)
      ⟨_, _, _, _, rfl⟩

theorem State.clearBed_only (s : State) (b : Nat) : s.tablesOnly (s.clearBed b).1 := by
  unfold State.clearBed
  split
  · exact State.tablesOnly.trans ⟨_, _, _, _, rfl⟩
      (foldl_keeps State.tablesOnly.refl State.tablesOnly.trans (fun _ _ => ⟨_, _, _, _, rfl⟩) _ _)
  · exact .refl s

theorem State.setFollow_only (s : State) (z : Nat) (lead : Option Nat) : s.tablesOnly (s.setFollow z lead).1 := by
  unfold State.setFollow
  repeat' split
  any_goals exact .refl s
  all_goals exact ⟨_, _, _, _, rfl⟩

/-- `t` differs from `s` at most in pieces and stock. -/
def State.stockOnly (s t : State) : Prop := ∃ p k, t = { s with pct := p, stk := k }

theorem State.stockOnly.tables {s t : State} (h : s.stockOnly t) : s.tablesOnly t := by
  obtain ⟨_, _, rfl⟩ := h; exact ⟨_, _, _, _, rfl⟩

theorem State.openBay_only (s : State) (b limit : Nat) : s.stockOnly (s.openBay b limit).1 := by
  unfold State.openBay
  repeat' split
  all_goals exact ⟨_, _, rfl⟩

theorem State.closeBay_only (s : State) (b first : Nat) : s.stockOnly (s.closeBay b first).1 := by
  unfold State.closeBay
  dsimp only
  repeat' split
  all_goals exact ⟨_, _, rfl⟩

theorem State.placeRecord_only (s : State) (n : Nat) (d : Desc) (acc : Nat) (k : Bool) (m : Option Nat) :
    s.stockOnly (s.placeRecord n d acc k m).1 := by
  unfold State.placeRecord
  repeat' split
  all_goals exact ⟨_, _, rfl⟩

theorem State.removeRecord_only (s : State) (n i : Nat) : s.stockOnly (s.removeRecord n i).1 := by
  unfold State.removeRecord
  repeat' split
  all_goals exact ⟨_, _, rfl⟩

theorem State.setCursor_only (s : State) (p : Point) (n : Nat) : s.stockOnly (s.setCursor p n) := by
  cases p <;> exact ⟨_, _, rfl⟩

theorem State.TableAct.only {c : Instr} {s t : State} (h : s.TableAct c t) : s.tablesOnly t := by
  cases h with
  | planLoad => exact s.loadPlan_only ..
  | planClear => exact s.clearPlan_only _
  | priority => exact ⟨_, _, _, _, rfl⟩
  | follow => exact s.setFollow_only ..
  | advance => exact ⟨_, _, _, _, rfl⟩
  | bayOpen => exact (s.openBay_only ..).tables
  | bayClose => exact (s.closeBay_only ..).tables
  | place => exact (s.placeRecord_only ..).tables
  | remove => exact (s.removeRecord_only ..).tables
  | cursor => exact (s.setCursor_only ..).tables
  | setupDone => exact ⟨_, _, _, _, rfl⟩
  | castStart => exact s.castStart_only _
  | castEnd =>
    exact State.tablesOnly.trans ⟨_, _, _, _, rfl⟩
      (foldl_keeps State.tablesOnly.refl State.tablesOnly.trans (fun _ _ => ⟨_, _, _, _, rfl⟩) _ _)
  | pourAbort => exact (s.freePieces_only _).tables.trans ⟨_, _, _, _, rfl⟩
  | release =>
    unfold State.requestRelease
    split <;> exact ⟨_, _, _, _, rfl⟩
  | strandsCut => exact ⟨_, _, _, _, rfl⟩
  | bedClear => exact s.clearBed_only _

theorem State.SteamAct.only {s t : State} (h : s.SteamAct t) : ∃ a v, t = { s with sha := a, valves := v } := by
  cases h <;> exact ⟨_, _, rfl⟩

/-- `t` differs from `s` at most in the converter and in what a scan completion hands on to: beds, pieces, zones, the allocator and the
condition unit. -/
def State.scanOnly (s t : State) : Prop :=
  ∃ e p z a q c, t = { s with beds := e, pcv := p, zcu := z, sha := a, pct := q, cnd := c }

theorem State.scanOnly.refl (s : State) : s.scanOnly s := ⟨_, _, _, _, _, _, rfl⟩

theorem State.scanOnly.trans {s t u : State} (h : s.scanOnly t) (g : t.scanOnly u) : s.scanOnly u := by
  obtain ⟨_, _, _, _, _, _, rfl⟩ := h; obtain ⟨_, _, _, _, _, _, rfl⟩ := g; exact ⟨_, _, _, _, _, _, rfl⟩

theorem State.probesOnly.scan {s t : State} (h : s.probesOnly t) : s.scanOnly t := by
  obtain ⟨_, _, rfl⟩ := h; exact ⟨_, _, _, _, _, _, rfl⟩

theorem State.handedOnly.scan {s t : State} (h : s.handedOnly t) : s.scanOnly t := by
  obtain ⟨_, _, _, _, rfl⟩ := h; exact ⟨_, _, _, _, _, _, rfl⟩

theorem State.completeScan_only (s : State) : s.scanOnly s.completeScan := by
  obtain ⟨v, kept, e⟩ := s.completeScan_parts
  rw [e]
  exact (kept.scan.trans ⟨_, _, _, _, _, _, rfl⟩).trans v.handScan_only.scan

theorem State.enterConversion_only (s : State) (n : Nat) (e : ScanEntry) : s.scanOnly (s.enterConversion n e) := by
  unfold State.enterConversion
  dsimp only
  split
  · exact ⟨_, _, _, _, _, _, rfl⟩
  · exact State.scanOnly.trans ⟨_, _, _, _, _, _, rfl⟩ (State.completeScan_only _)

theorem State.discardConversion_only (s : State) : s.scanOnly s.discardConversion := by
  unfold State.discardConversion
  split
  · exact s.enterConversion_only _ _
  · exact .refl s

theorem State.setTrim_only (s : State) (n : Nat) (v : Int) : s.scanOnly (s.setTrim n v).1 := by
  have written : s.scanOnly (s.setChannel n { s.channel n with trim := clampInt (-50) 50 v }) := ⟨_, _, _, _, _, _, rfl⟩
  unfold State.setTrim
  dsimp only
  split
  · split
    · exact written.trans (State.discardConversion_only _)
    · exact written
  · exact .refl s

theorem State.ProbeAct.only {s t : State} (h : s.ProbeAct t) : s.scanOnly t := by
  cases h with
  | trim => exact s.setTrim_only ..
  | sampleTime => exact State.scanOnly.trans ⟨_, _, _, _, _, _, rfl⟩ (State.discardConversion_only _)
  | conversion => exact s.enterConversion_only ..
  | reference raw => exact (s.checkReference_only raw).scan.trans (State.enterConversion_only ..)

theorem State.putBarrier_only (s : State) (x : Crane) : s.movesOnly (s.putBarrier x).1 := by
  unfold State.putBarrier
  dsimp only
  split
  · exact .refl s
  · split
    · exact .refl s
    · exact s.setWork_only _ _

theorem State.requestLane_only (s : State) (x : Crane) : s.movesOnly (s.requestLane x).1 := by
  unfold State.requestLane
  split
  · exact .refl s
  · split
    · exact s.setWork_only _ _
    · exact s.laneOn_only x

theorem State.releaseLane_only (s : State) (x : Crane) : s.movesOnly (s.releaseLane x).1 := by
  unfold State.releaseLane
  split
  · exact .refl s
  · exact s.setWork_only _ _

theorem State.clearBreach_only (s : State) : s.runwayOnly s.clearBreach.1 := by
  unfold State.clearBreach
  split
  · exact .refl s
  · split
    · exact .refl s
    · split
      · exact .refl s
      · exact State.runwayOnly.trans ⟨_, _, _, _, rfl⟩ (State.endCause_only _ _ _ _).runway

theorem State.MoveAct.only {s t : State} (h : s.MoveAct t) : s.reportOnly t := by
  cases h with
  | submit => exact s.submitMove_only _
  | cancel => exact s.cancelMove_only _
  | barrier => exact (s.putBarrier_only _).report
  | laneRequest => exact (s.requestLane_only _).report
  | laneRelease => exact (s.releaseLane_only _).report
  | declareOut => exact s.declareOut_only _ _
  | breachClear => exact s.clearBreach_only.moves.report
  | report => exact s.takeReport_only ..

theorem State.CondAct.only {s t : State} (h : s.CondAct t) : ∃ c, t = { s with cnd := c } := by
  cases h with
  | acknowledge p k subj =>
    unfold State.acknowledge
    split
    · exact ⟨_, rfl⟩
    · split
      · exact ⟨_, rfl⟩
      · cases p <;> exact ⟨_, rfl⟩
  | mode p k m =>
    unfold State.setMode
    split
    · exact ⟨_, rfl⟩
    · exact ⟨_, rfl⟩
    · split
      · exact ⟨_, rfl⟩
      · split
        · exact ⟨_, rfl⟩
        · obtain ⟨_, _, _, e⟩ := s.setCondSet_only _ _
          exact ⟨_, e⟩
  | flagsAck => exact ⟨_, rfl⟩

/-! ## The timebase -/

theorem State.expirePermit_only (s : State) (b : Nat) : s.handedOnly (s.expirePermit b) := by
  unfold State.expirePermit
  split
  · exact ((s.setBed_only b _).trans (State.postEvent_only _ _ _ _).handed).trans ⟨_, _, _, _, rfl⟩
  · exact .refl s

theorem State.steamTick_only (s : State) : ∃ a v, s.steamTick = { s with sha := a, valves := v } := by
  unfold State.steamTick
  split
  · exact ⟨_, _, rfl⟩
  · split
    · split <;> exact ⟨_, _, rfl⟩
    · exact ⟨_, _, rfl⟩

/-- A second changes the clock, the allocator, the valve lines, the runway and condition units, and at a minute the converter and the
beds. -/
theorem State.countSecond_only (s : State) : ∃ e p z a v r c, s.countSecond = { s with
    clk := s.clk.next, beds := e, pcv := p, zcu := z, sha := a, valves := v, rru := r, cnd := c } := by
  have seconds : ∃ a v r c, ({ s with clk := s.clk.next } : State).secondTick = { s with
      clk := s.clk.next, sha := a, valves := v, rru := r, cnd := c } := by
    obtain ⟨a, v, e⟩ := State.steamTick_only { s with clk := s.clk.next }
    obtain ⟨_, _, _, _, e'⟩ := State.runwayTick_only ({ s with clk := s.clk.next } : State).steamTick
    unfold State.secondTick
    rw [e', e]
    exact ⟨_, _, _, _, rfl⟩
  obtain ⟨a, v, r, c, e⟩ := seconds
  unfold State.countSecond
  dsimp only
  rw [e]
  split
  · unfold State.minuteTick State.expirePermits
    obtain ⟨_, _, _, _, e'⟩ := foldl_keeps State.handedOnly.refl State.handedOnly.trans State.expirePermit_only
      (List.range (Config.beds + 1)) ({ s with clk := s.clk.next, sha := a, valves := v, rru := r, cnd := c } : State).startScan
    rw [e']
    exact ⟨_, _, _, _, _, _, _, rfl⟩
  · exact ⟨_, _, _, _, _, _, _, rfl⟩

/-- A second of the clock keeps what its parts keep: the count, the allocator's and the runway unit's part, and at a minute tick the
scan's start and the permits (R10). -/
theorem State.countSecond_follows {R : State → State → Prop} (refl : ∀ s, R s s) (trans : ∀ {s t u}, R s t → R t u → R s u)
    (clock : ∀ s : State, R s { s with clk := s.clk.next }) (steam : ∀ s : State, R s s.steamTick)
    (runway : ∀ s : State, R s s.runwayTick) (scan : ∀ s : State, R s s.startScan)
    (permit : ∀ (s : State) (b : Nat), R s (s.expirePermit b)) (s : State) : R s s.countSecond := by
  have second : R s ({ s with clk := s.clk.next } : State).secondTick := by
    unfold State.secondTick
    exact trans (trans (clock s) (steam _)) (runway _)
  have minute : ∀ t : State, R t t.minuteTick := fun t => by
    unfold State.minuteTick State.expirePermits
    exact trans (scan t) (foldl_keeps refl trans permit _ _)
  unfold State.countSecond
  dsimp only
  split
  · exact trans second (minute _)
  · exact second

/-- The same where the allocator's record and the valve lines do not matter. -/
theorem State.countSecond_keeps {R : State → State → Prop} (refl : ∀ s, R s s) (trans : ∀ {s t u}, R s t → R t u → R s u)
    (clock : ∀ s : State, R s { s with clk := s.clk.next }) (steam : ∀ (s : State) a v, R s { s with sha := a, valves := v })
    (runway : ∀ s : State, R s s.runwayTick) (scan : ∀ s : State, R s s.startScan)
    (permit : ∀ (s : State) (b : Nat), R s (s.expirePermit b)) (s : State) : R s s.countSecond := by
  refine State.countSecond_follows refl trans clock (fun t => ?_) runway scan permit s
  obtain ⟨_, _, e⟩ := t.steamTick_only
  rw [e]
  exact steam _ _ _

/-! ## The resets -/

/-- A hold begun changes the reset inputs' record, the valve lines, the condition unit and the link. -/
theorem State.enterHold_only (s : State) (h : Hold) :
    ∃ r v c l, s.enterHold h = { s with rst := r, valves := v, cnd := c, lnk := l } := by
  unfold State.enterHold
  split <;> exact ⟨_, _, _, _, rfl⟩

/-! ## The queue of commands -/

theorem State.Does.pending {c : Instr} {s t : State} (h : s.Does c t) : t.pending = s.pending := by
  cases h with
  | served _ act =>
    cases act with
    | nothing => rfl
    | layout _ act => obtain ⟨_, _, _, _, _, _, _, rfl⟩ := act.only; rfl
    | lock => rfl
    | clock => rfl
    | profile n p => obtain ⟨_, e⟩ := s.writeProfile_only n p; rw [e]
    | table _ act => obtain ⟨_, _, _, _, rfl⟩ := act.only; rfl
    | steam _ act => obtain ⟨_, _, rfl⟩ := act.only; rfl
    | probe _ act => obtain ⟨_, _, _, _, _, _, rfl⟩ := act.only; rfl
    | move _ act => obtain ⟨_, _, _, _, _, _, _, _, rfl⟩ := act.only; rfl
    | condition _ act => obtain ⟨_, rfl⟩ := act.only; rfl
    | restart => rfl
  | chilled => rfl
  | warmed => rfl
  | hold h => obtain ⟨_, _, _, _, e⟩ := s.enterHold_only h; rw [e]
  | supplyLost => rfl
  | supply => rfl
  | second => obtain ⟨_, _, _, _, _, _, _, e⟩ := s.countSecond_only; rw [e]
  | probe _ act => obtain ⟨_, _, _, _, _, _, rfl⟩ := act.only; rfl

/-- Every command answers a next state. -/
theorem exec_next (c : Instr) (s : State) : ∃ t, exec c s = .next t := by
  cases c <;> exact ⟨_, rfl⟩

/-- No command touches the queue of commands. -/
theorem exec_pending {c : Instr} {s t : State} (runs : exec c s = .next t) : t.pending = s.pending :=
  exec_keeps (I := fun u => u.pending = s.pending)
    (fun step kept => by obtain ⟨_, _, _, rfl⟩ := step.only; exact kept) (fun act kept => act.pending.trans kept) runs rfl

/-- Settles O1: a step takes the front command from the queue, and no command touches the queue. -/
theorem stepTakesFront : Obligations.StepTakesFront := by
  refine ⟨fun _ _ => rfl, fun s empty => by unfold step; rw [empty], fun c s => ?_⟩
  obtain ⟨t, runs⟩ := exec_next c s
  exact ⟨t, runs, exec_pending runs⟩

/-! ## The layout in RUN -/

/-- What an act can do to the layout: nothing, a reset's cold-reset value, a write in CONFIG that leaves the lock, or the lock. -/
theorem State.Does.layout {c : Instr} {s t : State} (h : s.Does c t) :
    t.lyt = s.lyt ∨ ((c = .coldReset ∨ c = .warmReset) ∧ t.lyt = {})
      ∨ (s.run = false ∧ (t.run = false ∨ ∃ h body, c = .lockLayout h body)) := by
  cases h with
  | served _ act =>
    cases act with
    | nothing => exact .inl rfl
    | layout config act =>
      obtain ⟨_, _, _, _, _, _, _, rfl⟩ := act.only
      exact .inr (.inr ⟨config, .inl config⟩)
    | lock config only => exact .inr (.inr ⟨config, .inr only⟩)
    | clock => exact .inl rfl
    | profile n p => obtain ⟨_, e⟩ := s.writeProfile_only n p; rw [e]; exact .inl rfl
    | table _ act => obtain ⟨_, _, _, _, rfl⟩ := act.only; exact .inl rfl
    | steam _ act => obtain ⟨_, _, rfl⟩ := act.only; exact .inl rfl
    | probe _ act => obtain ⟨_, _, _, _, _, _, rfl⟩ := act.only; exact .inl rfl
    | move _ act => obtain ⟨_, _, _, _, _, _, _, _, rfl⟩ := act.only; exact .inl rfl
    | condition _ act => obtain ⟨_, rfl⟩ := act.only; exact .inl rfl
    | restart => exact .inl rfl
  | chilled only => exact .inr (.inl ⟨only, rfl⟩)
  | warmed => exact .inl rfl
  | hold h => obtain ⟨_, _, _, _, e⟩ := s.enterHold_only h; rw [e]; exact .inl rfl
  | supplyLost => exact .inl rfl
  | supply => exact .inl rfl
  | second => obtain ⟨_, _, _, _, _, _, _, e⟩ := s.countSecond_only; rw [e]; exact .inl rfl
  | probe _ act => obtain ⟨_, _, _, _, _, _, rfl⟩ := act.only; exact .inl rfl

/-- Settles O57: the link touches no layout, and of the acts a layout write and the lock are for CONFIG alone. -/
theorem layoutFixedInRun : Obligations.LayoutFixedInRun := by
  intro c s t runs
  obtain ⟨u, v, before, act, after⟩ := exec_does runs
  obtain ⟨_, _, _, rfl⟩ := before.only
  obtain ⟨_, _, _, rfl⟩ := after.only
  rcases act.layout with same | ⟨reset, cold⟩ | ⟨config, inConfig | locked⟩
  · refine ⟨fun config run => ?_, fun _ => .inl same⟩
    have kept : v.run = s.run := congrArg Layout.locked same
    exact absurd (kept.symm.trans run) (by simp [config])
  · refine ⟨fun _ run => ?_, fun _ => .inr ⟨reset, cold⟩⟩
    have lost : v.run = false := congrArg Layout.locked cold
    exact absurd (lost.symm.trans run) (by simp)
  · exact ⟨fun _ run => absurd (inConfig.symm.trans run) (by simp), fun run => absurd (config.symm.trans run) (by simp)⟩
  · exact ⟨fun _ _ => locked, fun run => absurd (config.symm.trans run) (by simp)⟩

end Sys2Proof.Machine
end

section
/-! SUPPORT. Proofs/Credit.lean: what a command can do to the accumulator and the suspect count of a piece (R50, R51). -/

namespace Sys2Proof.Machine

/-! ## One piece -/

/-- The counts of a piece stand in their ranges (R50). -/
def Piece.inRange (p : Piece) : Prop := p.accumulator ≤ Config.accumulatorMax ∧ p.suspect ≤ Config.suspectMax

/-- `q` may follow `p` in a record: in range where `p` was, and no lower where both are live (R50, R51). -/
def Piece.mayBecome (p q : Piece) : Prop :=
  p.inRange → q.inRange ∧ (p.live = true → q.live = true → p.accumulator ≤ q.accumulator)

/-- `q` has the state and the counts of `p`. -/
def Piece.sameCredit (p q : Piece) : Prop := q.state = p.state ∧ q.accumulator = p.accumulator ∧ q.suspect = p.suspect

theorem Piece.live_congr {p q : Piece} (h : q.state = p.state) : q.live = p.live := by
  unfold Piece.live
  rw [h]

theorem Piece.mayBecome.of_counts {p q : Piece} (acc : q.accumulator = p.accumulator) (sus : q.suspect = p.suspect) :
    p.mayBecome q := fun held => ⟨⟨acc ▸ held.1, sus ▸ held.2⟩, fun _ _ => acc.ge⟩

theorem Piece.mayBecome.of_idle {p q : Piece} (range : q.inRange) (idle : q.live = false) : p.mayBecome q :=
  fun _ => ⟨range, fun _ live => absurd (idle.symm.trans live) (by simp)⟩

theorem Piece.mayBecome.then {p q r : Piece} (h : p.mayBecome q) (g : q.sameCredit r) : p.mayBecome r := by
  obtain ⟨state, acc, sus⟩ := g
  intro held
  obtain ⟨range, grows⟩ := h held
  exact ⟨⟨acc ▸ range.1, sus ▸ range.2⟩, fun a b => acc ▸ grows a (Piece.live_congr state ▸ b)⟩

/-- A freed record has its counts at 0 and is not live. -/
theorem Piece.mayBecome_free (p : Piece) : p.mayBecome {} := .of_idle ⟨Nat.zero_le _, Nat.zero_le _⟩ rfl

/-- A credit raises the accumulator or the suspect count, each held at its limit (R51, R57 to R59). -/
theorem Piece.mayBecome_credited (p : Piece) (datum cap : Int) (temp : Option Int) : p.mayBecome (p.credited datum cap temp) := by
  intro ⟨acc, sus⟩
  unfold Piece.credited
  split
  · exact ⟨⟨Nat.min_le_left _ _, sus⟩, fun _ _ => le_min acc (Nat.le_add_right _ _)⟩
  · exact ⟨⟨acc, Nat.min_le_left _ _⟩, fun _ _ => le_rfl⟩

theorem State.updatedPiece_mayBecome (s : State) (p : Piece) : p.mayBecome (s.updatedPiece p) := by
  unfold State.updatedPiece
  split
  · split
    · exact p.mayBecome_credited _ _ _
    · exact .of_counts rfl rfl
  · exact .of_counts rfl rfl

/-! ## The piece table -/

/-- Every record of `t` may follow that of `s`. -/
def State.creditsRise (s t : State) : Prop := ∀ n, (s.piece n).mayBecome (t.piece n)

/-- Every record keeps its state and its counts. -/
def State.creditsStand (s t : State) : Prop := ∀ n, (s.piece n).sameCredit (t.piece n)

theorem State.creditsStand.refl (s : State) : s.creditsStand s := fun _ => ⟨rfl, rfl, rfl⟩

theorem State.creditsStand.trans {s t u : State} (h : s.creditsStand t) (g : t.creditsStand u) : s.creditsStand u :=
  fun n => ⟨(g n).1.trans (h n).1, (g n).2.1.trans (h n).2.1, (g n).2.2.trans (h n).2.2⟩

theorem State.creditsStand.of_pct {s t : State} (h : t.pct = s.pct) : s.creditsStand t := by
  intro n
  unfold State.piece
  rw [h]
  exact ⟨rfl, rfl, rfl⟩

theorem State.movesOnly.credits {s t : State} (h : s.movesOnly t) : s.creditsStand t := by
  obtain ⟨_, _, _, _, _, rfl⟩ := h
  exact .of_pct rfl

theorem State.creditsStand.rise {s t : State} (h : s.creditsStand t) : s.creditsRise t :=
  fun n => .of_counts (h n).2.1 (h n).2.2

theorem State.creditsRise.then {s t u : State} (h : s.creditsRise t) (g : t.creditsStand u) : s.creditsRise u :=
  fun n => (h n).then (g n)

theorem State.creditsStand.before {s t u : State} (h : s.creditsStand t) (g : t.creditsRise u) : s.creditsRise u := by
  intro n held
  obtain ⟨state, acc, sus⟩ := h n
  have grown := g n ⟨acc ▸ held.1, sus ▸ held.2⟩
  rw [acc, Piece.live_congr state] at grown
  exact grown

theorem State.creditsRise.from {s t u : State} (h : t.creditsRise u) (same : t.pct = s.pct) : s.creditsRise u :=
  (State.creditsStand.of_pct same).before h

/-- A record written with what may follow it. -/
theorem State.creditsRise_of_write {s t : State} (n : Nat) {q : Piece} (written : t.pct = s.pct.write {} n q)
    (h : (s.piece n).mayBecome q) : s.creditsRise t := by
  intro i
  have read : t.piece i = if n = i then q else s.piece i := by
    unfold State.piece
    rw [written, Tab.read_write]
  rw [read]
  split
  · next e => exact e ▸ h
  · exact .of_counts rfl rfl

theorem State.creditsRise_setPiece (s : State) (n : Nat) {q : Piece} (h : (s.piece n).mayBecome q) :
    s.creditsRise (s.setPiece n q) := State.creditsRise_of_write n rfl h

theorem State.creditsRise.bump {s t : State} (h : s.creditsRise t) : s.creditsRise t.bumpGeneration := h

theorem State.creditsStand_setPiece {s : State} (n : Nat) {q : Piece} (h : (s.piece n).sameCredit q) :
    s.creditsStand (s.setPiece n q) := by
  intro i
  rw [State.piece_setPiece]
  split
  · next e => exact e ▸ h
  · exact ⟨rfl, rfl, rfl⟩

theorem State.setClaim_credits (s : State) (n : Nat) (c : Option Nat) : s.creditsStand (s.setClaim n c) :=
  s.creditsStand_setPiece n ⟨rfl, rfl, rfl⟩

/-- Each record stands, or it holds nothing gained and is not live: what freeing and planning do (R19, R102). -/
def State.emptied (s t : State) : Prop :=
  ∀ n, t.piece n = s.piece n ∨ ((t.piece n).accumulator = 0 ∧ (t.piece n).suspect = 0 ∧ (t.piece n).live = false)

theorem State.emptied.refl (s : State) : s.emptied s := fun _ => .inl rfl

theorem State.emptied.trans {s t u : State} (h : s.emptied t) (g : t.emptied u) : s.emptied u := by
  intro n
  rcases g n with e | e
  · rw [e]; exact h n
  · exact .inr e

theorem State.emptied.rise {s t : State} (h : s.emptied t) : s.creditsRise t := by
  intro n
  rcases h n with e | ⟨acc, sus, idle⟩
  · rw [e]; exact .of_counts rfl rfl
  · exact .of_idle ⟨by omega, by omega⟩ idle

theorem State.emptied_setPiece (s : State) (n : Nat) {q : Piece} (acc : q.accumulator = 0) (sus : q.suspect = 0)
    (idle : q.live = false) : s.emptied (s.setPiece n q) := by
  intro i
  rw [State.piece_setPiece]
  split
  · exact .inr ⟨acc, sus, idle⟩
  · exact .inl rfl

theorem State.freePieces_emptied (s : State) (l : List Nat) : s.emptied (s.freePieces l) :=
  foldl_keeps State.emptied.refl State.emptied.trans (fun t n => t.emptied_setPiece n rfl rfl rfl) l s

theorem State.takeAll_emptied (b pour : Nat) (l : List PieceSpec) (s : State) : s.emptied (State.takeAll b pour l s).1 := by
  induction l generalizing s with
  | nil => exact .refl s
  | cons p rest ih =>
    refine State.emptied.trans ?_ (ih _)
    unfold State.takePlanned
    split
    · exact s.emptied_setPiece _ rfl rfl rfl
    · exact .refl s

/-! ## The acts -/

theorem State.loadPlan_credits (s : State) (b pour profile : Nat) (l : List PieceSpec) :
    s.creditsRise (s.loadPlan b pour profile l).1 := by
  unfold State.loadPlan
  dsimp only
  repeat' split
  any_goals exact (State.creditsStand.refl s).rise
  exact ((s.freePieces_emptied _).trans (State.takeAll_emptied b pour l _)).rise

theorem State.clearPlan_credits (s : State) (b : Nat) : s.creditsRise (s.clearPlan b).1 := by
  unfold State.clearPlan
  dsimp only
  repeat' split
  any_goals exact (State.creditsStand.refl s).rise
  exact (s.freePieces_emptied _).rise

/-- A record placed by the planner was FREE, and is given an accumulator in its range (R115). -/
theorem State.placeRecord_credits (s : State) (n : Nat) (d : Desc) (acc : Nat) (k : Bool) (m : Option Nat) :
    s.creditsRise (s.placeRecord n d acc k m).1 := by
  unfold State.placeRecord
  split
  · exact (State.creditsStand.refl s).rise
  · next fields =>
    have most : acc ≤ Config.accumulatorMax := of_decide_eq_true ((firstBad_eq_none _).mp fields _ (by simp [placeChecks]))
    repeat' split
    any_goals exact (State.creditsStand.refl s).rise
    next i found =>
    have free : (s.piece i).state = .free := by simpa using List.find?_some found
    have idle : (s.piece i).live = false := by unfold Piece.live; rw [free]
    refine State.creditsRise.bump ?_
    refine (State.creditsRise_setPiece _ i ?_).from rfl
    intro _
    exact ⟨⟨most, Nat.zero_le Config.suspectMax⟩, fun live => absurd (idle.symm.trans live) (by simp)⟩

theorem State.removeRecord_credits (s : State) (n i : Nat) : s.creditsRise (s.removeRecord n i).1 := by
  unfold State.removeRecord
  repeat' split
  any_goals exact (State.creditsStand.refl s).rise
  next m _ _ _ =>
  exact (State.creditsRise_setPiece (s.setCell n _) i (Piece.mayBecome_free _)).from rfl

/-- A CAST-START takes its pieces' counts back to 0 (R23). -/
theorem State.castStart_inRange (s : State) (b : Nat) (h : s.accumulatorsHeld) : (s.castStart b).1.accumulatorsHeld := by
  unfold State.castStart
  split
  · exact h
  · refine foldl_keeps (R := fun s t => s.accumulatorsHeld → t.accumulatorsHeld) (fun _ h => h) (fun f g h => g (f h))
      (fun t n held i => ?_) _ s h
    unfold State.castPiece
    rw [State.piece_setPiece]
    split
    · exact ⟨Nat.zero_le _, Nat.zero_le _⟩
    · exact held i

theorem State.TableAct.credits {c : Instr} {s t : State} (h : s.TableAct c t) :
    s.creditsRise t ∨ ((∃ h body, c = .castStart h body) ∧ (s.accumulatorsHeld → t.accumulatorsHeld)) := by
  cases h with
  | planLoad => exact .inl (s.loadPlan_credits _ _ _ _)
  | planClear => exact .inl (s.clearPlan_credits _)
  | place => exact .inl (s.placeRecord_credits _ _ _ _ _)
  | remove => exact .inl (s.removeRecord_credits _ _)
  | pourAbort => exact .inl (s.freePieces_emptied _).rise
  | castStart _ only => exact .inr ⟨only, s.castStart_inRange _⟩
  | priority | advance | setupDone | strandsCut => exact .inl (State.creditsStand.of_pct rfl).rise
  | follow => exact .inl (State.creditsStand.of_pct (by unfold State.setFollow; (repeat' split) <;> rfl)).rise
  | bayOpen => exact .inl (State.creditsStand.of_pct (by unfold State.openBay; (repeat' split) <;> rfl)).rise
  | bayClose => exact .inl (State.creditsStand.of_pct (by unfold State.closeBay; dsimp only; (repeat' split) <;> rfl)).rise
  | cursor p => exact .inl (State.creditsStand.of_pct (by cases p <;> rfl)).rise
  | release => exact .inl (State.creditsStand.of_pct (by unfold State.requestRelease; split <;> rfl)).rise
  | castEnd =>
    refine .inl (State.creditsStand.rise (State.creditsStand.trans (.of_pct rfl)
      (foldl_keeps State.creditsStand.refl State.creditsStand.trans (fun _ _ => ?_) _ _)))
    exact .of_pct rfl
  | bedClear =>
    unfold State.clearBed
    split
    · refine .inl (State.creditsStand.rise (State.creditsStand.trans (.of_pct rfl)
        (foldl_keeps State.creditsStand.refl State.creditsStand.trans (fun _ _ => ?_) _ _)))
      exact .of_pct rfl
    · exact .inl (State.creditsStand.refl s).rise

theorem State.handedOnly.piece {s t : State} (h : s.handedOnly t) (n : Nat) : t.piece n = s.piece n := by
  obtain ⟨_, _, _, _, rfl⟩ := h
  rfl

/-- Beside the maturity update, a scan completion touches no piece. -/
theorem State.completeScan_credits (s : State) : s.creditsRise s.completeScan := by
  obtain ⟨v, ⟨_, _, rfl⟩, e⟩ := s.completeScan_parts
  rw [e]
  refine State.creditsRise.from (t := { s with pcv := _, cnd := _ }) (fun n => ?_) rfl
  rw [(State.handScan_only _).piece, State.piece_maturityUpdate]
  split
  · exact State.updatedPiece_mayBecome _ _
  · exact Piece.mayBecome_free _

theorem State.enterConversion_credits (s : State) (n : Nat) (e : ScanEntry) : s.creditsRise (s.enterConversion n e) := by
  unfold State.enterConversion
  dsimp only
  split
  · exact (State.creditsStand.of_pct rfl).rise
  · exact (State.completeScan_credits _).from rfl

theorem State.discardConversion_credits (s : State) : s.creditsRise s.discardConversion := by
  unfold State.discardConversion
  split
  · exact s.enterConversion_credits _ _
  · exact (State.creditsStand.refl s).rise

theorem State.ProbeAct.credits {s t : State} (h : s.ProbeAct t) : s.creditsRise t := by
  cases h with
  | trim n v =>
    unfold State.setTrim
    dsimp only
    split
    · split
      · exact (State.discardConversion_credits _).from rfl
      · exact (State.creditsStand.of_pct rfl).rise
    · exact (State.creditsStand.refl s).rise
  | sampleTime => exact (State.discardConversion_credits _).from rfl
  | conversion => exact s.enterConversion_credits _ _
  | reference raw =>
    obtain ⟨_, _, e⟩ := s.checkReference_only raw
    exact (State.enterConversion_credits (s.checkReference raw) _ _).from (by rw [e])

/-- The end of a move releases its piece's claim, and changes no other field of a piece (R103, R159). -/
theorem State.releaseMove_credits (s : State) (m : Move) (e : Ending) : s.creditsStand (s.releaseMove m e) := by
  have dest : ∀ (t : State) (n : Nat) (x : Dest), t.creditsStand (t.releaseDest n x) := fun t n x => by
    cases x <;> exact .of_pct rfl
  have source : ∀ (t : State) (x : Option Source), t.creditsStand (t.releaseSource x) := fun t x => by
    unfold State.releaseSource
    split <;> exact .of_pct rfl
  unfold State.releaseMove
  split
  · split
    · exact s.setClaim_credits _ _
    · exact ((dest s _ _).trans (source _ _)).trans (State.setClaim_credits _ _ _)
    · exact ((dest s _ _).trans (source _ _)).trans (State.setClaim_credits _ _ _)
  · exact .refl s

/-- After the release of a move's claim and reservations, its end touches the runway and move units and the condition sets alone. -/
theorem State.endMove_after (s : State) (i : Nat) (e : Ending) (f : Bool) :
    s.endMove i e f = s ∨ ∃ m, s.move i = some m ∧ (s.releaseMove m e).movesOnly (s.endMove i e f) := by
  unfold State.endMove
  split
  · exact .inl rfl
  · next m found =>
    refine .inr ⟨m, found, ?_⟩
    have left : ∀ t : State, t.movesOnly (((t.withdrawOf m.crane m.serial).dropHull m).laneSettle m.crane) := fun t =>
      ((t.withdrawOf_only _ _).moves.trans (State.dropHull_only _ _).moves).trans (State.laneSettle_only _ _)
    have gone : (s.releaseMove m e).movesOnly (s.releaseMove m e |>.setMove i none) := State.setMove_only _ _ _
    dsimp only
    split
    · exact (((gone.trans (State.setWork_only _ _ _)).trans (left _)).trans (State.resume_only _ _)).trans
        (State.postEnd_only _ _ _ _).runway.moves
    · exact ((gone.trans (State.setWork_only _ _ _)).trans (left _)).trans (State.postEnd_only _ _ _ _).runway.moves

theorem State.endMove_credits (s : State) (i : Nat) (e : Ending) (f : Bool) : s.creditsStand (s.endMove i e f) := by
  rcases s.endMove_after i e f with same | ⟨m, _, after⟩
  · rw [same]; exact .refl s
  · exact (s.releaseMove_credits m e).trans after.credits

theorem State.craneOut_credits (s : State) (x : Crane) : s.creditsStand (s.craneOut x) := by
  have ended := s.endMove_credits (yieldSlot x) .cancelled true
  unfold State.craneOut
  dsimp only
  split
  · split
    · split
      · unfold State.outToPick
        split
        · exact ended.trans ((State.setMove_only _ _ _).trans (State.laneSettle_only _ _)).credits
        · exact ended.trans (State.endMove_credits _ _ _ _)
        · exact ended.trans (State.endMove_credits _ _ _ _)
        · exact ended.trans ((State.setMove_only _ _ _).trans (State.laneSettle_only _ _)).credits
        · exact ended.trans ((State.setMove_only _ _ _).trans (State.laneSettle_only _ _)).credits
      · exact ended.trans (State.setMove_only _ _ _).credits
      · exact ended
      · exact ended
      · exact ended
    · exact ended
  · exact ended

theorem State.toHook_credits (s : State) (x : Crane) (n : Nat) : s.creditsRise (s.toHook x n) :=
  s.creditsRise_setPiece n (.of_counts rfl rfl)

/-- A piece picked keeps its counts (R102). -/
theorem State.hookPiece_credits (s : State) (x : Crane) (m : Move) : s.creditsRise (s.hookPiece x m) := by
  unfold State.hookPiece
  split
  · next p b _ _ => exact ((s.stripFrom b p).toHook_credits x p).from rfl
  · next p c _ _ =>
    unfold State.cellPick
    exact ((State.toHook_credits (s.setCell c _) x p).from rfl).then (.of_pct rfl)
  · exact s.toHook_credits x _
  · exact (State.creditsStand.refl s).rise

/-- A piece placed keeps its counts, and one shipped is freed (R111, R113). -/
theorem State.putDown_credits (s : State) (m : Move) : s.creditsRise (s.putDown m) := by
  unfold State.putDown
  split
  · next p c _ _ =>
    unfold State.cellPlace
    refine State.creditsRise.bump ?_
    exact (State.creditsRise_setPiece _ p (Piece.mayBecome.of_counts (by rfl) (by rfl))).from rfl
  · next p b _ _ =>
    unfold State.bayShip State.freePiece
    exact ((State.creditsRise_setPiece (s.setBay b _) p (Piece.mayBecome_free _)).from rfl).then (.of_pct rfl)
  · exact (State.creditsStand.refl s).rise

theorem State.shrinkTo_credits (s : State) (x : Crane) (r : Range) : s.creditsStand (s.shrinkTo x r) :=
  (s.shrinkTo_only x r).moves.credits

theorem State.takePicked_credits (s : State) (x : Crane) (i n : Nat) (m : Move) : s.creditsRise (s.takePicked x i m n) := by
  unfold State.takePicked
  split
  · exact ((s.hookPiece_credits x m).then (State.lift_only _ x i m .toPlace).credits).then (State.shrinkTo_credits _ _ _)
  · exact ((s.hookPiece_credits x m).then (State.lift_only _ x i m .waitPlace).credits).then (State.shrinkTo_credits _ _ _)

theorem State.takePlaced_credits (s : State) (x : Crane) (i n : Nat) (m : Move) : s.creditsRise (s.takePlaced x i m n) := by
  unfold State.takePlaced
  exact (((s.putDown_credits m).then (State.clearOrphan_only _ x m).credits).then (State.shrinkTo_credits _ _ _)).then
    (State.endMove_credits _ _ _ _)

theorem State.takeEvent_credits (s : State) (x : Crane) (n e : Nat) : s.creditsRise (s.takeEvent x n e).1 := by
  have refused : s.creditsRise (s.refuseEvent x).1 :=
    (s.postEvent_only .PL .eventMismatch (.crane x)).runway.moves.credits.rise
  unfold State.takeEvent
  split
  · exact (State.creditsStand.refl s).rise
  · split
    · exact ((s.shrinkTo_credits _ _).trans (State.endMove_credits _ _ _ _)).rise
    · exact refused
  · split
    · exact s.takePicked_credits x _ n _
    · exact refused
  · split
    · exact s.takePlaced_credits x _ n _
    · exact refused
  · split
    · exact (s.endMove_credits _ _ _).rise
    · exact refused
  · split
    · exact ((s.goOut_only x n).moves.credits.trans (State.craneOut_credits _ x)).rise
    · exact refused
  · split
    · exact (State.setCrane_only s x _).moves.credits.rise
    · exact refused
  · exact refused

theorem State.completeStop_credits (s : State) (x : Crane) (n : Nat) (b : Bool) : s.creditsStand (s.completeStop x n b) := by
  have inside : ∀ t : State, t.creditsStand (t.shrinkInside x n b) := fun t => by
    unfold State.shrinkInside
    split
    · exact t.shrinkTo_credits _ _
    · exact .refl t
  unfold State.completeStop
  split
  · split
    · exact (s.endMove_credits _ _ _).trans (inside _)
    · exact ((s.setMove_only _ _).trans (State.laneSettle_only _ _)).credits.trans (inside _)
    · exact .refl s
    · exact .refl s
  · exact .refl s

theorem State.takeReport_credits (s : State) (x : Crane) (n k e : Nat) : s.creditsRise (s.takeReport x n k e).1 := by
  unfold State.takeReport
  split
  · exact (State.creditsStand.refl s).rise
  · have seen := (s.runwayReport_only x n (hookOf k)).moves.credits
    have event := seen.before (State.takeEvent_credits (s.runwayReport x n (hookOf k)) x n e)
    dsimp only
    generalize (s.runwayReport x n (hookOf k)).takeEvent x n e = taken at event ⊢
    have hook := event.then (taken.1.compareHook_only x (hookOf k)).credits
    have stop := hook.then (State.completeStop_credits _ x n ((s.runwayReport x n (hookOf k)).insideInterval x n))
    have work := stop.then (State.work4_only _ x (taken.2 && asksAt e) (s.suspendedSlots x)).credits
    exact work.then (State.giveOrder_only _ x taken.2).credits

theorem State.submitMove_credits (s : State) (f : MoveFields) : s.creditsStand (s.submitMove f).1 := by
  have reserved : ∀ (t : State) (m : Move), t.creditsStand (t.reserveMove m) := fun t m => by
    unfold State.reserveMove
    split
    · next n _ =>
      refine (t.setClaim_credits n (some m.serial)).trans (.of_pct ?_)
      unfold State.reserveSource State.reserveDest
      split <;> split <;> rfl
    · exact .refl t
  have queued : ∀ (t : State) (m : Move) (i : Nat), t.creditsStand (t.enqueue m i) := fun t m i => by
    unfold State.enqueue
    split
    · refine State.creditsStand.trans ?_ (State.setWork_only (t.passOver m.crane) _ _).credits
      unfold State.passOver
      split
      · split
        · split
          · exact (t.setAside_only _ _ _ _).credits
          · exact .refl t
        · exact .refl t
      · exact .refl t
    · exact (t.setWork_only _ _).credits
  unfold State.submitMove
  split
  · exact .refl s
  · dsimp only
    split
    · exact .refl s
    · split
      · next i _ =>
        have made : s.creditsStand (s.takeSerial.setMove i (some (s.newMove f))) := .of_pct rfl
        exact (made.trans (reserved _ _)).trans (queued _ _ _)
      · exact .refl s

theorem State.declareOut_credits (s : State) (n : Nat) (x : Crane) : s.creditsStand (State.declareOut n x s).1 := by
  have declared : s.creditsStand (s.declareAt x n) := by
    have set : s.runwayOnly ((s.shrinkTo x (Range.point n)).setInterval x (Range.point n)) :=
      (s.shrinkTo_only _ _).trans (State.setInterval_only _ _ _)
    unfold State.declareAt
    dsimp only
    split
    · exact ((set.trans (State.setCrane_only _ _ _)).trans (State.endCause_only _ _ _ _).runway).moves.credits.trans
        (State.craneOut_credits _ _)
    · exact (set.trans (State.setCrane_only _ _ _)).moves.credits.trans (State.craneOut_credits _ _)
  unfold State.declareOut
  repeat' split
  all_goals first
    | exact .refl s
    | exact declared

theorem State.MoveAct.credits {s t : State} (h : s.MoveAct t) : s.creditsRise t := by
  cases h with
  | submit => exact (s.submitMove_credits _).rise
  | cancel =>
    refine State.creditsStand.rise ?_
    unfold State.cancelMove
    repeat' split
    all_goals first
      | exact .refl s
      | exact (s.setMove_only _ _).credits
      | exact s.endMove_credits _ _ _
  | barrier => exact (s.putBarrier_only _).credits.rise
  | laneRequest => exact (s.requestLane_only _).credits.rise
  | laneRelease => exact (s.releaseLane_only _).credits.rise
  | declareOut => exact (s.declareOut_credits _ _).rise
  | breachClear => exact s.clearBreach_only.moves.credits.rise
  | report => exact s.takeReport_credits _ _ _ _

/-- What an act or an event can do to the counts: raise them, or, a CAST-START alone, take them back to 0. -/
theorem State.Does.credits {c : Instr} {s t : State} (h : s.Does c t) :
    s.creditsRise t ∨ ((∃ h body, c = .castStart h body) ∧ (s.accumulatorsHeld → t.accumulatorsHeld)) := by
  have same : ∀ {t : State}, t.pct = s.pct → s.creditsRise t := fun e => (State.creditsStand.of_pct e).rise
  cases h with
  | served _ act =>
    cases act with
    | nothing | lock | clock | restart => exact .inl (same rfl)
    | layout _ act => obtain ⟨_, _, _, _, _, _, _, rfl⟩ := act.only; exact .inl (same rfl)
    | profile n p => obtain ⟨_, e⟩ := s.writeProfile_only n p; rw [e]; exact .inl (same rfl)
    | table _ act => exact act.credits
    | steam _ act => obtain ⟨_, _, rfl⟩ := act.only; exact .inl (same rfl)
    | probe _ act => exact .inl act.credits
    | move _ act => exact .inl act.credits
    | condition _ act => obtain ⟨_, rfl⟩ := act.only; exact .inl (same rfl)
  | chilled => exact .inl fun n => Piece.mayBecome_free _
  | warmed =>
    refine .inl fun n => ?_
    have warm : s.warmed.piece n = if n < Config.slots then (s.piece n).warm else {} := Tab.read_mapAll _ _ _ _ _
    rw [warm]
    split
    · exact .of_counts rfl rfl
    · exact Piece.mayBecome_free _
  | hold h => obtain ⟨_, _, _, _, e⟩ := s.enterHold_only h; rw [e]; exact .inl (same rfl)
  | supplyLost => exact .inl (same rfl)
  | supply => exact .inl (same rfl)
  | second => obtain ⟨_, _, _, _, _, _, _, e⟩ := s.countSecond_only; rw [e]; exact .inl (same rfl)
  | probe _ act => exact .inl act.credits

/-- Settles O55: of the acts, a maturity update raises counts up to their limits, a record placed or planned was not live before or is
not live after, and a CAST-START alone sets live pieces back. -/
theorem accumulatorsNeverFall : Obligations.AccumulatorsNeverFall := by
  constructor
  · intro s t steps held
    refine step_keeps (I := State.accumulatorsHeld) (fun _ h => h)
      (fun link h => by obtain ⟨_, _, _, rfl⟩ := link.only; exact h) (fun act h => ?_) steps held
    rcases act.credits with rise | ⟨_, kept⟩
    · exact fun n => (rise n (h n)).1
    · exact kept h
  · intro c s t n runs notStart held before after
    obtain ⟨u, v, linked, act, linked'⟩ := exec_does runs
    obtain ⟨_, _, _, rfl⟩ := linked.only
    obtain ⟨_, _, _, rfl⟩ := linked'.only
    rcases act.credits with rise | ⟨⟨h, body, e⟩, _⟩
    · exact (rise n (held n)).2 before after
    · exact absurd e (notStart h body)

end Sys2Proof.Machine
end

section
/-! SUPPORT. Proofs/Moved.lean: the single changes that the requests of the move unit and the reports of the cranes are made of, and
each shared operation of the move unit as a run of them: an invariant of beds, pieces, stock, cranes and moves is proved for the
single changes alone. -/

namespace Sys2Proof.Machine

/-! ## Changes of the condition sets -/

/-- The STANDING records of a kind and subject CLEARED in every set (R177). -/
def State.settled (s : State) (k : CondKind) (subj : Subject) : State :=
  { s with cnd := { s.cnd with
      pl := s.cnd.pl.clearStanding k subj, cw := s.cnd.cw.clearStanding k subj, ce := s.cnd.ce.clearStanding k subj } }

/-- One change that a posting, a cause that appears or one that ends makes in the condition sets (R176, R177). -/
inductive State.SetStep (s : State) : State → Prop
  | post (p : Point) (k : CondKind) (subj : Subject) (status : CondStatus) (raise : Bool) :
      s.SetStep (s.postAt p k subj status raise)
  | settle (k : CondKind) (subj : Subject) : s.SetStep (s.settled k subj)

/-- `t` comes of `s` by changes of the condition sets. -/
abbrev State.posts : State → State → Prop := Relation.ReflTransGen State.SetStep

theorem State.posts_event (s : State) (p : Point) (k : CondKind) (subj : Subject) : s.posts (s.postEvent p k subj) :=
  .single (.post p k subj _ _)

theorem State.posts_raise (s : State) (l : List Point) (k : CondKind) (subj : Subject) : s.posts (s.raiseCause l k subj) := by
  refine foldl_keeps (fun _ => .refl) (fun a b => a.trans b) (fun t p => ?_) l s
  unfold State.postStanding
  split
  · exact .refl
  · exact .single (.post p k subj _ _)
  · exact .refl
  · exact .single (.post p k subj _ _)

theorem State.posts_end (s : State) (l : List Point) (k : CondKind) (subj : Subject) : s.posts (s.endCause l k subj) := by
  refine .head (.settle k subj) (foldl_keeps (R := State.posts) (fun _ => .refl) (fun a b => a.trans b) (fun t p => ?_) l _)
  unfold State.postCleared
  split
  · exact .single (.post p k subj _ _)
  · exact .refl
  · exact .refl
  · exact .refl

/-! ## The single changes -/

/-- `m'` is the move `m` with no leg granted to it: what identifies it stands, and it is not granted a leg it was not (R128). -/
structure Move.follows (m m' : Move) : Prop where
  serial : m'.serial = m.serial
  crane : m'.crane = m.crane
  kind : m'.kind = m.kind
  style : m'.style = m.style
  piece : m'.piece = m.piece
  source : m'.source = m.source
  dest : m'.dest = m.dest
  toPick : m'.state = .toPick → m.state = .toPick
  toPlace : m'.state = .lifted .toPlace → m.state = .lifted .toPlace ∨ (m.state = .toPick ∧ m.style = .atomic)

/-- One change of the requests of the move unit and of the cranes' reports. Left out are a breach and its end, which `breached` and
`clearBreach` make, and an accepted MOVE-SUBMIT. -/
inductive State.MoveStep (s : State) : State → Prop
  | posted {t : State} (step : s.SetStep t) : s.MoveStep t
  | rewritten {i : Nat} {m m' : Move} (held : s.move i = some m) (same : m.follows m') : s.MoveStep (s.setMove i (some m'))
  | granted {x : Crane} {i : Nat} {m : Move} {leg : Leg} {need : Range} (held : s.move i = some m)
      (verdict : s.runwayVerdict x m leg = .granted need) : s.MoveStep ((s.setMove i (some m.go)).grantInterval x m.serial need)
  | left {i : Nat} {m : Move} (held : s.move i = some m) : s.MoveStep ((s.setMove i none).setWork m.crane
      { s.work m.crane with queue := leaveQueue i (s.work m.crane).queue })
  | yields (x : Crane) (target : Nat) : s.MoveStep (s.createYield x target)
  | worked {x : Crane} {w : CraneWork} (queue : w.queue = (s.work x).queue) : s.MoveStep (s.setWork x w)
  | barred (x : Crane) : s.MoveStep (s.setWork x { s.work x with queue := (s.work x).queue ++ [.barrier] })
  | craned {x : Crane} {c : CraneRec} (interval : c.interval = (s.crane x).interval)
      (seen : (s.crane x).presence ≠ .unseen → c.presence ≠ .unseen) : s.MoveStep (s.setCrane x c)
  | shrunk (x : Crane) (r : Range) : s.MoveStep (s.shrinkTo x r)
  | spaced {x : Crane} {r : Range} (clear : s.clearFor x r = true)
      (first : (s.crane x).presence = .unseen ∨ (s.crane x).interval = none) : s.MoveStep (s.setInterval x r)
  | paired (d : Option (Nat × Option Nat)) : s.MoveStep { s with rru := { s.rru with deadlock := d } }
  | pieced {i n : Nat} {m : Move} {q : Piece} (held : s.move i = some m) (named : m.piece = some n)
      (counts : q = {} ∨ (q.accumulator = (s.piece n).accumulator ∧ q.suspect = (s.piece n).suspect)) :
      s.MoveStep (s.setPiece n q)
  | celled {i c : Nat} {m : Move} (r : Cell) (held : s.move i = some m)
      (named : m.source = some (.cell c) ∨ m.dest = .cell c) : s.MoveStep (s.setCell c r)
  | bayed {i b : Nat} {m : Move} (r : Bay) (held : s.move i = some m) (named : m.dest = .bay b) : s.MoveStep (s.setBay b r)
  | stripped {i b : Nat} {m : Move} (n : Nat) (held : s.move i = some m) (named : m.source = some (.bed b)) :
      s.MoveStep (s.stripFrom b n)
  | bumped : s.MoveStep s.bumpGeneration

/-- `t` comes of `s` by such changes. -/
abbrev State.moved : State → State → Prop := Relation.ReflTransGen State.MoveStep

theorem State.posts.moved {s t : State} (h : s.posts t) : s.moved t := by
  induction h with
  | refl => exact .refl
  | tail _ step ih => exact ih.tail (.posted step)

theorem State.moved.after {s t u : State} (rest : t.moved u) (step : s.MoveStep t) : s.moved u := .head step rest

/-- A fold is a run of changes where each of its steps is. -/
theorem State.moved_foldl {α : Type} {f : State → α → State} (h : ∀ (s : State) (a : α), s.moved (f s a)) (l : List α) (s : State) :
    s.moved (l.foldl f s) := foldl_keeps (fun _ => .refl) (fun a b => a.trans b) h l s

/-! ## The runway unit -/

theorem State.moved_shrink (s : State) (x : Crane) (r : Range) : s.moved (s.shrinkTo x r) := .single (.shrunk x r)

theorem State.moved_endDeadlockOf (s : State) (n : Nat) : s.moved (s.endDeadlockOf n) := by
  unfold State.endDeadlockOf State.endDeadlock
  split
  · split
    · exact State.moved.after (State.posts_end _ _ _ _).moved (.paired none)
    · exact .refl
  · exact .refl

theorem State.moved_postDeadlock (s : State) (low : Nat) (high : Option Nat) : s.moved (s.postDeadlock low high) := by
  have ends : s.moved s.endDeadlock := by
    unfold State.endDeadlock
    split
    · exact State.moved.after (State.posts_end _ _ _ _).moved (.paired none)
    · exact .refl
  unfold State.postDeadlock
  split
  · exact .refl
  · exact ends.trans (State.moved.after (State.posts_raise _ _ _ _).moved (.paired _))

theorem State.moved_withdraw (s : State) (x : Crane) : s.moved (s.withdraw x) := by
  unfold State.withdraw
  split
  · exact State.moved.after (State.moved_endDeadlockOf _ _) (.craned rfl id)
  · exact .refl

theorem State.moved_withdrawOf (s : State) (x : Crane) (n : Nat) : s.moved (s.withdrawOf x n) := by
  unfold State.withdrawOf
  split
  · exact s.moved_withdraw x
  · exact .refl

theorem State.moved_withdrawOther (s : State) (x : Crane) (n : Nat) : s.moved (s.withdrawOther x n) := by
  unfold State.withdrawOther
  split
  · split
    · exact .refl
    · exact s.moved_withdraw x
  · exact .refl

theorem State.moved_setRefusal (s : State) (x : Crane) (r : Refused) : s.moved (s.setRefusal x r) :=
  (s.moved_withdrawOther x _).tail (.craned rfl id)

theorem State.moved_seen (s : State) (x : Crane) (n : Nat) (k : Hook) : s.moved (s.seen x n k) := by
  unfold State.seen
  dsimp only
  split
  · exact .single (.craned rfl id)
  · exact .single (.craned rfl id)
  · exact .single (.craned rfl (by simp))
  · exact State.moved.after (State.posts_end _ _ _ _).moved (.craned rfl (by simp))

theorem State.moved_firstInterval (s : State) (x : Crane) (n : Nat) : s.moved (s.firstInterval x n) := by
  unfold State.firstInterval
  split
  · next h =>
    simp only [Bool.and_eq_true, Option.isNone_iff_eq_none] at h
    exact .single (.spaced h.2 (.inr h.1.2))
  · exact .refl

/-- A report's crane outside its interval, seen and noted, before the breach is counted (R121, R136). -/
def State.approached (s : State) (x : Crane) (n : Nat) (k : Hook) : State :=
  ((s.seen x n k).firstInterval x n).setCrane x { ((s.seen x n k).firstInterval x n).crane x with outside := true }

theorem State.moved_approached (s : State) (x : Crane) (n : Nat) (k : Hook) : s.moved (s.approached x n k) :=
  ((s.moved_seen x n k).trans (State.moved_firstInterval _ x n)).tail (.craned (by rfl) id)

/-- A report counts a breach, or it counts none (R136). -/
theorem State.runwayReport_cases (s : State) (x : Crane) (n : Nat) (k : Hook) :
    s.moved (s.runwayReport x n k) ∨ s.runwayReport x n k = (s.approached x n k).breached x := by
  have seen := (s.moved_seen x n k).trans (State.moved_firstInterval _ x n)
  unfold State.runwayReport State.breachTest
  split
  · exact .inl (seen.tail (.craned (by rfl) id))
  · split
    · exact .inl seen
    · exact .inr rfl

/-! ## The move unit -/

theorem State.moved_setAside {s : State} {i : Nat} {m : Move} (held : s.move i = some m) {st : MoveState}
    {why : Option WaitReason} (idle : st = .queued ∨ st = .waiting ∨ st = .suspended) : s.moved (s.setAside i m st why) := by
  refine State.moved.after (State.moved_withdrawOf _ _ _)
    (.rewritten held ⟨rfl, rfl, rfl, rfl, rfl, rfl, rfl, fun h => ?_, fun h => ?_⟩)
  · rcases idle with e | e | e <;> exact absurd (e.symm.trans h) nofun
  · rcases idle with e | e | e <;> exact absurd (e.symm.trans h) nofun

theorem State.moved_laneOn (s : State) (x : Crane) : s.moved (s.laneOn x) := State.moved.after (State.posts_event _ _ _ _).moved (.worked rfl)

theorem State.moved_laneSettle (s : State) (x : Crane) : s.moved (s.laneSettle x) := by
  unfold State.laneSettle
  split
  · exact s.moved_laneOn x
  · exact .refl

theorem State.moved_resumeSlot (x : Crane) (s : State) (i : Nat) : s.moved (State.resumeSlot x s i) := by
  unfold State.resumeSlot
  split
  · next held =>
    split
    · exact .single (.rewritten held ⟨rfl, rfl, rfl, rfl, rfl, rfl, rfl, nofun, nofun⟩)
    · exact .refl
  · exact .refl

theorem State.moved_resume (s : State) (x : Crane) : s.moved (s.resume x) := State.moved_foldl (State.moved_resumeSlot x) _ s

theorem State.moved_postEnd (s : State) (n : Nat) (e : Ending) (f : Bool) : s.moved (s.postEnd n e f) := by
  unfold State.postEnd
  split
  · exact (s.posts_event _ _ _).moved
  · exact (s.posts_event _ _ _).moved
  · split
    · exact (s.posts_event _ _ _).moved
    · exact .refl

theorem State.moved_dropHull (s : State) (m : Move) : s.moved (s.dropHull m) := by
  unfold State.dropHull
  split
  · exact .single (.craned rfl id)
  · exact .refl

/-- A claim set or released leaves a piece's counts. -/
theorem State.moved_setClaim {s : State} {i n : Nat} {m : Move} (held : s.move i = some m) (named : m.piece = some n)
    (c : Option Nat) : s.moved (s.setClaim n c) := .single (.pieced held named (by exact .inr ⟨rfl, rfl⟩))

theorem State.moved_releaseDest {s : State} {i : Nat} {m : Move} (held : s.move i = some m) (n : Nat) :
    s.moved (s.releaseDest n m.dest) := by
  unfold State.releaseDest
  split
  · next dest => exact .single (.celled _ held (.inr dest))
  · next dest => exact .single (.bayed _ held dest)
  · exact .refl

theorem State.moved_releaseSource {s : State} {i : Nat} {m : Move} (held : s.move i = some m) :
    s.moved (s.releaseSource m.source) := by
  unfold State.releaseSource
  split
  · next source => exact .single (.celled _ held (.inl source))
  · exact .refl

theorem State.moved_reserveDest {s : State} {i : Nat} {m : Move} (held : s.move i = some m) (n : Nat) :
    s.moved (s.reserveDest n m.dest) := by
  unfold State.reserveDest
  split
  · next dest => exact .single (.celled _ held (.inr dest))
  · next dest => exact .single (.bayed _ held dest)
  · exact .refl

theorem State.moved_reserveSource {s : State} {i : Nat} {m : Move} (held : s.move i = some m) :
    s.moved (s.reserveSource m.source) := by
  unfold State.reserveSource
  split
  · next source => exact .single (.celled _ held (.inl source))
  · exact .refl

@[simp] theorem State.move_releaseDest (s : State) (n : Nat) (d : Dest) (i : Nat) : (s.releaseDest n d).move i = s.move i := by
  cases d <;> rfl

@[simp] theorem State.move_releaseSource (s : State) (d : Option Source) (i : Nat) : (s.releaseSource d).move i = s.move i := by
  unfold State.releaseSource
  split <;> rfl

@[simp] theorem State.move_reserveDest (s : State) (n : Nat) (d : Dest) (i : Nat) : (s.reserveDest n d).move i = s.move i := by
  cases d <;> rfl

@[simp] theorem State.move_reserveSource (s : State) (d : Option Source) (i : Nat) : (s.reserveSource d).move i = s.move i := by
  unfold State.reserveSource
  split <;> rfl

theorem State.moved_releaseMove {s : State} {i : Nat} {m : Move} (held : s.move i = some m) (e : Ending) :
    s.moved (s.releaseMove m e) ∧ (s.releaseMove m e).move i = some m := by
  have freed : ∀ n, m.piece = some n → s.moved (((s.releaseDest n m.dest).releaseSource m.source).setClaim n none)
      ∧ (((s.releaseDest n m.dest).releaseSource m.source).setClaim n none).move i = some m := fun n named => by
    have dest : (s.releaseDest n m.dest).move i = some m := by simpa using held
    have source : ((s.releaseDest n m.dest).releaseSource m.source).move i = some m := by simpa using held
    exact ⟨((State.moved_releaseDest held n).trans (State.moved_releaseSource dest)).trans
      (State.moved_setClaim source named none), source⟩
  unfold State.releaseMove
  split
  · next n named =>
    split
    · exact ⟨State.moved_setClaim held named none, held⟩
    · exact freed n named
    · exact freed n named
  · exact ⟨.refl, held⟩

theorem State.moved_endMove (s : State) (i : Nat) (e : Ending) (f : Bool) : s.moved (s.endMove i e f) := by
  unfold State.endMove
  split
  · exact .refl
  · next m held =>
    obtain ⟨released, stays⟩ := State.moved_releaseMove held e
    have gone := released.tail (.left stays)
    have settles : ∀ t : State, t.moved (((t.withdrawOf m.crane m.serial).dropHull m).laneSettle m.crane) := fun t =>
      ((t.moved_withdrawOf _ _).trans (State.moved_dropHull _ _)).trans (State.moved_laneSettle _ _)
    dsimp only
    split
    · exact ((gone.trans (settles _)).trans (State.moved_resume _ _)).trans (State.moved_postEnd _ _ _ _)
    · exact (gone.trans (settles _)).trans (State.moved_postEnd _ _ _ _)

theorem State.moved_suspendMove (s : State) (i : Nat) : s.moved (s.suspendMove i) := by
  unfold State.suspendMove
  split
  · next m held =>
    split
    · exact State.moved_setAside held (by simp)
    · split
      · exact State.moved.after (State.moved_withdrawOf _ _ _) (.rewritten held ⟨rfl, rfl, rfl, rfl, rfl, rfl, rfl, id, .inl⟩)
      · exact .refl
  · exact .refl

theorem State.moved_callYield (s : State) (x : Crane) (n : Nat) (i : Option Nat) : s.moved (s.callYield x n i) := by
  unfold State.callYield
  split
  · exact (s.moved_suspendMove _).tail (.yields _ _)
  · exact .single (.yields _ _)

theorem State.moved_mutualWait (s : State) (x : Crane) (n : Nat) (r : Range) : s.moved (s.mutualWait x n r) := by
  unfold State.mutualWait
  dsimp only
  repeat' split
  all_goals first
    | exact .refl
    | exact s.moved_callYield _ _ _
    | exact s.moved_postDeadlock _ _

theorem State.moved_resolveRefusal (s : State) (x : Crane) (m : Move) (w : WaitReason) (r : Range) :
    s.moved (s.resolveRefusal x m w r) := by
  unfold State.resolveRefusal
  repeat' split
  all_goals first
    | exact .refl
    | exact s.moved_callYield _ _ _
    | exact s.moved_postDeadlock _ _
    | exact s.moved_mutualWait _ _ _

/-- A refused move is granted nothing (R150). -/
theorem Move.follows_refused (m : Move) (why : WaitReason) : m.follows (m.refused why) := by
  refine ⟨rfl, rfl, rfl, rfl, rfl, rfl, rfl, ?_, ?_⟩ <;> unfold Move.refused <;> cases m.isLifted <;> simp +contextual

theorem State.moved_askLeg {s : State} {i : Nat} {m : Move} (held : s.move i = some m) (x : Crane) (leg : Leg) :
    s.moved (s.askLeg x i m leg) := by
  unfold State.askLeg
  split
  · exact State.moved.after (State.moved_withdrawOther _ _ _) (.rewritten held (m.follows_refused _))
  · split
    · next verdict => exact .single (.granted held verdict)
    · next why need _ =>
      have refused : s.moved ((s.setMove i (some (m.refused why))).setRefusal x ⟨m.serial, why, need⟩) :=
        State.moved.after (State.moved_setRefusal _ _ _) (.rewritten held (m.follows_refused _))
      dsimp only
      split
      · exact refused.trans (State.moved_resolveRefusal _ _ _ _ _)
      · exact refused

theorem State.moved_examine (x : Crane) (q : List Entry) (b : Bool) (f : Option Nat) (s : State) :
    s.moved (State.examine x q b f s).1 := by
  induction q generalizing b f s with
  | nil => exact .refl
  | cons e q ih =>
    cases e with
    | barrier => exact ih _ _ s
    | move i =>
      unfold State.examine
      split
      · exact ih _ _ s
      · next m held =>
        split
        · split
          · exact (State.moved_setAside held (by simp)).trans (ih _ _ _)
          · exact ih _ _ s
        · split
          · exact ih _ _ s
          · split
            · exact (State.moved_setAside held (by simp)).trans (ih _ _ _)
            · split
              · exact (State.moved_setAside held (by simp)).trans (ih _ _ _)
              · exact ih _ _ s

theorem State.moved_findWork (s : State) (x : Crane) : s.moved (s.findWork x).1 := by
  unfold State.findWork
  split
  · exact .refl
  · split
    · exact .refl
    · exact State.moved_examine _ _ _ _ _

/-- A SET-DOWN, or a piece picked leg by leg, is LIFTED in WAIT-PLACE; an ATOMIC pick, TO-PICK before, in TO-PLACE. -/
theorem State.moved_lift {s : State} {i : Nat} {m m' : Move} (held : s.move i = some m)
    (same : m.follows m') (x : Crane) (p : SubPhase) (phase : p = .waitPlace ∨ (m.state = .toPick ∧ m.style = .atomic)) :
    s.moved (s.lift x i m' p) := by
  refine State.moved.after (.single (.craned rfl id)) (.rewritten held { same with toPick := nofun, toPlace := fun e => ?_ })
  rcases phase with rfl | atomic
  · exact absurd e nofun
  · exact .inr atomic

theorem State.moved_resumeIfFree (s : State) (x : Crane) (l : List Nat) : s.moved (s.resumeIfFree x l) := by
  unfold State.resumeIfFree
  split
  · exact .refl
  · exact State.moved_foldl (State.moved_resumeSlot x) _ s

theorem State.moved_work4 (s : State) (x : Crane) (b : Bool) (l : List Nat) : s.moved (s.work4 x b l) := by
  have found := (s.moved_resumeIfFree x l).trans (State.moved_findWork _ x)
  unfold State.work4
  dsimp only
  split
  · split
    · next m held =>
      split
      · unfold State.setDownLift
        split
        · next p _ =>
          exact found.trans (State.moved_lift (m := m) (m' := { m with pick := some p }) held ⟨rfl, rfl, rfl, rfl, rfl, rfl, rfl, id, .inl⟩ x _ (.inl rfl))
        · exact found
      · split
        · split
          · exact found.trans (State.moved_askLeg held x _)
          · exact found
        · exact found
    · exact found
  · exact found

theorem State.underWay_eq_some {s : State} {x : Crane} {i : Nat} {m : Move} (h : s.underWay x = some (i, m)) :
    s.move i = some m := by
  unfold State.underWay at h
  split at h
  · simp only [Option.map_eq_some_iff, Prod.mk.injEq] at h
    obtain ⟨_, held, rfl, rfl⟩ := h
    exact held
  · exact absurd h nofun

theorem State.moved_giveOrder (s : State) (x : Crane) (b : Bool) : s.moved (s.giveOrder x b).1 := by
  refine Relation.ReflTransGen.trans ?_ (.single (.worked rfl))
  unfold State.composeOrder
  split
  · exact .refl
  · split
    · exact .refl
    · split
      · next found =>
        split
        · exact .single (.rewritten (State.underWay_eq_some found) ⟨rfl, rfl, rfl, rfl, rfl, rfl, rfl, id, .inl⟩)
        · split <;> exact .refl
        · split <;> exact .refl
      · exact .refl

theorem State.moved_compareHook (s : State) (x : Crane) (k : Hook) : s.moved (s.compareHook x k) := by
  unfold State.compareHook
  split
  · split
    · exact State.moved.after (State.posts_end _ _ _ _).moved (.worked rfl)
    · exact .refl
  · split
    · exact .refl
    · exact State.moved.after (State.posts_raise _ _ _ _).moved (.worked rfl)

theorem State.moved_shrinkInside (s : State) (x : Crane) (n : Nat) (b : Bool) : s.moved (s.shrinkInside x n b) := by
  unfold State.shrinkInside
  split
  · exact s.moved_shrink _ _
  · exact .refl

theorem State.moved_completeStop (s : State) (x : Crane) (n : Nat) (b : Bool) : s.moved (s.completeStop x n b) := by
  unfold State.completeStop
  split
  · next found =>
    split
    · exact (s.moved_endMove _ _ _).trans (State.moved_shrinkInside _ _ _ _)
    · exact State.moved.after ((State.moved_laneSettle _ _).trans (State.moved_shrinkInside _ _ _ _))
        (.rewritten (State.underWay_eq_some found) ⟨rfl, rfl, rfl, rfl, rfl, rfl, rfl, nofun, nofun⟩)
    · exact .refl
    · exact .refl
  · exact .refl

/-! ## Ends and events -/

theorem State.moved_outToPick {s : State} {i : Nat} {m : Move} (held : s.move i = some m) (x : Crane) :
    s.moved (s.outToPick x i m) := by
  unfold State.outToPick
  split
  · exact State.moved.after (State.moved_laneSettle _ _) (.rewritten held ⟨rfl, rfl, rfl, rfl, rfl, rfl, rfl, nofun, nofun⟩)
  · exact s.moved_endMove _ _ _
  · exact s.moved_endMove _ _ _
  · exact State.moved.after (State.moved_laneSettle _ _) (.rewritten held ⟨rfl, rfl, rfl, rfl, rfl, rfl, rfl, nofun, nofun⟩)
  · exact State.moved.after (State.moved_laneSettle _ _) (.rewritten held ⟨rfl, rfl, rfl, rfl, rfl, rfl, rfl, nofun, nofun⟩)

theorem State.moved_craneOut (s : State) (x : Crane) : s.moved (s.craneOut x) := by
  have ended := s.moved_endMove (yieldSlot x) .cancelled true
  unfold State.craneOut
  dsimp only
  split
  · split
    · next held =>
      split
      · exact ended.trans (State.moved_outToPick held x)
      · exact ended.tail (.rewritten held ⟨rfl, rfl, rfl, rfl, rfl, rfl, rfl, nofun, nofun⟩)
      · exact ended
      · exact ended
      · exact ended
    · exact ended
  · exact ended

theorem State.moved_toHook {s : State} {i n : Nat} {m : Move} (held : s.move i = some m) (named : m.piece = some n) (x : Crane) :
    s.moved (s.toHook x n) := .single (.pieced held named (by exact .inr ⟨rfl, rfl⟩))

theorem State.moved_hookPiece {s : State} {i : Nat} {m : Move} (held : s.move i = some m) (x : Crane) :
    s.moved (s.hookPiece x m) ∧ (s.hookPiece x m).move i = some m := by
  unfold State.hookPiece
  split
  · next piece source =>
    exact ⟨State.moved.after (.single (.pieced (m := m) held piece (by exact .inr ⟨rfl, rfl⟩))) (.stripped _ held source), held⟩
  · next c piece source =>
    unfold State.cellPick
    exact ⟨State.moved.after (.after (.single .bumped) (.pieced (m := m) held piece (by exact .inr ⟨rfl, rfl⟩)))
      (.celled _ held (.inl source)), held⟩
  · next piece _ => exact ⟨State.moved_toHook held piece x, held⟩
  · exact ⟨.refl, held⟩

theorem State.moved_putDown {s : State} {i : Nat} {m : Move} (held : s.move i = some m) : s.moved (s.putDown m) := by
  unfold State.putDown
  split
  · next piece dest =>
    unfold State.cellPlace
    exact State.moved.after (.after (.single .bumped) (.pieced (m := m) held piece (by exact .inr ⟨rfl, rfl⟩)))
      (.celled _ held (.inr dest))
  · next piece dest =>
    unfold State.bayShip State.freePiece
    exact State.moved.after (.after (.single .bumped) (.pieced (m := m) held piece (.inl rfl))) (.bayed _ held dest)
  · exact .refl

theorem State.moved_clearOrphan (s : State) (x : Crane) (m : Move) : s.moved (s.clearOrphan x m) := by
  unfold State.clearOrphan
  split
  · exact .single (.worked rfl)
  · exact .refl

theorem State.moved_takePicked {s : State} {x : Crane} {i n : Nat} {m : Move} (held : s.move i = some m) (fits : m.fitsPick n = true) :
    s.moved (s.takePicked x i m n) := by
  obtain ⟨hooked, stays⟩ := State.moved_hookPiece held x
  have toPick : m.state = .toPick := by
    unfold Move.fitsPick at fits
    simp only [Bool.and_eq_true, decide_eq_true_eq] at fits
    exact fits.1.1
  have same : m.follows m := ⟨rfl, rfl, rfl, rfl, rfl, rfl, rfl, id, .inl⟩
  unfold State.takePicked
  split
  · next atomic => exact (hooked.trans (State.moved_lift stays same x _ (.inr ⟨toPick, atomic⟩))).trans (State.moved_shrink _ _ _)
  · exact (hooked.trans (State.moved_lift stays same x _ (.inl rfl))).trans (State.moved_shrink _ _ _)

theorem State.moved_refuseEvent (s : State) (x : Crane) : s.moved (s.refuseEvent x).1 :=
  (s.posts_event .PL .eventMismatch (.crane x)).moved

theorem State.moved_goOut (s : State) (x : Crane) (n : Nat) : s.moved (s.goOut x n) := by
  unfold State.goOut
  exact (s.moved_shrink x (Range.point n)).tail (.craned (by rfl) (by simp))

theorem State.moved_goIn (s : State) (x : Crane) : s.moved (s.goIn x) := .single (.craned (by rfl) (by simp))

theorem State.moved_takeEvent (s : State) (x : Crane) (n e : Nat) : s.moved (s.takeEvent x n e).1 := by
  unfold State.takeEvent
  split
  · exact .refl
  · split
    · exact (s.moved_shrink _ _).trans (State.moved_endMove _ _ _ _)
    · exact s.moved_refuseEvent x
  · next found =>
    split
    · next fits => exact State.moved_takePicked (State.underWay_eq_some found) fits
    · exact s.moved_refuseEvent x
  · next found =>
    split
    · exact (((State.moved_putDown (State.underWay_eq_some found)).trans (State.moved_clearOrphan _ _ _)).trans
        (State.moved_shrink _ _ _)).trans (State.moved_endMove _ _ _ _)
    · exact s.moved_refuseEvent x
  · split
    · exact s.moved_endMove _ _ _
    · exact s.moved_refuseEvent x
  · split
    · exact (s.moved_goOut x n).trans (State.moved_craneOut _ x)
    · exact s.moved_refuseEvent x
  · split
    · exact s.moved_goIn x
    · exact s.moved_refuseEvent x
  · exact s.moved_refuseEvent x

/-- Steps 1 to 5 of R152. -/
theorem State.moved_afterEvent (t : State) (x : Crane) (n : Nat) (k : Hook) (i a b : Bool) (l : List Nat) :
    t.moved (t.afterEvent x n k i a b l).1 := by
  have hook := t.moved_compareHook x k
  have stop := (t.compareHook x k).moved_completeStop x n i
  have work := ((t.compareHook x k).completeStop x n i).moved_work4 x a l
  exact ((hook.trans stop).trans work).trans (State.moved_giveOrder _ x b)

/-- A report is made of the single changes, with a breach counted before its event is taken, or with none (R121, R152). -/
theorem State.takeReport_cases (s : State) (x : Crane) (n k e : Nat) :
    s.moved (s.takeReport x n k e).1
      ∨ ((s.approached x n (hookOf k)).breached x).moved (s.takeReport x n k e).1 := by
  have rest : (s.runwayReport x n (hookOf k)).moved (s.takeReport x n k e).1 ∨ (s.takeReport x n k e).1 = s := by
    unfold State.takeReport
    split
    · exact .inr rfl
    · refine .inl ?_
      have event := (s.runwayReport x n (hookOf k)).moved_takeEvent x n e
      exact event.trans (State.moved_afterEvent _ x n (hookOf k) _ _ _ _)
  rcases rest with rest | same
  · rcases s.runwayReport_cases x n (hookOf k) with tested | counted
    · exact .inl (tested.trans rest)
    · exact .inr (counted ▸ rest)
  · rw [same]
    exact .inl .refl

/-! ## The requests -/

theorem State.moved_putBarrier (s : State) (x : Crane) : s.moved (State.putBarrier x s).1 := by
  unfold State.putBarrier
  dsimp only
  split
  · exact .refl
  · split
    · exact .refl
    · exact .single (.barred x)

theorem State.moved_requestLane (s : State) (x : Crane) : s.moved (State.requestLane x s).1 := by
  unfold State.requestLane
  split
  · exact .refl
  · split
    · exact .single (.worked rfl)
    · exact s.moved_laneOn x

theorem State.moved_releaseLane (s : State) (x : Crane) : s.moved (State.releaseLane x s).1 := by
  unfold State.releaseLane
  split
  · exact .refl
  · exact .single (.worked rfl)

theorem State.moved_cancelMove (s : State) (serial : Nat) : s.moved (s.cancelMove serial).1 := by
  unfold State.cancelMove
  split
  · exact .refl
  · split
    · exact .refl
    · next held =>
      split
      · exact .refl
      · split
        · exact .refl
        · exact .refl
        · exact .single (.rewritten held ⟨rfl, rfl, rfl, rfl, rfl, rfl, rfl, id, .inl⟩)
        · exact .single (.rewritten held ⟨rfl, rfl, rfl, rfl, rfl, rfl, rfl, id, .inl⟩)
        · exact .single (.rewritten held ⟨rfl, rfl, rfl, rfl, rfl, rfl, rfl, id, .inl⟩)
      · exact s.moved_endMove _ _ _
      · exact s.moved_endMove _ _ _
      · exact s.moved_endMove _ _ _

/-- `t` differs from `s` at most in the vacate records. -/
def State.vacatesOnly (s t : State) : Prop := ∃ v, t = { s with rru := { s.rru with vacates := v } }

theorem State.vacatesOnly.refl (s : State) : s.vacatesOnly s := ⟨_, rfl⟩

theorem State.vacatesOnly.trans {s t u : State} (h : s.vacatesOnly t) (g : t.vacatesOnly u) : s.vacatesOnly u := by
  obtain ⟨_, rfl⟩ := h
  obtain ⟨_, rfl⟩ := g
  exact ⟨_, rfl⟩

/-- Space given back starts vacate records and does nothing else (R129). -/
theorem State.giveBack_vacates (s : State) (x : Crane) (old new : Range) : s.vacatesOnly (s.giveBack x old new) := by
  refine foldl_keeps State.vacatesOnly.refl State.vacatesOnly.trans (fun t n => ?_) _ s
  unfold State.startVacate
  split
  · exact ⟨_, rfl⟩
  · exact .refl t

/-- Space taken back removes vacate records and does nothing else (R128). -/
theorem State.takeBack_vacates (x : Crane) (s : State) (n : Nat) : s.vacatesOnly (State.takeBack x s n) := by
  unfold State.takeBack
  split
  · exact ⟨_, rfl⟩
  · exact .refl s

/-- A shrink leaves the interval given, where that is a part of the one held, and changes nothing otherwise (R124). -/
theorem State.shrinkTo_cases (s : State) (x : Crane) (r : Range) :
    (∃ old v, (s.crane x).interval = some old ∧ r.within old = true
        ∧ s.shrinkTo x r = { s with rru := { s.rru with vacates := v } }.setInterval x r)
      ∨ (s.shrinkTo x r = s ∧ ∀ old, (s.crane x).interval = some old → r.within old = false) := by
  unfold State.shrinkTo
  cases held : (s.crane x).interval with
  | none => exact .inr ⟨rfl, nofun⟩
  | some old =>
    dsimp only
    split
    · next within =>
      obtain ⟨v, e⟩ := s.giveBack_vacates x old r
      exact .inl ⟨old, v, rfl, within, by rw [e]⟩
    · next not => exact .inr ⟨rfl, fun _ e => by cases e; simpa using not⟩

/-- What comes of a crane declared out once its interval stands (R123, R160). -/
theorem State.moved_declared (t : State) (x : Crane) (n : Nat) (stale : Prop) [Decidable stale] :
    t.moved (if stale then
      (t.setCrane x { t.crane x with presence := .out, position := some n, outside := false, timer := none }).endCause
        (stalePorts x) .craneStale (.crane x)
      else t.setCrane x { t.crane x with presence := .out, position := some n, outside := false, timer := none }) := by
  have out := State.MoveStep.craned (s := t) (x := x)
    (c := { t.crane x with presence := .out, position := some n, outside := false, timer := none }) rfl (by simp)
  split
  · exact .head out (State.posts_end _ _ _ _).moved
  · exact .single out

/-- A crane is declared out where it may stand: clear of the other, or inside its own interval, which stands then (R123). -/
theorem State.moved_declareAt (s : State) (x : Crane) (n : Nat)
    (place : (s.clearFor x (Range.point n) = true ∧ ((s.crane x).presence = .unseen ∨ (s.crane x).interval = none))
      ∨ ∃ r, (s.crane x).interval = some r ∧ r.has n = true) : s.moved (s.declareAt x n) := by
  have shrink := s.moved_shrink x (Range.point n)
  have space : s.moved ((s.shrinkTo x (Range.point n)).setInterval x (Range.point n)) := by
    rcases s.shrinkTo_cases x (Range.point n) with ⟨old, v, _, _, shrunk⟩ | ⟨same, none⟩
    · refine shrink.tail (.craned ?_ id)
      rw [shrunk]
      cases x <;> rfl
    · rcases place with ⟨clear, first⟩ | ⟨r, held, inside⟩
      · rw [same]
        exact .single (.spaced clear first)
      · have := none r held
        unfold Range.within Range.point at this
        unfold Range.has at inside
        simp_all
  unfold State.declareAt
  exact (space.trans (State.moved_declared _ x n _)).trans (State.moved_craneOut _ x)

theorem State.clearFor_of_parkFree {s : State} {x : Crane} {n : Nat} (free : s.parkFree x n = true) :
    s.clearFor x (Range.point n) = true := (Bool.and_eq_true_iff.mp free).1

theorem State.moved_declareOut (s : State) (n : Nat) (x : Crane) : s.moved (State.declareOut n x s).1 := by
  unfold State.declareOut
  split
  · exact .refl
  · split
    · exact .refl
    · exact .refl
    · next unseen =>
      split
      · next free => exact s.moved_declareAt x n (.inl ⟨State.clearFor_of_parkFree free, .inl unseen⟩)
      · exact .refl
    · split
      · next r held =>
        split
        · next inside => exact s.moved_declareAt x n (.inr ⟨r, held, inside⟩)
        · exact .refl
      · next none =>
        split
        · next free => exact s.moved_declareAt x n (.inl ⟨State.clearFor_of_parkFree free, .inr none⟩)
        · exact .refl

/-- A MOVE-SUBMIT is refused, and changes nothing; or its move takes the next serial and the lowest empty slot, its claim and
reservations and the head it passes over are single changes, and it enters its crane's queue at the tail or at the head (R146). -/
inductive State.Submitted (s : State) (f : MoveFields) : State → Prop
  | refused : s.Submitted f s
  | accepted {i : Nat} {u : State} {q : List Entry} (fields : firstBad (s.moveChecks f) = none) (slot : i < Config.moveSlots)
      (empty : s.move i = none) (moved : (s.takeSerial.setMove i (some (s.newMove f))).moved u)
      (queue : q = .move i :: (u.work (s.newMove f).crane).queue ∨ q = (u.work (s.newMove f).crane).queue ++ [.move i])
      (stays : ∃ m, u.move i = some m ∧ m.crane = (s.newMove f).crane) :
      s.Submitted f (u.setWork (s.newMove f).crane { u.work (s.newMove f).crane with queue := q })

theorem State.move_setMove_same (s : State) (i : Nat) (r : Option Move) : (s.setMove i r).move i = r := by
  rw [State.move_setMove, if_pos rfl]

theorem State.moved_passOver (s : State) (x : Crane) : s.moved (s.passOver x) := by
  unfold State.passOver
  split
  · split
    · next held =>
      split
      · exact State.moved_setAside held (by simp)
      · exact .refl
    · exact .refl
  · exact .refl

/-- The record of a slot, and the crane it belongs to, stand where another is made QUEUED. -/
theorem State.passOver_stays {s : State} {i : Nat} {m : Move} (held : s.move i = some m) (x : Crane) :
    ∃ m', (s.passOver x).move i = some m' ∧ m'.crane = m.crane := by
  have aside : ∀ (j : Nat) (o : Move), s.move j = some o → ∃ m', (s.setAside j o .queued none).move i = some m' ∧ m'.crane = m.crane := by
    intro j o found
    unfold State.setAside
    obtain ⟨_, _, _, _, e⟩ := (s.setMove j (some { o with state := .queued, reason := none })).withdrawOf_only o.crane o.serial
    have read : ((s.setMove j (some { o with state := .queued, reason := none })).withdrawOf o.crane o.serial).move i
        = (s.setMove j (some { o with state := .queued, reason := none })).move i := by rw [e]; rfl
    rw [read, State.move_setMove]
    split
    · next same =>
      obtain rfl : o = m := Option.some.inj (found.symm.trans (same ▸ held))
      exact ⟨_, rfl, rfl⟩
    · exact ⟨m, held, rfl⟩
  unfold State.passOver
  split
  · split
    · next found =>
      split
      · exact aside _ _ found
      · exact ⟨m, held, rfl⟩
    · exact ⟨m, held, rfl⟩
  · exact ⟨m, held, rfl⟩

theorem State.move_reserveMove (s : State) (m : Move) (i : Nat) : (s.reserveMove m).move i = s.move i := by
  unfold State.reserveMove
  split
  · rw [State.move_reserveSource, State.move_reserveDest]
    rfl
  · rfl

theorem State.moved_reserveMove {s : State} {i : Nat} {m : Move} (held : s.move i = some m) :
    s.moved (s.reserveMove m) := by
  unfold State.reserveMove
  split
  · next n named =>
    have claim : (s.setClaim n (some m.serial)).move i = some m := held
    exact ((State.moved_setClaim held named _).trans (State.moved_reserveDest claim n)).trans
      (State.moved_reserveSource (by simpa using claim))
  · exact .refl

theorem State.submitMove_cases (s : State) (f : MoveFields) : s.Submitted f (s.submitMove f).1 := by
  unfold State.submitMove
  split
  · exact .refused
  · next fields =>
    dsimp only
    split
    · exact .refused
    · split
      · next i found =>
        have slot : i < Config.moveSlots := List.mem_range.mp (List.mem_of_find?_eq_some found)
        have empty : s.move i = none := by simpa using List.find?_some found
        have reserved := State.moved_reserveMove (State.move_setMove_same s.takeSerial i (some (s.newMove f)))
        have stays : ((s.takeSerial.setMove i (some (s.newMove f))).reserveMove (s.newMove f)).move i = some (s.newMove f) := by
          rw [State.move_reserveMove, State.move_setMove_same]
        unfold State.enqueue
        split
        · exact .accepted fields slot empty (reserved.trans (State.moved_passOver _ _)) (.inl rfl) (State.passOver_stays stays _)
        · exact .accepted fields slot empty reserved (.inr rfl) ⟨_, stays, rfl⟩
      · exact .refused

/-- What an act of the move unit or a report of a crane does, in single changes. -/
theorem State.MoveAct.cases {s t : State} (h : s.MoveAct t) :
    s.moved t ∨ (∃ x n k, ((s.approached x n k).breached x).moved t) ∨ (∃ f, s.Submitted f t) ∨ t = s.clearBreach.1 := by
  cases h with
  | submit f => exact .inr (.inr (.inl ⟨f, s.submitMove_cases f⟩))
  | cancel => exact .inl (s.moved_cancelMove _)
  | barrier => exact .inl (s.moved_putBarrier _)
  | laneRequest => exact .inl (s.moved_requestLane _)
  | laneRelease => exact .inl (s.moved_releaseLane _)
  | declareOut => exact .inl (s.moved_declareOut _ _)
  | breachClear => exact .inr (.inr (.inr rfl))
  | report x n k e => exact (s.takeReport_cases x n k e).imp id fun moved => .inl ⟨x, n, hookOf k, moved⟩

end Sys2Proof.Machine
end

section
/-! SUPPORT. Proofs/Taken.lean: a request that reaches its owning block, answered: the block's effect on the state as it stood, and the
reply being sent. -/

namespace Sys2Proof.Machine

/-- The owning block sees the state with the request in hand. What it leaves, with the link as it was before the request, is what the
reply is sent on. -/
theorem State.sendReply_handled (s t : State) (h : Header) (k : Kind) (r : Reply)
    (link : t.lnk = (s.toHandling h.port h.seq k).lnk) :
    t.sendReply h.port r = ({ t with lnk := s.lnk }).answered h k r := by
  obtain ⟨lyt, clk, rst, beds, pcv, zcu, sha, valves, pct, stk, rru, mvu, cnd, lnk, pending⟩ := t
  obtain rfl : lnk = _ := link
  obtain ⟨port, seq⟩ := h
  cases port <;> rfl

/-- What an owning block does to a state with the request in hand. -/
abbrev State.handled (s : State) (h : Header) (k : Kind) : State := s.toHandling h.port h.seq k

theorem State.handled_eq (s : State) (h : Header) (k : Kind) : ∃ l, s.handled h k = { s with lnk := l } := by
  obtain ⟨port, seq⟩ := h
  cases port <;> exact ⟨_, rfl⟩

/-- A request of PL, CW or CE in RUN, answered by its owning block. -/
theorem State.request_master_answered {s : State} {h : Header} {k : Kind} {body : List Nat} {owner : List Nat → State → Answer}
    (a : s.master h) (hp : permitted k h.port = true) (hl : lockedInRun k = false) (hf : bodyFits k body.length = true)
    (link : (owner body (s.handled h k)).1.lnk = (s.handled h k).lnk) :
    s.request h k body owner
      = ({ (owner body (s.handled h k)).1 with lnk := s.lnk }).answered h k (owner body (s.handled h k)).2 := by
  rw [State.request_master s h k body owner a hp hl hf]
  exact State.sendReply_handled _ _ _ _ _ link

/-- A planner's request in RUN, answered by its owning block. -/
theorem State.request_planner_answered {s : State} {h : Header} {k : Kind} {body : List Nat} {owner : List Nat → State → Answer}
    (a : s.planner h) (hp : permitted k .PL = true) (hl : lockedInRun k = false) (hf : bodyFits k body.length = true)
    (link : (owner body (s.handled h k)).1.lnk = (s.handled h k).lnk) :
    s.request h k body owner
      = ({ (owner body (s.handled h k)).1 with lnk := s.lnk }).answered h k (owner body (s.handled h k)).2 := by
  rw [State.request_planner s h k body owner a hp hl hf]
  exact State.sendReply_handled _ _ _ _ _ link

/-- A planner's request in CONFIG, answered by its owning block. -/
theorem State.request_loading_answered {s : State} {h : Header} {k : Kind} {body : List Nat} {owner : List Nat → State → Answer}
    (a : s.loading h) (hl : admittedInConfig k = true) (hf : bodyFits k body.length = true)
    (link : (owner body (s.handled h k)).1.lnk = (s.handled h k).lnk) :
    s.request h k body owner
      = ({ (owner body (s.handled h k)).1 with lnk := s.lnk }).answered h k (owner body (s.handled h k)).2 := by
  rw [State.request_loading s h k body owner a hl hf]
  exact State.sendReply_handled _ _ _ _ _ link

/-- A panel's request in RUN, answered by the bed table. -/
theorem State.request_panel_answered {s : State} {h : Header} {k : Kind} {body : List Nat} {owner : List Nat → State → Answer}
    {b : Nat} (a : s.panel h b) (hp : permitted k .BL = true) (hf : bodyFits k body.length = true)
    (link : (owner body ((s.heard b).handled h k)).1.lnk = ((s.heard b).handled h k).lnk) :
    s.request h k body owner = ({ (owner body ((s.heard b).handled h k)).1 with lnk := (s.heard b).lnk }).answered h k
        (owner body ((s.heard b).handled h k)).2 := by
  have port := a.1.1
  rw [State.request_panel s h k body owner b a hp hf, ← port]
  exact State.sendReply_handled _ _ _ _ _ link

/-- A report of a crane in RUN, answered by the runway and the move unit (R121, R152). -/
theorem exec_craneReport {s : State} {h : Header} {x : Crane} (a : s.reporting h x) (n k e : Nat) :
    exec (.craneReport h [n, k, e]) s = .next
      (({ ((s.handled h .craneReport).takeReport x n k e).1 with lnk := s.lnk }).answered h .craneReport
        ((s.handled h .craneReport).takeReport x n k e).2) := by
  obtain ⟨port, master⟩ := a
  have crane : craneOfPort h.port = x := by rw [port]; cases x <;> rfl
  have permits : permitted .craneReport h.port = true := by rw [port]; cases x <;> rfl
  have link : ((s.handled h .craneReport).takeReport (craneOfPort h.port) n k e).1.lnk = (s.handled h .craneReport).lnk := by
    obtain ⟨_, _, _, _, _, _, _, _, only⟩ := (s.handled h .craneReport).takeReport_only (craneOfPort h.port) n k e
    rw [only]
  have answered := State.request_master_answered (body := [n, k, e])
    (owner := fields3 fun n hook event t => t.takeReport (craneOfPort h.port) n hook event) master permits rfl rfl link
  rw [← crane]
  exact congrArg Host.Outcome.next answered

end Sys2Proof.Machine
end

section
/-! SUPPORT. Proofs/Breach.lean: no leg is granted while the breach latch is LATCHED (R127, R136, R151). -/

namespace Sys2Proof.Machine

/-- Nothing is granted between `s` and `t`: a leg granted in `t` was granted in `s`, the place leg of an ATOMIC move with its pick, and
an interval held by a crane that has reported is held still, and has not grown. -/
structure State.ungranted (s t : State) : Prop where
  toPick : ∀ i m, t.move i = some m → m.state = .toPick → ∃ q, s.move i = some q ∧ q.state = .toPick ∧ q.style = m.style
  toPlace : ∀ i m, t.move i = some m → m.state = .lifted .toPlace →
    ∃ q, s.move i = some q ∧ (q.state = .lifted .toPlace ∨ (q.state = .toPick ∧ q.style = .atomic))
  seen : ∀ x, (s.crane x).presence ≠ .unseen → (t.crane x).presence ≠ .unseen
  space : ∀ x r, (s.crane x).presence ≠ .unseen → (s.crane x).interval = some r →
    ∃ q, (t.crane x).interval = some q ∧ r.lo ≤ q.lo ∧ q.hi ≤ r.hi

/-- The moves and the cranes' intervals stand. -/
theorem State.ungranted.of_same {s t : State} (moves : ∀ i, t.move i = s.move i)
    (seen : ∀ x, (s.crane x).presence ≠ .unseen → (t.crane x).presence ≠ .unseen)
    (space : ∀ x, (t.crane x).interval = (s.crane x).interval) : s.ungranted t where
  toPick i m held granted := ⟨m, (moves i).symm.trans held, granted, rfl⟩
  toPlace i m held granted := ⟨m, (moves i).symm.trans held, .inl granted⟩
  seen := seen
  space x r _ held := ⟨r, (space x).trans held, Nat.le_refl _, Nat.le_refl _⟩

theorem State.ungranted.of_units {s t : State} (moves : t.mvu = s.mvu) (runway : t.rru = s.rru) : s.ungranted t :=
  .of_same (fun i => by unfold State.move; rw [moves]) (fun x => by cases x <;> (unfold State.crane; rw [runway]; exact id))
    (fun x => by cases x <;> (unfold State.crane; rw [runway]))

theorem State.ungranted.refl (s : State) : s.ungranted s := .of_units rfl rfl

theorem State.ungranted.trans {s t u : State} (h : s.ungranted t) (g : t.ungranted u) : s.ungranted u where
  toPick i m held granted := by
    obtain ⟨p, heldP, grantedP, style⟩ := g.toPick i m held granted
    obtain ⟨q, heldQ, grantedQ, styleQ⟩ := h.toPick i p heldP grantedP
    exact ⟨q, heldQ, grantedQ, styleQ.trans style⟩
  toPlace i m held granted := by
    obtain ⟨p, heldP, place | ⟨pick, atomic⟩⟩ := g.toPlace i m held granted
    · exact h.toPlace i p heldP place
    · obtain ⟨q, heldQ, grantedQ, styleQ⟩ := h.toPick i p heldP pick
      exact ⟨q, heldQ, .inr ⟨grantedQ, styleQ.trans atomic⟩⟩
  seen x known := g.seen x (h.seen x known)
  space x r known held := by
    obtain ⟨p, heldP, lo, hi⟩ := h.space x r known held
    obtain ⟨q, heldQ, lo', hi'⟩ := g.space x p (h.seen x known) heldP
    exact ⟨q, heldQ, lo.trans lo', hi'.trans hi⟩

/-- One record of the table written with a move that is granted nothing new, or with none. -/
theorem State.ungranted_setMove {s : State} {i : Nat} {r : Option Move}
    (same : ∀ m, r = some m → (∃ q, s.move i = some q ∧ q.follows m) ∨ (m.state ≠ .toPick ∧ m.state ≠ .lifted .toPlace)) :
    s.ungranted (s.setMove i r) where
  toPick j m held granted := by
    rw [State.move_setMove] at held
    split at held
    · next e =>
      obtain ⟨q, heldQ, follows⟩ | ⟨not, _⟩ := same m held
      · exact ⟨q, e ▸ heldQ, follows.toPick granted, follows.style.symm⟩
      · exact absurd granted not
    · exact ⟨m, held, granted, rfl⟩
  toPlace j m held granted := by
    rw [State.move_setMove] at held
    split at held
    · next e =>
      obtain ⟨q, heldQ, follows⟩ | ⟨_, not⟩ := same m held
      · exact ⟨q, e ▸ heldQ, follows.toPlace granted⟩
      · exact absurd granted not
    · exact ⟨m, held, .inl granted⟩
  seen x := id
  space x r _ held := ⟨r, held, Nat.le_refl _, Nat.le_refl _⟩

/-- One crane record written, with an interval no larger where the crane has reported and holds one. -/
theorem State.ungranted_setCrane {s : State} {x : Crane} {c : CraneRec}
    (seen : (s.crane x).presence ≠ .unseen → c.presence ≠ .unseen)
    (space : ∀ r, (s.crane x).presence ≠ .unseen → (s.crane x).interval = some r →
      ∃ q, c.interval = some q ∧ r.lo ≤ q.lo ∧ q.hi ≤ r.hi) : s.ungranted (s.setCrane x c) where
  toPick i m held granted := ⟨m, by cases x <;> exact held, granted, rfl⟩
  toPlace i m held granted := ⟨m, by cases x <;> exact held, .inl granted⟩
  seen y known := by
    rw [State.crane_setCrane]
    split
    · next e => exact seen (e ▸ known)
    · exact known
  space y r known held := by
    rw [State.crane_setCrane]
    split
    · next e => exact space r (e ▸ known) (e ▸ held)
    · exact ⟨r, held, Nat.le_refl _, Nat.le_refl _⟩

theorem State.setsOnly.ungranted {s t : State} (h : s.setsOnly t) : s.ungranted t := by
  obtain ⟨_, _, _, rfl⟩ := h
  exact .of_units rfl rfl

theorem State.ungranted_setWork (s : State) (x : Crane) (w : CraneWork) : s.ungranted (s.setWork x w) :=
  .of_same (s.move_setWork x w) (fun y => by cases x <;> exact id) (fun y => by cases x <;> rfl)

theorem State.ungranted_takeSerial (s : State) : s.ungranted s.takeSerial :=
  .of_same (fun _ => rfl) (fun x => by cases x <;> exact id) (fun x => by cases x <;> rfl)

/-- A single change grants nothing in a breach, and leaves the latch. -/
theorem State.MoveStep.ungranted {s t : State} (step : s.MoveStep t) (breach : s.rru.breach.isSome = true) : s.ungranted t := by
  cases step with
  | posted step =>
    cases step with
    | post => exact (State.postAt_only _ _ _ _ _ _).ungranted
    | settle => exact .of_units rfl rfl
  | rewritten held same => exact State.ungranted_setMove fun m e => .inl ⟨_, held, Option.some.inj e ▸ same⟩
  | granted held verdict =>
    unfold State.runwayVerdict at verdict
    split at verdict
    · cases verdict
    · dsimp only at verdict
      split_ifs at verdict
  | left => exact (State.ungranted_setMove (r := none) fun m e => by cases e).trans (State.ungranted_setWork _ _ _)
  | yields =>
    unfold State.createYield
    refine .trans (State.ungranted_setMove fun m e => .inr ?_) (State.ungranted_takeSerial _)
    cases e
    exact ⟨nofun, nofun⟩
  | worked | barred => exact State.ungranted_setWork _ _ _
  | craned interval seen =>
    exact State.ungranted_setCrane seen fun r _ held => ⟨r, interval.trans held, Nat.le_refl _, Nat.le_refl _⟩
  | shrunk x r =>
    rcases s.shrinkTo_cases x r with ⟨old, v, held, within, e⟩ | ⟨e, _⟩
    · rw [e]
      have vacates : s.ungranted { s with rru := { s.rru with vacates := v } } :=
        .of_same (fun _ => rfl) (fun x => by cases x <;> exact id) (fun x => by cases x <;> rfl)
      refine vacates.trans (State.ungranted_setCrane (fun known => known) fun q _ heldQ => ⟨r, rfl, ?_⟩)
      have same : q = old := by
        have : (s.crane x).interval = some q := by cases x <;> exact heldQ
        exact Option.some.inj (this.symm.trans held)
      unfold Range.within at within
      rw [same]
      simpa using within
    · rw [e]
      exact .refl s
  | spaced clear first =>
    refine State.ungranted_setCrane (fun known => known) fun r known held => ?_
    rcases first with unseen | none
    · exact absurd unseen known
    · exact absurd (none.symm.trans held) nofun
  | paired | pieced | celled | bayed | stripped | bumped =>
    exact .of_same (fun _ => rfl) (fun x => by cases x <;> exact id) (fun x => by cases x <;> rfl)

/-- `t` differs from `s` at most in the deadlock pair and the condition sets. -/
def State.pairOnly (s t : State) : Prop := ∃ d c, t = { s with rru := { s.rru with deadlock := d }, cnd := c }

theorem State.setsOnly.pair {s t : State} (h : s.setsOnly t) : s.pairOnly t := by
  obtain ⟨_, _, _, rfl⟩ := h
  exact ⟨_, _, rfl⟩

/-- The end of a deadlock touches the pair and the condition sets alone (R135). -/
theorem State.endDeadlockOf_pair (s : State) (n : Nat) : s.pairOnly (s.endDeadlockOf n) := by
  unfold State.endDeadlockOf State.endDeadlock
  split
  · split
    · obtain ⟨_, _, _, e⟩ := State.endCause_only { s with rru := { s.rru with deadlock := none } } [.PL, .CW, .CE] .deadlock
        (.serial _)
      exact ⟨_, _, e⟩
    · exact ⟨_, _, rfl⟩
  · exact ⟨_, _, rfl⟩

/-- What a grant leaves (R128): the need is the interval, the refusal is none; beside that the vacate records, the deadlock pair and
the condition sets may have changed. -/
theorem State.grantInterval_eq (s : State) (x : Crane) (n : Nat) (r : Range) : ∃ v,
    (State.setCrane { s with rru := { s.rru with vacates := v } } x
        { s.crane x with interval := some r, refusal := none }).pairOnly (s.grantInterval x n r) := by
  have taken : ∀ added : List Nat, ∃ v,
      (State.setCrane { s with rru := { s.rru with vacates := v } } x { s.crane x with interval := some r, refusal := none }).pairOnly
        (((added.foldl (State.takeBack x) s).setCrane x
          { (added.foldl (State.takeBack x) s).crane x with interval := some r, refusal := none }).endDeadlockOf n) := fun added => by
    obtain ⟨v, e⟩ : s.vacatesOnly (added.foldl (State.takeBack x) s) :=
      foldl_keeps State.vacatesOnly.refl State.vacatesOnly.trans (fun t n => State.takeBack_vacates x t n) _ s
    have same : ({ s with rru := { s.rru with vacates := v } } : State).crane x = s.crane x := by cases x <;> rfl
    refine ⟨v, ?_⟩
    rw [e, same]
    exact State.endDeadlockOf_pair _ n
  unfold State.grantInterval
  exact taken _

/-- A single change leaves the breach latch, and the count of breaches. -/
theorem State.MoveStep.latch {s t : State} (step : s.MoveStep t) :
    t.rru.breach = s.rru.breach ∧ t.rru.breachCount = s.rru.breachCount := by
  cases step with
  | posted step =>
    cases step with
    | post =>
      obtain ⟨_, _, _, e⟩ := s.postAt_only _ _ _ _ _
      rw [e]
      exact ⟨rfl, rfl⟩
    | settle => exact ⟨rfl, rfl⟩
  | rewritten | yields | paired | pieced | celled | bayed | stripped | bumped => exact ⟨rfl, rfl⟩
  | granted =>
    obtain ⟨_, _, _, e⟩ := State.grantInterval_eq (s.setMove _ _) _ _ _
    rw [e]
    cases ‹Crane› <;> exact ⟨rfl, rfl⟩
  | left held => cases (Move.crane _) <;> exact ⟨rfl, rfl⟩
  | @worked x _ _ => cases x <;> exact ⟨rfl, rfl⟩
  | barred x => cases x <;> exact ⟨rfl, rfl⟩
  | @craned x _ _ _ => cases x <;> exact ⟨rfl, rfl⟩
  | @spaced x _ _ _ => cases x <;> exact ⟨rfl, rfl⟩
  | shrunk x r =>
    rcases s.shrinkTo_cases x r with ⟨old, v, held, within, e⟩ | ⟨e, _⟩
    · rw [e]
      cases x <;> exact ⟨rfl, rfl⟩
    · rw [e]
      exact ⟨rfl, rfl⟩

theorem State.moved.latch {s t : State} (h : s.moved t) :
    t.rru.breach = s.rru.breach ∧ t.rru.breachCount = s.rru.breachCount := by
  induction h with
  | refl => exact ⟨rfl, rfl⟩
  | tail _ step same => exact ⟨step.latch.1.trans same.1, step.latch.2.trans same.2⟩

theorem State.moved.breach {s t : State} (h : s.moved t) : t.rru.breach = s.rru.breach := h.latch.1

/-- A run of changes grants nothing in a breach. -/
theorem State.moved.ungranted {s t : State} (h : s.moved t) (breach : s.rru.breach.isSome = true) : s.ungranted t := by
  induction h with
  | refl => exact .refl s
  | tail moved step ih =>
    refine ih.trans (step.ungranted ?_)
    rw [State.moved.breach moved]
    exact breach

/-! ## What a command does -/

/-- A breach counted latches the latch, and grants nothing (R136). -/
theorem State.breached_ungranted (s : State) (x : Crane) : s.ungranted (s.breached x) ∧ (s.breached x).rru.breach.isSome = true := by
  unfold State.breached
  dsimp only
  split
  · next latched =>
    exact ⟨.of_same (fun _ => rfl) (fun x => by cases x <;> exact id) (fun x => by cases x <;> rfl), latched⟩
  · obtain ⟨_, _, _, e⟩ := State.raiseCause_only { s with rru := { s.rru with
      breachCount := holdAt Config.countMax s.rru.breachCount, breach := some x } } [.PL, .CW, .CE] .breach (.crane x)
    rw [e]
    exact ⟨.of_same (fun _ => rfl) (fun x => by cases x <;> exact id) (fun x => by cases x <;> rfl), rfl⟩

/-- An accepted submission grants nothing in a breach, and none leaves the latch otherwise than it was. -/
theorem State.Submitted.ungranted {s t : State} {f : MoveFields} (h : s.Submitted f t) (breach : t.rru.breach.isSome = true) :
    s.ungranted t := by
  cases h with
  | refused => exact .refl s
  | @accepted i u q fields slot empty moved queue =>
    have latched : u.rru.breach.isSome = true := by
      generalize (s.newMove f).crane = x at breach
      cases x <;> exact breach
    rw [moved.breach] at latched
    have new : s.ungranted (s.takeSerial.setMove i (some (s.newMove f))) := by
      refine (State.ungranted_takeSerial s).trans (State.ungranted_setMove fun m e => .inr ?_)
      cases e
      exact ⟨nofun, nofun⟩
    exact (new.trans (moved.ungranted latched)).trans (State.ungranted_setWork _ _ _)

/-- The runway unit's second tick grants nothing (R122, R129). -/
theorem State.runwayTick_ungranted (s : State) : s.ungranted s.runwayTick := by
  have presence : ∀ (t : State) (x : Crane), t.ungranted (t.tickPresence x) := fun t x => by
    have timed : ∀ c : CraneRec, c.interval = (t.crane x).interval → c.presence ≠ .unseen → t.ungranted (t.setCrane x c) :=
      fun c same known => State.ungranted_setCrane (fun _ => known) fun r _ held =>
        ⟨r, same.trans held, Nat.le_refl _, Nat.le_refl _⟩
    unfold State.tickPresence
    dsimp only
    split
    · next active =>
      split
      · split
        · exact (timed _ (by rfl) (by simp)).trans (State.raiseCause_only _ _ _ _).ungranted
        · exact timed _ (by rfl) (by simp [active])
      · exact .refl t
    · exact .refl t
  exact ((presence s .W).trans (presence _ .E)).trans
    (.of_same (fun _ => rfl) (fun x => by cases x <;> exact id) (fun x => by cases x <;> rfl))

theorem State.countSecond_ungranted (s : State) : s.ungranted s.countSecond := by
  refine State.countSecond_keeps State.ungranted.refl State.ungranted.trans (fun _ => .of_units rfl rfl)
    (fun _ _ _ => .of_units rfl rfl) State.runwayTick_ungranted (fun _ => .of_units rfl rfl) (fun t b => ?_) s
  obtain ⟨_, _, _, _, e⟩ := t.expirePermit_only b
  rw [e]
  exact .of_units rfl rfl

/-- What a report's breach test is made on, for a crane outside its interval (R121, R136). -/
theorem State.approached_ungranted (s : State) (x : Crane) (n : Nat) (k : Hook) : s.ungranted (s.approached x n k) := by
  have kept : ∀ (t : State) (c : CraneRec), c.interval = (t.crane x).interval →
      ((t.crane x).presence ≠ .unseen → c.presence ≠ .unseen) → t.ungranted (t.setCrane x c) := fun t c same known =>
    State.ungranted_setCrane known fun r _ held => ⟨r, same.trans held, Nat.le_refl _, Nat.le_refl _⟩
  have seen : s.ungranted (s.seen x n k) := by
    unfold State.seen
    dsimp only
    split
    · exact kept s _ (by rfl) id
    · exact kept s _ (by rfl) id
    · exact kept s _ (by rfl) (by simp)
    · exact (kept s _ (by rfl) (by simp)).trans (State.endCause_only _ _ _ _).ungranted
  have first : ∀ t : State, t.ungranted (t.firstInterval x n) := fun t => by
    unfold State.firstInterval
    split
    · next h =>
      simp only [Bool.and_eq_true, Option.isNone_iff_eq_none] at h
      exact State.ungranted_setCrane (fun known => known) fun r _ held => absurd (h.1.2.symm.trans held) nofun
    · exact .refl t
  exact (seen.trans (first _)).trans (kept _ _ (by rfl) id)

theorem State.MoveAct.ungranted {s t : State} (h : s.MoveAct t) (breach : t.rru.breach.isSome = true) : s.ungranted t := by
  rcases h.cases with moved | ⟨x, n, k, moved⟩ | ⟨f, submitted⟩ | rfl
  · exact moved.ungranted (moved.breach ▸ breach)
  · obtain ⟨counted, latched⟩ := (s.approached x n k).breached_ungranted x
    exact ((s.approached_ungranted x n k).trans counted).trans (moved.ungranted latched)
  · exact submitted.ungranted breach
  · unfold State.clearBreach at breach ⊢
    split
    · exact .refl s
    · next c _ =>
      split_ifs
      · exact .refl s
      · exact .refl s
      · obtain ⟨_, _, _, e⟩ := State.endCause_only { s with rru := { s.rru with breach := none } } [.PL, .CW, .CE] .breach (.crane c)
        simp_all [Answer.done]

/-- Whatever an act or an event does, nothing is granted where the latch stands after it. -/
theorem State.Does.ungranted {c : Instr} {s t : State} (h : s.Does c t) (breach : t.rru.breach.isSome = true) : s.ungranted t := by
  cases h with
  | served _ act =>
    cases act with
    | nothing | lock | clock | restart => exact .of_units rfl rfl
    | layout _ act => obtain ⟨_, _, _, _, _, _, _, rfl⟩ := act.only; exact .of_units rfl rfl
    | profile n p => obtain ⟨_, e⟩ := s.writeProfile_only n p; rw [e]; exact .of_units rfl rfl
    | table _ act => obtain ⟨_, _, _, _, rfl⟩ := act.only; exact .of_units rfl rfl
    | steam _ act => obtain ⟨_, _, rfl⟩ := act.only; exact .of_units rfl rfl
    | probe _ act => obtain ⟨_, _, _, _, _, _, rfl⟩ := act.only; exact .of_units rfl rfl
    | move _ act => exact act.ungranted breach
    | condition _ act => obtain ⟨_, rfl⟩ := act.only; exact .of_units rfl rfl
  | chilled => exact absurd breach (by simp [State.chilled, State.reset])
  | warmed =>
    have clear : s.warmed.rru.breach = none := by
      unfold State.warmed
      rfl
    exact absurd breach (by simp [clear])
  | hold h => obtain ⟨_, _, _, _, e⟩ := s.enterHold_only h; rw [e]; exact .of_units rfl rfl
  | supplyLost => exact .of_units rfl rfl
  | supply => exact .of_units rfl rfl
  | second => exact s.countSecond_ungranted
  | probe _ act => obtain ⟨_, _, _, _, _, _, rfl⟩ := act.only; exact .of_units rfl rfl

theorem State.linked.ungranted {s t : State} (h : s.linked t) : s.ungranted t := by
  obtain ⟨_, _, _, rfl⟩ := h.only
  exact .of_units rfl rfl

/-- Whatever command is executed, nothing is granted where the latch stands after it. -/
theorem exec_ungranted {c : Instr} {s t : State} (runs : exec c s = .next t) (breach : t.rru.breach.isSome = true) :
    s.ungranted t := by
  obtain ⟨u, v, before, act, after⟩ := exec_does runs
  have same : v.rru = t.rru := by
    obtain ⟨_, _, _, rfl⟩ := after.only
    rfl
  exact (before.ungranted.trans (act.ungranted (same ▸ breach))).trans after.ungranted

/-! ## A report in a breach -/

/-- In a breach the order is HOLD, whatever the report found (R151). -/
theorem State.giveOrder_breach {s : State} (x : Crane) (b : Bool) (breach : s.rru.breach.isSome = true) :
    s.giveOrder x b = (s.setWork x { s.work x with lastOrder := some .hold },
      { result := if b then .done else .state, data := .order .hold }) := by
  unfold State.giveOrder State.composeOrder
  simp [breach, Order.kind]

/-- A valid report's order is composed last, after its crane has been seen and single changes made (R121, R152). -/
theorem State.takeReport_order {s : State} {x : Crane} {n k e : Nat} (segment : n < 32) (hook : k ≤ 1) (event : e ≤ 6) :
    ∃ w b, (s.runwayReport x n (hookOf k)).moved w ∧ s.takeReport x n k e = w.giveOrder x b := by
  have fields : firstBad (reportChecks n k e) = none := by
    rw [firstBad_eq_none]
    simp [reportChecks, segment, hook, event, Config.segments]
  unfold State.takeReport
  rw [fields]
  have event := (s.runwayReport x n (hookOf k)).moved_takeEvent x n e
  have hook := event.trans (State.moved_compareHook _ x (hookOf k))
  have stop := hook.trans (State.moved_completeStop _ x n ((s.runwayReport x n (hookOf k)).insideInterval x n))
  exact ⟨_, _, stop.trans (State.moved_work4 _ x _ (s.suspendedSlots x)), rfl⟩

theorem State.runwayReport_breach {s : State} {c : Crane} (x : Crane) (n : Nat) (k : Hook) (breach : s.rru.breach = some c) :
    (s.runwayReport x n k).rru.breach = some c := by
  rcases s.runwayReport_cases x n k with moved | counted
  · exact moved.breach.trans breach
  · have latched : (s.approached x n k).rru.breach = some c := (s.moved_approached x n k).breach.trans breach
    rw [counted]
    simp [State.breached, latched]

/-- Settles O60. A grant is made under a CLEAR latch alone, and once a grant has been made at a command none is LATCHED at it; in a
breach the order is HOLD whatever work the report finds. -/
theorem nothingGrantedInBreach : Obligations.NothingGrantedInBreach := by
  constructor
  · intro c s t runs breach
    have none := exec_ungranted runs breach
    refine ⟨fun i m held granted => ?_, none.toPlace, fun x r q known held heldT => ?_⟩
    · obtain ⟨p, heldP, pick, _⟩ := none.toPick i m held granted
      exact ⟨p, heldP, pick⟩
    · obtain ⟨p, heldP, lo, hi⟩ := none.space x r known held
      obtain rfl : p = q := Option.some.inj (heldP.symm.trans heldT)
      exact ⟨lo, hi⟩
  · intro s h x c n hook event reporting segment hookOk eventOk breach
    obtain ⟨l, handled⟩ := s.handled_eq h .craneReport
    obtain ⟨w, b, moved, taken⟩ := State.takeReport_order (s := s.handled h .craneReport) (x := x) segment hookOk eventOk
    have latched : w.rru.breach = some c := by
      refine moved.breach.trans (State.runwayReport_breach x n (hookOf hook) ?_)
      rw [handled]
      exact breach
    rw [State.giveOrder_breach x b (by rw [latched]; rfl)] at taken
    have runs := exec_craneReport reporting n hook event
    obtain ⟨_, _, _, _, _, _, _, _, only⟩ := (s.handled h .craneReport).takeReport_only x n hook event
    refine ⟨{ ((s.handled h .craneReport).takeReport x n hook event).1 with lnk := s.lnk }, if b then .done else .state,
      ?_, ?_, ?_, ?_, ?_⟩
    · rw [runs, taken]
    · cases b
      · exact .inr rfl
      · exact .inl rfl
    · rw [taken]
      cases x <;> exact latched
    · rw [taken]
      cases x <;> rfl
    · rw [only, handled]

end Sys2Proof.Machine
end

section
/-! SUPPORT. Proofs/Apart.lean: every change of an interval keeps the two cranes separated by the gap (R124). -/

namespace Sys2Proof.Machine

/-- Whenever both cranes hold an interval, they are separated by the gap (R124). -/
def State.separate (s : State) : Prop :=
  ∀ w e, (s.crane .W).interval = some w → (s.crane .E).interval = some e → w.hi + s.lyt.yard.gap < e.lo

theorem State.separate.of_same {s t : State} (h : s.separate) (space : ∀ x, (t.crane x).interval = (s.crane x).interval)
    (gap : t.lyt.yard.gap = s.lyt.yard.gap) : t.separate := fun w e west east => by
  rw [gap]
  exact h w e ((space .W).symm.trans west) ((space .E).symm.trans east)

/-- Crane `x` given an interval that is clear of the other crane's, whatever else of its record is written. -/
theorem State.separate_setCrane {s : State} {x : Crane} {c : CraneRec} {r : Range} (interval : c.interval = some r)
    (clear : ∀ o, (s.crane x.other).interval = some o → clearOf s.lyt.yard.gap x r o = true) : (s.setCrane x c).separate := by
  intro w e west east
  cases x with
  | W =>
    obtain rfl : r = w := Option.some.inj (interval.symm.trans west)
    exact of_decide_eq_true (clear e east)
  | E =>
    obtain rfl : r = e := Option.some.inj (interval.symm.trans east)
    exact of_decide_eq_true (clear w west)

/-- A part of an interval is as clear of the other crane's as the whole. -/
theorem clearOf_within {g : Nat} {x : Crane} {r old o : Range} (within : r.within old = true) (clear : clearOf g x old o = true) :
    clearOf g x r o = true := by
  unfold Range.within at within
  simp only [Bool.and_eq_true, decide_eq_true_eq] at within
  cases x <;> simp only [clearOf, separated, decide_eq_true_eq] at clear ⊢ <;> omega

/-- The intervals of two separated cranes are clear of each other. -/
theorem State.separate.clear {s : State} (h : s.separate) {x : Crane} {r o : Range} (mine : (s.crane x).interval = some r)
    (others : (s.crane x.other).interval = some o) : clearOf s.lyt.yard.gap x r o = true := by
  cases x with
  | W => exact decide_eq_true (h r o mine others)
  | E => exact decide_eq_true (h o r others mine)

/-- A granted need is clear of the other crane's interval (R127). -/
theorem State.clear_of_verdict {s : State} {x : Crane} {m : Move} {leg : Leg} {need : Range}
    (verdict : s.runwayVerdict x m leg = .granted need) {o : Range} (others : (s.crane x.other).interval = some o) :
    clearOf s.lyt.yard.gap x need o = true := by
  unfold State.runwayVerdict at verdict
  split at verdict
  · cases verdict
  · simp only [others] at verdict
    split_ifs at verdict with _ _ _ clear _
    cases verdict
    simpa using clear

theorem State.MoveStep.lyt {s t : State} (step : s.MoveStep t) : t.lyt = s.lyt := by
  cases step with
  | posted step =>
    cases step with
    | post => obtain ⟨_, _, _, e⟩ := s.postAt_only _ _ _ _ _; rw [e]
    | settle => rfl
  | rewritten | yields | paired | pieced | celled | bayed | stripped | bumped => rfl
  | granted =>
    obtain ⟨_, _, _, _, e⟩ := State.grantInterval_only (s.setMove _ _) _ _ _
    rw [e]
    rfl
  | left held => cases (Move.crane _) <;> rfl
  | @worked x _ _ => cases x <;> rfl
  | barred x => cases x <;> rfl
  | @craned x _ _ _ => cases x <;> rfl
  | @spaced x _ _ _ => cases x <;> rfl
  | shrunk x r => obtain ⟨_, _, _, _, e⟩ := s.shrinkTo_only x r; rw [e]

theorem State.MoveStep.separate {s t : State} (step : s.MoveStep t) (h : s.separate) : t.separate := by
  have gap := congrArg (fun l => l.yard.gap) step.lyt
  cases step with
  | posted step =>
    cases step with
    | post =>
      obtain ⟨_, _, _, e⟩ := s.postAt_only _ _ _ _ _
      exact h.of_same (fun x => by rw [e]; cases x <;> rfl) gap
    | settle => exact h.of_same (fun x => by cases x <;> rfl) rfl
  | rewritten | yields | paired | pieced | celled | bayed | stripped | bumped =>
    exact h.of_same (fun x => by cases x <;> rfl) rfl
  | @granted x i m leg need held verdict =>
    obtain ⟨v, d, c, e⟩ := State.grantInterval_eq (s.setMove i (some m.go)) x m.serial need
    have given : (State.setCrane { s with rru := { s.rru with vacates := v } } x
        { s.crane x with interval := some need, refusal := none }).separate :=
      State.separate_setCrane rfl fun o others => State.clear_of_verdict verdict (by cases x <;> exact others)
    refine given.of_same (fun y => ?_) ?_
    · rw [e]
      cases x <;> cases y <;> rfl
    · rw [e]
      cases x <;> rfl
  | left => exact h.of_same (fun x => by generalize Move.crane _ = y; cases x <;> cases y <;> rfl) gap
  | @worked y _ _ => exact h.of_same (fun x => by cases x <;> cases y <;> rfl) gap
  | barred y => exact h.of_same (fun x => by cases x <;> cases y <;> rfl) gap
  | @craned y c interval _ =>
    refine h.of_same (fun x => ?_) gap
    rw [State.crane_setCrane]
    split
    · next same => exact same ▸ interval
    · rfl
  | @spaced x r clear _ =>
    refine State.separate_setCrane rfl fun o others => ?_
    unfold State.clearFor at clear
    rw [others] at clear
    exact clear
  | shrunk x r =>
    rcases s.shrinkTo_cases x r with ⟨old, v, held, within, e⟩ | ⟨e, _⟩
    · rw [e]
      refine State.separate_setCrane rfl fun o others => clearOf_within within (h.clear held ?_)
      cases x <;> exact others
    · rw [e]
      exact h

theorem State.moved.separate {s t : State} (moved : s.moved t) (h : s.separate) : t.separate := by
  induction moved with
  | refl => exact h
  | tail _ step ih => exact step.separate ih

theorem State.moved.lyt {s t : State} (moved : s.moved t) : t.lyt = s.lyt := by
  induction moved with
  | refl => rfl
  | tail _ step ih => exact step.lyt.trans ih

/-- A breach counted leaves the intervals and the layout (R136). -/
theorem State.breached_space (s : State) (x : Crane) :
    (∀ y, ((s.breached x).crane y).interval = (s.crane y).interval) ∧ (s.breached x).lyt = s.lyt := by
  unfold State.breached
  dsimp only
  split
  · exact ⟨fun y => by cases y <;> rfl, rfl⟩
  · obtain ⟨_, _, _, e⟩ := State.raiseCause_only { s with rru := { s.rru with
      breachCount := holdAt Config.countMax s.rru.breachCount, breach := some x } } [.PL, .CW, .CE] .breach (.crane x)
    rw [e]
    exact ⟨fun y => by cases y <;> rfl, rfl⟩

theorem State.MoveAct.separate {s t : State} (act : s.MoveAct t) (h : s.separate) : t.separate := by
  rcases act.cases with moved | ⟨x, n, k, moved⟩ | ⟨f, submitted⟩ | rfl
  · exact moved.separate h
  · obtain ⟨space, lyt⟩ := (s.approached x n k).breached_space x
    exact moved.separate (((s.moved_approached x n k).separate h).of_same space (by rw [lyt]))
  · cases submitted with
    | refused => exact h
    | @accepted i u q fields slot empty moved queue =>
      have new : (s.takeSerial.setMove i (some (s.newMove f))).separate := h.of_same (fun x => by cases x <;> rfl) rfl
      refine (moved.separate new).of_same (fun x => ?_) ?_ <;> generalize (s.newMove f).crane = y
      · cases x <;> cases y <;> rfl
      · cases y <;> rfl
  · have only : ∀ x, ((s.clearBreach.1).crane x).interval = (s.crane x).interval := fun x => by
      unfold State.clearBreach
      split
      · rfl
      · next c _ =>
        split_ifs
        · rfl
        · rfl
        · obtain ⟨_, _, _, e⟩ := State.endCause_only { s with rru := { s.rru with breach := none } } [.PL, .CW, .CE] .breach
            (.crane c)
          unfold Answer.done
          rw [e]
          cases x <;> rfl
    obtain ⟨_, _, _, _, e⟩ := s.clearBreach_only
    exact h.of_same only (by rw [e])

/-- A second of the clock leaves the intervals (R122). -/
theorem State.runwayTick_space (s : State) (y : Crane) : (s.runwayTick.crane y).interval = (s.crane y).interval := by
  have presence : ∀ (t : State) (x : Crane), ((t.tickPresence x).crane y).interval = (t.crane y).interval := fun t x => by
    have timed : ∀ c : CraneRec, c.interval = (t.crane x).interval → ((t.setCrane x c).crane y).interval = (t.crane y).interval :=
      fun c same => by
        rw [State.crane_setCrane]
        split
        · next e => exact e ▸ same
        · rfl
    unfold State.tickPresence
    dsimp only
    split
    · split
      · split
        · obtain ⟨_, _, _, e⟩ := State.raiseCause_only (t.setCrane x { t.crane x with presence := .stale, timer := none })
            (stalePorts x) .craneStale (.crane x)
          rw [e]
          refine Eq.trans ?_ (timed { t.crane x with presence := .stale, timer := none } rfl)
          cases y <;> rfl
        · exact timed _ (by rfl)
      · rfl
    · rfl
  refine Eq.trans ?_ ((presence _ .E).trans (presence s .W))
  cases y <;> rfl

/-- A second of the clock leaves the intervals and the layout. -/
theorem State.countSecond_space (s : State) :
    (∀ y, (s.countSecond.crane y).interval = (s.crane y).interval) ∧ s.countSecond.lyt = s.lyt := by
  refine State.countSecond_keeps (R := fun s t => (∀ y, (t.crane y).interval = (s.crane y).interval) ∧ t.lyt = s.lyt)
    (fun _ => ⟨fun _ => rfl, rfl⟩) (fun f g => ⟨fun y => (g.1 y).trans (f.1 y), g.2.trans f.2⟩)
    (fun _ => ⟨fun y => by cases y <;> rfl, rfl⟩) (fun _ _ _ => ⟨fun y => by cases y <;> rfl, rfl⟩)
    (fun t => ⟨t.runwayTick_space, ?_⟩) (fun _ => ⟨fun y => by cases y <;> rfl, rfl⟩) (fun t b => ?_) s
  · obtain ⟨_, _, _, _, e⟩ := t.runwayTick_only
    rw [e]
  · obtain ⟨_, _, _, _, e⟩ := t.expirePermit_only b
    rw [e]
    exact ⟨fun y => by cases y <;> rfl, rfl⟩

/-- Neither crane holds an interval. -/
def State.unspaced (s : State) : Prop := (s.crane .W).interval = none ∧ (s.crane .E).interval = none

theorem State.apart_of_unspaced {s : State} (h : s.unspaced) : s.apart :=
  ⟨fun _ _ west => absurd (h.1.symm.trans west) nofun, fun _ => h⟩

theorem State.apart.of_same {s t : State} (h : s.apart) (runway : t.rru = s.rru) (lyt : t.lyt = s.lyt) : t.apart := by
  unfold State.apart State.crane State.run at *
  rw [runway, lyt]
  exact h

/-- An act on another unit leaves the cranes apart: the runway unit stands, and in RUN the layout. -/
theorem State.Does.apart {c : Instr} {s t : State} (h : s.Does c t) (apart : s.apart) : t.apart := by
  cases h with
  | served _ act =>
    cases act with
    | nothing | clock | restart => exact apart.of_same rfl rfl
    | lock config => exact State.apart_of_unspaced (apart.2 config)
    | layout config act =>
      obtain ⟨_, _, _, _, _, _, _, rfl⟩ := act.only
      exact State.apart_of_unspaced (apart.2 config)
    | profile n p => obtain ⟨_, e⟩ := s.writeProfile_only n p; rw [e]; exact apart.of_same rfl rfl
    | table _ act => obtain ⟨_, _, _, _, rfl⟩ := act.only; exact apart.of_same rfl rfl
    | steam _ act => obtain ⟨_, _, rfl⟩ := act.only; exact apart.of_same rfl rfl
    | probe _ act => obtain ⟨_, _, _, _, _, _, rfl⟩ := act.only; exact apart.of_same rfl rfl
    | move run act =>
      obtain ⟨_, _, _, _, _, _, _, _, e⟩ := act.only
      have runs : t.run = true := by rw [e]; exact run
      exact ⟨act.separate apart.1, fun config => absurd (runs.symm.trans config) nofun⟩
    | condition _ act => obtain ⟨_, rfl⟩ := act.only; exact apart.of_same rfl rfl
  | chilled => exact State.apart_of_unspaced ⟨rfl, rfl⟩
  | warmed => exact State.apart_of_unspaced ⟨rfl, rfl⟩
  | hold h => obtain ⟨_, _, _, _, e⟩ := s.enterHold_only h; rw [e]; exact apart.of_same rfl rfl
  | supplyLost => exact apart.of_same rfl rfl
  | supply => exact apart.of_same rfl rfl
  | second =>
    obtain ⟨space, lyt⟩ := s.countSecond_space
    unfold State.apart State.run at *
    rw [space, space, lyt]
    exact apart
  | probe _ act => obtain ⟨_, _, _, _, _, _, rfl⟩ := act.only; exact apart.of_same rfl rfl

/-- Settles O54. The layout changes in CONFIG alone, where neither crane holds an interval; in RUN an interval becomes a granted need or a
first segment, which are clear of the other crane's, or shrinks. -/
theorem stepKeepsCranesApart : Obligations.StepKeepsCranesApart := by
  intro s t steps apart
  refine step_keeps (I := State.apart) (fun _ h => h) (fun link h => ?_) (fun act h => act.apart h) steps apart
  obtain ⟨_, _, _, rfl⟩ := link.only
  exact h.of_same rfl rfl

end Sys2Proof.Machine
end

section
/-! SUPPORT. Proofs/Sets.lean: every posting, acknowledgement and reset keeps the condition sets in capacity and without doubles, and
each attention line with its set (R175, R176, R179, R180). -/

namespace Sys2Proof.Machine

/-! ## One set -/

/-- The attention line of a set is high exactly when the set is not empty (R180). -/
def CondSet.lined (c : CondSet) : Prop := c.line = if c.records = [] then .low else .high

/-- The records of a set are within the capacity of its port, no two of one kind and subject (R175). -/
def CondSet.fits (p : Point) (c : CondSet) : Prop :=
  c.records.length ≤ setCapacity p ∧ (c.records.map (fun r => (r.kind, r.subject))).Nodup

theorem Cond.names_iff (r : Cond) (k : CondKind) (subj : Subject) : r.names k subj = true ↔ (r.kind, r.subject) = (k, subj) := by
  simp [Cond.names]

/-- A change of records one by one, each keeping its kind and subject, keeps the set. -/
theorem CondSet.kept_of_map {c d : CondSet} (f : Cond → Cond) (same : ∀ r, ((f r).kind, (f r).subject) = (r.kind, r.subject))
    (records : d.records = c.records.map f) (line : d.line = c.line) (p : Point) :
    (c.lined → d.lined) ∧ (c.fits p → d.fits p) := by
  constructor
  · intro lined
    unfold CondSet.lined at *
    rw [line, records, lined]
    simp
  · intro ⟨size, unlike⟩
    refine ⟨by rw [records]; simpa using size, ?_⟩
    rw [records, List.map_map]
    exact (congrArg List.Nodup (List.map_congr_left fun r _ => same r)).mpr unlike

/-- A posting keeps a set (R176). -/
theorem CondSet.post_kept (p : Point) (minute : Nat) (k : CondKind) (subj : Subject) (status : CondStatus) (raise : Bool)
    (c : CondSet) : (c.lined → (c.post (setCapacity p) minute k subj status raise).lined)
      ∧ (c.fits p → (c.post (setCapacity p) minute k subj status raise).fits p) := by
  unfold CondSet.post
  split
  · refine CondSet.kept_of_map (fun r => if r.names k subj then r.gathered raise else r) (fun r => ?_) (by rfl) (by rfl) p
    split <;> rfl
  · next new =>
    split
    · next room =>
      refine ⟨fun _ => by simp [CondSet.lined], fun ⟨_, unlike⟩ => ⟨by simpa using room, ?_⟩⟩
      rw [List.map_append]
      refine unlike.append (List.nodup_singleton _) ?_
      simp only [List.map_cons, List.map_nil, List.disjoint_singleton, List.mem_map, not_exists, not_and]
      intro r held same
      exact new (List.any_eq_true.mpr ⟨r, held, (r.names_iff k subj).mpr same⟩)
    · exact ⟨id, id⟩

theorem CondSet.clearStanding_kept (p : Point) (k : CondKind) (subj : Subject) (c : CondSet) :
    (c.lined → (c.clearStanding k subj).lined) ∧ (c.fits p → (c.clearStanding k subj).fits p) := by
  refine CondSet.kept_of_map
    (fun r => if r.names k subj && r.status = .standing then { r with status := .cleared } else r) (fun r => ?_) (by rfl) (by rfl) p
  split <;> rfl

/-- An acknowledgement keeps a set: the line falls with the last record (R179, R180). -/
theorem CondSet.acked_kept (p : Point) (k : CondKind) (subj : Subject) (c : CondSet) :
    (c.acked k subj).lined ∧ (c.fits p → (c.acked k subj).fits p) := by
  constructor
  · unfold CondSet.lined CondSet.acked
    dsimp only
    simp only [List.isEmpty_iff]
  · intro ⟨size, unlike⟩
    exact ⟨(List.length_filter_le _ _).trans size, unlike.sublist ((List.filter_sublist).map _)⟩

/-! ## The sets of the part -/

/-- Each set of `t` is kept from `s`. -/
def State.setsKept (s t : State) : Prop :=
  ∀ p, ((s.condSet p).lined → (t.condSet p).lined) ∧ ((s.condSet p).fits p → (t.condSet p).fits p)

theorem State.setsKept.refl (s : State) : s.setsKept s := fun _ => ⟨id, id⟩

theorem State.setsKept.trans {s t u : State} (h : s.setsKept t) (g : t.setsKept u) : s.setsKept u :=
  fun p => ⟨(g p).1 ∘ (h p).1, (g p).2 ∘ (h p).2⟩

/-- The three sets stand, whatever becomes of the panel flags and of the other blocks. -/
theorem State.setsKept.of_same {s t : State} (same : ∀ p, t.condSet p = s.condSet p) : s.setsKept t := fun p => by
  rw [same p]
  exact ⟨id, id⟩

theorem State.setsKept.of_cnd {s t : State} (same : t.cnd = s.cnd) : s.setsKept t :=
  .of_same fun p => by cases p <;> (unfold State.condSet; rw [same])

theorem State.setsKept.from {s t u : State} (h : t.setsKept u) (same : t.cnd = s.cnd) : s.setsKept u :=
  (State.setsKept.of_cnd same).trans h

theorem State.SetStep.kept {s t : State} (step : s.SetStep t) : s.setsKept t := by
  intro q
  cases step with
  | post p k subj status raise =>
    unfold State.postAt
    rw [State.condSet_setCondSet]
    split
    · next e =>
      rw [← e]
      exact CondSet.post_kept p _ k subj status raise _
    · exact ⟨id, id⟩
  | settle k subj => cases q <;> exact CondSet.clearStanding_kept _ k subj _

theorem State.posts.kept {s t : State} (h : s.posts t) : s.setsKept t := by
  induction h with
  | refl => exact .refl s
  | tail _ step ih => exact ih.trans step.kept

theorem State.setFlags_kept (s : State) (b : Nat) (f : PanelFlags) : s.setsKept (s.setFlags b f) :=
  .of_same fun p => State.condSet_setFlags s b f p

theorem State.MoveStep.kept {s t : State} (step : s.MoveStep t) : s.setsKept t := by
  cases step with
  | posted step => exact step.kept
  | rewritten | yields | paired | pieced | celled | bayed | stripped | bumped => exact .of_cnd (by rfl)
  | @granted x i m leg need held verdict =>
    have taken : ∀ added : List Nat, s.setsKept (added.foldl (State.takeBack x) (s.setMove i (some m.go))) := fun added => by
      obtain ⟨v, e⟩ : (s.setMove i (some m.go)).vacatesOnly (added.foldl (State.takeBack x) (s.setMove i (some m.go))) :=
        foldl_keeps State.vacatesOnly.refl State.vacatesOnly.trans (fun t n => State.takeBack_vacates x t n) _ _
      rw [e]
      exact .of_cnd (by rfl)
    have ends : ∀ (t : State) (c : CraneRec), t.setsKept ((t.setCrane x c).endDeadlockOf m.serial) := fun t c => by
      refine State.setsKept.trans (t := t.setCrane x c) (.of_cnd (by cases x <;> rfl)) ?_
      unfold State.endDeadlockOf State.endDeadlock
      split
      · split
        · exact State.setsKept.from (State.posts_end _ _ _ _).kept (by rfl)
        · exact .refl _
      · exact .refl _
    exact (taken _).trans (ends _ _)
  | left => exact .of_cnd (by generalize Move.crane _ = y; cases y <;> rfl)
  | @worked y _ _ => exact .of_cnd (by cases y <;> rfl)
  | barred y => exact .of_cnd (by cases y <;> rfl)
  | @craned y _ _ _ => exact .of_cnd (by cases y <;> rfl)
  | @spaced y _ _ _ => exact .of_cnd (by cases y <;> rfl)
  | shrunk x r =>
    rcases s.shrinkTo_cases x r with ⟨_, _, _, _, e⟩ | ⟨e, _⟩
    · rw [e]
      exact .of_cnd (by cases x <;> rfl)
    · rw [e]
      exact .refl s

theorem State.moved.kept {s t : State} (moved : s.moved t) : s.setsKept t := by
  induction moved with
  | refl => exact .refl s
  | tail _ step ih => exact ih.trans step.kept

/-! ## The acts -/

theorem State.breached_kept (s : State) (x : Crane) : s.setsKept (s.breached x) := by
  unfold State.breached
  dsimp only
  split
  · exact .of_cnd (by rfl)
  · exact State.setsKept.from (State.posts_raise _ _ _ _).kept (by rfl)

theorem State.MoveAct.kept {s t : State} (act : s.MoveAct t) : s.setsKept t := by
  rcases act.cases with moved | ⟨x, n, k, moved⟩ | ⟨f, submitted⟩ | rfl
  · exact moved.kept
  · exact ((s.moved_approached x n k).kept.trans (State.breached_kept _ x)).trans moved.kept
  · cases submitted with
    | refused => exact .refl s
    | @accepted i u q fields slot empty moved queue =>
      have new : s.setsKept (s.takeSerial.setMove i (some (s.newMove f))) := .of_cnd (by rfl)
      refine (new.trans moved.kept).trans (.of_cnd ?_)
      generalize (s.newMove f).crane = y
      cases y <;> rfl
  · unfold State.clearBreach
    split
    · exact .refl s
    · split_ifs
      · exact .refl s
      · exact .refl s
      · exact State.setsKept.from (State.posts_end _ _ _ _).kept (by rfl)

theorem State.CondAct.kept {s t : State} (act : s.CondAct t) : s.setsKept t := by
  cases act with
  | acknowledge p k subj =>
    unfold State.acknowledge
    split
    · exact .refl s
    · next r _ =>
      split
      · exact .refl s
      · intro q
        unfold Answer.done
        rw [State.condSet_setCondSet]
        split
        · next e =>
          subst e
          exact ⟨fun _ => (CondSet.acked_kept p k r.subject _).1, (CondSet.acked_kept p k r.subject _).2⟩
        · exact ⟨id, id⟩
  | mode p k m =>
    have written : ∀ (p : Point) (m : Tab ReportMode), s.setsKept (s.setCondSet p { s.condSet p with modes := m }) := fun p m q => by
      rw [State.condSet_setCondSet]
      split
      · next e =>
        subst e
        exact ⟨id, id⟩
      · exact ⟨id, id⟩
    unfold State.setMode
    split
    · exact .refl s
    · exact .refl s
    · split
      · exact .refl s
      · split
        · exact .refl s
        · exact written _ _
  | flagsAck => exact s.setFlags_kept _ _

/-! ## The scan -/

theorem State.probePosting_kept (before s : State) (c : Nat) : s.setsKept (State.probePosting before s c) := by
  unfold State.probePosting
  split
  · exact .refl s
  · split
    · unfold State.probeLost
      dsimp only
      split
      · exact (s.posts_raise _ _ _).kept.trans (State.setFlags_kept _ _ _)
      · exact (s.posts_raise _ _ _).kept
    · split
      · unfold State.probeFound
        dsimp only
        split
        · refine (s.posts_end [.PL] .probeLost (.channel c)).kept.trans ?_
          unfold State.unflagProbeLost
          split
          · exact .refl _
          · exact State.setFlags_kept _ _ _
        · exact (s.posts_end _ _ _).kept
      · exact .refl s

theorem State.checkReference_kept (s : State) (raw : Nat) : s.setsKept (s.checkReference raw) := by
  unfold State.checkReference
  dsimp only
  split
  · exact State.setsKept.from (State.posts_raise _ _ _ _).kept (by rfl)
  · split
    · exact State.setsKept.from (State.posts_end _ _ _ _).kept (by rfl)
    · exact .of_cnd (by rfl)

theorem State.becomeReady_kept (s : State) (b : Nat) : s.setsKept (s.becomeReady b) := by
  unfold State.becomeReady
  have posted := (State.posts_event (s.setBed b { s.bed b with state := .ready }) .PL .bedReady (.bed b)).kept
  exact (posted.from (by rfl)).trans (State.setFlags_kept _ b _)

theorem State.evaluateCooling_kept (s : State) (b : Nat) : s.setsKept (s.evaluateCooling b) := by
  unfold State.evaluateCooling
  split
  · exact s.becomeReady_kept b
  · exact .refl s

theorem State.evaluateBed_kept (s : State) (b : Nat) : s.setsKept (s.evaluateBed b) := by
  unfold State.evaluateBed
  split
  case h_1 =>
    split
    · split
      · exact s.becomeReady_kept b
      · exact .refl s
    · split
      · exact State.setsKept.from (State.evaluateCooling_kept _ b) (by rfl)
      · exact .refl s
  case h_2 =>
    split
    · exact .refl s
    · exact s.evaluateCooling_kept b
  case h_3 => exact .refl s

theorem State.prepareFrame_kept (s : State) (pubs : List PubEntry) : s.setsKept (s.prepareFrame pubs) := by
  unfold State.prepareFrame
  dsimp only
  split
  · exact State.setsKept.from (State.posts_event _ _ _ _).kept (by rfl)
  · exact .of_cnd (by rfl)

/-- `t` differs from `s` at most in the zone records. -/
def State.zonesOnly (s t : State) : Prop := ∃ z, t = { s with zcu := { s.zcu with zones := z } }

theorem State.zonesOnly.trans {s t u : State} (h : s.zonesOnly t) (g : t.zonesOnly u) : s.zonesOnly u := by
  obtain ⟨_, rfl⟩ := h
  obtain ⟨_, rfl⟩ := g
  exact ⟨_, rfl⟩

theorem State.mapZones_zones (s : State) (f : Nat → Zone → Zone) : s.zonesOnly (s.mapZones f) := ⟨_, rfl⟩

/-- The zone step proper writes the zone records alone (R71). -/
theorem State.zonesStepped_zones (s : State) : s.zonesOnly s.zonesStepped :=
  (((s.mapZones_zones _).trans (State.mapZones_zones _ _)).trans (State.mapZones_zones _ _)).trans (State.mapZones_zones _ _)

theorem State.zoneStep_kept (s : State) : s.setsKept s.zoneStep := by
  have stepped : s.setsKept s.zonesStepped := by
    obtain ⟨_, e⟩ := s.zonesStepped_zones
    rw [e]
    exact .of_cnd (by rfl)
  have framed := stepped.trans (s.zonesStepped.prepareFrame_kept s.zonesStepped.publication)
  unfold State.zoneStep
  dsimp only
  refine framed.trans (foldl_keeps State.setsKept.refl State.setsKept.trans (fun u z => ?_) s.stageChanges _)
  unfold State.handStage
  split
  · exact u.evaluateBed_kept _
  · exact .refl u

theorem State.handScan_kept (s : State) : s.setsKept s.handScan := by
  have credited : s.setsKept s.maturityUpdate := .of_cnd (by rfl)
  have beds : s.maturityUpdate.setsKept s.maturityUpdate.evaluateBeds :=
    foldl_keeps State.setsKept.refl State.setsKept.trans State.evaluateBed_kept _ _
  exact (credited.trans beds).trans (State.zoneStep_kept _)

theorem State.completeScan_kept (s : State) : s.setsKept s.completeScan := by
  have updated : s.setsKept s.channelsUpdated := .of_cnd (by rfl)
  have posted := updated.trans (foldl_keeps State.setsKept.refl State.setsKept.trans (State.probePosting_kept s)
    (List.range Config.channels) s.channelsUpdated)
  unfold State.completeScan
  dsimp only
  generalize (List.range Config.channels).foldl (State.probePosting s) s.channelsUpdated = t at posted
  have published : t.setsKept ({ t with pcv := { t.pcv with scan := .idle, record := [] } } : State).publish := .of_cnd (by rfl)
  exact (posted.trans published).trans (State.handScan_kept _)

theorem State.enterConversion_kept (s : State) (n : Nat) (e : ScanEntry) : s.setsKept (s.enterConversion n e) := by
  unfold State.enterConversion
  dsimp only
  split
  · exact .of_cnd (by rfl)
  · exact State.setsKept.from (State.completeScan_kept _) (by rfl)

theorem State.discardConversion_kept (s : State) : s.setsKept s.discardConversion := by
  unfold State.discardConversion
  split
  · exact s.enterConversion_kept _ _
  · exact .refl s

theorem State.ProbeAct.kept {s t : State} (act : s.ProbeAct t) : s.setsKept t := by
  cases act with
  | trim n v =>
    unfold State.setTrim
    dsimp only
    split
    · split
      · exact State.setsKept.from (State.discardConversion_kept _) (by rfl)
      · exact .of_cnd (by rfl)
    · exact .refl s
  | sampleTime => exact State.setsKept.from (State.discardConversion_kept _) (by rfl)
  | conversion => exact s.enterConversion_kept _ _
  | reference raw => exact (s.checkReference_kept raw).trans (State.enterConversion_kept _ _ _)

theorem State.countSecond_kept (s : State) : s.setsKept s.countSecond := by
  have presence : ∀ (t : State) (x : Crane), t.setsKept (t.tickPresence x) := fun t x => by
    have timed : ∀ c : CraneRec, t.setsKept (t.setCrane x c) := fun c => .of_cnd (by cases x <;> rfl)
    unfold State.tickPresence
    dsimp only
    split
    · split
      · split
        · exact (timed _).trans (State.posts_raise _ _ _ _).kept
        · exact timed _
      · exact .refl t
    · exact .refl t
  have runway : ∀ t : State, t.setsKept t.runwayTick := fun t => by
    have ticked : ((t.tickPresence .W).tickPresence .E).setsKept t.runwayTick := .of_cnd (by rfl)
    exact ((presence t .W).trans (presence _ .E)).trans ticked
  refine State.countSecond_keeps State.setsKept.refl State.setsKept.trans (fun _ => .of_cnd rfl) (fun _ _ _ => .of_cnd rfl)
    runway (fun _ => .of_cnd rfl) (fun u b => ?_) s
  unfold State.expirePermit
  split
  · exact (State.setsKept.from (State.posts_event _ _ _ _).kept (by rfl)).trans (State.setFlags_kept _ _ _)
  · exact .refl u

/-! ## Steps -/

/-- What RUN and a hold come to for the sets: the lines follow the sets out of reset, and are low in it. -/
theorem State.linesRight_iff (s : State) : s.linesRight ↔ if s.held then ∀ p, (s.condSet p).line = .low else ∀ p, (s.condSet p).lined := by
  unfold State.linesRight CondSet.lined
  cases s.held <;> simp

/-- The records' invariants, where the hold stands. -/
theorem State.setsKept.lines {s t : State} (h : s.setsKept t) (held : t.held = s.held) (free : s.held = false) (lines : s.linesRight) :
    t.linesRight := by
  rw [State.linesRight_iff] at *
  rw [held, free] at *
  simp only [Bool.false_eq_true, if_false] at *
  exact fun p => (h p).1 (lines p)

theorem State.LinkStep.kept {s t : State} (step : s.LinkStep t) : s.setsKept t := by
  have written : ∀ (b : Nat) (r : Bed), s.setsKept (s.setBed b r) := fun b r => .of_cnd (by rfl)
  cases step with
  | port p r => exact .of_cnd (by cases p <;> rfl)
  | window => exact .of_cnd (by rfl)
  | poll =>
    unfold State.pollNext
    repeat' split
    all_goals exact .of_cnd (by rfl)
  | missed q =>
    unfold State.panelMissed
    dsimp only
    split
    · exact ((written _ _).trans (State.posts_raise _ _ _ _).kept).trans (State.setFlags_kept _ _ _)
    · exact written _ _
  | answered q =>
    unfold State.panelAnswered
    dsimp only
    split
    · exact ((written _ _).trans (State.setFlags_kept _ _ _)).trans (State.posts_end _ _ _ _).kept
    · exact written _ _

/-- A warm reset before RESTARTED is posted: what is kept, every valve line closed (R15). -/
def State.rewarmed (s : State) : State :=
  State.closeValves { s with
      clk := s.clk.warm, rst := { retention := s.rst.retention }, beds := Tab.mapAll {} (Config.beds + 1) (fun _ b => b.warm) s.beds,
      pcv := s.pcv.warm, zcu := s.warmZcu, sha := s.sha.warm, pct := Tab.mapAll {} Config.slots (fun _ p => p.warm) s.pct,
      stk := s.stk.warm, rru := s.rru.warm, mvu := s.warmMvu, cnd := s.cnd.warm, lnk := {} }

theorem State.warmed_eq (s : State) : s.warmed = s.rewarmed.postEvent .PL .restarted .none := rfl

theorem State.warmed_held (s : State) : s.warmed.held = false := by
  unfold State.held
  have : s.warmed.rst = { retention := s.rst.retention } := by
    obtain ⟨_, _, _, e⟩ := State.postEvent_only s.rewarmed .PL .restarted .none
    rw [State.warmed_eq, e]
    rfl
  rw [this]
  rfl

/-- An act of a block, or a second of the clock, keeps the sets and leaves the hold, out of which alone it comes. -/
theorem State.Does.sets {c : Instr} {s t : State} (h : s.Does c t) : (s.setsRight → t.setsRight) ∧ (s.linesRight → t.linesRight) := by
  have both : ∀ {t : State}, s.setsKept t → t.rst = s.rst → s.held = false →
      (s.setsRight → t.setsRight) ∧ (s.linesRight → t.linesRight) := fun kept same free =>
    ⟨fun sets p => (kept p).2 (sets p), kept.lines (by unfold State.held; rw [same]) free⟩
  cases h with
  | served free act =>
    cases act with
    | nothing | lock | clock => exact both (.of_cnd (by rfl)) rfl free
    | restart =>
      exact ⟨id, id⟩
    | layout _ act => obtain ⟨_, _, _, _, _, _, _, rfl⟩ := act.only; exact both (.of_cnd (by rfl)) rfl free
    | profile n p => obtain ⟨_, e⟩ := s.writeProfile_only n p; rw [e]; exact both (.of_cnd (by rfl)) rfl free
    | table _ act => obtain ⟨_, _, _, _, rfl⟩ := act.only; exact both (.of_cnd (by rfl)) rfl free
    | steam _ act => obtain ⟨_, _, rfl⟩ := act.only; exact both (.of_cnd (by rfl)) rfl free
    | probe _ act =>
      refine both act.kept ?_ free
      obtain ⟨_, _, _, _, _, _, rfl⟩ := act.only
      rfl
    | move _ act =>
      refine both act.kept ?_ free
      obtain ⟨_, _, _, _, _, _, _, _, rfl⟩ := act.only
      rfl
    | condition _ act =>
      refine both act.kept ?_ free
      obtain ⟨_, rfl⟩ := act.only
      rfl
  | chilled =>
    exact ⟨fun _ p => by cases p <;> exact ⟨Nat.zero_le _, List.nodup_nil⟩, fun _ p => by cases p <;> rfl⟩
  | warmed =>
    have posted := (State.posts_event s.rewarmed .PL .restarted .none).kept
    refine ⟨fun _ p => (posted p).2 ?_, fun _ => ?_⟩
    · cases p <;> exact ⟨Nat.zero_le _, List.nodup_nil⟩
    · rw [State.linesRight_iff, if_neg (by rw [State.warmed_held]; exact Bool.false_ne_true)]
      exact fun p => (posted p).1 (by cases p <;> rfl)
  | hold h holds =>
    have lowered : ∀ p, (s.enterHold h).condSet p = { s.condSet p with line := .low } := fun p => by
      unfold State.enterHold
      cases p <;> (dsimp only; split <;> rfl)
    refine ⟨fun sets p => by rw [lowered]; exact sets p, fun _ => ?_⟩
    rw [State.linesRight_iff, if_pos (by unfold State.held State.enterHold; simpa using holds)]
    exact fun p => by rw [lowered]
  | supplyLost => exact ⟨id, id⟩
  | supply => exact ⟨id, id⟩
  | second ticks =>
    refine both s.countSecond_kept ?_ ?_
    · obtain ⟨_, _, _, _, _, _, _, e⟩ := s.countSecond_only
      rw [e]
    · unfold State.ticking at ticks
      simpa using (Bool.and_eq_true_iff.mp ticks).1
  | probe free act =>
    refine both act.kept ?_ free
    obtain ⟨_, _, _, _, _, _, rfl⟩ := act.only
    rfl

/-- A step of the link keeps the sets; it posts of a panel out of reset alone. -/
theorem State.LinkStep.sets {s t : State} (step : s.LinkStep t) : (s.setsRight → t.setsRight) ∧ (s.linesRight → t.linesRight) := by
  refine ⟨fun sets p => (step.kept p).2 (sets p), fun lines => ?_⟩
  have held : t.held = s.held := by unfold State.held; rw [step.rst]
  have still : (∀ p, t.condSet p = s.condSet p) → t.linesRight := fun same => by
    unfold State.linesRight
    intro p
    rw [same, held]
    exact lines p
  cases step with
  | port p r => exact still fun q => by cases p <;> cases q <;> rfl
  | window => exact still fun q => by cases q <;> rfl
  | poll =>
    refine still fun q => ?_
    unfold State.pollNext
    split
    · rfl
    · split
      · cases q <;> rfl
      · rfl
  | missed q free polled => exact (State.LinkStep.missed s q free polled).kept.lines held free lines
  | answered q free polled => exact (State.LinkStep.answered s q free polled).kept.lines held free lines

/-- Settles O53: postings and acknowledgements are the only changes of a set out of reset, a hold lowers every line, and a reset empties
every set. -/
theorem stepKeepsConditionSets : Obligations.StepKeepsConditionSets := by
  intro s t steps
  exact ⟨step_keeps (I := State.linesRight) (fun _ h => h) (fun link => link.sets.2) (fun act => act.sets.2) steps,
    step_keeps (I := State.setsRight) (fun _ h => h) (fun link => link.sets.1) (fun act => act.sets.1) steps⟩

end Sys2Proof.Machine
end

section
/-! SUPPORT. Proofs/Heat.lean: no zone requests heat but in the cure of its bed (R81). -/

namespace Sys2Proof.Machine

/-- The bed is CURING or COOLING. -/
def Bed.cures (b : Bed) : Prop := b.state = .curing ∨ b.state = .cooling

/-- Zone `z`, where it requests heat, has a priority other than 0 and a bed that cures (R81). -/
def State.heats (s : State) : Prop :=
  ∀ z, z < Config.zones → 0 < (s.zone z).request →
    (s.zone z).priority ≠ 0 ∧ ∃ b, (s.zoneLayout z).bed = some b ∧ (s.bed b).cures

/-- From `s` to `t` no request rises, no bed leaves the cure, and no zone that requests heat changes its priority or its bed. -/
structure State.cooler (s t : State) : Prop where
  layout : ∀ z, (t.zoneLayout z).bed = (s.zoneLayout z).bed
  bed : ∀ b, (s.bed b).cures → (t.bed b).cures
  zone : ∀ z, (t.zone z).request = 0 ∨ ((t.zone z).request = (s.zone z).request ∧ (t.zone z).priority = (s.zone z).priority)

theorem State.cooler.of_same {s t : State} (lyt : t.lyt = s.lyt) (beds : t.beds = s.beds) (zones : t.zcu.zones = s.zcu.zones) :
    s.cooler t where
  layout z := by unfold State.zoneLayout; rw [lyt]
  bed b := by unfold State.bed; rw [beds]; exact id
  zone z := .inr (by unfold State.zone; rw [zones]; exact ⟨rfl, rfl⟩)

theorem State.cooler.refl (s : State) : s.cooler s := .of_same rfl rfl rfl

theorem State.cooler.trans {s t u : State} (h : s.cooler t) (g : t.cooler u) : s.cooler u where
  layout z := (g.layout z).trans (h.layout z)
  bed b cures := g.bed b (h.bed b cures)
  zone z := by
    rcases g.zone z with off | ⟨request, priority⟩
    · exact .inl off
    · rcases h.zone z with off | ⟨request', priority'⟩
      · exact .inl (request.trans off)
      · exact .inr ⟨request.trans request', priority.trans priority'⟩

theorem State.cooler.heats {s t : State} (h : s.cooler t) (heats : s.heats) : t.heats := by
  intro z zone asks
  rcases h.zone z with off | ⟨request, priority⟩
  · omega
  · obtain ⟨ranked, b, bed, cures⟩ := heats z zone (request ▸ asks)
    exact ⟨priority ▸ ranked, b, (h.layout z).trans bed, h.bed b cures⟩

theorem State.setsOnly.cooler {s t : State} (h : s.setsOnly t) : s.cooler t := by
  obtain ⟨_, _, _, rfl⟩ := h
  exact .of_same rfl rfl rfl

/-- A bed written that does not leave the cure. -/
theorem State.cooler_setBed {s : State} {b : Nat} {r : Bed} (stays : (s.bed b).cures → r.cures) : s.cooler (s.setBed b r) where
  layout _ := rfl
  bed c cures := by
    rw [State.bed_setBed]
    split
    · next e => exact stays (e ▸ cures)
    · exact cures
  zone _ := .inr ⟨rfl, rfl⟩

/-- A zone written that requests what it did, with the priority it had, or nothing. -/
theorem State.cooler_setZone {s : State} {z : Nat} {r : Zone} (same : r.request = (s.zone z).request ∧ r.priority = (s.zone z).priority) :
    s.cooler (s.setZone z r) where
  layout _ := rfl
  bed _ := id
  zone y := by
    rw [State.zone_setZone]
    split
    · next e => exact .inr (e ▸ same)
    · exact .inr ⟨rfl, rfl⟩

theorem Bed.not_cures {r : Bed} {at_ : BedState} (stands : r.state = at_) (curing : at_ ≠ .curing) (cooling : at_ ≠ .cooling) :
    ¬r.cures := fun h => h.elim (fun e => curing (stands.symm.trans e)) fun e => cooling (stands.symm.trans e)

/-! ## The acts that heat nothing -/

theorem State.piecesOnly.cooler {s t : State} (h : s.piecesOnly t) : s.cooler t := by
  obtain ⟨_, rfl⟩ := h
  exact .of_same rfl rfl rfl

theorem State.stockOnly.cooler {s t : State} (h : s.stockOnly t) : s.cooler t := by
  obtain ⟨_, _, rfl⟩ := h
  exact .of_same rfl rfl rfl

theorem State.loadPlan_cooler (s : State) (b pour profile : Nat) (l : List PieceSpec) :
    s.cooler (s.loadPlan b pour profile l).1 := by
  unfold State.loadPlan
  dsimp only
  split
  · exact .refl s
  · split
    · exact .refl s
    · split
      · exact .refl s
      · split
        · exact .refl s
        · have taken := (s.freePieces_only (s.bed b).planSlots).trans (State.takeAll_only b pour l _)
          obtain ⟨_, e⟩ := taken
          rw [e]
          exact State.cooler.trans (.of_same (by rfl) (by rfl) (by rfl)) (State.cooler_setBed id)

theorem State.clearPlan_cooler (s : State) (b : Nat) : s.cooler (s.clearPlan b).1 := by
  unfold State.clearPlan
  dsimp only
  split
  · exact .refl s
  · split
    · exact .refl s
    · split
      · exact .refl s
      · next p _ =>
        obtain ⟨_, e⟩ := s.freePieces_only p.slots
        rw [e]
        exact State.cooler.trans (.of_same (by rfl) (by rfl) (by rfl)) (State.cooler_setBed id)

theorem State.setFollow_cooler (s : State) (z : Nat) (lead : Option Nat) : s.cooler (s.setFollow z lead).1 := by
  unfold State.setFollow
  split
  · exact .refl s
  · split
    · exact .refl s
    · split
      · exact State.cooler_setZone ⟨rfl, rfl⟩
      · split
        · exact .refl s
        · split
          · exact .refl s
          · split
            · exact .refl s
            · exact State.cooler_setZone ⟨rfl, rfl⟩

theorem State.TableAct.cooler {c : Instr} {s t : State} (h : s.TableAct c t) : s.cooler t := by
  cases h with
  | planLoad => exact s.loadPlan_cooler ..
  | planClear => exact s.clearPlan_cooler _
  | priority | advance => exact State.cooler_setZone ⟨rfl, rfl⟩
  | follow => exact s.setFollow_cooler ..
  | bayOpen => exact (s.openBay_only ..).cooler
  | bayClose => exact (s.closeBay_only ..).cooler
  | place => exact (s.placeRecord_only ..).cooler
  | remove => exact (s.removeRecord_only ..).cooler
  | cursor => exact (s.setCursor_only ..).cooler
  | setupDone stands => exact State.cooler_setBed fun h => absurd h (Bed.not_cures stands nofun nofun)
  | castStart stands =>
    unfold State.castStart
    split
    · exact .refl s
    · next p _ =>
      have cast : s.piecesOnly (p.slots.foldl (State.castPiece s.panelBed s.clk.minute) s) :=
        foldl_keeps State.piecesOnly.refl State.piecesOnly.trans (fun _ _ => ⟨_, rfl⟩) _ _
      obtain ⟨_, e⟩ := cast
      dsimp only [Answer.done]
      rw [e]
      exact State.cooler.trans (.of_same (by rfl) (by rfl) (by rfl))
        (State.cooler_setBed fun h => absurd h (Bed.not_cures stands nofun nofun))
  | castEnd stands =>
    exact State.cooler.trans (State.cooler_setBed fun _ => .inl rfl)
      (foldl_keeps State.cooler.refl State.cooler.trans (fun _ _ => State.cooler_setZone (by exact ⟨rfl, rfl⟩)) _ _)
  | pourAbort stands =>
    obtain ⟨_, e⟩ := s.freePieces_only (s.bed s.panelBed).planSlots
    rw [e]
    exact State.cooler.trans (.of_same (by rfl) (by rfl) (by rfl))
      (State.cooler_setBed fun h => absurd h (Bed.not_cures stands nofun nofun))
  | release stands =>
    unfold State.requestRelease
    split
    · exact .refl s
    · exact State.cooler_setBed fun h => absurd h (Bed.not_cures stands nofun nofun)
  | strandsCut stands => exact State.cooler_setBed fun h => absurd h (Bed.not_cures stands nofun nofun)
  | bedClear stands =>
    unfold State.clearBed
    split
    · exact State.cooler.trans (State.cooler_setBed fun h => absurd h (Bed.not_cures stands nofun nofun))
        (foldl_keeps State.cooler.refl State.cooler.trans (fun _ _ => State.cooler_setZone (by exact ⟨rfl, rfl⟩)) _ _)
    · exact .refl s

/-- A strip pick makes a RELEASED bed STRIPPING; no other change of the move unit touches a bed. -/
theorem State.MoveStep.cooler {s t : State} (step : s.MoveStep t) : s.cooler t := by
  cases step with
  | posted step =>
    cases step with
    | post => exact (State.postAt_only _ _ _ _ _ _).cooler
    | settle => exact .of_same rfl rfl rfl
  | stripped n held named =>
    refine State.cooler_setBed fun cures => ?_
    unfold Bed.cures at *
    dsimp only
    rw [if_neg (by rcases cures with e | e <;> rw [e] <;> nofun)]
    exact cures
  | rewritten | yields | paired | pieced | celled | bayed | bumped => exact .of_same rfl rfl rfl
  | @granted x i m leg need held verdict =>
    obtain ⟨_, _, _, _, e⟩ := State.grantInterval_only (s.setMove i (some m.go)) x m.serial need
    rw [e]
    exact .of_same rfl rfl rfl
  | @left i m held => cases m.crane <;> exact .of_same rfl rfl rfl
  | @worked x _ _ => cases x <;> exact .of_same rfl rfl rfl
  | barred x => cases x <;> exact .of_same rfl rfl rfl
  | @craned x _ _ _ => cases x <;> exact .of_same rfl rfl rfl
  | @spaced x _ _ _ => cases x <;> exact .of_same rfl rfl rfl
  | shrunk x r =>
    obtain ⟨_, _, _, _, e⟩ := s.shrinkTo_only x r
    rw [e]
    exact .of_same rfl rfl rfl

theorem State.moved.cooler {s t : State} (h : s.moved t) : s.cooler t := by
  induction h with
  | refl => exact .refl s
  | tail _ step ih => exact ih.trans step.cooler

theorem State.runwayOnly.cooler {s t : State} (h : s.runwayOnly t) : s.cooler t := by
  obtain ⟨_, _, _, _, rfl⟩ := h
  exact .of_same rfl rfl rfl

theorem State.MoveAct.cooler {s t : State} (act : s.MoveAct t) : s.cooler t := by
  rcases act.cases with moved | ⟨x, n, k, moved⟩ | ⟨f, submitted⟩ | rfl
  · exact moved.cooler
  · exact ((s.moved_approached x n k).cooler.trans (State.breached_only _ x).cooler).trans moved.cooler
  · cases submitted with
    | refused => exact .refl s
    | @accepted i u q fields slot empty moved queue =>
      have new : s.cooler (s.takeSerial.setMove i (some (s.newMove f))) := .of_same rfl rfl rfl
      refine (new.trans moved.cooler).trans ?_
      generalize (s.newMove f).crane = y
      cases y <;> exact .of_same rfl rfl rfl
  · exact s.clearBreach_only.cooler

theorem State.LinkStep.cooler {s t : State} (step : s.LinkStep t) : s.cooler t := by
  have flagged : ∀ (u : State) (b : Nat) (f : PanelFlags), u.cooler (u.setFlags b f) := fun u b f => .of_same rfl rfl rfl
  cases step with
  | port p r => cases p <;> exact .of_same rfl rfl rfl
  | window => exact .of_same rfl rfl rfl
  | poll =>
    unfold State.pollNext
    split
    · exact .refl s
    · split
      · exact .of_same rfl rfl rfl
      · exact .refl s
  | missed q =>
    unfold State.panelMissed
    dsimp only
    split
    · exact ((State.cooler_setBed (s := s) (b := q.bed) (by exact id)).trans (State.raiseCause_only _ _ _ _).cooler).trans (flagged _ _ _)
    · exact State.cooler_setBed id
  | answered q =>
    unfold State.panelAnswered
    dsimp only
    split
    · exact ((State.cooler_setBed (s := s) (b := q.bed) (by exact id)).trans (flagged _ _ _)).trans (State.endCause_only _ _ _ _).cooler
    · exact State.cooler_setBed id

/-! ## The scan -/

/-- Zone `z`, where it requests heat, has a priority other than 0, a bed that cures, and has a stage that heats: so the zone step
leaves it (R81). -/
def State.heatsStaged (s : State) : Prop :=
  ∀ z, z < Config.zones → 0 < (s.zone z).request → (s.zone z).priority ≠ 0 ∧ (s.zone z).stage ≠ .done
    ∧ ∃ b, (s.zoneLayout z).bed = some b ∧ (s.bed b).cures

theorem State.heatsStaged.heats {s : State} (h : s.heatsStaged) : s.heats := fun z zone asks =>
  ⟨(h z zone asks).1, (h z zone asks).2.2⟩

theorem State.heatsStaged.of_same {s t : State} (h : s.heatsStaged) (lyt : t.lyt = s.lyt) (beds : t.beds = s.beds)
    (zones : t.zcu.zones = s.zcu.zones) : t.heatsStaged := by
  unfold State.heatsStaged State.zone State.zoneLayout State.bed at *
  rw [lyt, beds, zones]
  exact h

/-- A request above 0 passed the first three rows of R81. -/
theorem State.heats_of_requestOf {s : State} {z : Nat} (asks : 0 < s.requestOf z) :
    (s.zone z).priority ≠ 0 ∧ (s.zone z).stage ≠ .done ∧ ∃ b, (s.zoneLayout z).bed = some b ∧ (s.bed b).cures := by
  unfold State.requestOf at asks
  split at asks
  · omega
  · next bed =>
    split at asks
    · omega
    · next priority =>
      split at asks
      · omega
      · next stage =>
        refine ⟨priority, fun done => stage (by rw [done]; rfl), ?_⟩
        unfold State.bedHeats at bed
        split at bed
        · next b found => exact ⟨b, found, by simpa [Bed.cures, or_iff_not_imp_left] using bed⟩
        · exact absurd rfl bed

/-- The requests taken by R81 are in the cure. -/
theorem State.requests_heat (s : State) : (s.mapZones fun i z => { z with request := s.requestOf i }).heatsStaged := by
  intro z zone asks
  have read := (State.zone_mapZones s (fun i z => { z with request := s.requestOf i }) z).trans (if_pos zone)
  rw [read] at asks ⊢
  exact State.heats_of_requestOf asks

theorem State.zonesStepped_heats (s : State) : s.zonesStepped.heatsStaged := by
  unfold State.zonesStepped
  exact State.requests_heat _

/-- A bed that becomes READY has no zone that requests heat (R26). -/
theorem State.becomeReady_heats {s : State} {b : Nat} (h : s.heatsStaged) (done : s.zonesDone b = true) :
    (s.becomeReady b).heatsStaged := by
  have ready : (s.setBed b { s.bed b with state := .ready }).heatsStaged := by
    intro z zone asks
    obtain ⟨ranked, stage, c, bed, cures⟩ := h z zone asks
    refine ⟨ranked, stage, c, bed, ?_⟩
    rw [State.bed_setBed]
    split
    · next e =>
      have mine : z ∈ s.bedZones b := List.mem_filter.mpr ⟨List.mem_range.mpr zone, by rw [bed, e]; exact decide_eq_true rfl⟩
      exact absurd (of_decide_eq_true (List.all_eq_true.mp done z mine)) stage
    · exact cures
  obtain ⟨_, _, _, e⟩ := State.postEvent_only (s.setBed b { s.bed b with state := .ready }) .PL .bedReady (.bed b)
  unfold State.becomeReady
  rw [e]
  exact ready.of_same rfl rfl rfl

theorem State.evaluateCooling_heats {s : State} (b : Nat) (h : s.heatsStaged) : (s.evaluateCooling b).heatsStaged := by
  unfold State.evaluateCooling
  split
  · next ends => exact State.becomeReady_heats h (Bool.and_eq_true_iff.mp ends).1
  · exact h

theorem State.evaluateBed_heats {s : State} (b : Nat) (h : s.heatsStaged) : (s.evaluateBed b).heatsStaged := by
  unfold State.evaluateBed
  split
  case h_1 =>
    split
    · next empty =>
      split
      · exact State.becomeReady_heats h (by unfold State.zonesDone; rw [List.isEmpty_iff.mp empty]; rfl)
      · exact h
    · split
      · refine State.evaluateCooling_heats b fun z zone asks => ?_
        obtain ⟨ranked, stage, c, bed, cures⟩ := h z zone asks
        refine ⟨ranked, stage, c, bed, ?_⟩
        rw [State.bed_setBed]
        split
        · exact .inr rfl
        · exact cures
      · exact h
  case h_2 =>
    split
    · exact h
    · exact State.evaluateCooling_heats b h
  case h_3 => exact h

theorem State.zoneStep_heats (s : State) : s.zoneStep.heats := by
  have framed : (s.zonesStepped.prepareFrame s.zonesStepped.publication).heatsStaged := by
    unfold State.prepareFrame
    dsimp only
    split
    · obtain ⟨_, _, _, e⟩ := State.postEvent_only { s.zonesStepped with sha := _ } .PL .heatTrimmed .none
      rw [e]
      exact s.zonesStepped_heats.of_same rfl rfl rfl
    · exact s.zonesStepped_heats.of_same rfl rfl rfl
  unfold State.zoneStep
  dsimp only
  refine State.heatsStaged.heats (foldl_keeps (R := fun s t => s.heatsStaged → t.heatsStaged) (fun _ h => h) (fun f g h => g (f h))
    (fun t z h => ?_) _ _ framed)
  unfold State.handStage
  split
  · exact State.evaluateBed_heats _ h
  · exact h

/-- After a scan completion no zone requests heat but in the cure. -/
theorem State.completeScan_heats (s : State) : s.completeScan.heats := by
  obtain ⟨v, _, e⟩ := s.completeScan_parts
  rw [e]
  exact State.zoneStep_heats _

theorem State.enterConversion_heats {s : State} (n : Nat) (e : ScanEntry) (h : s.heats) : (s.enterConversion n e).heats := by
  unfold State.enterConversion
  dsimp only
  split
  · exact h
  · exact State.completeScan_heats _

/-! ## Steps -/

/-- The mode and the clock agree (R9). -/
def State.modeRight (s : State) : Prop := s.clk.running = s.run

theorem State.heatRight_iff (s : State) : s.heatRight ↔ s.heats
    ∧ (s.run = false → s.pcv.scan = .idle ∧ ∀ z, z < Config.zones → (s.zone z).request = 0) := Iff.rfl

theorem State.heatRight_of_run {s : State} (heats : s.heats) (run : s.run = true) : s.heatRight :=
  ⟨heats, fun config => absurd (run.symm.trans config) nofun⟩

/-- In CONFIG, with no scan running, a setting of the converter starts none, and a conversion ends in none. -/
theorem State.ProbeAct.heatRight {s t : State} (act : s.ProbeAct t) (h : s.heatRight) : t.heatRight := by
  have entered : ∀ (u : State) (n : Nat) (e : ScanEntry), u.heats → u.run = true → (u.enterConversion n e).heatRight :=
    fun u n e heats run => by
      obtain ⟨_, _, _, _, _, _, only⟩ := u.enterConversion_only n e
      exact State.heatRight_of_run (State.enterConversion_heats n e heats) (by rw [only]; exact run)
  have running : ∀ n, s.pcv.scan = .scanning n → s.run = true := fun n scans => by
    by_contra config
    have idle := (h.2 (by simpa using config)).1
    exact absurd (scans.symm.trans idle) nofun
  have discarded : ∀ u : State, u.heatRight → (∀ n, u.pcv.scan = .scanning n → u.run = true) → u.discardConversion.heatRight :=
    fun u right runs => by
      unfold State.discardConversion
      split
      · next n scans => exact entered u n _ right.1 (runs n scans)
      · exact right
  cases act with
  | trim n v =>
    unfold State.setTrim
    dsimp only
    split
    · split
      · exact discarded _ h running
      · exact h
    · exact h
  | sampleTime n => exact discarded _ h running
  | conversion n e scans => exact entered s n e h.1 (running n scans)
  | reference raw scans =>
    obtain ⟨_, _, e⟩ := s.checkReference_only raw
    rw [e]
    exact entered _ _ _ h.1 (running _ scans)

theorem State.countSecond_cooler (s : State) : s.cooler s.countSecond := by
  refine State.countSecond_keeps State.cooler.refl State.cooler.trans (fun _ => .of_same rfl rfl rfl)
    (fun _ _ _ => .of_same rfl rfl rfl) (fun t => t.runwayTick_only.cooler) (fun _ => .of_same rfl rfl rfl) (fun t b => ?_) s
  unfold State.expirePermit
  split
  · next due =>
    have stands : (t.bed b).state = .permitted := of_decide_eq_true (Bool.and_eq_true_iff.mp due).1
    have written : t.cooler (t.setBed b { t.bed b with state := .ready, deadline := none }) :=
      State.cooler_setBed fun h => absurd h (Bed.not_cures stands nofun nofun)
    have posted := written.trans (State.postEvent_only _ .PL .permitExpired (.bed b)).cooler
    exact posted.trans (.of_same rfl rfl rfl)
  · exact .refl t

/-- A cooler state in RUN requests heat in the cure where the other did. -/
theorem State.cooler.heatRight {s t : State} (h : s.cooler t) (run : t.run = true) (right : s.heatRight) : t.heatRight :=
  State.heatRight_of_run (h.heats right.1) run

/-- The zones, the scan and the mode stand. -/
theorem State.heatRight.of_same {s t : State} (right : s.heatRight) (cooler : s.cooler t) (run : t.run = s.run)
    (scan : t.pcv.scan = s.pcv.scan) (zones : t.zcu.zones = s.zcu.zones) : t.heatRight := by
  refine ⟨cooler.heats right.1, fun config => ?_⟩
  obtain ⟨idle, off⟩ := right.2 (run ▸ config)
  exact ⟨scan.trans idle, fun z zone => by unfold State.zone at *; rw [zones]; exact off z zone⟩

theorem State.LinkStep.heatRight {s t : State} (step : s.LinkStep t) (right : s.heatRight) : t.heatRight := by
  have cooler := step.cooler
  obtain ⟨_, _, _, rfl⟩ := step.only
  exact right.of_same cooler rfl rfl rfl

/-- A warm reset takes every request away (R87). -/
theorem State.warmed_heats (s : State) : s.warmed.heats := by
  have cleared : s.rewarmed.heats := fun z _ asks => by
    have read : s.rewarmed.zone z = if z < Config.zones then s.warmZone (s.zone z) else {} := Tab.read_mapAll _ _ _ _ _
    have off : (s.rewarmed.zone z).request = 0 := by
      rw [read]
      split <;> rfl
    omega
  exact (State.postEvent_only s.rewarmed .PL .restarted .none).cooler.heats cleared

theorem State.Does.heatRight {c : Instr} {s t : State} (h : s.Does c t) (mode : s.modeRight) (right : s.heatRight) : t.heatRight := by
  have still : ∀ {t : State}, t.lyt = s.lyt → t.beds = s.beds → t.pcv = s.pcv → t.zcu.zones = s.zcu.zones → t.heatRight :=
    fun lyt beds pcv zones => right.of_same (.of_same lyt beds zones) (by unfold State.run; rw [lyt]) (by rw [pcv]) zones
  cases h with
  | served _ act =>
    cases act with
    | nothing | clock | restart => exact still rfl rfl rfl rfl
    | lock config =>
      have locked : s.cooler s.enterRun := ⟨fun _ => rfl, fun _ => id, fun z => by
        have read : s.enterRun.zone z = (s.mapZones fun z r => { r with follow := (s.zoneLayout z).follow }).zone z := rfl
        rw [read, State.zone_mapZones]
        split
        · exact .inr ⟨rfl, rfl⟩
        · exact .inl rfl⟩
      exact locked.heatRight rfl right
    | layout config act =>
      obtain ⟨_, _, _, _, _, _, _, rfl⟩ := act.only
      obtain ⟨idle, off⟩ := right.2 config
      refine ⟨fun z zone asks => ?_, fun _ => ⟨idle, off⟩⟩
      have asked : 0 < (s.zone z).request := asks
      exact absurd (off z zone) (by omega)
    | profile n p => obtain ⟨_, e⟩ := s.writeProfile_only n p; rw [e]; exact still rfl rfl rfl rfl
    | table run act =>
      have cooler := act.cooler
      obtain ⟨_, _, _, _, rfl⟩ := act.only
      exact cooler.heatRight run right
    | steam _ act => obtain ⟨_, _, rfl⟩ := act.only; exact still rfl rfl rfl rfl
    | probe _ act => exact act.heatRight right
    | move run act =>
      have cooler := act.cooler
      obtain ⟨_, _, _, _, _, _, _, _, rfl⟩ := act.only
      exact cooler.heatRight run right
    | condition _ act => obtain ⟨_, rfl⟩ := act.only; exact still rfl rfl rfl rfl
  | chilled => exact ⟨fun z _ asks => absurd asks (Nat.lt_irrefl 0), fun _ => ⟨rfl, fun _ _ => rfl⟩⟩
  | warmed only run =>
    obtain ⟨_, _, _, e⟩ := State.postEvent_only s.rewarmed .PL .restarted .none
    have run' : s.warmed.run = true := by
      rw [State.warmed_eq, e]
      exact run
    exact State.heatRight_of_run s.warmed_heats run'
  | hold h => obtain ⟨_, _, _, _, e⟩ := s.enterHold_only h; rw [e]; exact still rfl rfl rfl rfl
  | supplyLost => exact still rfl rfl rfl rfl
  | supply => exact still rfl rfl rfl rfl
  | second ticks =>
    have run : s.run = true := mode.symm.trans (Bool.and_eq_true_iff.mp ticks).2
    have cooler := s.countSecond_cooler
    obtain ⟨_, _, _, _, _, _, _, e⟩ := s.countSecond_only
    exact cooler.heatRight (by rw [e]; exact run) right
  | probe _ act => exact act.heatRight right

/-- The mode and the clock go together: at the lock, at SET-CLOCK in CONFIG, and at the resets (R9, R11). -/
theorem State.Does.modeRight {c : Instr} {s t : State} (h : s.Does c t) (mode : s.modeRight) : t.modeRight := by
  have still : ∀ {t : State}, t.clk.running = s.clk.running → t.lyt.locked = s.lyt.locked → t.modeRight := fun clk lyt =>
    clk.trans (mode.trans lyt.symm)
  cases h with
  | served _ act =>
    cases act with
    | nothing | restart => exact mode
    | lock => rfl
    | clock m config => exact config.symm
    | layout _ act => obtain ⟨_, _, _, _, _, _, _, rfl⟩ := act.only; exact mode
    | profile n p => obtain ⟨_, e⟩ := s.writeProfile_only n p; rw [e]; exact mode
    | table _ act => obtain ⟨_, _, _, _, rfl⟩ := act.only; exact mode
    | steam _ act => obtain ⟨_, _, rfl⟩ := act.only; exact mode
    | probe _ act => obtain ⟨_, _, _, _, _, _, rfl⟩ := act.only; exact mode
    | move _ act => obtain ⟨_, _, _, _, _, _, _, _, rfl⟩ := act.only; exact mode
    | condition _ act => obtain ⟨_, rfl⟩ := act.only; exact mode
  | chilled => rfl
  | warmed _ run =>
    obtain ⟨_, _, _, e⟩ := State.postEvent_only s.rewarmed .PL .restarted .none
    rw [State.warmed_eq, e]
    exact run.symm
  | hold h => obtain ⟨_, _, _, _, e⟩ := s.enterHold_only h; rw [e]; exact mode
  | supplyLost => exact mode
  | supply => exact mode
  | second ticks =>
    obtain ⟨_, _, _, _, _, _, _, e⟩ := s.countSecond_only
    rw [e]
    refine still ?_ rfl
    show s.clk.next.running = s.clk.running
    unfold Clock.next
    split <;> rfl
  | probe _ act => obtain ⟨_, _, _, _, _, _, rfl⟩ := act.only; exact mode

/-- Settles O58: the zone step takes every request anew, from zones in the cure alone, and the beds it evaluates after it become READY
with every zone DONE; no other command raises a request or takes a bed out of the cure. -/
theorem heatOnlyInCure : Obligations.HeatOnlyInCure := by
  intro s t steps clock heat
  refine (step_keeps (I := fun s => s.modeRight ∧ s.heatRight) (fun _ h => h) (fun link h => ⟨?_, link.heatRight h.2⟩)
    (fun act h => ⟨act.modeRight h.1, act.heatRight h.1 h.2⟩) steps ⟨clock.2.2, heat⟩).2
  obtain ⟨_, _, _, rfl⟩ := link.only
  exact h.1

end Sys2Proof.Machine
end

section
/-! SUPPORT. Proofs/Alloc.lean: the allocation of R91, level by level: what a level is given, and the bounds of an allocation. -/

namespace Sys2Proof.Machine

/-! ## Steps listed for a zone -/

theorem listedSteps_cons (e : Nat × Nat) (l : List (Nat × Nat)) (z : Nat) :
    listedSteps (e :: l) z = if e.1 = z then e.2 else listedSteps l z := by
  unfold listedSteps
  rw [List.find?_cons]
  split <;> rename_i h
  · rw [if_pos (of_decide_eq_true h)]; rfl
  · rw [if_neg (of_decide_eq_false h)]

/-- A zone that no entry names is listed no steps. -/
theorem listedSteps_absent {l : List (Nat × Nat)} {z : Nat} (h : z ∉ l.map Prod.fst) : listedSteps l z = 0 := by
  induction l with
  | nil => rfl
  | cons e l ih =>
    simp only [List.map_cons, List.mem_cons, not_or] at h
    rw [listedSteps_cons, if_neg (fun same => h.1 same.symm), ih h.2]

/-- A zone that the first list names is listed there, and any other in the second. -/
theorem listedSteps_append (l m : List (Nat × Nat)) (z : Nat) :
    listedSteps (l ++ m) z = if z ∈ l.map Prod.fst then listedSteps l z else listedSteps m z := by
  induction l with
  | nil => simp
  | cons e l ih =>
    rw [List.cons_append, listedSteps_cons, listedSteps_cons, ih]
    by_cases same : e.1 = z
    · simp [same]
    · have other : z ≠ e.1 := fun h => same h.symm
      rw [if_neg same, if_neg same, List.map_cons]
      simp only [List.mem_cons, other, false_or]

/-- Where no zone is named twice, the zones of a list are listed its steps. -/
theorem map_listedSteps {l : List (Nat × Nat)} (nodup : (l.map Prod.fst).Nodup) : (l.map Prod.fst).map (listedSteps l) = l.map Prod.snd := by
  induction l with
  | nil => rfl
  | cons e l ih =>
    rw [List.map_cons, List.nodup_cons] at nodup
    rw [List.map_cons, List.map_cons, List.map_cons, listedSteps_cons, if_pos rfl, ← ih nodup.2]
    congr 1
    refine List.map_congr_left fun z mem => ?_
    rw [listedSteps_cons, if_neg (fun same : e.1 = z => nodup.1 (same ▸ mem))]

theorem listedSteps_mem {l : List (Nat × Nat)} (nodup : (l.map Prod.fst).Nodup) {e : Nat × Nat} (mem : e ∈ l) :
    listedSteps l e.1 = e.2 := by
  induction l with
  | nil => cases mem
  | cons a l ih =>
    rw [List.map_cons, List.nodup_cons] at nodup
    rw [listedSteps_cons]
    rcases List.mem_cons.mp mem with rfl | mem
    · rw [if_pos rfl]
    · rw [if_neg (fun same : a.1 = e.1 => nodup.1 (same ▸ List.mem_map_of_mem mem)), ih nodup.2 mem]

/-! ## Even shares (R91, step 3) -/

theorem evenShares_fst (share n : Nat) (l : List (Nat × Nat)) : (evenShares share n l).map Prod.fst = l.map Prod.fst := by
  induction l generalizing n with
  | nil => cases n <;> rfl
  | cons e l ih => cases n <;> simp [evenShares, ih]

theorem evenShares_sum (share n : Nat) (l : List (Nat × Nat)) :
    ((evenShares share n l).map Prod.snd).sum = share * l.length + min n l.length := by
  induction l generalizing n with
  | nil => cases n <;> simp [evenShares]
  | cons e l ih =>
    cases n with
    | zero => simp [evenShares, ih, Nat.mul_add]; omega
    | succ n => simp [evenShares, ih, Nat.mul_add]; omega

/-- Each zone of the set receives the share, and the first by zone number, as many as are left over, one step more. -/
theorem evenShares_rank (share n : Nat) (l : List (Nat × Nat)) (sorted : (l.map Prod.fst).Pairwise (· < ·)) {e : Nat × Nat} (mem : e ∈ l) :
    listedSteps (evenShares share n l) e.1 = share + if (l.filter (fun o => o.1 < e.1)).length < n then 1 else 0 := by
  induction l generalizing n with
  | nil => cases mem
  | cons a l ih =>
    rw [List.map_cons, List.pairwise_cons] at sorted
    rcases List.mem_cons.mp mem with rfl | mem
    · have first : (e :: l).filter (fun o => o.1 < e.1) = [] := by
        refine List.filter_eq_nil_iff.mpr fun o held => ?_
        rcases List.mem_cons.mp held with rfl | held
        · simp
        · have := sorted.1 o.1 (List.mem_map_of_mem held)
          simp; omega
      rw [first]
      cases n <;> simp [evenShares, listedSteps_cons]
    · have after : a.1 < e.1 := sorted.1 e.1 (List.mem_map_of_mem mem)
      have count : ((a :: l).filter (fun o => o.1 < e.1)).length = (l.filter (fun o => o.1 < e.1)).length + 1 := by
        rw [List.filter_cons_of_pos (by simpa using after), List.length_cons]
      rw [count]
      cases n with
      | zero => simp [evenShares, listedSteps_cons, after.ne, ih 0 sorted.2 mem]
      | succ n => simp [evenShares, listedSteps_cons, after.ne, ih n sorted.2 mem]

theorem evenShares_bound (share n : Nat) (l : List (Nat × Nat)) (z : Nat) : listedSteps (evenShares share n l) z ≤ share + 1 := by
  induction l generalizing n with
  | nil => cases n <;> exact Nat.zero_le _
  | cons e l ih =>
    cases n <;> simp only [evenShares, listedSteps_cons] <;> split
    · omega
    · exact ih 0
    · omega
    · exact ih _

/-! ## One level (R91, steps 1 to 3) -/

/-- What a level is given of a capacity `left`, its requests being `l`: `r.1` lists it and `r.2` remains. -/
structure LevelFilled (l : List (Nat × Nat)) (left : Nat) (r : List (Nat × Nat) × Nat) : Prop where
  keys : ∀ z ∈ r.1.map Prod.fst, z ∈ l.map Prod.fst
  spent : (l.map (fun e => listedSteps r.1 e.1)).sum + r.2 = left
  bound : ∀ e ∈ l, listedSteps r.1 e.1 ≤ e.2
  fits : sumRequests l ≤ left → ∀ e ∈ l, listedSteps r.1 e.1 = e.2
  exceeds : left < sumRequests l → r.2 = 0

theorem sumRequests_filter (l : List (Nat × Nat)) (share : Nat) :
    sumRequests (l.filter (fun e => e.2 ≤ share)) + sumRequests (l.filter (fun e => share < e.2)) = sumRequests l := by
  unfold sumRequests
  induction l with
  | nil => rfl
  | cons e l ih =>
    by_cases h : e.2 ≤ share
    · have : ¬share < e.2 := by omega
      simp [h, this]
      omega
    · have : share < e.2 := by omega
      simp [h, this]
      omega

/-- The requests that a share meets fit in that many shares. -/
theorem sumRequests_met (l : List (Nat × Nat)) (share : Nat) :
    sumRequests (l.filter (fun e => e.2 ≤ share)) ≤ share * (l.filter (fun e => e.2 ≤ share)).length := by
  unfold sumRequests
  induction l with
  | nil => simp
  | cons e l ih =>
    by_cases h : e.2 ≤ share
    · simp [h, Nat.mul_add]
      omega
    · simpa [h] using ih

theorem length_filter_share (l : List (Nat × Nat)) (share : Nat) :
    (l.filter (fun e => e.2 ≤ share)).length + (l.filter (fun e => share < e.2)).length = l.length := by
  induction l with
  | nil => rfl
  | cons e l ih =>
    by_cases h : e.2 ≤ share
    · have : ¬share < e.2 := by omega
      simp [h, this]
      omega
    · have : share < e.2 := by omega
      simp [h, this]
      omega

/-- Requests all above the share come to more than that many shares. -/
theorem lt_sumRequests {l : List (Nat × Nat)} {share : Nat} (none : l.filter (fun e => e.2 ≤ share) = []) :
    (share + 1) * l.length ≤ sumRequests l := by
  unfold sumRequests
  rw [List.filter_eq_nil_iff] at none
  induction l with
  | nil => simp
  | cons e l ih =>
    have head := none e (List.mem_cons_self ..)
    have rest := ih fun a mem => none a (List.mem_cons_of_mem _ mem)
    simp only [decide_eq_true_eq] at head
    simp only [List.length_cons, List.map_cons, List.sum_cons, Nat.mul_add]
    omega

/-- A sum over a list by the requests that a share meets and those that it does not. -/
theorem sum_filter_share (l : List (Nat × Nat)) (share : Nat) (f : Nat × Nat → Nat) :
    ((l.filter (fun e => e.2 ≤ share)).map f).sum + ((l.filter (fun e => share < e.2)).map f).sum = (l.map f).sum := by
  induction l with
  | nil => rfl
  | cons e l ih =>
    by_cases h : e.2 ≤ share
    · have : ¬share < e.2 := by omega
      simp [h, this]
      omega
    · have : share < e.2 := by omega
      simp [h, this]
      omega

/-- The steps of a level met in part: a zone whose request the share meets has its request, and any other what the rounds after it
give. -/
theorem listedSteps_met {l : List (Nat × Nat)} (nodup : (l.map Prod.fst).Nodup) (share : Nat) (rest : List (Nat × Nat))
    {e : Nat × Nat} (mem : e ∈ l) :
    listedSteps (l.filter (fun e => e.2 ≤ share) ++ rest) e.1 = if e.2 ≤ share then e.2 else listedSteps rest e.1 := by
  have sub : ((l.filter (fun e => e.2 ≤ share)).map Prod.fst).Nodup := nodup.sublist (List.filter_sublist.map _)
  have unique : ∀ a ∈ l, a.1 = e.1 → a = e := fun a held same => List.inj_on_of_nodup_map nodup held mem same
  rw [listedSteps_append]
  split
  · next key =>
    obtain ⟨a, held, same⟩ := List.mem_map.mp key
    obtain ⟨inList, small⟩ := List.mem_filter.mp held
    obtain rfl := unique a inList same
    rw [if_pos (of_decide_eq_true small), listedSteps_mem sub held]
  · next key =>
    rw [if_neg]
    intro small
    exact key (List.mem_map_of_mem (List.mem_filter.mpr ⟨mem, decide_eq_true small⟩))

theorem fillLevel_filled {fuel : Nat} {left : Nat} {l : List (Nat × Nat)} (enough : l.length ≤ fuel)
    (nodup : (l.map Prod.fst).Nodup) : LevelFilled l left (fillLevel fuel left l) := by
  induction fuel generalizing left l with
  | zero =>
    obtain rfl : l = [] := List.length_eq_zero_iff.mp (Nat.le_zero.mp enough)
    exact ⟨fun _ h => h, by simp [fillLevel], nofun, fun _ => nofun, fun h => absurd h (Nat.not_lt_zero _)⟩
  | succ fuel ih =>
    unfold fillLevel
    split
    · next empty =>
      obtain rfl : l = [] := List.isEmpty_iff.mp empty
      exact ⟨fun _ h => h, by simp, nofun, fun _ => nofun, fun h => absurd h (Nat.not_lt_zero _)⟩
    · next some =>
      have pos : 0 < l.length := List.length_pos_iff.mpr fun e => some (by rw [e]; rfl)
      dsimp only
      generalize shareEq : left / l.length = share
      have shares : share * l.length ≤ left := shareEq ▸ Nat.div_mul_le_self left l.length
      have below : left < (share + 1) * l.length := by
        rw [← shareEq, Nat.mul_comm]
        exact Nat.lt_mul_div_succ left pos
      split
      · next none =>
        rw [List.isEmpty_iff] at none
        have more := lt_sumRequests none
        have large : ∀ e ∈ l, share < e.2 := fun e mem => by
          simpa using (List.filter_eq_nil_iff.mp none) e mem
        have keys := evenShares_fst share (left - share * l.length) l
        have values : (l.map (fun e => listedSteps (evenShares share (left - share * l.length) l) e.1)).sum = left := by
          have := map_listedSteps (keys ▸ nodup)
          rw [keys, List.map_map] at this
          rw [show (fun e : Nat × Nat => listedSteps (evenShares share (left - share * l.length) l) e.1)
            = listedSteps (evenShares share (left - share * l.length) l) ∘ Prod.fst from rfl, this, evenShares_sum]
          rw [Nat.add_mul] at below
          omega
        refine ⟨fun z h => keys ▸ h, by simpa using values, fun e mem => ?_, fun fits => absurd fits (by omega), fun _ => rfl⟩
        exact (evenShares_bound _ _ _ _).trans (large e mem)
      · next some =>
        have parts := length_filter_share l share
        have met := sumRequests_met l share
        have sums := sumRequests_filter l share
        have nonempty : 0 < (l.filter (fun e => e.2 ≤ share)).length := List.length_pos_iff.mpr fun e => some (by rw [e]; rfl)
        have afford : sumRequests (l.filter (fun e => e.2 ≤ share)) ≤ left := by
          refine met.trans (le_trans (Nat.mul_le_mul_left share ?_) shares)
          omega
        have sub : ((l.filter (fun e => share < e.2)).map Prod.fst).Nodup := nodup.sublist (List.filter_sublist.map _)
        have rest := ih (left := left - sumRequests (l.filter (fun e => e.2 ≤ share))) (l := l.filter (fun e => share < e.2))
          (by omega) sub
        generalize fillLevel fuel (left - sumRequests (l.filter (fun e => e.2 ≤ share))) (l.filter (fun e => share < e.2)) = r at rest
        have read := fun e (mem : e ∈ l) => listedSteps_met nodup share r.1 mem
        refine ⟨fun z h => ?_, ?_, fun e mem => ?_, fun fits e mem => ?_, fun more => rest.exceeds (by omega)⟩
        · rw [List.map_append, List.mem_append] at h
          rcases h with h | h
          · exact (List.filter_sublist.map _).subset h
          · exact (List.filter_sublist.map _).subset (rest.keys z h)
        · have low : ((l.filter (fun e => e.2 ≤ share)).map
              (fun e => listedSteps (l.filter (fun e => e.2 ≤ share) ++ r.1) e.1)).sum
                = sumRequests (l.filter (fun e => e.2 ≤ share)) := by
            unfold sumRequests
            refine congrArg List.sum (List.map_congr_left fun e mem => ?_)
            obtain ⟨mem, small⟩ := List.mem_filter.mp mem
            rw [read e mem, if_pos (of_decide_eq_true small)]
          have high : ((l.filter (fun e => share < e.2)).map
              (fun e => listedSteps (l.filter (fun e => e.2 ≤ share) ++ r.1) e.1)).sum
                = ((l.filter (fun e => share < e.2)).map (fun e => listedSteps r.1 e.1)).sum := by
            refine congrArg List.sum (List.map_congr_left fun e mem => ?_)
            obtain ⟨mem, large⟩ := List.mem_filter.mp mem
            have large := of_decide_eq_true large
            rw [read e mem, if_neg (by omega)]
          have spent := rest.spent
          rw [← sum_filter_share l share, low, high]
          dsimp only
          omega
        · rw [read e mem]
          split
          · exact le_refl _
          · next large => exact rest.bound e (List.mem_filter.mpr ⟨mem, decide_eq_true (by omega)⟩)
        · rw [read e mem]
          split
          · rfl
          · next large => exact rest.fits (by omega) e (List.mem_filter.mpr ⟨mem, decide_eq_true (by omega)⟩)

/-- Where the requests of a level exceed its capacity: the share and the leftover by which all of the capacity is given (R91). -/
def SharedOut (l : List (Nat × Nat)) (given : Nat → Nat) (share leftover : Nat) : Prop :=
  leftover < (l.filter (fun e => share < e.2)).length ∧ ∀ e ∈ l,
    (e.2 ≤ share → given e.1 = e.2)
    ∧ (share < e.2 → given e.1 = share + if (l.filter (fun o => share < o.2 && o.1 < e.1)).length < leftover then 1 else 0)

/-- The zones that a share no less than another does not meet are among those that the other does not. -/
theorem filter_share_le (l : List (Nat × Nat)) {share more : Nat} (le : share ≤ more) (p : Nat × Nat → Bool) :
    (l.filter (fun e => share < e.2)).filter (fun o => more < o.2 && p o) = l.filter (fun o => more < o.2 && p o) := by
  rw [List.filter_filter]
  refine List.filter_congr fun o _ => ?_
  by_cases h : more < o.2
  · have : share < o.2 := by omega
    simp [h, this]
  · simp [h]

theorem fillLevel_shares {fuel : Nat} {left : Nat} {l : List (Nat × Nat)} (enough : l.length ≤ fuel)
    (sorted : (l.map Prod.fst).Pairwise (· < ·)) (more : left < sumRequests l) :
    ∃ share leftover, left / l.length ≤ share ∧ SharedOut l (listedSteps (fillLevel fuel left l).1) share leftover := by
  have nodup : (l.map Prod.fst).Nodup := sorted.imp fun h => h.ne
  induction fuel generalizing left l with
  | zero =>
    obtain rfl : l = [] := List.length_eq_zero_iff.mp (Nat.le_zero.mp enough)
    exact absurd more (Nat.not_lt_zero _)
  | succ fuel ih =>
    unfold fillLevel
    split
    · next empty =>
      obtain rfl : l = [] := List.isEmpty_iff.mp empty
      exact absurd more (Nat.not_lt_zero _)
    · next some =>
      have pos : 0 < l.length := List.length_pos_iff.mpr fun e => some (by rw [e]; rfl)
      dsimp only
      generalize shareEq : left / l.length = share
      have shares : share * l.length ≤ left := shareEq ▸ Nat.div_mul_le_self left l.length
      have below : left < (share + 1) * l.length := by
        rw [← shareEq, Nat.mul_comm]
        exact Nat.lt_mul_div_succ left pos
      split
      · next none =>
        rw [List.isEmpty_iff] at none
        have large : ∀ e ∈ l, share < e.2 := fun e mem => by
          simpa using (List.filter_eq_nil_iff.mp none) e mem
        refine ⟨share, left - share * l.length, le_refl _, ?_, fun e mem => ⟨fun small => absurd (large e mem) (by omega), fun _ => ?_⟩⟩
        · rw [List.filter_eq_self.mpr fun e mem => decide_eq_true (large e mem)]
          rw [Nat.add_mul] at below
          omega
        · rw [evenShares_rank _ _ _ sorted mem]
          have all : l.filter (fun o => share < o.2 && o.1 < e.1) = l.filter (fun o => o.1 < e.1) :=
            List.filter_congr fun o held => by simp [large o held]
          rw [all]
      · next some =>
        have parts := length_filter_share l share
        have met := sumRequests_met l share
        have sums := sumRequests_filter l share
        have nonempty : 0 < (l.filter (fun e => e.2 ≤ share)).length := List.length_pos_iff.mpr fun e => some (by rw [e]; rfl)
        have sub : ((l.filter (fun e => share < e.2)).map Prod.fst).Pairwise (· < ·) := sorted.sublist (List.filter_sublist.map _)
        have afford : sumRequests (l.filter (fun e => e.2 ≤ share)) ≤ left := by
          refine met.trans (le_trans (Nat.mul_le_mul_left share ?_) shares)
          omega
        obtain ⟨more', leftover, least, few, given⟩ := ih
          (left := left - sumRequests (l.filter (fun e => e.2 ≤ share))) (l := l.filter (fun e => share < e.2))
          (by omega) sub (by omega) (sub.imp fun h => h.ne)
        have rises : share ≤ more' := by
          refine le_trans ((Nat.le_div_iff_mul_le ?_).mpr ?_) least
          · refine List.length_pos_iff.mpr fun e => ?_
            rw [e] at sums
            have : sumRequests [] = 0 := rfl
            omega
          · rw [← parts, Nat.mul_add] at shares
            omega
        have read := fun e (mem : e ∈ l) => listedSteps_met nodup share
          (fillLevel fuel (left - sumRequests (l.filter (fun e => e.2 ≤ share))) (l.filter (fun e => share < e.2))).1 mem
        have count := fun p => filter_share_le l rises p
        refine ⟨more', leftover, rises, ?_, fun e mem => ⟨fun small => ?_, fun large => ?_⟩⟩
        · have := count fun _ => true
          simp only [Bool.and_true] at this
          rw [← this]
          exact few
        · rw [read e mem]
          split
          · rfl
          · next large => exact (given e (List.mem_filter.mpr ⟨mem, decide_eq_true (by omega)⟩)).1 small
        · rw [read e mem, if_neg (by omega), ← count]
          exact (given e (List.mem_filter.mpr ⟨mem, decide_eq_true (by omega)⟩)).2 large

/-! ## The three levels -/

theorem levelSet_eq (pubs : List PubEntry) (p : Nat) : levelSet pubs p = (levelOf pubs p).map (fun e => (e.zone, e.request)) := rfl

theorem mem_levelOf {pubs : List PubEntry} {p : Nat} {e : PubEntry} :
    e ∈ levelOf pubs p ↔ e ∈ pubs ∧ e.priority = p ∧ 0 < e.request := by
  simp [levelOf]

theorem levelSet_sublist (pubs : List PubEntry) (p : Nat) :
    ((levelSet pubs p).map Prod.fst).Sublist (pubs.map PubEntry.zone) := by
  rw [levelSet_eq, List.map_map]
  exact List.filter_sublist.map _

/-- The capacity before a level, and what it is given. -/
def levelResult (pubs : List PubEntry) (p left : Nat) : List (Nat × Nat) × Nat :=
  fillLevel (levelSet pubs p).length left (levelSet pubs p)

/-- The capacity that the levels above `p` leave of `k` times 60 (R91). -/
def capacity (k : Nat) (pubs : List PubEntry) : Nat → Nat
  | 3 => k * 60
  | 2 => (levelResult pubs 3 (k * 60)).2
  | 1 => (levelResult pubs 2 (levelResult pubs 3 (k * 60)).2).2
  | _ => 0

/-- What a level is given of that capacity. -/
def levelGiven (k : Nat) (pubs : List PubEntry) (p : Nat) : List (Nat × Nat) × Nat := levelResult pubs p (capacity k pubs p)

theorem givenSteps_eq (k : Nat) (pubs : List PubEntry) (z : Nat) : givenSteps k pubs z
    = listedSteps ((levelGiven k pubs 3).1 ++ ((levelGiven k pubs 2).1 ++ ((levelGiven k pubs 1).1 ++ []))) z := rfl

theorem levelGiven_filled (k : Nat) {pubs : List PubEntry} (nodup : (pubs.map PubEntry.zone).Nodup) (p : Nat) :
    LevelFilled (levelSet pubs p) (capacity k pubs p) (levelGiven k pubs p) :=
  fillLevel_filled (le_refl _) (nodup.sublist (levelSet_sublist pubs p))

/-- A level lists none but its own zones. -/
theorem not_listed (k : Nat) {pubs : List PubEntry} (nodup : (pubs.map PubEntry.zone).Nodup) {e : PubEntry} (mem : e ∈ pubs) {q : Nat}
    (other : e ∉ levelOf pubs q) : e.zone ∉ (levelGiven k pubs q).1.map Prod.fst := by
  intro key
  have named := (levelGiven_filled k nodup q).keys _ key
  rw [levelSet_eq, List.map_map, List.mem_map] at named
  obtain ⟨a, held, same⟩ := named
  have : a = e := List.inj_on_of_nodup_map nodup (mem_levelOf.mp held).1 mem same
  exact other (this ▸ held)

/-- What a zone of a level is given is what its level lists. -/
theorem givenSteps_of_level (k : Nat) {pubs : List PubEntry} (nodup : (pubs.map PubEntry.zone).Nodup) {e : PubEntry} {p : Nat}
    (low : 1 ≤ p) (high : p ≤ 3) (mem : e ∈ levelOf pubs p) : givenSteps k pubs e.zone = listedSteps (levelGiven k pubs p).1 e.zone := by
  have others : ∀ q, q ≠ p → e.zone ∉ (levelGiven k pubs q).1.map Prod.fst := fun q ne =>
    not_listed k nodup (mem_levelOf.mp mem).1 fun held => ne ((mem_levelOf.mp held).2.1.symm.trans (mem_levelOf.mp mem).2.1)
  have step : ∀ q (m : List (Nat × Nat)), listedSteps ((levelGiven k pubs q).1 ++ m) e.zone
      = if e.zone ∈ (levelGiven k pubs q).1.map Prod.fst then listedSteps (levelGiven k pubs q).1 e.zone else listedSteps m e.zone :=
    fun q m => listedSteps_append _ m _
  rw [givenSteps_eq, step, step, step]
  have none : listedSteps [] e.zone = 0 := rfl
  have absent : ∀ q, e.zone ∉ (levelGiven k pubs q).1.map Prod.fst → listedSteps (levelGiven k pubs q).1 e.zone = 0 :=
    fun q => listedSteps_absent
  obtain rfl | rfl | rfl : p = 1 ∨ p = 2 ∨ p = 3 := by omega
  · rw [if_neg (others 3 (by decide)), if_neg (others 2 (by decide)), none]
    split
    · rfl
    · next key => exact (absent 1 key).symm
  · rw [if_neg (others 3 (by decide)), if_neg (others 1 (by decide)), none]
    split
    · rfl
    · next key => exact (absent 2 key).symm
  · rw [if_neg (others 2 (by decide)), if_neg (others 1 (by decide)), none]
    split
    · rfl
    · next key => exact (absent 3 key).symm

/-- A zone of no level is given nothing. -/
theorem givenSteps_of_none (k : Nat) {pubs : List PubEntry} (nodup : (pubs.map PubEntry.zone).Nodup) {e : PubEntry} (mem : e ∈ pubs)
    (none : ∀ p, 1 ≤ p → p ≤ 3 → e ∉ levelOf pubs p) : givenSteps k pubs e.zone = 0 := by
  have absent : ∀ p, 1 ≤ p → p ≤ 3 → e.zone ∉ (levelGiven k pubs p).1.map Prod.fst := fun p low high =>
    not_listed k nodup mem (none p low high)
  rw [givenSteps_eq]
  refine listedSteps_absent ?_
  simp only [List.map_append, List.mem_append, List.map_nil, List.not_mem_nil, or_false, not_or]
  exact ⟨absent 3 (by decide) (by decide), absent 2 (by decide) (by decide), absent 1 (by decide) (by decide)⟩

/-- What the zones of a level are given, in full. -/
theorem sum_level (k : Nat) {pubs : List PubEntry} (nodup : (pubs.map PubEntry.zone).Nodup) {p : Nat} (low : 1 ≤ p) (high : p ≤ 3) :
    ((levelOf pubs p).map (fun e => givenSteps k pubs e.zone)).sum + (levelGiven k pubs p).2 = capacity k pubs p := by
  have spent := (levelGiven_filled k nodup p).spent
  rw [levelSet_eq, List.map_map] at spent
  rw [← spent]
  congr 2
  exact List.map_congr_left fun e mem => givenSteps_of_level k nodup low high mem

theorem sumRequests_levelSet (pubs : List PubEntry) (p : Nat) :
    sumRequests (levelSet pubs p) = ((levelOf pubs p).map PubEntry.request).sum := by
  rw [levelSet_eq]
  unfold sumRequests
  rw [List.map_map]
  rfl

theorem givenSteps_le (k : Nat) {pubs : List PubEntry} (nodup : (pubs.map PubEntry.zone).Nodup) {e : PubEntry} (mem : e ∈ pubs) :
    givenSteps k pubs e.zone ≤ e.request := by
  by_cases level : ∃ p, 1 ≤ p ∧ p ≤ 3 ∧ e ∈ levelOf pubs p
  · obtain ⟨p, low, high, held⟩ := level
    rw [givenSteps_of_level k nodup low high held]
    exact (levelGiven_filled k nodup p).bound (e.zone, e.request) (by rw [levelSet_eq]; exact List.mem_map_of_mem held)
  · rw [givenSteps_of_none k nodup mem fun p low high held => level ⟨p, low, high, held⟩]
    exact Nat.zero_le _

/-- A sum over a publication of what is 0 outside the three levels, level by level. -/
theorem sum_levels (f : PubEntry → Nat) (l : List PubEntry)
    (none : ∀ e ∈ l, (e.request = 0 ∨ e.priority < 1 ∨ 3 < e.priority) → f e = 0) :
    (l.map f).sum = ((levelOf l 3).map f).sum + ((levelOf l 2).map f).sum + ((levelOf l 1).map f).sum := by
  induction l with
  | nil => rfl
  | cons e l ih =>
    have rest := ih fun a mem => none a (List.mem_cons_of_mem _ mem)
    have head := none e (List.mem_cons_self ..)
    unfold levelOf at *
    by_cases pos : 0 < e.request
    · by_cases three : e.priority = 3
      · simp [three, pos, rest]; omega
      · by_cases two : e.priority = 2
        · simp [two, pos, rest]; omega
        · by_cases one : e.priority = 1
          · simp [one, pos, rest]; omega
          · have zero := head (.inr (by omega))
            simp [three, two, one, rest, zero]
    · have zero := head (.inl (by omega))
      simp [pos, rest, zero]

/-- Nothing is given outside the three levels. -/
theorem givenSteps_outside (k : Nat) {pubs : List PubEntry} (nodup : (pubs.map PubEntry.zone).Nodup) {e : PubEntry} (mem : e ∈ pubs)
    (outside : e.request = 0 ∨ e.priority < 1 ∨ 3 < e.priority) : givenSteps k pubs e.zone = 0 := by
  refine givenSteps_of_none k nodup mem fun p low high held => ?_
  have := mem_levelOf.mp held
  omega

/-- A publication is given no more than `k` times 60 steps. -/
theorem givenSteps_sum (k : Nat) {pubs : List PubEntry} (nodup : (pubs.map PubEntry.zone).Nodup) :
    (pubs.map (fun e => givenSteps k pubs e.zone)).sum ≤ k * 60 := by
  rw [sum_levels _ pubs fun e mem outside => givenSteps_outside k nodup mem outside]
  have three := sum_level k nodup (p := 3) (by decide) (by decide)
  have two := sum_level k nodup (p := 2) (by decide) (by decide)
  have one := sum_level k nodup (p := 1) (by decide) (by decide)
  have c3 : capacity k pubs 3 = k * 60 := rfl
  have c2 : capacity k pubs 2 = (levelGiven k pubs 3).2 := rfl
  have c1 : capacity k pubs 1 = (levelGiven k pubs 2).2 := rfl
  omega

theorem allocation_eq (k m : Nat) (pubs : List PubEntry) (z : Nat) :
    allocation k m pubs z = if givenSteps k pubs z < m then 0 else givenSteps k pubs z := rfl

theorem allocation_le (k m : Nat) (pubs : List PubEntry) (z : Nat) : allocation k m pubs z ≤ givenSteps k pubs z := by
  rw [allocation_eq]
  split
  · exact Nat.zero_le _
  · exact le_refl _

theorem allocation_sum (k m : Nat) {pubs : List PubEntry} (nodup : (pubs.map PubEntry.zone).Nodup) :
    (pubs.map (fun e => allocation k m pubs e.zone)).sum ≤ k * 60 :=
  (List.sum_le_sum fun e _ => allocation_le k m pubs e.zone).trans (givenSteps_sum k nodup)

/-- The levels of the zones of a priority above `p`. -/
theorem levelOf_above (pubs : List PubEntry) (p : Nat) {q : Nat} (high : q ≤ 3) :
    levelOf (pubs.filter (fun e => p < e.priority && e.priority ≤ 3)) q = if p < q then levelOf pubs q else [] := by
  unfold levelOf
  rw [List.filter_filter]
  split
  · next above =>
    refine List.filter_congr fun e _ => ?_
    by_cases same : e.priority = q
    · simp [same, above, high]
    · simp [same]
  · next below =>
    refine List.filter_eq_nil_iff.mpr fun e _ => ?_
    simp only [Bool.and_eq_true, decide_eq_true_eq]
    rintro ⟨⟨rfl, -⟩, above, -⟩
    exact below above

/-- The capacity before a level is what the levels above it were not given. -/
theorem capacity_eq (k : Nat) {pubs : List PubEntry} (nodup : (pubs.map PubEntry.zone).Nodup) {p : Nat} (low : 1 ≤ p) (high : p ≤ 3) :
    capacity k pubs p = leftFor k pubs p := by
  have three := sum_level k nodup (p := 3) (by decide) (by decide)
  have two := sum_level k nodup (p := 2) (by decide) (by decide)
  have c3 : capacity k pubs 3 = k * 60 := rfl
  have c2 : capacity k pubs 2 = (levelGiven k pubs 3).2 := rfl
  have c1 : capacity k pubs 1 = (levelGiven k pubs 2).2 := rfl
  unfold leftFor
  rw [sum_levels _ (pubs.filter (fun e => p < e.priority && e.priority ≤ 3)) fun e mem outside =>
      givenSteps_outside k nodup (List.mem_filter.mp mem).1 outside,
    levelOf_above pubs p (q := 3) (by decide), levelOf_above pubs p (q := 2) (by decide),
    levelOf_above pubs p (q := 1) (by decide)]
  obtain rfl | rfl | rfl : p = 1 ∨ p = 2 ∨ p = 3 := by omega
  · simp only [Nat.reduceLT, if_true, if_false, List.map_nil, List.sum_nil]
    omega
  · simp only [Nat.reduceLT, if_true, if_false, List.map_nil, List.sum_nil]
    omega
  · simp only [Nat.reduceLT, if_false, List.map_nil, List.sum_nil]
    omega

/-! ## The rule of R91 in full -/

/-- Where a zone of a level is given fewer steps than it requests, the level leaves nothing. -/
theorem levelGiven_exhausted (k : Nat) {pubs : List PubEntry} (nodup : (pubs.map PubEntry.zone).Nodup) {e : PubEntry} {p : Nat}
    (low : 1 ≤ p) (high : p ≤ 3) (mem : e ∈ levelOf pubs p) (less : givenSteps k pubs e.zone < e.request) :
    (levelGiven k pubs p).2 = 0 := by
  have filled := levelGiven_filled k nodup p
  rw [givenSteps_of_level k nodup low high mem] at less
  have pair : (e.zone, e.request) ∈ levelSet pubs p := by rw [levelSet_eq]; exact List.mem_map_of_mem mem
  refine filled.exceeds (Nat.lt_of_not_le fun fits => ?_)
  have := filled.fits fits _ pair
  dsimp only at this
  omega

/-- A level with no capacity is given nothing. -/
theorem givenSteps_of_no_capacity (k : Nat) {pubs : List PubEntry} (nodup : (pubs.map PubEntry.zone).Nodup) {e : PubEntry} {p : Nat}
    (low : 1 ≤ p) (high : p ≤ 3) (mem : e ∈ levelOf pubs p) (none : capacity k pubs p = 0) : givenSteps k pubs e.zone = 0 := by
  have spent := sum_level k nodup low high
  have part := List.single_le_sum (l := (levelOf pubs p).map fun e => givenSteps k pubs e.zone) (fun _ _ => Nat.zero_le _)
    (givenSteps k pubs e.zone) (List.mem_map_of_mem mem)
  omega

/-- A level of which a zone is given less than its request leaves no capacity to a lower one. -/
theorem lower_not_given (k : Nat) {pubs : List PubEntry} (nodup : (pubs.map PubEntry.zone).Nodup) {top low : PubEntry}
    (topIn : top ∈ pubs) (lowIn : low ∈ pubs) (some : 1 ≤ low.priority) (lower : low.priority < top.priority)
    (most : top.priority ≤ 3) (less : givenSteps k pubs top.zone < top.request) : givenSteps k pubs low.zone = 0 := by
  by_cases level : low ∈ levelOf pubs low.priority
  · have none := levelGiven_exhausted k nodup (by omega) most (mem_levelOf.mpr ⟨topIn, rfl, by omega⟩) less
    refine givenSteps_of_no_capacity k nodup some (by omega) level ?_
    have two := sum_level k nodup (p := 2) (by decide) (by decide)
    have c2 : capacity k pubs 2 = (levelGiven k pubs 3).2 := rfl
    have c1 : capacity k pubs 1 = (levelGiven k pubs 2).2 := rfl
    obtain ⟨lowEq, topEq⟩ | ⟨lowEq, topEq⟩ | ⟨lowEq, topEq⟩ : low.priority = 1 ∧ top.priority = 2
        ∨ low.priority = 1 ∧ top.priority = 3 ∨ low.priority = 2 ∧ top.priority = 3 := by omega
    all_goals
      rw [topEq] at none
      rw [lowEq]
      omega
  · exact givenSteps_outside k nodup lowIn (.inl (by
      have := mt (fun pos => mem_levelOf.mpr ⟨lowIn, rfl, pos⟩) level
      omega))

/-- Where the requests of a level exceed its capacity, all of it is given, by a share and a leftover. -/
theorem level_shared (k : Nat) {pubs : List PubEntry} (sorted : (pubs.map PubEntry.zone).Pairwise (· < ·)) {p : Nat}
    (low : 1 ≤ p) (high : p ≤ 3) (more : leftFor k pubs p < ((levelOf pubs p).map PubEntry.request).sum) :
    ((levelOf pubs p).map (fun e => givenSteps k pubs e.zone)).sum = leftFor k pubs p
    ∧ ∃ share leftover : Nat, leftover < ((levelOf pubs p).filter (fun e => share < e.request)).length
      ∧ ∀ e ∈ levelOf pubs p,
        (e.request ≤ share → givenSteps k pubs e.zone = e.request)
        ∧ (share < e.request → givenSteps k pubs e.zone = share +
          if ((levelOf pubs p).filter (fun o => share < o.request && o.zone < e.zone)).length < leftover then 1 else 0) := by
  have nodup : (pubs.map PubEntry.zone).Nodup := sorted.imp fun h => h.ne
  rw [← capacity_eq k nodup low high] at more ⊢
  have exceeds : capacity k pubs p < sumRequests (levelSet pubs p) := by rwa [sumRequests_levelSet]
  have none := (levelGiven_filled k nodup p).exceeds exceeds
  have all := sum_level k nodup low high
  obtain ⟨share, leftover, -, few, given⟩ := fillLevel_shares (le_refl (levelSet pubs p).length)
    (sorted.sublist (levelSet_sublist pubs p)) exceeds
  refine ⟨by omega, share, leftover, ?_, fun e mem => ?_⟩
  · rw [levelSet_eq, List.filter_map, List.length_map] at few
    exact few
  · have shared := given (e.zone, e.request) (by rw [levelSet_eq]; exact List.mem_map_of_mem mem)
    have count : ((levelSet pubs p).filter (fun o => share < o.2 && o.1 < e.zone)).length
        = ((levelOf pubs p).filter (fun o => share < o.request && o.zone < e.zone)).length := by
      rw [levelSet_eq, List.filter_map, List.length_map]
      rfl
    rw [givenSteps_of_level k nodup low high mem]
    dsimp only at shared
    rwa [count] at shared

/-- Where the requests of a level fit its capacity, each zone is given its request. -/
theorem level_met (k : Nat) {pubs : List PubEntry} (nodup : (pubs.map PubEntry.zone).Nodup) {p : Nat} (low : 1 ≤ p) (high : p ≤ 3)
    (fits : ((levelOf pubs p).map PubEntry.request).sum ≤ leftFor k pubs p) {e : PubEntry} (mem : e ∈ levelOf pubs p) :
    givenSteps k pubs e.zone = e.request := by
  rw [← capacity_eq k nodup low high, ← sumRequests_levelSet] at fits
  rw [givenSteps_of_level k nodup low high mem]
  exact (levelGiven_filled k nodup p).fits fits (e.zone, e.request) (by rw [levelSet_eq]; exact List.mem_map_of_mem mem)

/-- Settles O30, level by level: each level of R91 spends what the one above it leaves, and leaves nothing where its requests exceed
that. -/
theorem allocationBounded : Obligations.AllocationBounded := by
  refine ⟨fun k m pubs nodup => ⟨fun e mem => ?_, fun z => ?_, allocation_sum k m nodup⟩,
    fun k pubs nodup top topIn low lowIn some lower most less => ?_, fun k m pubs sorted => ?_⟩
  · exact (allocation_le k m pubs e.zone).trans (givenSteps_le k nodup mem)
  · rw [allocation_eq]
    split
    · exact .inl rfl
    · exact .inr (by omega)
  · exact lower_not_given k nodup topIn lowIn some lower most less
  · have nodup : (pubs.map PubEntry.zone).Nodup := sorted.imp fun h => h.ne
    refine ⟨allocation_eq k m pubs, fun e mem none => givenSteps_outside k nodup mem (by omega), fun p low high => ⟨?_, ?_⟩⟩
    · exact fun fits e mem => level_met k nodup low high fits mem
    · exact level_shared k sorted low high

end Sys2Proof.Machine
end

section
/-! SUPPORT. Proofs/Budget.lean: the packing of a frame (R94): no step has more lanes open than the frame has, and each zone is open for
its allocation; and what stores a frame. -/

namespace Sys2Proof.Machine

/-! ## The order of packing -/

theorem mem_packOrder {l : List FrameEntry} {e : FrameEntry} :
    e ∈ packOrder l ↔ e ∈ l ∧ 0 < e.allocation ∧ e.priority ≤ 3 := by
  simp only [packOrder, List.mem_append, List.mem_filter, Bool.and_eq_true, decide_eq_true_eq]
  constructor
  · rintro (((⟨mem, at_, pos⟩ | ⟨mem, at_, pos⟩) | ⟨mem, at_, pos⟩) | ⟨mem, at_, pos⟩) <;> exact ⟨mem, pos, by omega⟩
  · rintro ⟨mem, pos, low⟩
    obtain at_ | at_ | at_ | at_ : e.priority = 3 ∨ e.priority = 2 ∨ e.priority = 1 ∨ e.priority = 0 := by omega
    · exact .inl (.inl (.inl ⟨mem, at_, pos⟩))
    · exact .inl (.inl (.inr ⟨mem, at_, pos⟩))
    · exact .inl (.inr ⟨mem, at_, pos⟩)
    · exact .inr ⟨mem, at_, pos⟩

theorem packOrder_sum (l : List FrameEntry) : ((packOrder l).map FrameEntry.allocation).sum ≤ (l.map FrameEntry.allocation).sum := by
  unfold packOrder
  induction l with
  | nil => exact Nat.zero_le _
  | cons e l ih =>
    simp only [List.map_append, List.sum_append, List.map_cons, List.sum_cons] at ih ⊢
    by_cases pos : 0 < e.allocation
    · by_cases three : e.priority = 3
      · simp [three, pos]; omega
      · by_cases two : e.priority = 2
        · simp [two, pos]; omega
        · by_cases one : e.priority = 1
          · simp [one, pos]; omega
          · by_cases zero : e.priority = 0
            · simp [zero, pos]; omega
            · simp [three, two, one, zero]; omega
    · simp [pos]; omega

/-! ## The lanes open at a step -/

/-- The zones, laid end to end from a cursor, that are open at a step. -/
def opened (step : Nat) : Nat → List FrameEntry → List Nat
  | _, [] => []
  | cursor, e :: rest => (if (step + Config.frameSteps - cursor % Config.frameSteps) % Config.frameSteps < e.allocation then [e.zone] else [])
      ++ opened step (cursor + e.allocation) rest

/-- The lanes that the packing has passed at a step once its cursor is `c`. -/
def lanesPassed (step c : Nat) : Nat := (c + 59 - step) / 60

/-- Each zone open at a step is one more lane passed there. -/
theorem opened_length {step : Nat} (inFrame : step < 60) (cursor : Nat) (l : List FrameEntry) :
    lanesPassed step cursor + (opened step cursor l).length ≤ lanesPassed step (cursor + (l.map FrameEntry.allocation).sum) := by
  induction l generalizing cursor with
  | nil => exact le_refl _
  | cons e l ih =>
    have rest := ih (cursor + e.allocation)
    have here : lanesPassed step cursor
        + (if (step + 60 - cursor % 60) % 60 < e.allocation then [e.zone] else []).length ≤ lanesPassed step (cursor + e.allocation) := by
      unfold lanesPassed
      split <;> simp only [List.length_cons, List.length_nil] <;> omega
    rw [List.map_cons, List.sum_cons, ← Nat.add_assoc]
    unfold opened
    rw [List.length_append]
    exact le_trans (by rw [← Nat.add_assoc]; exact Nat.add_le_add_right here _) rest

/-- A zone laid down at a cursor is among those open at a step where its allocation reaches it. -/
theorem mem_opened {step cursor z place : Nat} {l : List FrameEntry} (mem : (z, place) ∈ packFrom cursor l) :
    ∃ e ∈ l, e.zone = z ∧ ((step + Config.frameSteps - place % Config.frameSteps) % Config.frameSteps < e.allocation →
      z ∈ opened step cursor l) := by
  induction l generalizing cursor with
  | nil => cases mem
  | cons e l ih =>
    rcases List.mem_cons.mp mem with same | mem
    · obtain ⟨rfl, rfl⟩ := Prod.mk.inj same
      refine ⟨e, List.mem_cons_self .., rfl, fun opens => ?_⟩
      unfold opened
      rw [if_pos opens]
      exact List.mem_append_left _ (List.mem_singleton_self _)
    · obtain ⟨a, held, zone, opens⟩ := ih mem
      refine ⟨a, List.mem_cons_of_mem _ held, zone, fun reach => ?_⟩
      unfold opened
      exact List.mem_append_right _ (opens reach)

theorem packFrom_fst (cursor : Nat) (l : List FrameEntry) : (packFrom cursor l).map Prod.fst = l.map FrameEntry.zone := by
  induction l generalizing cursor with
  | nil => rfl
  | cons e l ih => simp [packFrom, ih]

/-! ## The frame made for a publication -/

/-- The entry of a zone before the packing (R89, R91, R92). -/
def allotted (k m : Nat) (pubs : List PubEntry) (e : PubEntry) : FrameEntry :=
  { zone := e.zone, priority := e.priority, request := e.request, allocation := allocation k m pubs e.zone,
    trimmed := decide (allocation k m pubs e.zone < e.request), placement := none }

theorem makeFrame_entries (k m : Nat) (pubs : List PubEntry) :
    (makeFrame k m false pubs).entries = placeEntries (pubs.map (allotted k m pubs)) := rfl

/-- The packing of a publication's allocations (R94). -/
def packing (k m : Nat) (pubs : List PubEntry) : List (Nat × Nat) := packFrom 0 (packOrder (pubs.map (allotted k m pubs)))

/-- The entry of a zone with its place in the packing. -/
def placed (k m : Nat) (pubs : List PubEntry) (e : PubEntry) : FrameEntry :=
  { allotted k m pubs e with placement := ((packing k m pubs).find? (fun p => p.1 = e.zone)).map (fun p => placementOf p.2) }

/-- The entry that a frame has of a zone: that of the publication, with the zone's place in the packing. -/
theorem makeFrame_entry (k m : Nat) (pubs : List PubEntry) (z : Nat) :
    (makeFrame k m false pubs).entry z = (pubs.find? (fun e => e.zone = z)).map (placed k m pubs) := by
  have entries : (makeFrame k m false pubs).entries = pubs.map (placed k m pubs) := by
    rw [makeFrame_entries]
    exact List.map_map
  unfold Frame.entry
  rw [entries, List.find?_map]
  rfl

/-- A valve that the frame opens at a step is among those of the packing. -/
theorem openZones_subset (k m : Nat) {pubs : List PubEntry} (nodup : (pubs.map PubEntry.zone).Nodup) (step : Nat) :
    (makeFrame k m false pubs).openZones step ⊆ opened step 0 (packOrder (pubs.map (allotted k m pubs))) := by
  intro z mem
  have opens := (List.mem_filter.mp mem).2
  unfold Frame.openAt at opens
  rw [makeFrame_entry] at opens
  cases found : pubs.find? (fun e => e.zone = z) with
  | none => rw [found] at opens; exact absurd opens nofun
  | some e =>
    rw [found] at opens
    have zone : e.zone = z := by simpa using List.find?_some found
    have held := List.mem_of_find?_eq_some found
    subst zone
    simp only [Option.map_some, placed, FrameEntry.openAt] at opens
    cases place : (packing k m pubs).find? (fun p => p.1 = e.zone) with
    | none => rw [place] at opens; exact absurd opens nofun
    | some p =>
      rw [place] at opens
      obtain ⟨z, cursor⟩ := p
      obtain rfl : z = e.zone := by simpa using List.find?_some place
      obtain ⟨a, listed, named, reach⟩ := mem_opened (step := step) (List.mem_of_find?_eq_some place)
      obtain ⟨e', held', rfl⟩ := List.mem_map.mp (mem_packOrder.mp listed).1
      have same : e' = e := List.inj_on_of_nodup_map nodup held' held named
      refine reach ?_
      rw [same]
      exact of_decide_eq_true opens

/-- No step of a frame has more valves open than its budget (R94, R95). -/
theorem makeFrame_budgeted (k m : Nat) (inhibit : Bool) {pubs : List PubEntry} (nodup : (pubs.map PubEntry.zone).Nodup) {step : Nat}
    (inFrame : step < Config.frameSteps) : ((makeFrame k m inhibit pubs).openZones step).length ≤ k := by
  cases inhibit with
  | true =>
    have closed : ∀ z, (makeFrame k m true pubs).openAt step z = false := fun z => by
      unfold Frame.openAt
      split
      · next e found =>
        obtain ⟨a, -, rfl⟩ := List.mem_map.mp (List.mem_of_find?_eq_some found)
        rfl
      · rfl
    unfold Frame.openZones
    rw [List.filter_eq_nil_iff.mpr fun z _ => by simp [closed z]]
    exact Nat.zero_le _
  | false =>
    have few := List.Subperm.length_le ((List.nodup_range.filter _).subperm (openZones_subset k m nodup step))
    have total : ((pubs.map (allotted k m pubs)).map FrameEntry.allocation).sum ≤ k * 60 := by
      rw [List.map_map]
      exact allocation_sum k m nodup
    have packed := packOrder_sum (pubs.map (allotted k m pubs))
    have lanes := opened_length inFrame 0 (packOrder (pubs.map (allotted k m pubs)))
    have small : step < 60 := inFrame
    unfold lanesPassed at lanes
    change ((makeFrame k m false pubs).openZones step).length ≤ _ at few
    omega

/-! ## Each valve is open for its allocation -/

theorem count_range_lt (a n : Nat) : ((List.range n).filter (fun x => x < a)).length = min a n := by
  induction n with
  | zero => simp
  | succ n ih =>
    rw [List.range_succ, List.filter_append, List.length_append, ih]
    by_cases h : n < a
    · simp [h]; omega
    · simp [h]; omega

/-- The steps that lie less than `a` after one of the frame, going round, are `a` of them, or all. -/
theorem count_opens {first : Nat} (inFrame : first < 60) (a : Nat) :
    ((List.range 60).filter (fun step => (step + 60 - first) % 60 < a)).length = min a 60 := by
  have turned : ((List.range 60).map fun step => (step + 60 - first) % 60).Perm (List.range 60) := by
    refine List.Subperm.perm_of_length_le (List.Nodup.subperm ?_ ?_) (by simp)
    · refine List.nodup_range.map_on fun x hx y hy same => ?_
      rw [List.mem_range] at hx hy
      omega
    · intro x mem
      obtain ⟨y, -, rfl⟩ := List.mem_map.mp mem
      exact List.mem_range.mpr (Nat.mod_lt _ (by decide))
  have same := (turned.filter (fun x => x < a)).length_eq
  rw [List.filter_map, List.length_map, count_range_lt] at same
  exact same

theorem allocation_absent (k m : Nat) {pubs : List PubEntry} (nodup : (pubs.map PubEntry.zone).Nodup) {z : Nat}
    (absent : z ∉ pubs.map PubEntry.zone) : allocation k m pubs z = 0 := by
  have none : ∀ p, z ∉ (levelGiven k pubs p).1.map Prod.fst := fun p mem =>
    absent ((levelSet_sublist pubs p).subset ((levelGiven_filled k nodup p).keys z mem))
  have zero : givenSteps k pubs z = 0 := by
    rw [givenSteps_eq]
    refine listedSteps_absent ?_
    simp only [List.map_append, List.mem_append, List.map_nil, List.not_mem_nil, or_false, not_or]
    exact ⟨none 3, none 2, none 1⟩
  rw [allocation_eq, zero]
  split <;> rfl

/-- A zone given steps has its place in the packing. -/
theorem placed_of_allotted (k m : Nat) {pubs : List PubEntry} (nodup : (pubs.map PubEntry.zone).Nodup) {e : PubEntry} (mem : e ∈ pubs)
    (some : 0 < allocation k m pubs e.zone) :
    ∃ place, (packing k m pubs).find? (fun p => p.1 = e.zone) = Option.some (e.zone, place) := by
  have given := Nat.lt_of_lt_of_le some (allocation_le k m pubs e.zone)
  have ranked : e.priority ≤ 3 := by
    by_contra above
    exact absurd (givenSteps_outside k nodup mem (by omega)) (by omega)
  have listed : allotted k m pubs e ∈ packOrder (pubs.map (allotted k m pubs)) :=
    mem_packOrder.mpr ⟨List.mem_map_of_mem mem, some, ranked⟩
  have key : e.zone ∈ (packing k m pubs).map Prod.fst := by
    unfold packing
    rw [packFrom_fst]
    exact List.mem_map_of_mem (f := FrameEntry.zone) listed
  obtain ⟨p, held, same⟩ := List.mem_map.mp key
  cases found : (packing k m pubs).find? (fun p => p.1 = e.zone) with
  | none => exact absurd (List.find?_eq_none.mp found p held) (by simp [same])
  | some q =>
    have named : q.1 = e.zone := by simpa using List.find?_some found
    exact ⟨q.2, by rw [← named]⟩

/-- The valve of a zone is open for its allocation, within the 60 steps of a frame (R94). -/
theorem makeFrame_opens (k m : Nat) {pubs : List PubEntry} (z : Nat) (nodup : (pubs.map PubEntry.zone).Nodup) :
    ((List.range 60).filter (fun step => (makeFrame k m false pubs).openAt step z)).length = min (allocation k m pubs z) 60 := by
  unfold Frame.openAt
  rw [makeFrame_entry]
  cases found : pubs.find? (fun e => e.zone = z) with
  | none =>
    rw [allocation_absent k m nodup fun mem => by
      obtain ⟨e, held, zone⟩ := List.mem_map.mp mem
      exact absurd (List.find?_eq_none.mp found e held) (by simp [zone])]
    simp
  | some e =>
    have zone : e.zone = z := by simpa using List.find?_some found
    subst zone
    by_cases given : 0 < allocation k m pubs e.zone
    · obtain ⟨place, at_⟩ := placed_of_allotted k m nodup (List.mem_of_find?_eq_some found) given
      have opens : ∀ step, (placed k m pubs e).openAt step = decide ((step + 60 - place % 60) % 60 < allocation k m pubs e.zone) :=
        fun step => by
          unfold placed
          rw [at_]
          rfl
      simp only [Option.map_some, opens]
      exact count_opens (Nat.mod_lt place (by decide)) _
    · have none : allocation k m pubs e.zone = 0 := by omega
      have shut : ∀ step, (placed k m pubs e).openAt step = false := fun step => by
        unfold FrameEntry.openAt
        split
        · show decide (_ < allocation k m pubs e.zone) = false
          simp [none]
        · rfl
      simp only [Option.map_some, shut, none]
      rfl

/-! ## What stores a frame -/

theorem State.publication_zones (s : State) : s.publication.map PubEntry.zone = List.range Config.zones := by
  unfold State.publication
  rw [List.map_map]
  exact List.map_id _

theorem State.budgetRight.of_same {s t : State} (right : s.budgetRight) (prepared : t.sha.prepared = s.sha.prepared)
    (running : t.sha.running = s.sha.running) : t.budgetRight := by
  unfold State.budgetRight
  rw [prepared, running]
  exact right

theorem State.budgetRight.of_none {s : State} (prepared : s.sha.prepared = none) (running : s.sha.running = none) : s.budgetRight := by
  unfold State.budgetRight
  rw [prepared, running]
  rintro f (held | ⟨_, held⟩) <;> exact absurd held nofun

/-- The frame prepared for the sixteen zones is within its budget. -/
theorem State.prepareFrame_budget {s t : State} (zones : (t.publication.map PubEntry.zone).Nodup) (right : s.budgetRight) :
    (s.prepareFrame t.publication).budgetRight := by
  have framed : ({ s with sha := { s.sha.applyPending with prepared := some (makeFrame s.sha.applyPending.k s.sha.applyPending.minOpen
      s.sha.applyPending.inhibit t.publication) } } : State).budgetRight := by
    rintro f (held | held) step inFrame
    · obtain rfl := Option.some.inj held
      exact makeFrame_budgeted _ _ _ zones inFrame
    · exact right f (.inr held) step inFrame
  unfold State.prepareFrame
  dsimp only
  split
  · obtain ⟨_, _, _, e⟩ := State.postEvent_only { s with sha := _ } .PL .heatTrimmed .none
    rw [e]
    exact framed.of_same rfl rfl
  · exact framed

/-- `t` differs from `s` at most in the beds and the condition unit. -/
def State.bedsOnly (s t : State) : Prop := ∃ e c, t = { s with beds := e, cnd := c }

theorem State.bedsOnly.refl (s : State) : s.bedsOnly s := ⟨_, _, rfl⟩

theorem State.bedsOnly.trans {s t u : State} (h : s.bedsOnly t) (g : t.bedsOnly u) : s.bedsOnly u := by
  obtain ⟨_, _, rfl⟩ := h
  obtain ⟨_, _, rfl⟩ := g
  exact ⟨_, _, rfl⟩

theorem State.setsOnly.bedsOnly {s t : State} (h : s.setsOnly t) : s.bedsOnly t := by
  obtain ⟨_, _, _, rfl⟩ := h
  exact ⟨_, _, rfl⟩

theorem State.becomeReady_beds (s : State) (b : Nat) : s.bedsOnly (s.becomeReady b) :=
  (State.bedsOnly.trans (t := s.setBed b { s.bed b with state := .ready }) ⟨_, _, rfl⟩
    (State.postEvent_only _ .PL .bedReady (.bed b)).bedsOnly).trans ⟨_, _, rfl⟩

theorem State.evaluateCooling_beds (s : State) (b : Nat) : s.bedsOnly (s.evaluateCooling b) := by
  unfold State.evaluateCooling
  split
  · exact s.becomeReady_beds b
  · exact .refl s

/-- The evaluation of a bed writes the bed records and the condition unit alone (R26). -/
theorem State.evaluateBed_beds (s : State) (b : Nat) : s.bedsOnly (s.evaluateBed b) := by
  unfold State.evaluateBed
  split
  case h_1 =>
    split
    · split
      · exact s.becomeReady_beds b
      · exact .refl s
    · split
      · exact State.bedsOnly.trans ⟨_, _, rfl⟩ (State.evaluateCooling_beds _ b)
      · exact .refl s
  case h_2 =>
    split
    · exact .refl s
    · exact s.evaluateCooling_beds b
  case h_3 => exact .refl s

theorem State.evaluateBeds_beds (s : State) : s.bedsOnly s.evaluateBeds := by
  unfold State.evaluateBeds
  exact foldl_keeps State.bedsOnly.refl State.bedsOnly.trans State.evaluateBed_beds _ s

theorem State.handStage_beds (s : State) (z : Nat) : s.bedsOnly (s.handStage z) := by
  unfold State.handStage
  split
  · exact s.evaluateBed_beds _
  · exact .refl s

theorem State.handStages_beds (l : List Nat) (s : State) : s.bedsOnly (l.foldl State.handStage s) :=
  foldl_keeps State.bedsOnly.refl State.bedsOnly.trans State.handStage_beds l s

theorem State.bedsOnly.budget {s t : State} (h : s.bedsOnly t) (right : s.budgetRight) : t.budgetRight := by
  obtain ⟨_, _, rfl⟩ := h
  exact right.of_same rfl rfl

theorem State.zoneStep_budget {s : State} (right : s.budgetRight) : s.zoneStep.budgetRight := by
  have stepped : s.zonesStepped.budgetRight := right.of_same rfl rfl
  unfold State.zoneStep
  dsimp only
  refine (State.handStages_beds _ _).budget (State.prepareFrame_budget ?_ stepped)
  rw [State.publication_zones]
  exact List.nodup_range

theorem State.enterConversion_budget {s : State} (n : Nat) (e : ScanEntry) (right : s.budgetRight) :
    (s.enterConversion n e).budgetRight := by
  unfold State.enterConversion
  dsimp only
  split
  · exact right.of_same rfl rfl
  · obtain ⟨v, ⟨_, _, rfl⟩, e⟩ := State.completeScan_parts { s with pcv := _ }
    rw [e]
    unfold State.handScan
    exact State.zoneStep_budget ((State.evaluateBeds_beds _).budget (right.of_same rfl rfl))

theorem State.discardConversion_budget {s : State} (right : s.budgetRight) : s.discardConversion.budgetRight := by
  unfold State.discardConversion
  split
  · exact State.enterConversion_budget _ _ right
  · exact right

theorem State.ProbeAct.budget {s t : State} (act : s.ProbeAct t) (right : s.budgetRight) : t.budgetRight := by
  cases act with
  | trim n v =>
    unfold State.setTrim
    dsimp only
    split
    · split
      · exact State.discardConversion_budget (right.of_same rfl rfl)
      · exact right.of_same rfl rfl
    · exact right
  | sampleTime n => exact State.discardConversion_budget (right.of_same rfl rfl)
  | conversion n e => exact State.enterConversion_budget _ _ right
  | reference raw =>
    obtain ⟨_, _, e⟩ := s.checkReference_only raw
    rw [e]
    exact State.enterConversion_budget _ _ (right.of_same rfl rfl)

/-- A second moves a prepared frame to the running one, goes on with the running one, or ends it (R90). -/
theorem State.steamTick_budget {s : State} (right : s.budgetRight) : s.steamTick.budgetRight := by
  unfold State.steamTick
  split
  · next f prepared =>
    rintro g (held | ⟨n, held⟩)
    · exact absurd held nofun
    · obtain ⟨rfl, -⟩ := Prod.mk.inj (Option.some.inj held)
      exact right f (.inl prepared)
  · next prepared =>
    split
    · next f step runs =>
      split
      · rintro g (held | ⟨n, held⟩)
        · exact right g (.inl held)
        · obtain ⟨rfl, -⟩ := Prod.mk.inj (Option.some.inj held)
          exact right f (.inr ⟨step, runs⟩)
      · exact State.budgetRight.of_none prepared rfl
    · exact right

theorem State.countSecond_budget (s : State) : s.budgetRight → s.countSecond.budgetRight := by
  refine State.countSecond_follows (R := fun s t => s.budgetRight → t.budgetRight) (fun _ h => h) (fun f g h => g (f h))
    (fun _ h => h.of_same rfl rfl) (fun _ => State.steamTick_budget) (fun t h => ?_) (fun _ h => h.of_same rfl rfl) (fun t b h => ?_) s
  · obtain ⟨_, _, _, _, e⟩ := t.runwayTick_only
    rw [e]
    exact h.of_same rfl rfl
  · have written : t.bedsOnly (t.expirePermit b) := by
      unfold State.expirePermit
      split
      · exact (State.bedsOnly.trans ⟨_, _, rfl⟩ (State.postEvent_only _ .PL .permitExpired (.bed b)).bedsOnly).trans ⟨_, _, rfl⟩
      · exact .refl t
    exact written.budget h

theorem State.Does.budget {c : Instr} {s t : State} (h : s.Does c t) (right : s.budgetRight) : t.budgetRight := by
  cases h with
  | served _ act =>
    cases act with
    | nothing | clock | restart | lock => exact right.of_same rfl rfl
    | layout _ act => obtain ⟨_, _, _, _, _, _, _, rfl⟩ := act.only; exact right.of_same rfl rfl
    | profile n p => obtain ⟨_, e⟩ := s.writeProfile_only n p; rw [e]; exact right.of_same rfl rfl
    | table _ act => obtain ⟨_, _, _, _, rfl⟩ := act.only; exact right.of_same rfl rfl
    | steam _ act =>
      cases act with
      | heatOff => exact .of_none rfl rfl
      | heatOn | budget | minOpen => exact right.of_same rfl rfl
    | probe _ act => exact act.budget right
    | move _ act => obtain ⟨_, _, _, _, _, _, _, _, rfl⟩ := act.only; exact right.of_same rfl rfl
    | condition _ act => obtain ⟨_, rfl⟩ := act.only; exact right.of_same rfl rfl
  | chilled => exact .of_none rfl rfl
  | warmed =>
    obtain ⟨_, _, _, e⟩ := State.postEvent_only s.rewarmed .PL .restarted .none
    rw [State.warmed_eq, e]
    exact .of_none rfl rfl
  | hold h => obtain ⟨_, _, _, _, e⟩ := s.enterHold_only h; rw [e]; exact right.of_same rfl rfl
  | supplyLost => exact right.of_same rfl rfl
  | supply => exact right.of_same rfl rfl
  | second => exact s.countSecond_budget right
  | probe _ act => exact act.budget right

theorem State.LinkStep.budget {s t : State} (link : s.LinkStep t) (right : s.budgetRight) : t.budgetRight := by
  obtain ⟨_, _, _, rfl⟩ := link.only
  exact right.of_same rfl rfl

/-- Settles O59: the packing lays no more than `k` lanes of 60 steps, and a frame enters the allocator from the packing alone. -/
theorem noStepExceedsBudget : Obligations.NoStepExceedsBudget := by
  refine ⟨fun s t steps right => step_keeps (fun _ h => h) State.LinkStep.budget State.Does.budget steps right,
    fun k m pubs z nodup => ⟨?_, fun small => ?_⟩⟩
  · rw [makeFrame_opens k m z nodup]
    exact Nat.min_le_left _ _
  · rw [makeFrame_opens k m z nodup]
    by_cases listed : z ∈ pubs.map PubEntry.zone
    · obtain ⟨e, mem, rfl⟩ := List.mem_map.mp listed
      exact Nat.min_eq_left ((allocation_le k m pubs e.zone).trans ((givenSteps_le k nodup mem).trans (small e mem)))
    · rw [allocation_absent k m nodup listed]
      rfl

end Sys2Proof.Machine
end

section
/-! SUPPORT. Proofs/Tables.lean: the numbered tables in their canonical form, and the numbers by which records name other records, kept by
every single change and so by every act. -/

namespace Sys2Proof.Machine

/-! ## The invariant, field by field -/

/-- The tables in their canonical form, and the names in the part (R16, R37, R69, R141, R171). -/
structure State.Tabled (s : State) : Prop where
  segments : s.lyt.segments.wf {} Config.segments = true
  bedLayouts : s.lyt.beds.wf {} (Config.beds + 1) = true
  zoneLayouts : s.lyt.zones.wf {} Config.zones = true
  cellLayouts : s.lyt.cells.wf {} Config.cells = true
  bayLayouts : s.lyt.bays.wf {} 3 = true
  beds : s.beds.wf {} (Config.beds + 1) = true
  pieces : s.pct.wf {} Config.slots = true
  cells : s.stk.cells.wf {} Config.cells = true
  bays : s.stk.bays.wf {} 3 = true
  zones : s.zcu.zones.wf {} Config.zones = true
  profiles : s.zcu.profiles.wf {} Config.profiles = true
  channels : s.pcv.channels.wf {} Config.channels = true
  published : s.pcv.published.wf {} Config.channels = true
  record : s.pcv.record.wf none Config.channels = true
  valves : s.valves.wf .low Config.zones = true
  moves : s.mvu.moves.wf none Config.tableSlots = true
  vacates : s.rru.vacates.wf none Config.segments = true
  flags : s.cnd.flags.wf {} (Config.beds + 1) = true
  modes : ∀ p, (s.condSet p).modes.wf .both 16 = true
  slots : ∀ b p, (s.bed b).plan = some p → ∀ n ∈ p.slots, n < Config.slots
  places : ∀ i m, s.move i = some m → m.placesRight
  zoneBeds : ∀ z b, (s.zoneLayout z).bed = some b → b ≤ Config.beds
  polled : ∀ q, s.lnk.poll = some q → q.bed ≤ Config.beds

/-- The channel under conversion is one of the part's (R37). -/
def State.scansRight (s : State) : Prop := ∀ c, s.pcv.scan = .scanning c → c < Config.channels

theorem State.tabled_iff (s : State) : s.Tabled ∧ s.scansRight ↔ s.tablesRight ∧ s.namesRight := by
  constructor
  · rintro ⟨h, scans⟩
    exact ⟨⟨⟨h.segments, h.bedLayouts, h.zoneLayouts, h.cellLayouts, h.bayLayouts⟩, ⟨h.beds, h.pieces, h.cells, h.bays⟩,
      ⟨h.zones, h.profiles⟩, ⟨h.channels, h.published, h.record⟩, h.valves, ⟨h.moves, h.vacates⟩, h.flags, h.modes⟩,
      h.slots, h.places, h.zoneBeds, h.polled, scans⟩
  · rintro ⟨⟨⟨segments, bedLayouts, zoneLayouts, cellLayouts, bayLayouts⟩, ⟨beds, pieces, cells, bays⟩, ⟨zones, profiles⟩,
      ⟨channels, published, record⟩, valves, ⟨moves, vacates⟩, flags, modes⟩, slots, places, zoneBeds, polled, scans⟩
    exact ⟨⟨segments, bedLayouts, zoneLayouts, cellLayouts, bayLayouts, beds, pieces, cells, bays, zones, profiles, channels, published,
      record, valves, moves, vacates, flags, modes, slots, places, zoneBeds, polled⟩, scans⟩

/-- A canonical table has no record from its end on. -/
theorem Tab.lt_of_read_ne {α : Type} [DecidableEq α] {d : α} {n : Nat} {t : Tab α} (w : t.wf d n = true) {i : Nat}
    (h : t.read d i ≠ d) : i < n := by
  by_contra out
  exact h (Tab.read_of_wf d n 0 t w i (by omega))

/-- A record goes back to its cold-reset value. -/
theorem Tab.wf_erase {α : Type} [DecidableEq α] (d : α) (n : Nat) (t : Tab α) (i : Nat) (w : t.wf d n = true) :
    (t.write d i d).wf d n = true := by
  unfold Tab.wf Tab.write at *
  rw [if_pos rfl]
  exact Tab.wfFrom_drop d n i 0 t w

theorem Tab.wfFrom_more {α : Type} [DecidableEq α] (d : α) {n m : Nat} (le : n ≤ m) : ∀ (lo : Nat) (t : Tab α),
    t.wfFrom d n lo = true → t.wfFrom d m lo = true
  | _, [], _ => rfl
  | lo, (k, v) :: rest, w => by
    simp only [Tab.wfFrom, Bool.and_eq_true, decide_eq_true_eq] at w ⊢
    exact ⟨⟨⟨w.1.1.1, Nat.lt_of_lt_of_le w.1.1.2 le⟩, w.1.2⟩, Tab.wfFrom_more d le _ rest w.2⟩

namespace State.Tabled

variable {s : State}

theorem move_lt (h : s.Tabled) {i : Nat} {m : Move} (held : s.move i = some m) : i < Config.tableSlots :=
  Tab.lt_of_read_ne h.moves (by
    have read : s.mvu.moves.read none i = some m := held
    rw [read]
    nofun)

theorem bed_le (h : s.Tabled) {b : Nat} (stands : (s.bed b).state ≠ .empty) : b ≤ Config.beds :=
  Nat.lt_succ_iff.mp (Tab.lt_of_read_ne h.beds fun read => stands (congrArg Bed.state read))

theorem panelBed_le (h : s.Tabled) : s.panelBed ≤ Config.beds := by
  unfold State.panelBed
  cases polled : s.lnk.poll with
  | none => exact Nat.zero_le _
  | some q => exact h.polled q polled

/-! ## The setters -/

theorem setBed (h : s.Tabled) {b : Nat} {r : Bed} (bed : b ≤ Config.beds) (named : ∀ p, r.plan = some p → ∀ n ∈ p.slots, n < Config.slots) :
    (s.setBed b r).Tabled :=
  { h with
    beds := Tab.wf_write _ _ _ _ _ (Nat.lt_succ_of_le bed) h.beds
    slots := fun b' p plan n mem => by
      rw [State.bed_setBed] at plan
      split at plan
      · exact named p plan n mem
      · exact h.slots b' p plan n mem }

/-- A bed record that keeps its plan or loses it. -/
theorem setBed_kept (h : s.Tabled) {b : Nat} {r : Bed} (bed : b ≤ Config.beds) (plan : r.plan = (s.bed b).plan ∨ r.plan = none) :
    (s.setBed b r).Tabled := by
  refine h.setBed bed fun p held n mem => ?_
  rcases plan with same | none
  · exact h.slots b p (same.symm.trans held) n mem
  · exact absurd (none.symm.trans held) nofun

theorem setPiece (h : s.Tabled) {n : Nat} (r : Piece) (slot : n < Config.slots) : (s.setPiece n r).Tabled :=
  { h with pieces := Tab.wf_write _ _ _ _ _ slot h.pieces }

theorem freePiece (h : s.Tabled) (n : Nat) : (s.freePiece n).Tabled :=
  { h with pieces := Tab.wf_erase _ _ _ _ h.pieces }

theorem setCell (h : s.Tabled) {c : Nat} (r : Cell) (cell : c < Config.cells) : (s.setCell c r).Tabled :=
  { h with cells := Tab.wf_write _ _ _ _ _ cell h.cells }

theorem setBay (h : s.Tabled) {b : Nat} (r : Bay) (bay : b < 3) : (s.setBay b r).Tabled :=
  { h with bays := Tab.wf_write _ _ _ _ _ bay h.bays }

theorem setZone (h : s.Tabled) {z : Nat} (r : Zone) (zone : z < Config.zones) : (s.setZone z r).Tabled :=
  { h with zones := Tab.wf_write _ _ _ _ _ zone h.zones }

theorem setProfile (h : s.Tabled) {n : Nat} (r : Profile) (profile : n < Config.profiles) : (s.setProfile n r).Tabled :=
  { h with profiles := Tab.wf_write _ _ _ _ _ profile h.profiles }

theorem setChannel (h : s.Tabled) {c : Nat} (r : Channel) (channel : c < Config.channels) : (s.setChannel c r).Tabled :=
  { h with channels := Tab.wf_write _ _ _ _ _ channel h.channels }

theorem setFlags (h : s.Tabled) {b : Nat} (r : PanelFlags) (bed : b ≤ Config.beds) : (s.setFlags b r).Tabled :=
  { h with flags := Tab.wf_write _ _ _ _ _ (Nat.lt_succ_of_le bed) h.flags }

theorem setMove (h : s.Tabled) {i : Nat} {m : Move} (slot : i < Config.tableSlots) (places : m.placesRight) :
    (s.setMove i (some m)).Tabled :=
  { h with
    moves := Tab.wf_write none _ s.mvu.moves i (some m) slot h.moves
    places := fun i' m' held => by
      rw [State.move_setMove] at held
      split at held
      · exact Option.some.inj held ▸ places
      · exact h.places i' m' held }

theorem dropMove (h : s.Tabled) (i : Nat) : (s.setMove i none).Tabled :=
  { h with
    moves := Tab.wf_erase _ _ _ _ h.moves
    places := fun i' m' held => by
      rw [State.move_setMove] at held
      split at held
      · exact absurd held nofun
      · exact h.places i' m' held }

theorem setVacate (h : s.Tabled) {n : Nat} (r : Option Vacate) (segment : n < Config.segments) : (s.setVacate n r).Tabled :=
  { h with vacates := Tab.wf_write _ _ _ _ _ segment h.vacates }

theorem bumpGeneration (h : s.Tabled) : s.bumpGeneration.Tabled := { h with }

theorem setCrane (h : s.Tabled) (x : Crane) (r : CraneRec) : (s.setCrane x r).Tabled := by
  cases x <;> exact { h with }

theorem setWork (h : s.Tabled) (x : Crane) (r : CraneWork) : (s.setWork x r).Tabled := by
  cases x <;> exact { h with }

theorem setPort (h : s.Tabled) (p : Port) (r : PortRec) : (s.setPort p r).Tabled := by
  cases p <;> exact { h with }

theorem setCondSet (h : s.Tabled) {p : Point} {r : CondSet} (modes : r.modes.wf .both 16 = true) : (s.setCondSet p r).Tabled := by
  have kept : ∀ q, ((s.setCondSet p r).condSet q).modes.wf .both 16 = true := fun q => by
    rw [State.condSet_setCondSet]
    split
    · exact modes
    · exact h.modes q
  cases p <;> exact { h with modes := kept }

/-! ## Postings and the runway unit -/

theorem setStep (h : s.Tabled) {t : State} (step : s.SetStep t) : t.Tabled := by
  cases step with
  | post p k subj status raise =>
    refine h.setCondSet ?_
    have modes : (CondSet.post (setCapacity p) s.clk.minute k subj status raise (s.condSet p)).modes = (s.condSet p).modes := by
      unfold CondSet.post
      split
      · rfl
      · split <;> rfl
    rw [modes]
    exact h.modes p
  | settle k subj =>
    have modes : ∀ p, ((s.settled k subj).condSet p).modes = (s.condSet p).modes := fun p => by cases p <;> rfl
    exact { h with modes := fun p => (modes p) ▸ h.modes p }

theorem posts (h : s.Tabled) {t : State} (posted : s.posts t) : t.Tabled := by
  induction posted with
  | refl => exact h
  | tail _ step ih => exact ih.setStep step

/-- A fold over steps that keep the tables keeps them. -/
theorem foldl {α : Type} {f : State → α → State} {l : List α} (step : ∀ t a, a ∈ l → t.Tabled → (f t a).Tabled) (h : s.Tabled) :
    (l.foldl f s).Tabled := by
  induction l generalizing s with
  | nil => exact h
  | cons a l ih => exact ih (fun t b mem => step t b (List.mem_cons_of_mem _ mem)) (step s a (List.mem_cons_self ..) h)

theorem segments_lt {r : Range} {n : Nat} (mem : n ∈ r.segments) : n < Config.segments :=
  List.mem_range.mp (List.mem_filter.mp mem).1

theorem giveBack (h : s.Tabled) (x : Crane) (old new : Range) : (s.giveBack x old new).Tabled := by
  unfold State.giveBack
  refine foldl (fun t n mem tabled => ?_) h
  unfold State.startVacate
  split
  · exact tabled.setVacate _ (segments_lt (List.mem_filter.mp mem).1)
  · exact tabled

theorem shrinkTo (h : s.Tabled) (x : Crane) (r : Range) : (s.shrinkTo x r).Tabled := by
  unfold State.shrinkTo
  split
  · split
    · exact (h.giveBack x _ _).setCrane _ _
    · exact h
  · exact h

theorem endDeadlockOf (h : s.Tabled) (n : Nat) : (s.endDeadlockOf n).Tabled := by
  unfold State.endDeadlockOf State.endDeadlock
  split
  · split
    · refine Tabled.posts ?_ (State.posts_end _ _ _ _)
      exact { h with }
    · exact h
  · exact h

theorem grantInterval (h : s.Tabled) (x : Crane) (n : Nat) (need : Range) : (s.grantInterval x n need).Tabled := by
  unfold State.grantInterval
  dsimp only
  refine Tabled.endDeadlockOf (Tabled.setCrane (foldl (fun t a _ tabled => ?_) h) _ _) _
  unfold State.takeBack
  split
  · exact { tabled with vacates := Tab.wf_erase _ _ _ _ tabled.vacates }
  · exact tabled

end State.Tabled

/-! ## The move unit and the reports -/

theorem Move.follows.places {m m' : Move} (same : m.follows m') (right : m.placesRight) : m'.placesRight := by
  unfold Move.placesRight
  rw [same.piece, same.source, same.dest]
  exact right

theorem Move.placesRight.source {m : Move} (right : m.placesRight) :
    (∀ b, m.source = some (.bed b) → b ≤ Config.beds) ∧ ∀ c, m.source = some (.cell c) → c < Config.cells := by
  have source := right.2.1
  constructor
  all_goals
    intro n named
    rw [named] at source
    exact source

theorem Move.placesRight.dest {m : Move} (right : m.placesRight) :
    (∀ c, m.dest = .cell c → c < Config.cells) ∧ ∀ b, m.dest = .bay b → b < 3 := by
  have dest := right.2.2
  constructor
  all_goals
    intro n named
    rw [named] at dest
    first | exact dest | exact Nat.lt_succ_of_le dest

/-- The PARK that a yield makes (R157). -/
abbrev State.yieldRecord (s : State) (x : Crane) (target : Nat) : Move :=
  { serial := s.mvu.serial, crane := x, kind := .park, style := .normal, suspendable := false, piece := none,
    source := none, dest := .segment target, pick := none, place := target, state := .waiting, reason := none,
    stop := .none, origin := .generated }

theorem State.MoveStep.tabled {s t : State} (step : s.MoveStep t) (h : s.Tabled) : t.Tabled := by
  cases step with
  | posted step => exact h.setStep step
  | rewritten held same => exact h.setMove (h.move_lt held) (same.places (h.places _ _ held))
  | granted held verdict =>
    have places := h.places _ _ held
    exact State.Tabled.grantInterval (h.setMove (h.move_lt held) (by exact places)) _ _ _
  | left held => exact (h.dropMove _).setWork _ _
  | yields x target =>
    exact { h.setMove (i := yieldSlot x) (m := s.yieldRecord x target) (by cases x <;> decide) ⟨nofun, trivial, trivial⟩ with }
  | worked queue => exact h.setWork _ _
  | barred x => exact h.setWork _ _
  | craned _ _ => exact h.setCrane _ _
  | shrunk x r => exact h.shrinkTo x r
  | spaced _ _ => exact h.setCrane _ _
  | paired d => exact { h with }
  | pieced held named counts => exact h.setPiece _ ((h.places _ _ held).1 _ named)
  | celled r held named =>
    have places := h.places _ _ held
    exact h.setCell _ (named.elim (places.source.2 _) (places.dest.1 _))
  | bayed r held named => exact h.setBay _ ((h.places _ _ held).dest.2 _ named)
  | stripped n held named => exact h.setBed_kept ((h.places _ _ held).source.1 _ named) (.inl rfl)
  | bumped => exact { h with }

theorem State.moved.tabled {s t : State} (h : s.moved t) (tabled : s.Tabled) : t.Tabled := by
  induction h with
  | refl => exact tabled
  | tail _ step ih => exact step.tabled ih

/-- The fields of an accepted MOVE-SUBMIT name records of the part (R144). -/
theorem State.newMove_places {s : State} {f : MoveFields} (fields : firstBad (s.moveChecks f) = none) :
    (s.newMove f).placesRight := by
  rw [firstBad_eq_none] at fields
  simp only [State.moveChecks, List.mem_cons, List.not_mem_nil, or_false, forall_eq_or_imp, forall_eq] at fields
  obtain ⟨-, -, -, -, piece, -, source, -, dest⟩ := fields
  unfold Move.placesRight State.newMove pieceOfFields sourceOfFields destOfFields
  cases kind : moveKindOf f.kind <;> rw [kind] at piece source dest <;>
    simp_all [State.bedConfigured, State.cellInUse, State.bayConfigured]
  omega

theorem State.MoveAct.tabled {s t : State} (act : s.MoveAct t) (h : s.Tabled) : t.Tabled := by
  have counted : ∀ (u : State) (x : Crane), u.Tabled → (u.breached x).Tabled := fun u x tabled => by
    unfold State.breached
    dsimp only
    split
    · exact { tabled with }
    · refine State.Tabled.posts ?_ (State.posts_raise _ _ _ _)
      exact { tabled with }
  rcases act.cases with moved | ⟨x, n, k, moved⟩ | ⟨f, submitted⟩ | rfl
  · exact moved.tabled h
  · exact moved.tabled (counted _ x ((s.moved_approached x n k).tabled h))
  · cases submitted with
    | refused => exact h
    | accepted fields slot empty moved queue =>
      have taken : s.takeSerial.Tabled := { h with }
      exact (moved.tabled (taken.setMove (Nat.lt_of_lt_of_le slot (by decide)) (State.newMove_places fields))).setWork _ _
  · unfold State.clearBreach
    split
    · exact h
    · split
      · exact h
      · split
        · exact h
        · refine State.Tabled.posts ?_ (State.posts_end _ _ _ _)
          exact { h with }

/-! ## The bed table, the zones, the stock -/

namespace State.Tabled

variable {s : State}

theorem freePieces (h : s.Tabled) (l : List Nat) : (s.freePieces l).Tabled := by
  unfold State.freePieces
  exact foldl (fun t n _ tabled => tabled.freePiece n) h

theorem lowestFree_lt {n : Nat} (found : s.lowestFree = some n) : n < Config.slots :=
  List.mem_range.mp (List.mem_of_find?_eq_some found)

theorem takePlanned (h : s.Tabled) (b pour : Nat) (p : PieceSpec) :
    (s.takePlanned b pour p).1.Tabled ∧ ∀ n ∈ (s.takePlanned b pour p).2.toList, n < Config.slots := by
  unfold State.takePlanned
  split
  · next found =>
    refine ⟨h.setPiece _ (lowestFree_lt found), fun n mem => ?_⟩
    obtain rfl := List.mem_singleton.mp mem
    exact lowestFree_lt found
  · exact ⟨h, nofun⟩

theorem takeAll (h : s.Tabled) (b pour : Nat) (l : List PieceSpec) :
    (State.takeAll b pour l s).1.Tabled ∧ ∀ n ∈ (State.takeAll b pour l s).2, n < Config.slots := by
  induction l generalizing s with
  | nil => exact ⟨h, nofun⟩
  | cons p l ih =>
    obtain ⟨one, small⟩ := h.takePlanned b pour p
    obtain ⟨rest, smaller⟩ := ih one
    unfold State.takeAll
    refine ⟨rest, fun n mem => ?_⟩
    rcases List.mem_append.mp mem with mem | mem
    · exact small n mem
    · exact smaller n mem

theorem configured_le {b : Nat} (bed : ¬s.bedConfigured b = false) : b ≤ Config.beds := by
  rw [Bool.not_eq_false] at bed
  unfold State.bedConfigured at bed
  simp only [Bool.and_eq_true, decide_eq_true_eq] at bed
  exact bed.1.2

theorem loadPlan (h : s.Tabled) (b pour profile : Nat) (l : List PieceSpec) : (s.loadPlan b pour profile l).1.Tabled := by
  unfold State.loadPlan
  dsimp only
  split
  · exact h
  · next bed =>
    split
    · exact h
    · split
      · exact h
      · split
        · exact h
        · obtain ⟨taken, small⟩ := (h.freePieces (s.bed b).planSlots).takeAll b pour l
          refine taken.setBed (configured_le bed) fun p plan => ?_
          obtain rfl := Option.some.inj plan
          exact small

theorem clearPlan (h : s.Tabled) (b : Nat) : (s.clearPlan b).1.Tabled := by
  unfold State.clearPlan
  dsimp only
  split
  · exact h
  · next bed =>
    split
    · exact h
    · split
      · exact h
      · exact (h.freePieces _).setBed_kept (configured_le bed) (.inr rfl)

theorem setFollow (h : s.Tabled) (z : Nat) (lead : Option Nat) : (s.setFollow z lead).1.Tabled := by
  unfold State.setFollow
  split
  · exact h
  · next fields =>
    have zone : z < Config.zones := of_decide_eq_true ((firstBad_eq_none _).mp fields _ (List.mem_cons_self ..))
    repeat' split
    all_goals first
      | exact h
      | exact h.setZone _ zone

theorem bay_lt {b : Nat} (bay : ¬s.bayConfigured b = false) : b < 3 := by
  rw [Bool.not_eq_false] at bay
  unfold State.bayConfigured at bay
  simp only [Bool.and_eq_true, Bool.or_eq_true, decide_eq_true_eq] at bay
  omega

theorem openBay (h : s.Tabled) (b limit : Nat) : (s.openBay b limit).1.Tabled := by
  unfold State.openBay
  split
  · exact h
  · next bay =>
    split
    · exact h
    · split
      · exact h
      · exact h.setBay _ (bay_lt bay)

theorem closeBay (h : s.Tabled) (b first : Nat) : (s.closeBay b first).1.Tabled := by
  unfold State.closeBay
  dsimp only
  split
  · exact h
  · next bay =>
    repeat' split
    all_goals first
      | exact h
      | exact (h.setBay _ (bay_lt bay)).bumpGeneration

theorem placeRecord (h : s.Tabled) (c : Nat) (d : Desc) (acc : Nat) (ok : Bool) (m : Option Nat) :
    (s.placeRecord c d acc ok m).1.Tabled := by
  unfold State.placeRecord
  split
  · exact h
  · next fields =>
    have cell : c < Config.cells := of_decide_eq_true ((firstBad_eq_none _).mp fields _ (List.mem_cons_self ..))
    repeat' split
    all_goals first
      | exact h
      | next found => exact ((h.setCell _ cell).setPiece _ (lowestFree_lt found)).bumpGeneration

theorem removeRecord (h : s.Tabled) (c n : Nat) : (s.removeRecord c n).1.Tabled := by
  unfold State.removeRecord
  split
  · exact h
  · next used =>
    have cell : c < Config.cells := by
      rw [Bool.not_eq_false] at used
      unfold State.cellInUse at used
      simp only [Bool.and_eq_true, decide_eq_true_eq] at used
      exact used.1
    repeat' split
    all_goals first
      | exact h
      | exact ((h.setCell _ cell).freePiece _).bumpGeneration

theorem bedZone_lt {b z : Nat} (mem : z ∈ s.bedZones b) : z < Config.zones := List.mem_range.mp (List.mem_filter.mp mem).1

theorem castStart (h : s.Tabled) {b : Nat} (bed : b ≤ Config.beds) : (State.castStart b s).1.Tabled := by
  unfold State.castStart
  split
  · exact h
  · next p plan =>
    have cast := h.foldl (f := State.castPiece b s.clk.minute) (l := p.slots) fun t n mem tabled =>
      tabled.setPiece _ (h.slots b p plan n mem)
    exact cast.setBed_kept bed (.inl rfl)

theorem clearBed (h : s.Tabled) {b : Nat} (bed : b ≤ Config.beds) : (State.clearBed b s).1.Tabled := by
  unfold State.clearBed
  split
  · exact foldl (fun t z mem tabled => tabled.setZone _ (bedZone_lt mem)) (h.setBed_kept bed (.inr rfl))
  · exact h

end State.Tabled

theorem State.TableAct.tabled {c : Instr} {s t : State} (act : s.TableAct c t) (h : s.Tabled) : t.Tabled := by
  have bed := h.panelBed_le
  cases act with
  | planLoad => exact h.loadPlan _ _ _ _
  | planClear => exact h.clearPlan _
  | priority z p zone => exact h.setZone _ zone
  | follow => exact h.setFollow _ _
  | advance z zone => exact h.setZone _ zone
  | bayOpen => exact h.openBay _ _
  | bayClose => exact h.closeBay _ _
  | place => exact h.placeRecord _ _ _ _ _
  | remove => exact h.removeRecord _ _
  | cursor p n => cases p <;> exact { h with }
  | setupDone => exact h.setBed_kept bed (.inl rfl)
  | castStart => exact h.castStart bed
  | castEnd =>
    exact State.Tabled.foldl (fun t z mem tabled => tabled.setZone _ (State.Tabled.bedZone_lt mem)) (h.setBed_kept bed (.inl rfl))
  | pourAbort => exact (h.freePieces _).setBed_kept bed (.inr rfl)
  | release =>
    unfold State.requestRelease
    split
    · exact h
    · exact h.setBed_kept bed (.inl rfl)
  | strandsCut => exact h.setBed_kept bed (.inl rfl)
  | bedClear => exact h.clearBed bed

/-! ## The scan and its completion -/

namespace State.Tabled

variable {s : State}

theorem becomeReady (h : s.Tabled) {b : Nat} (bed : b ≤ Config.beds) : (s.becomeReady b).Tabled := by
  unfold State.becomeReady
  refine setFlags (posts (setBed_kept h bed ?_) (State.posts_event _ _ _ _)) _ bed
  exact .inl rfl

theorem evaluateCooling (h : s.Tabled) {b : Nat} (bed : b ≤ Config.beds) : (s.evaluateCooling b).Tabled := by
  unfold State.evaluateCooling
  split
  · exact h.becomeReady bed
  · exact h

theorem evaluateBed (h : s.Tabled) (b : Nat) : (s.evaluateBed b).Tabled := by
  unfold State.evaluateBed
  split
  · next state =>
    have bed := h.bed_le (b := b) (by rw [state]; nofun)
    split
    · split
      · exact h.becomeReady bed
      · exact h
    · split
      · refine evaluateCooling (setBed_kept h bed ?_) bed
        exact .inl rfl
      · exact h
  · next state =>
    have bed := h.bed_le (b := b) (by rw [state]; nofun)
    split
    · exact h
    · exact h.evaluateCooling bed
  · exact h

theorem mapZones (h : s.Tabled) (f : Nat → Zone → Zone) : (s.mapZones f).Tabled := { h with zones := Tab.wf_mapAll _ _ _ _ }

theorem prepareFrame (h : s.Tabled) (l : List PubEntry) : (s.prepareFrame l).Tabled := by
  unfold State.prepareFrame
  dsimp only
  split
  · refine posts ?_ (State.posts_event _ _ _ _)
    exact { h with }
  · exact { h with }

theorem zoneStep (h : s.Tabled) : s.zoneStep.Tabled := by
  have stepped : s.zonesStepped.Tabled := (((h.mapZones _).mapZones _).mapZones _).mapZones _
  unfold State.zoneStep
  dsimp only
  refine foldl (fun t z _ tabled => ?_) (stepped.prepareFrame _)
  unfold State.handStage
  split
  · exact tabled.evaluateBed _
  · exact tabled

theorem handScan (h : s.Tabled) : s.handScan.Tabled := by
  have updated : s.maturityUpdate.Tabled := { h with pieces := Tab.wf_mapAll _ _ _ _ }
  unfold State.handScan State.evaluateBeds
  exact (foldl (fun t b _ tabled => tabled.evaluateBed b) updated).zoneStep

theorem probeBed_le (h : s.Tabled) {c b : Nat} (named : s.probeBed c = some b) : b ≤ Config.beds := by
  unfold State.probeBed at named
  split at named
  · exact h.zoneBeds c b named
  · exact absurd named nofun

theorem probePosting (h : s.Tabled) (before : State) (c : Nat) : (State.probePosting before s c).Tabled := by
  unfold State.probePosting
  split
  · exact h
  · split
    · have posted := h.posts (s.posts_raise [.PL] .probeLost (.channel c))
      unfold State.probeLost
      dsimp only
      split
      · next named => exact posted.setFlags _ (h.probeBed_le named)
      · exact posted
    · split
      · have posted := h.posts (s.posts_end [.PL] .probeLost (.channel c))
        unfold State.probeFound State.unflagProbeLost
        dsimp only
        split
        · next named =>
          split
          · exact posted
          · exact posted.setFlags _ (h.probeBed_le named)
        · exact posted
      · exact h

theorem completeScan (h : s.Tabled) : s.completeScan.Tabled := by
  have updated : s.channelsUpdated.Tabled := { h with channels := Tab.wf_build _ _ _ }
  unfold State.completeScan
  dsimp only
  have posted := foldl (f := State.probePosting s) (l := List.range Config.channels) (fun t c _ tabled => tabled.probePosting s c) updated
  generalize (List.range Config.channels).foldl (State.probePosting s) s.channelsUpdated = t at posted
  exact handScan { posted with
    record := rfl
    published := Tab.wfFrom_more _ (by decide) _ _ (Tab.wf_build _ _ _) }

theorem enterConversion (h : s.Tabled) {n : Nat} (channel : n < Config.channels) (e : ScanEntry) : (s.enterConversion n e).Tabled := by
  have written := Tab.wf_write none _ s.pcv.record n (some e) channel h.record
  unfold State.enterConversion
  dsimp only
  split
  · exact { h with record := written }
  · refine completeScan ?_
    exact { h with record := written }

theorem discardConversion (h : s.Tabled) (scans : s.scansRight) : s.discardConversion.Tabled := by
  unfold State.discardConversion
  split
  · next n scan => exact h.enterConversion (scans n scan) _
  · exact h

theorem expirePermit (h : s.Tabled) (b : Nat) : (s.expirePermit b).Tabled := by
  unfold State.expirePermit
  split
  · next due =>
    have stands : (s.bed b).state = .permitted := of_decide_eq_true (Bool.and_eq_true_iff.mp due).1
    have bed := h.bed_le (b := b) (by rw [stands]; nofun)
    refine setFlags (posts (setBed_kept h bed ?_) (State.posts_event _ _ _ _)) _ bed
    exact .inl rfl
  · exact h

theorem tickPresence (h : s.Tabled) (x : Crane) : (s.tickPresence x).Tabled := by
  unfold State.tickPresence
  dsimp only
  split
  · split
    · split
      · exact (h.setCrane x _).posts (State.posts_raise _ _ _ _)
      · exact h.setCrane x _
    · exact h
  · exact h

theorem steamTick (h : s.Tabled) : s.steamTick.Tabled := by
  unfold State.steamTick
  split
  · exact { h with valves := Tab.wf_build _ _ _ }
  · split
    · split <;> exact { h with valves := Tab.wf_build _ _ _ }
    · exact h

theorem runwayTick (h : s.Tabled) : s.runwayTick.Tabled := by
  unfold State.runwayTick
  exact { (h.tickPresence .W).tickPresence .E with vacates := Tab.wf_build _ _ _ }

theorem countSecond (h : s.Tabled) : s.countSecond.Tabled := by
  refine State.countSecond_follows (R := fun s t => s.Tabled → t.Tabled) (fun _ h => h) (fun f g h => g (f h))
    (fun _ h => { h with }) (fun _ h => h.steamTick) (fun _ h => h.runwayTick) (fun _ h => ?_) (fun _ b h => h.expirePermit b) s h
  exact { h with record := rfl }

end State.Tabled

theorem State.ProbeAct.tabled {s t : State} (act : s.ProbeAct t) (h : s.Tabled) (scans : s.scansRight) : t.Tabled := by
  cases act with
  | trim n v =>
    unfold State.setTrim
    dsimp only
    split
    · next channel =>
      have written := h.setChannel { s.channel n with trim := clampInt (-50) 50 v } (Nat.lt_of_lt_of_le channel (by decide))
      split
      · exact written.discardConversion scans
      · exact written
    · exact h
  | sampleTime n =>
    refine State.Tabled.discardConversion ?_ scans
    exact { h with }
  | conversion n e _ channel => exact h.enterConversion (Nat.lt_of_lt_of_le channel (by decide)) e
  | reference raw scan =>
    refine State.Tabled.enterConversion ?_ (by decide) _
    unfold State.checkReference
    dsimp only
    split
    · refine State.Tabled.posts ?_ (State.posts_raise _ _ _ _)
      exact { h with }
    · split
      · refine State.Tabled.posts ?_ (State.posts_end _ _ _ _)
        exact { h with }
      · exact { h with }

/-! ## Layout writes, conditions, resets -/

theorem State.LayoutAct.tabled {s t : State} (act : s.LayoutAct t) (h : s.Tabled) : t.Tabled := by
  cases act with
  | segment n a v =>
    unfold State.writeSegment
    split
    · next _ fields =>
      have small : n < Config.segments := of_decide_eq_true ((firstBad_eq_none _).mp fields _ (List.mem_cons_self ..))
      exact { h with segments := Tab.wf_write _ _ _ _ _ small h.segments }
    · exact h
    · exact h
  | bed b y r =>
    unfold State.writeBed
    split
    · next _ fields =>
      have bed := (firstBad_eq_none _).mp fields _ (List.mem_cons_self ..)
      simp only [Bool.and_eq_true, decide_eq_true_eq] at bed
      exact { h with bedLayouts := Tab.wf_write _ _ _ _ _ (Nat.lt_succ_of_le bed.2) h.bedLayouts }
    · exact h
    · exact h
  | zone z b r v f =>
    unfold State.writeZone
    split
    · next v' fields =>
      rw [firstBad_eq_none] at fields
      have small : z < Config.zones := of_decide_eq_true (fields _ (List.mem_cons_self ..))
      have named := fields _ (List.mem_cons_of_mem _ (List.mem_cons_self ..))
      exact { h with
        zoneLayouts := Tab.wf_write _ _ _ _ _ small h.zoneLayouts
        valves := Tab.wf_write _ _ _ _ _ small h.valves
        zoneBeds := fun z' b' held => by
          have read := Tab.read_write {} s.lyt.zones z ⟨b, if b.isSome then r else none, v', f⟩ z'
          have held := (congrArg ZoneLayout.bed read).symm.trans held
          split at held
          · obtain rfl : b = some b' := held
            simp only [Option.map_some, Option.getD_some, Bool.and_eq_true, decide_eq_true_eq] at named
            exact named.2
          · exact h.zoneBeds z' b' held }
    · exact h
    · exact h
  | cell n seg row limit =>
    unfold State.writeCell
    split
    · exact h
    · next fields =>
      have small : n < Config.cells := of_decide_eq_true ((firstBad_eq_none _).mp fields _ (List.mem_cons_self ..))
      exact { h with cellLayouts := Tab.wf_write _ _ _ _ _ small h.cellLayouts }
  | bay b n =>
    unfold State.writeBay
    split
    · exact h
    · next fields =>
      have bay := (firstBad_eq_none _).mp fields _ (List.mem_cons_self ..)
      simp only [Bool.or_eq_true, decide_eq_true_eq] at bay
      exact { h with bayLayouts := Tab.wf_write _ _ _ _ _ (by omega) h.bayLayouts }
  | yard y =>
    unfold State.writeYard
    split
    · exact h
    · exact { h with }

theorem condIndex_lt (k : CondKind) : condIndex k < 16 := by cases k <;> decide

theorem State.CondAct.tabled {s t : State} (act : s.CondAct t) (h : s.Tabled) : t.Tabled := by
  cases act with
  | acknowledge p k subj =>
    unfold State.acknowledge
    split
    · exact h
    · split
      · exact h
      · refine h.setCondSet ?_
        exact h.modes p
  | mode p k m =>
    unfold State.setMode
    split
    · exact h
    · exact h
    · split
      · exact h
      · split
        · exact h
        · refine h.setCondSet ?_
          exact Tab.wf_write _ _ _ _ _ (condIndex_lt _) (h.modes _)
  | flagsAck => exact h.setFlags _ h.panelBed_le

theorem State.reset_tabled : State.reset.Tabled := by
  have empty : ∀ b, State.reset.bed b = {} := fun _ => rfl
  have modes : ∀ p, (State.reset.condSet p).modes = [] := fun p => by cases p <;> rfl
  have moves : ∀ i, State.reset.move i = none := fun _ => rfl
  have zones : ∀ z, (State.reset.zoneLayout z).bed = none := fun _ => rfl
  exact
    { segments := rfl, bedLayouts := rfl, zoneLayouts := rfl, cellLayouts := rfl, bayLayouts := rfl, beds := rfl, pieces := rfl,
      cells := rfl, bays := rfl, zones := rfl, profiles := rfl, channels := rfl, published := rfl, record := rfl, valves := rfl,
      moves := rfl, vacates := rfl, flags := rfl, modes := fun p => by rw [modes p]; rfl
      slots := fun b p plan => by rw [empty] at plan; exact absurd plan nofun
      places := fun i m held => absurd ((moves i).symm.trans held) nofun
      zoneBeds := fun z b held => absurd ((zones z).symm.trans held) nofun
      polled := fun q held => absurd held nofun }

theorem State.warmed_tabled {s : State} (h : s.Tabled) : s.warmed.Tabled := by
  rw [State.warmed_eq]
  have modes : ∀ p, (s.rewarmed.condSet p).modes = (s.condSet p).modes := fun p => by cases p <;> rfl
  have moves : ∀ i, s.rewarmed.move i = none := fun _ => rfl
  refine State.Tabled.posts ?_ (State.posts_event _ _ _ _)
  exact { h with
    beds := Tab.wf_build _ _ _
    pieces := Tab.wf_build _ _ _
    cells := Tab.wf_build _ _ _
    bays := Tab.wf_build _ _ _
    zones := Tab.wf_build _ _ _
    channels := Tab.wf_build _ _ _
    published := rfl
    record := rfl
    valves := Tab.wf_build _ _ _
    moves := rfl
    vacates := rfl
    flags := rfl
    modes := fun p => by rw [modes p]; exact h.modes p
    slots := fun b p plan n mem => by
      have read : s.rewarmed.bed b = if b < Config.beds + 1 then (s.bed b).warm else {} := Tab.read_mapAll _ _ _ _ _
      rw [read] at plan
      split at plan
      · exact h.slots b p plan n mem
      · exact absurd plan nofun
    places := fun i m held => absurd ((moves i).symm.trans held) nofun
    polled := fun q held => absurd held nofun }

theorem State.enterHold_tabled {s : State} (h : s.Tabled) (hold : Hold) : (s.enterHold hold).Tabled := by
  have modes : ∀ p, ((s.enterHold hold).condSet p).modes = (s.condSet p).modes := fun p => by
    unfold State.enterHold
    split <;> cases p <;> rfl
  have valves : (s.enterHold hold).valves.wf .low Config.zones = true := by
    unfold State.enterHold
    split
    · rfl
    · exact Tab.wf_build _ _ _
  obtain ⟨_, _, _, _, e⟩ := s.enterHold_only hold
  have polled : (s.enterHold hold).lnk.poll = s.lnk.poll := by
    unfold State.enterHold
    split <;> rfl
  have flags : (s.enterHold hold).cnd.flags = s.cnd.flags := by
    unfold State.enterHold
    split <;> rfl
  rw [e] at modes valves polled flags ⊢
  exact { h with
    valves := valves
    flags := flags ▸ h.flags
    modes := fun p => (modes p) ▸ h.modes p
    polled := fun q held => h.polled q (polled.symm.trans held) }

/-! ## Every act and every step -/

theorem State.LinkStep.tabled {s t : State} (step : s.LinkStep t) (h : s.Tabled) : t.Tabled := by
  cases step with
  | port p r => exact h.setPort p r
  | window => exact { h with }
  | poll =>
    unfold State.pollNext
    split
    · exact h
    · split
      · next b found =>
        have configured : b ∈ (List.range (Config.beds + 1)).filter s.bedConfigured := by
          unfold State.nextBed at found
          dsimp only at found
          split at found
          · next held => exact Option.some.inj found ▸ List.mem_of_find?_eq_some held
          · exact List.mem_of_head? found
        have bed := Nat.le_of_lt_succ (List.mem_range.mp (List.mem_filter.mp configured).1)
        exact { h with polled := fun q held => by cases held; exact bed }
      · exact h
  | missed q free polled =>
    have bed := h.polled q polled
    unfold State.panelMissed
    dsimp only
    split
    · refine State.Tabled.setFlags (State.Tabled.posts (h.setBed_kept bed ?_) (State.posts_raise _ _ _ _)) _ bed
      exact .inl rfl
    · exact h.setBed_kept bed (.inl rfl)
  | answered q free polled =>
    have bed := h.polled q polled
    unfold State.panelAnswered
    dsimp only
    split
    · refine State.Tabled.posts (State.Tabled.setFlags (h.setBed_kept bed ?_) _ bed) (State.posts_end _ _ _ _)
      exact .inl rfl
    · exact h.setBed_kept bed (.inl rfl)

theorem State.Does.tabled {c : Instr} {s t : State} (does : s.Does c t) (h : s.Tabled) (scans : s.scansRight) : t.Tabled := by
  cases does with
  | served _ act =>
    cases act with
    | nothing => exact h
    | clock | restart => exact { h with }
    | lock => exact { h with zones := Tab.wf_build _ _ _ }
    | layout _ act => exact act.tabled h
    | profile n p =>
      unfold State.writeProfile
      split
      · exact h
      · next fields =>
        have small : n < Config.profiles := of_decide_eq_true ((firstBad_eq_none _).mp fields _ (List.mem_cons_self ..))
        split
        · exact h
        · exact h.setProfile _ small
    | table _ act => exact act.tabled h
    | steam _ act =>
      cases act with
      | heatOff => exact { h with valves := Tab.wf_build _ _ _ }
      | heatOn | budget | minOpen => exact { h with }
    | probe _ act => exact act.tabled h scans
    | move _ act => exact act.tabled h
    | condition _ act => exact act.tabled h
  | chilled => exact { State.reset_tabled with }
  | warmed => exact State.warmed_tabled h
  | hold hold => exact State.enterHold_tabled h hold
  | supplyLost => exact { h with valves := rfl }
  | supply => exact { h with }
  | second => exact h.countSecond
  | probe _ act => exact act.tabled h scans

end Sys2Proof.Machine
end

section
/-! SUPPORT. Proofs/Queues.lean: the scan state, the clock, the serial counter and the queues of the cranes, kept by every act. -/

namespace Sys2Proof.Machine

/-! ## The scan state (R37) -/

theorem State.completeScan_idle (s : State) : s.completeScan.pcv.scan = .idle := by
  unfold State.completeScan
  dsimp only
  obtain ⟨_, _, _, _, e⟩ := State.handScan_only (State.publish { (List.range Config.channels).foldl (State.probePosting s) s.channelsUpdated
    with pcv := { ((List.range Config.channels).foldl (State.probePosting s) s.channelsUpdated).pcv with scan := .idle, record := [] } })
  rw [e]
  rfl

theorem State.enterConversion_scans (s : State) (n : Nat) (e : ScanEntry) : (s.enterConversion n e).scansRight := by
  intro c scan
  unfold State.enterConversion at scan
  dsimp only at scan
  split at scan
  · next more => cases scan; exact more
  · rw [State.completeScan_idle] at scan
    exact absurd scan nofun

theorem State.discardConversion_scans {s : State} (h : s.scansRight) : s.discardConversion.scansRight := by
  unfold State.discardConversion
  split
  · exact State.enterConversion_scans _ _ _
  · exact h

theorem State.ProbeAct.scans {s t : State} (act : s.ProbeAct t) (h : s.scansRight) : t.scansRight := by
  cases act with
  | trim n v =>
    unfold State.setTrim
    dsimp only
    split
    · split
      · exact State.discardConversion_scans h
      · exact h
    · exact h
  | sampleTime n => exact State.discardConversion_scans h
  | conversion | reference => exact State.enterConversion_scans _ _ _

theorem State.countSecond_scans (s : State) : s.scansRight → s.countSecond.scansRight := by
  refine State.countSecond_keeps (R := fun s t => s.scansRight → t.scansRight) (fun _ h => h) (fun f g h => g (f h))
    (fun _ h => h) (fun _ _ _ h => h) (fun t h => ?_) (fun t _ c scan => ?_) (fun t b h => ?_) s
  · obtain ⟨_, _, _, _, e⟩ := t.runwayTick_only
    rw [e]
    exact h
  · cases scan
    decide
  · obtain ⟨_, _, _, _, e⟩ := t.expirePermit_only b
    rw [e]
    exact h

theorem State.Does.scans {c : Instr} {s t : State} (does : s.Does c t) (h : s.scansRight) : t.scansRight := by
  cases does with
  | served _ act =>
    cases act with
    | nothing | clock | restart | lock => exact h
    | layout _ act => obtain ⟨_, _, _, _, _, _, _, rfl⟩ := act.only; exact h
    | profile n p => obtain ⟨_, e⟩ := s.writeProfile_only n p; rw [e]; exact h
    | table _ act => obtain ⟨_, _, _, _, rfl⟩ := act.only; exact h
    | steam _ act => obtain ⟨_, _, rfl⟩ := act.only; exact h
    | probe _ act => exact act.scans h
    | move _ act => obtain ⟨_, _, _, _, _, _, _, _, rfl⟩ := act.only; exact h
    | condition _ act => obtain ⟨_, rfl⟩ := act.only; exact h
  | chilled => exact fun c scan => absurd scan nofun
  | warmed =>
    obtain ⟨_, _, _, e⟩ := State.postEvent_only s.rewarmed .PL .restarted .none
    rw [State.warmed_eq, e]
    exact fun c scan => absurd scan nofun
  | hold hold => obtain ⟨_, _, _, _, e⟩ := s.enterHold_only hold; rw [e]; exact h
  | supplyLost | supply => exact h
  | second => exact s.countSecond_scans h
  | probe _ act => exact act.scans h

/-! ## The clock (R9) -/

/-- The counts of the clock in their ranges. -/
def Clock.inRange (c : Clock) : Prop := c.second ≤ 59 ∧ c.minute ≤ Config.word32Max

theorem Clock.next_inRange {c : Clock} (h : c.inRange) : c.next.inRange := by
  obtain ⟨second, minute⟩ := h
  unfold Clock.next
  split
  · next more => exact ⟨more, minute⟩
  · refine ⟨Nat.zero_le _, ?_⟩
    show nextMinute c.minute ≤ _
    unfold nextMinute
    split
    · exact Nat.zero_le _
    · omega

theorem State.Does.clock {c : Instr} {s t : State} (does : s.Does c t) (h : s.clk.inRange) : t.clk.inRange := by
  cases does with
  | served _ act =>
    cases act with
    | nothing | restart => exact h
    | clock m _ fits => exact ⟨Nat.zero_le _, fits⟩
    | lock => exact ⟨Nat.zero_le _, h.2⟩
    | layout _ act => obtain ⟨_, _, _, _, _, _, _, rfl⟩ := act.only; exact h
    | profile n p => obtain ⟨_, e⟩ := s.writeProfile_only n p; rw [e]; exact h
    | table _ act => obtain ⟨_, _, _, _, rfl⟩ := act.only; exact h
    | steam _ act => obtain ⟨_, _, rfl⟩ := act.only; exact h
    | probe _ act => obtain ⟨_, _, _, _, _, _, rfl⟩ := act.only; exact h
    | move _ act => obtain ⟨_, _, _, _, _, _, _, _, rfl⟩ := act.only; exact h
    | condition _ act => obtain ⟨_, rfl⟩ := act.only; exact h
  | chilled => exact ⟨Nat.zero_le _, Nat.zero_le _⟩
  | warmed =>
    obtain ⟨_, _, _, e⟩ := State.postEvent_only s.rewarmed .PL .restarted .none
    rw [State.warmed_eq, e]
    exact ⟨Nat.zero_le _, h.2⟩
  | hold hold => obtain ⟨_, _, _, _, e⟩ := s.enterHold_only hold; rw [e]; exact h
  | supplyLost | supply => exact h
  | second =>
    obtain ⟨_, _, _, _, _, _, _, e⟩ := s.countSecond_only
    rw [e]
    exact Clock.next_inRange h
  | probe _ act => obtain ⟨_, _, _, _, _, _, rfl⟩ := act.only; exact h

/-! ## What keeps the move unit -/

theorem State.setsOnly.mvu {s t : State} (h : s.setsOnly t) : t.mvu = s.mvu := by
  obtain ⟨_, _, _, rfl⟩ := h
  rfl

theorem State.runwayOnly.mvu {s t : State} (h : s.runwayOnly t) : t.mvu = s.mvu := by
  obtain ⟨_, _, _, _, rfl⟩ := h
  rfl

theorem State.SetStep.mvu {s t : State} (step : s.SetStep t) : t.mvu = s.mvu := by
  cases step with
  | post p k subj status raise => exact (s.postAt_only p k subj status raise).mvu
  | settle => rfl

/-- An act of another block, and the link, leave the move unit. -/
theorem State.LinkStep.mvu {s t : State} (link : s.LinkStep t) : t.mvu = s.mvu := by
  obtain ⟨_, _, _, rfl⟩ := link.only
  rfl

/-- A command that is no act of the move unit leaves it, or clears all but the serial counter, or clears it whole (R163). -/
theorem State.Does.mvu {c : Instr} {s t : State} (does : s.Does c t) :
    t.mvu = s.mvu ∨ s.MoveAct t ∨ t.mvu = {} ∨ t.mvu = s.warmMvu := by
  cases does with
  | served _ act =>
    cases act with
    | nothing | clock | restart | lock => exact .inl rfl
    | layout _ act => obtain ⟨_, _, _, _, _, _, _, rfl⟩ := act.only; exact .inl rfl
    | profile n p => obtain ⟨_, e⟩ := s.writeProfile_only n p; rw [e]; exact .inl rfl
    | table _ act => obtain ⟨_, _, _, _, rfl⟩ := act.only; exact .inl rfl
    | steam _ act => obtain ⟨_, _, rfl⟩ := act.only; exact .inl rfl
    | probe _ act => obtain ⟨_, _, _, _, _, _, rfl⟩ := act.only; exact .inl rfl
    | move _ act => exact .inr (.inl act)
    | condition _ act => obtain ⟨_, rfl⟩ := act.only; exact .inl rfl
  | chilled => exact .inr (.inr (.inl rfl))
  | warmed =>
    rw [State.warmed_eq, (State.postEvent_only s.rewarmed .PL .restarted .none).mvu]
    exact .inr (.inr (.inr rfl))
  | hold hold => obtain ⟨_, _, _, _, e⟩ := s.enterHold_only hold; rw [e]; exact .inl rfl
  | supplyLost | supply => exact .inl rfl
  | second =>
    obtain ⟨_, _, _, _, _, _, _, e⟩ := s.countSecond_only
    rw [e]
    exact .inl rfl
  | probe _ act => obtain ⟨_, _, _, _, _, _, rfl⟩ := act.only; exact .inl rfl

/-! ## The serial counter (R142) -/

theorem nextSerial_range {n : Nat} (h : 1 ≤ n ∧ n ≤ Config.word32Max) : 1 ≤ nextSerial n ∧ nextSerial n ≤ Config.word32Max := by
  unfold nextSerial
  split
  · exact ⟨le_refl _, by decide⟩
  · omega

theorem State.takeSerial_right {s : State} (h : s.serialRight) : s.takeSerial.serialRight := nextSerial_range h

theorem State.serialRight.of_serial {s t : State} (h : s.serialRight) (same : t.mvu.serial = s.mvu.serial) : t.serialRight := by
  unfold State.serialRight
  rw [same]
  exact h

theorem State.setWork_serial (s : State) (x : Crane) (w : CraneWork) : (s.setWork x w).mvu.serial = s.mvu.serial := by
  cases x <;> rfl

theorem State.MoveStep.serial {s t : State} (step : s.MoveStep t) (h : s.serialRight) : t.serialRight := by
  cases step with
  | posted step => exact h.of_serial (by rw [step.mvu])
  | rewritten => exact h
  | granted held verdict => exact h.of_serial (by rw [(State.grantInterval_only _ _ _ _).mvu]; rfl)
  | left => exact h.of_serial (State.setWork_serial _ _ _)
  | yields x target => exact nextSerial_range h
  | worked => exact h.of_serial (State.setWork_serial _ _ _)
  | barred => exact h.of_serial (State.setWork_serial _ _ _)
  | craned => exact h.of_serial (by rw [(s.setCrane_only _ _).mvu])
  | shrunk x r => exact h.of_serial (by rw [(s.shrinkTo_only x r).mvu])
  | spaced => exact h.of_serial (by rw [(s.setInterval_only _ _).mvu])
  | paired | pieced | celled | bayed | stripped | bumped => exact h

theorem State.moved.serial {s t : State} (h : s.moved t) (right : s.serialRight) : t.serialRight := by
  induction h with
  | refl => exact right
  | tail _ step ih => exact step.serial ih

theorem State.MoveAct.serial {s t : State} (act : s.MoveAct t) (h : s.serialRight) : t.serialRight := by
  rcases act.cases with moved | ⟨x, n, k, moved⟩ | ⟨f, submitted⟩ | rfl
  · exact moved.serial h
  · exact moved.serial (((s.moved_approached x n k).serial h).of_serial (by rw [(State.breached_only _ x).mvu]))
  · cases submitted with
    | refused => exact h
    | accepted _ _ _ moved _ _ =>
      exact (moved.serial (State.takeSerial_right h)).of_serial (State.setWork_serial _ _ _)
  · exact h.of_serial (by rw [s.clearBreach_only.mvu])

theorem State.Does.serial {c : Instr} {s t : State} (does : s.Does c t) (h : s.serialRight) : t.serialRight := by
  rcases does.mvu with same | act | clear | warm
  · exact h.of_serial (by rw [same])
  · exact act.serial h
  · unfold State.serialRight
    rw [clear]
    decide
  · exact h.of_serial (by rw [warm]; rfl)

/-! ## The queues -/

/-- No two places of a list hold an entry where it is listed once at most. -/
theorem count_le_one_iff {q : List Entry} {e : Entry} :
    q.count e ≤ 1 ↔ ∀ a b : Nat, q[a]? = some e → q[b]? = some e → a = b := by
  induction q with
  | nil => simp
  | cons h q ih =>
    by_cases same : h = e
    · subst same
      rw [List.count_cons_self]
      constructor
      · intro once a b ha hb
        have absent : h ∉ q := List.count_eq_zero.mp (by omega)
        have first : ∀ i : Nat, (h :: q)[i]? = some h → i = 0 := fun i held => by
          cases i with
          | zero => rfl
          | succ i => exact absurd (List.mem_of_getElem? (by simpa using held)) absent
        rw [first a ha, first b hb]
      · intro unique
        have absent : h ∉ q := fun mem => by
          obtain ⟨i, held⟩ := List.mem_iff_getElem?.mp mem
          exact absurd (unique 0 (i + 1) (by simp) (by simpa using held)) (by omega)
        rw [List.count_eq_zero.mpr absent]
    · rw [List.count_cons_of_ne same, ih]
      have shift : ∀ i : Nat, (h :: q)[i]? = some e → ∃ j, i = j + 1 ∧ q[j]? = some e := fun i held => by
        cases i with
        | zero => exact absurd (by simpa using held) same
        | succ i => exact ⟨i, rfl, by simpa using held⟩
      constructor
      · intro unique a b ha hb
        obtain ⟨a, rfl, ha⟩ := shift a ha
        obtain ⟨b, rfl, hb⟩ := shift b hb
        rw [unique a b ha hb]
      · intro unique a b ha hb
        have := unique (a + 1) (b + 1) (by simpa using ha) (by simpa using hb)
        omega

/-- The entries of a crane's queue: each a live submitted move of the crane, once at most (R146, R147, R159). -/
structure State.queueRight (s : State) (x : Crane) : Prop where
  live : ∀ j, .move j ∈ (s.work x).queue → j < 16 ∧ ∃ m, s.move j = some m ∧ m.crane = x
  once : ∀ j, (s.work x).queue.count (.move j) ≤ 1

theorem State.queuesRight_iff (s : State) : s.queuesRight ↔ ∀ x, s.queueRight x := by
  refine forall_congr' fun x => ⟨fun h => ⟨fun j mem => ?_, fun j => count_le_one_iff.mpr fun a b => h.2 a b j⟩,
    fun h => ⟨fun a j held => h.live j (List.mem_of_getElem? held), fun a b j => count_le_one_iff.mp (h.once j) a b⟩⟩
  obtain ⟨a, held⟩ := List.mem_iff_getElem?.mp mem
  exact h.1 a j held

/-- A crane's queue where it and the moves it holds stand, in slot and crane. -/
theorem State.queueRight.of_kept {s t : State} {x : Crane} (h : s.queueRight x) (queue : (t.work x).queue = (s.work x).queue)
    (moves : ∀ j m, s.move j = some m → j < 16 → ∃ m', t.move j = some m' ∧ m'.crane = m.crane) : t.queueRight x where
  live j mem := by
    obtain ⟨slot, m, held, crane⟩ := h.live j (queue ▸ mem)
    obtain ⟨m', held', same⟩ := moves j m held slot
    exact ⟨slot, m', held', same.trans crane⟩
  once j := by rw [queue]; exact h.once j

theorem State.queueRight.of_mvu {s t : State} {x : Crane} (h : s.queueRight x) (mvu : t.mvu = s.mvu) : t.queueRight x := by
  have work : t.work x = s.work x := by unfold State.work; rw [mvu]
  have move : ∀ j, t.move j = s.move j := fun j => by unfold State.move; rw [mvu]
  exact h.of_kept (by rw [work]) fun j m held _ => ⟨m, (move j).trans held, rfl⟩

theorem leadOff_sublist (q : List Entry) : (leadOff q).Sublist q := by
  induction q with
  | nil => exact List.Sublist.refl _
  | cons e q ih =>
    cases e with
    | barrier => exact ih.cons _
    | move n => exact List.Sublist.refl _

theorem leaveQueue_sublist (i : Nat) (q : List Entry) : (leaveQueue i q).Sublist q :=
  (leadOff_sublist _).trans List.filter_sublist

theorem not_mem_leaveQueue (i : Nat) (q : List Entry) : Entry.move i ∉ leaveQueue i q := fun mem =>
  of_decide_eq_true (List.mem_filter.mp ((leadOff_sublist _).subset mem)).2 rfl

theorem State.work_setWork_same (s : State) (x : Crane) (w : CraneWork) : (s.setWork x w).work x = w := by
  rw [State.work_setWork, if_pos rfl]

theorem State.setMove_live {s : State} {i : Nat} {m m' : Move} (held : s.move i = some m) (crane : m'.crane = m.crane) (j : Nat) (o : Move)
    (found : s.move j = some o) : ∃ o', (s.setMove i (some m')).move j = some o' ∧ o'.crane = o.crane := by
  rw [State.move_setMove]
  split
  · next same =>
    obtain rfl : m = o := Option.some.inj (held.symm.trans (same ▸ found))
    exact ⟨m', rfl, crane⟩
  · exact ⟨o, found, rfl⟩

/-- A yield's record is none of the submitted moves' (R141). -/
theorem sixteen_le_yieldSlot (x : Crane) : 16 ≤ yieldSlot x := by cases x <;> decide

theorem State.MoveStep.queue {s t : State} (step : s.MoveStep t) {x : Crane} (h : s.queueRight x) : t.queueRight x := by
  have stand : ∀ {u : State}, (u.work x).queue = (s.work x).queue → (∀ j, u.move j = s.move j) → u.queueRight x :=
    fun queue move => h.of_kept queue fun j m held _ => ⟨m, (move j).trans held, rfl⟩
  cases step with
  | posted step => exact h.of_mvu step.mvu
  | rewritten held same => exact h.of_kept rfl fun j m found _ => State.setMove_live held same.crane j m found
  | granted held verdict =>
    refine State.queueRight.of_mvu (s := s.setMove _ (some (Move.go _))) ?_ (State.grantInterval_only _ _ _ _).mvu
    exact h.of_kept rfl fun j m found _ => State.setMove_live held (by rfl) j m found
  | @left i m held =>
    by_cases mine : m.crane = x
    · subst mine
      have queue : ((s.setMove i none).setWork m.crane { s.work m.crane with queue := leaveQueue i (s.work m.crane).queue }).work m.crane
          = { s.work m.crane with queue := leaveQueue i (s.work m.crane).queue } := State.work_setWork_same _ _ _
      refine ⟨fun j mem => ?_, fun j => ?_⟩
      · rw [queue] at mem
        obtain ⟨slot, o, found, crane⟩ := h.live j ((leaveQueue_sublist _ _).subset mem)
        have other : i ≠ j := by
          rintro rfl
          exact not_mem_leaveQueue i _ mem
        refine ⟨slot, o, ?_, crane⟩
        rw [State.move_setWork, State.move_setMove, if_neg other]
        exact found
      · rw [queue]
        exact ((leaveQueue_sublist _ _).count_le _).trans (h.once j)
    · have queue : ((s.setMove i none).setWork m.crane { s.work m.crane with queue := leaveQueue i (s.work m.crane).queue }).work x
          = s.work x := by
        rw [State.work_setWork, if_neg mine, State.work_setMove]
      refine ⟨fun j mem => ?_, fun j => by rw [queue]; exact h.once j⟩
      rw [queue] at mem
      obtain ⟨slot, o, found, crane⟩ := h.live j mem
      refine ⟨slot, o, ?_, crane⟩
      rw [State.move_setWork, State.move_setMove, if_neg]
      · exact found
      · rintro rfl
        exact mine ((congrArg Move.crane (Option.some.inj (held.symm.trans found))).trans crane)
  | yields y target =>
    refine h.of_kept rfl fun j m found slot => ⟨m, ?_, rfl⟩
    have read : (s.createYield y target).move j = (s.setMove (yieldSlot y) (some (s.yieldRecord y target))).move j := rfl
    rw [read, State.move_setMove, if_neg (by have := sixteen_le_yieldSlot y; omega)]
    exact found
  | @worked y w queue =>
    refine stand ?_ fun j => State.move_setWork _ _ _ _
    rw [State.work_setWork]
    split
    · next same => exact same ▸ queue
    · rfl
  | barred y =>
    by_cases mine : y = x
    · subst mine
      have queue := State.work_setWork_same s y { s.work y with queue := (s.work y).queue ++ [.barrier] }
      refine ⟨fun j mem => ?_, fun j => ?_⟩
      · rw [queue] at mem
        have mem : Entry.move j ∈ (s.work y).queue := by simpa using mem
        rw [State.move_setWork]
        exact h.live j mem
      · rw [queue]
        simpa [List.count_append] using h.once j
    · refine stand ?_ fun j => State.move_setWork _ _ _ _
      rw [State.work_setWork, if_neg mine]
  | craned => exact h.of_mvu (s.setCrane_only _ _).mvu
  | shrunk y r => exact h.of_mvu (s.shrinkTo_only y r).mvu
  | spaced => exact h.of_mvu (s.setInterval_only _ _).mvu
  | paired | pieced | celled | bayed | stripped | bumped => exact h.of_mvu rfl

theorem State.moved.queue {s t : State} (h : s.moved t) {x : Crane} (right : s.queueRight x) : t.queueRight x := by
  induction h with
  | refl => exact right
  | tail _ step ih => exact step.queue ih

/-- No single change puts a move into a queue. -/
theorem State.MoveStep.queue_subset {s t : State} (step : s.MoveStep t) (x : Crane) {j : Nat} (mem : .move j ∈ (t.work x).queue) :
    .move j ∈ (s.work x).queue := by
  have stand : ∀ {u : State}, u.mvu = s.mvu → .move j ∈ (u.work x).queue → .move j ∈ (s.work x).queue := fun same mem => by
    unfold State.work at *
    rwa [same] at mem
  cases step with
  | posted step => exact stand step.mvu mem
  | rewritten => exact mem
  | @granted y i m leg need held verdict =>
    have kept := (State.grantInterval_only (s.setMove i (some m.go)) y m.serial need).mvu
    unfold State.work at *
    rw [kept] at mem
    exact mem
  | left held =>
    rw [State.work_setWork] at mem
    split at mem
    · next same => exact same ▸ (leaveQueue_sublist _ _).subset mem
    · exact mem
  | yields => exact mem
  | worked queue =>
    rw [State.work_setWork] at mem
    split at mem
    · next same => rw [queue] at mem; exact same ▸ mem
    · exact mem
  | barred y =>
    rw [State.work_setWork] at mem
    split at mem
    · next same => subst same; simpa using mem
    · exact mem
  | craned => exact stand (s.setCrane_only _ _).mvu mem
  | shrunk y r => exact stand (s.shrinkTo_only y r).mvu mem
  | spaced => exact stand (s.setInterval_only _ _).mvu mem
  | paired | pieced | celled | bayed | stripped | bumped => exact mem

theorem State.moved.queue_subset {s t : State} (h : s.moved t) (x : Crane) {j : Nat} (mem : .move j ∈ (t.work x).queue) :
    .move j ∈ (s.work x).queue := by
  induction h with
  | refl => exact mem
  | tail _ step ih => exact ih (step.queue_subset x mem)

/-- An accepted move enters its crane's queue once, at the head or at the tail (R146). -/
theorem State.Submitted.queue {s t : State} {f : MoveFields} (h : s.Submitted f t) (right : ∀ x, s.queueRight x) (x : Crane) :
    t.queueRight x := by
  cases h with
  | refused => exact right x
  | @accepted i u q _ slot empty moved queue stays =>
    have absent : ∀ y, Entry.move i ∉ (s.work y).queue := fun y mem => by
      obtain ⟨-, _, held, -⟩ := (right y).live i mem
      exact absurd (empty.symm.trans held) nofun
    have entered : u.queueRight x := by
      refine moved.queue (State.queueRight.of_kept (right x) rfl fun j m found _ => ⟨m, ?_, rfl⟩)
      rw [State.move_setMove, if_neg]
      · exact found
      · rintro rfl
        exact absurd (empty.symm.trans found) nofun
    have gone : Entry.move i ∉ (u.work x).queue := fun mem => absent x (moved.queue_subset x mem)
    by_cases mine : (s.newMove f).crane = x
    · obtain ⟨m, held, crane⟩ := stays
      have work := State.work_setWork_same u (s.newMove f).crane { u.work (s.newMove f).crane with queue := q }
      rw [mine] at work queue ⊢
      have member : ∀ j, Entry.move j ∈ q → j = i ∨ Entry.move j ∈ (u.work x).queue := fun j mem => by
        rcases queue with rfl | rfl
        · simpa using mem
        · have := List.mem_append.mp mem
          simpa [or_comm] using this
      have counted : ∀ j, q.count (.move j) ≤ 1 := fun j => by
        have count : q.count (.move j) = (u.work x).queue.count (.move j) + if j = i then 1 else 0 := by
          rcases queue with rfl | rfl
          · by_cases same : j = i
            · simp [same]
            · have other : Entry.move i ≠ .move j := fun e => same (by cases e; rfl)
              simp [same, other]
          · by_cases same : j = i
            · simp [same]
            · have other : Entry.move i ≠ .move j := fun e => same (by cases e; rfl)
              simp [same, other]
        rw [count]
        split
        · next same => rw [same, List.count_eq_zero.mpr gone]
        · exact entered.once j
      refine ⟨fun j mem => ?_, fun j => ?_⟩
      · rw [work] at mem
        rw [State.move_setWork]
        rcases member j mem with rfl | mem
        · exact ⟨slot, m, held, crane.trans mine⟩
        · exact entered.live j mem
      · rw [work]
        exact counted j
    · refine entered.of_kept ?_ fun j m held _ => ⟨m, (State.move_setWork _ _ _ _).trans held, rfl⟩
      rw [State.work_setWork, if_neg mine]

theorem State.MoveAct.queue {s t : State} (act : s.MoveAct t) (h : ∀ x, s.queueRight x) (x : Crane) : t.queueRight x := by
  rcases act.cases with moved | ⟨y, n, k, moved⟩ | ⟨f, submitted⟩ | rfl
  · exact moved.queue (h x)
  · exact moved.queue (((s.moved_approached y n k).queue (h x)).of_mvu (State.breached_only _ y).mvu)
  · exact submitted.queue h x
  · exact (h x).of_mvu s.clearBreach_only.mvu

theorem State.queueRight.of_empty {s : State} {x : Crane} (empty : (s.work x).queue = []) : s.queueRight x where
  live j mem := by rw [empty] at mem; cases mem
  once j := by rw [empty]; exact Nat.zero_le _

theorem State.Does.queue {c : Instr} {s t : State} (does : s.Does c t) (h : ∀ x, s.queueRight x) (x : Crane) : t.queueRight x := by
  rcases does.mvu with same | act | clear | warm
  · exact (h x).of_mvu same
  · exact act.queue h x
  · refine .of_empty ?_
    unfold State.work
    rw [clear]
    cases x <;> rfl
  · refine .of_empty ?_
    unfold State.work
    rw [warm]
    cases x <;> rfl

/-- Settles O56, each invariant by the single changes that the acts of every block are made of. -/
theorem stepKeepsClockAndTables : Obligations.StepKeepsClockAndTables := by
  refine fun s t steps => ⟨fun right => ?_, fun right => ?_, fun right => ?_, fun right => ?_⟩
  · obtain ⟨inRange, mode⟩ := step_keeps (I := fun s => s.clk.inRange ∧ s.modeRight) (fun _ h => h)
      (fun link h => by obtain ⟨_, _, _, rfl⟩ := link.only; exact h) (fun does h => ⟨does.clock h.1, does.modeRight h.2⟩) steps
      ⟨⟨right.1, right.2.1⟩, right.2.2⟩
    exact ⟨inRange.1, inRange.2, mode⟩
  · exact step_keeps (I := State.serialRight) (fun _ h => h) (fun link h => h.of_serial (by rw [link.mvu])) State.Does.serial steps right
  · rw [← State.tabled_iff] at right ⊢
    refine step_keeps (I := fun s => s.Tabled ∧ s.scansRight) (fun _ h => ⟨{ h.1 with }, h.2⟩) (fun link h => ⟨link.tabled h.1, ?_⟩)
      (fun does h => ⟨does.tabled h.1 h.2, does.scans h.2⟩) steps right
    obtain ⟨_, _, _, rfl⟩ := link.only
    exact h.2
  · rw [State.queuesRight_iff] at right ⊢
    exact step_keeps (I := fun s => ∀ x, s.queueRight x) (fun _ h x => (h x).of_mvu rfl) (fun link h x => (h x).of_mvu link.mvu)
      (fun does h => does.queue h) steps right

end Sys2Proof.Machine
end

section
/-! SUPPORT. Proofs/Wired.lean: how a good frame is received, and what the link answers by itself (chapter 10, R4, R8, R14). -/

namespace Sys2Proof.Machine

/-- Every kind has one owning block, which reads every body. -/
theorem exec_request (h : Header) (k : Kind) : ∃ owner : List Nat → State → Answer, ∀ (body : List Nat) (s : State),
    exec (requestCommand h k body) s = .next (s.request h k body owner) := by
  cases k <;> exact ⟨_, fun _ _ => rfl⟩

/-- A request that is discarded as it is received. -/
theorem State.request_discarded {s t : State} {h : Header} {k : Kind} {body : List Nat} (owner : List Nat → State → Answer)
    (free : s.held = false) (lost : s.receive h k body = (t, none)) : s.request h k body owner = t := by
  rw [State.request, if_neg (by simp [free]), lost]

/-- Two requests received alike are answered alike. -/
theorem State.request_congr {s s' : State} {h : Header} {k : Kind} {body body' : List Nat} (owner : List Nat → State → Answer)
    (free : s.held = false) (free' : s'.held = false) (same : s.receive h k body = s'.receive h k body') :
    s.request h k body owner = s'.request h k body' owner := by
  rw [State.request, State.request, if_neg (by simp [free]), if_neg (by simp [free']), same]

/-- A panel's request that the link answers itself. -/
theorem State.request_panel_linked {s : State} {h : Header} {k : Kind} {body : List Nat} {b : Nat} {r : Reply}
    (owner : List Nat → State → Answer) (a : s.answering h b) (l : linkAnswer s.run .BL k body.length = some r) :
    s.request h k body owner = (s.heard b).answered h k r := by
  have run : ((s.heard b).toHandling .BL h.seq k).run = s.run := by rw [State.toHandling_run, State.heard_run]
  have port := a.1
  rw [State.request, State.receive_panel s h k body b a, if_neg (by simp [a.2.1])]
  simp only [run, port, l]
  rw [← port]
  exact State.handled_answered _ _ _ _

/-! ## When a request is received (R14, R165 to R167) -/

theorem State.held_setPort (s : State) (p : Port) (r : PortRec) : (s.setPort p r).held = s.held := by
  unfold State.held
  rw [State.setPort_rst]

/-- Settles O2, by what the port's receiver makes of the frame in each of its states. -/
theorem requestsReceived : Obligations.RequestsReceived := by
  intro h k body s
  obtain ⟨owner, run⟩ := exec_request h k
  refine ⟨fun held => ?_, fun free port closed => ?_, fun free port => ⟨fun busy => ?_, fun chain same => ?_, fun chain other => ?_⟩⟩
  · rw [run, State.request_held _ _ _ _ _ held]
  · have lost : s.receive h k body = (s, none) := by
      unfold State.receive
      rw [port]
      simp [closed]
    rw [run, State.request_discarded owner free lost]
  · have lost : s.receive h k body = (s.countOverrun h.port, none) := by
      unfold State.receive
      cases at_ : h.port with
      | BL => exact absurd at_ port
      | PL | CW | CE => rw [at_] at busy; rcases busy with busy | busy <;> simp [busy]
    rw [run, State.request_discarded owner free lost]
    rfl
  · rw [run, run]
    refine congrArg _ (State.request_congr owner free ((State.held_setPort _ _ _).trans free) ?_)
    obtain ⟨p, seq⟩ := h
    cases p with
    | BL => exact absurd rfl port
    | PL | CW | CE =>
      dsimp only at chain same
      unfold State.receive
      simp only [chain, same, if_true]
      rfl
  · rw [run, run]
    refine congrArg _ (State.request_congr owner free ((State.held_setPort _ _ _).trans free) ?_)
    obtain ⟨p, seq⟩ := h
    cases p with
    | BL => exact absurd rfl port
    | PL | CW | CE =>
      dsimp only at chain other
      unfold State.receive
      simp only [chain, other, if_false]
      rfl

/-! ## What the link answers (R4, R8, R168, R169) -/

theorem linkAnswer_unknown (run : Bool) (p : Port) (code n : Nat) : linkAnswer run p (.unknown code) n = some { result := .unknown } := rfl

/-- A kind of the part on a port that does not permit it. -/
theorem linkAnswer_wrongPort {run : Bool} {p : Port} {k : Kind} {n : Nat} (known : ∀ code, k ≠ .unknown code)
    (denied : permitted k p = false) : linkAnswer run p k n = some { result := .wrongPort } := by
  unfold linkAnswer
  split
  · exact absurd rfl (known _)
  · rw [if_pos denied]

/-- A permitted kind is a kind of the part. -/
theorem known_of_permitted {k : Kind} {p : Port} (h : permitted k p = true) (code : Nat) : k ≠ .unknown code := by
  rintro rfl
  exact absurd h nofun

/-- What the link answers to a permitted kind. -/
theorem linkAnswer_permitted {run : Bool} {p : Port} {k : Kind} {n : Nat} (h : permitted k p = true) :
    linkAnswer run p k n = if run = false && admittedInConfig k = false then some { result := .notRunning }
      else if run && lockedInRun k then some { result := .locked }
      else if bodyFits k n = false then some (badFieldReply 0) else none := by
  unfold linkAnswer
  split
  · exact absurd rfl (known_of_permitted h _)
  · rw [if_neg (by simp [h])]
    rfl

/-- Settles O3. -/
theorem kindsAndPorts : Obligations.KindsAndPorts := by
  refine ⟨fun k => ?_, fun k p port => ?_, fun k => ?_, fun h k body s => ⟨fun a => ⟨?_, fun known denied => ?_⟩,
    fun b a => ⟨?_, fun known denied => ?_⟩⟩⟩
  · cases k <;> simp [permitted]
  · rcases port with rfl | rfl <;> cases k <;> simp [permitted]
  · cases k <;> simp [permitted]
  · rintro ⟨code, rfl⟩
    obtain ⟨owner, run⟩ := exec_request h (.unknown code)
    rw [run, State.request_linked s h _ body owner _ a (linkAnswer_unknown _ _ _ _)]
  · obtain ⟨owner, run⟩ := exec_request h k
    rw [run, State.request_linked s h _ body owner _ a (linkAnswer_wrongPort known denied)]
  · rintro ⟨code, rfl⟩
    obtain ⟨owner, run⟩ := exec_request h (.unknown code)
    rw [run, State.request_panel_linked owner a (linkAnswer_unknown _ _ _ _)]
  · obtain ⟨owner, run⟩ := exec_request h k
    rw [run, State.request_panel_linked owner a (linkAnswer_wrongPort known denied)]

/-- A kind that BL permits is none that RUN locks (R4, R168). -/
theorem not_locked_of_panel {k : Kind} (h : permitted k .BL = true) : lockedInRun k = false := by
  cases k <;> first | rfl | exact absurd h nofun

/-- Settles O4. -/
theorem linkAnswers : Obligations.LinkAnswers := by
  refine ⟨fun h k body s permits => ?_, fun k mem n => ?_, fun n => ?_, fun n => ?_⟩
  · obtain ⟨owner, run⟩ := exec_request h k
    refine ⟨fun a => ⟨fun config denied => ?_, fun running locks => ?_, fun mode short => ?_⟩, fun b a short => ?_⟩
    · rw [run, State.request_linked s h k body owner _ a]
      rw [linkAnswer_permitted permits]
      simp [config, denied]
    · rw [run, State.request_linked s h k body owner _ a]
      rw [linkAnswer_permitted permits]
      simp [running, locks]
    · rw [run, State.request_linked s h k body owner _ a]
      rw [linkAnswer_permitted permits]
      rcases mode with ⟨config, admits⟩ | ⟨running, open_⟩
      · simp [config, admits, short]
      · simp [running, open_, short]
    · rw [run, State.request_panel_linked owner a.1]
      have panel : permitted k .BL = true := a.1.1 ▸ permits
      rw [linkAnswer_permitted panel]
      simp [a.2, not_locked_of_panel panel, short]
  · have fixed : fixedLength k = some 1 ∧ k ≠ .planLoad := by
      fin_cases mem <;> exact ⟨rfl, nofun⟩
    have fits : bodyFits k n = decide (fixedLength k = some n) := by
      unfold bodyFits
      split
      · exact absurd rfl fixed.2
      · rfl
    rw [fits, fixed.1]
    simp [eq_comm]
  · simp [bodyFits, fixedLength, eq_comm]
  · simp [bodyFits, fixedLength, eq_comm]

end Sys2Proof.Machine
end

section
/-! SUPPORT. Proofs/Framed.lean: the receivers of PL, CW and CE, byte by byte (R165 to R167, R173). -/

namespace Sys2Proof.Machine

/-! ## What a byte makes of a frame begun -/

/-- A frame with its length in range goes on until its second check byte. -/
theorem frameFinding_going {p : Port} (port : p ≠ .BL) {l : Nat} {rest : List Nat} (low : 2 ≤ l) (high : l ≤ 120)
    (less : rest.length < l + 3) : frameFinding p false (0xA5 :: l :: rest) = .going := by
  unfold frameFinding
  simp only [List.length_cons, List.getD_cons_succ, List.getD_cons_zero, Bool.and_false, Bool.false_eq_true, if_false]
  rw [if_neg, if_neg (by simp [port]), if_neg (by omega)]
  simp only [Bool.and_eq_true, Bool.or_eq_true, decide_eq_true_eq]
  omega

theorem frameFinding_sync (p : Port) : frameFinding p false [0xA5] = .going := by
  cases p <;> rfl

/-- A length byte outside 2 to 120 is bad on every port. -/
theorem frameFinding_length (p : Port) {l : Nat} (out : l < 2 ∨ 120 < l) : frameFinding p false [0xA5, l] = .bad := by
  unfold frameFinding
  simp
  omega

/-- A check that differs from the check computed. -/
theorem frameFinding_check {p : Port} (port : p ≠ .BL) {l seq kind c1 c0 : Nat} {body : List Nat} (low : 2 ≤ l) (high : l ≤ 120)
    (fits : body.length + 1 = l)
    (differs : c1 * 256 + c0 ≠ (frameCheck ((l :: seq :: kind :: body).map (BitVec.ofNat 8))).toNat) :
    frameFinding p false (0xA5 :: l :: seq :: kind :: (body ++ [c1, c0])) = .bad := by
  have check : checkOf (0xA5 :: l :: seq :: kind :: (body ++ [c1, c0])) l
      = (frameCheck ((l :: seq :: kind :: body).map (BitVec.ofNat 8))).toNat := by
    unfold checkOf
    subst fits
    simp
  have place1 : (0xA5 :: l :: seq :: kind :: (body ++ [c1, c0])).getD (l + 3) 0 = c1 := by
    subst fits
    simp [List.getD_eq_getElem?_getD]
  have place0 : (0xA5 :: l :: seq :: kind :: (body ++ [c1, c0])).getD (l + 4) 0 = c0 := by
    subst fits
    simp [List.getD_eq_getElem?_getD]
  unfold frameFinding
  have second : (0xA5 :: l :: seq :: kind :: (body ++ [c1, c0])).getD 1 0 = l := rfl
  have length : (0xA5 :: l :: seq :: kind :: (body ++ [c1, c0])).length = l + 5 := by
    simp only [List.length_cons, List.length_append, List.length_nil]
    omega
  dsimp only
  rw [second, check, place1, place0, if_neg (by simp), if_neg, if_neg (by simp [port]), if_pos length, if_neg differs]
  rw [length]
  simp

/-! ## The receiver -/

theorem State.setBegun_setBegun (s : State) (p : Port) (l m : List Nat) : (s.setBegun p l).setBegun p m = s.setBegun p m := by
  cases p <;> rfl

theorem State.port_setBegun (s : State) (p : Port) (l : List Nat) : ((s.setBegun p l).port p) = { s.port p with begun := l } := by
  cases p <;> rfl

theorem State.setPort_port (s : State) (p : Port) : s.setPort p (s.port p) = s := by cases p <;> rfl

theorem State.setBegun_self {s : State} {p : Port} (begun : (s.port p).begun = []) : s.setBegun p [] = s := by
  unfold State.setBegun
  rw [← begun]
  exact s.setPort_port p

theorem State.hears_of_ne (s : State) {p : Port} (port : p ≠ .BL) : s.hears p = true := by
  cases p <;> first | rfl | exact absurd rfl port

/-- What the receiver makes of a byte that it does not discard. -/
theorem State.takeChar_setBegun (s : State) {p : Port} (port : p ≠ .BL) {l : List Nat} {b : Nat} (taken : l ≠ [] ∨ b = 0xA5) :
    (s.setBegun p l).takeChar p ⟨b, false⟩ = match frameFinding p false (l ++ [b]) with
      | .going => (s.setBegun p (l ++ [b]), true)
      | .bad => ((s.setBegun p l).badOn p, true)
      | .good =>
        if (s.port p).rx = .handling || (s.port p).rx = .replying then ((s.setBegun p l).countOverrun p, true)
        else (s.setBegun p [], false) := by
  unfold State.takeChar
  rw [if_neg (by simp [State.hears_of_ne _ port]), State.port_setBegun, if_neg]
  · dsimp only
    cases found : frameFinding p false (l ++ [b])
    case going => simp only [State.setBegun_setBegun]
    case bad => simp [port]
    case good => simp [State.setBegun_setBegun]
  · simp only [Bool.and_eq_true, decide_eq_true_eq, not_and]
    intro empty
    rcases taken with some | same
    · exact absurd empty some
    · exact fun other => other same

theorem feed_cons {p : Port} {s t : State} {c : Chr} {rest : List Chr} (taken : s.takeChar p c = (t, true)) :
    State.feed p (c :: rest) s = State.feed p rest t := by
  rw [State.feed, if_pos (by rw [taken]), taken]

/-- Bytes other than A5h are discarded while no frame has begun. -/
theorem feed_junk {s : State} {p : Port} (begun : (s.port p).begun = []) {junk : List Nat} (none : ∀ b ∈ junk, b ≠ 0xA5) (rest : List Chr) :
    State.feed p (plain junk ++ rest) s = State.feed p rest s := by
  induction junk with
  | nil => rfl
  | cons b junk ih =>
    have taken : s.takeChar p ⟨b, false⟩ = (s, true) := by
      unfold State.takeChar
      split
      · rfl
      · rw [if_pos]
        simp [begun, none b (List.mem_cons_self ..)]
    have step := feed_cons (rest := plain junk ++ rest) taken
    exact step.trans (ih fun c mem => none c (List.mem_cons_of_mem _ mem))

/-- A frame that goes on through a run of bytes. -/
theorem feed_going (s : State) {p : Port} (port : p ≠ .BL) {l m : List Nat} (started : l ≠ [] ∨ ∃ m', m = 0xA5 :: m')
    (going : ∀ a b, m = a ++ b → a ≠ [] → frameFinding p false (l ++ a) = .going) (rest : List Chr) :
    State.feed p (plain m ++ rest) (s.setBegun p l) = State.feed p rest (s.setBegun p (l ++ m)) := by
  induction m generalizing l with
  | nil => rw [List.append_nil]; rfl
  | cons b m ih =>
    have first : l ≠ [] ∨ b = 0xA5 := started.imp id fun ⟨_, e⟩ => (List.cons.inj e).1
    have taken := s.takeChar_setBegun port first
    rw [going [b] m rfl (by simp)] at taken
    have step := feed_cons (rest := plain m ++ rest) taken
    refine step.trans ((ih (.inl (by simp)) fun a c split some => ?_).trans ?_)
    · rw [List.append_assoc]
      exact going (b :: a) c (by rw [split]; rfl) (by simp)
    · rw [List.append_assoc]
      rfl

/-- The record of a port after a bad frame, in a chain and out of one (R165, R166). -/
def PortRec.marred (r : PortRec) : PortRec :=
  if r.rx = .chain then
    { rx := .hunt, inHand := none, frames := 0, joined := [], begun := [], reply := none,
      errors := min 65535 (r.errors + 1), overruns := r.overruns }
  else { r with errors := min 65535 (r.errors + 1) }

theorem State.badOn_setBegun {s : State} {p : Port} (port : p ≠ .BL) (begun : (s.port p).begun = []) (l : List Nat) :
    (s.setBegun p l).badOn p = s.setPort p (s.port p).marred := by
  have rx : ((s.setBegun p l).port p).rx = (s.port p).rx := by rw [State.port_setBegun]
  have test : (s.setBegun p l).badOn p
      = if (s.port p).rx = .chain then (s.setBegun p l).dropChain p else (s.setBegun p l).countError p := by
    rw [← rx]
    cases p <;> first | rfl | exact absurd rfl port
  rw [test]
  unfold PortRec.marred
  split
  · cases p <;> rfl
  · have empty : ({ s.port p with errors := min 65535 ((s.port p).errors + 1) } : PortRec)
        = { s.port p with begun := [], errors := min 65535 ((s.port p).errors + 1) } := by
      rw [← begun]
    rw [empty]
    cases p <;> rfl

/-- A run of bytes that begins a frame and ends in a bad one. -/
theorem feed_bad {s : State} {p : Port} (port : p ≠ .BL) (begun : (s.port p).begun = []) {l : List Nat} {b : Nat}
    (going : ∀ a c, l = a ++ c → a ≠ [] → frameFinding p false a = .going) (started : ∃ m, l = 0xA5 :: m)
    (bad : frameFinding p false (l ++ [b]) = .bad) :
    State.feed p (plain (l ++ [b])) s = s.setPort p (s.port p).marred := by
  have run := feed_going s port (l := []) (.inr started) (fun a c => by simpa using going a c) (plain [b])
  rw [State.setBegun_self begun, List.nil_append] at run
  have taken := s.takeChar_setBegun port (l := l) (b := b) (.inl (by obtain ⟨m, rfl⟩ := started; simp))
  rw [bad, State.badOn_setBegun port begun] at taken
  have last := feed_cons (rest := []) taken
  have split : plain (l ++ [b]) = plain l ++ plain [b] := List.map_append
  rw [split]
  exact run.trans last

/-- Every part of a frame begun goes on. -/
theorem going_of_begun {p : Port} (port : p ≠ .BL) {bytes : List Nat} (h : begunBytes bytes) {a c : List Nat} (split : bytes = a ++ c)
    (some : a ≠ []) : frameFinding p false a = .going := by
  rcases h with rfl | ⟨l, rest, low, high, less, rfl⟩
  · cases a with
    | nil => exact absurd rfl some
    | cons x a =>
      obtain ⟨rfl, nil⟩ := List.cons.inj split
      obtain ⟨rfl, -⟩ := List.append_eq_nil_iff.mp nil.symm
      exact frameFinding_sync p
  · cases a with
    | nil => exact absurd rfl some
    | cons x a =>
      obtain ⟨rfl, more⟩ := List.cons.inj split
      cases a with
      | nil => exact frameFinding_sync p
      | cons y a =>
        obtain ⟨rfl, tail⟩ := List.cons.inj more
        refine frameFinding_going port low high ?_
        have := congrArg List.length tail
        simp only [List.append_eq, List.length_append] at this
        omega

/-- The bytes of a bad frame but its last one begin a frame. -/
theorem badBytes_split {p : Port} (port : p ≠ .BL) {bytes : List Nat} (h : badBytes bytes) :
    ∃ l b, bytes = l ++ [b] ∧ begunBytes l ∧ (∃ m, l = 0xA5 :: m) ∧ frameFinding p false (l ++ [b]) = .bad := by
  rcases h with ⟨l, out, rfl⟩ | ⟨l, seq, kind, body, c1, c0, low, high, fits, differs, rfl⟩
  · exact ⟨[0xA5], l, rfl, .inl rfl, ⟨[], rfl⟩, frameFinding_length p out⟩
  · refine ⟨0xA5 :: l :: seq :: kind :: (body ++ [c1]), c0, by simp, .inr ⟨l, seq :: kind :: (body ++ [c1]), low, high, ?_, rfl⟩,
      ⟨_, rfl⟩, ?_⟩
    · simp only [List.length_cons, List.length_append, List.length_nil]
      omega
    · have bad := frameFinding_check port low high fits differs
      simpa using bad

/-- A bad frame, taken byte by byte. -/
theorem feed_badBytes {s : State} {p : Port} (port : p ≠ .BL) (begun : (s.port p).begun = []) {junk bytes : List Nat}
    (none : ∀ b ∈ junk, b ≠ 0xA5) (bad : badBytes bytes) :
    State.feed p (plain (junk ++ bytes)) s = s.setPort p (s.port p).marred := by
  obtain ⟨l, b, rfl, starts, sync, found⟩ := badBytes_split port bad
  have split : plain (junk ++ (l ++ [b])) = plain junk ++ plain (l ++ [b]) := List.map_append
  rw [split, feed_junk begun none]
  exact feed_bad port begun (fun a c e some => going_of_begun port starts e some) sync found

theorem feed_begunBytes {s : State} {p : Port} (port : p ≠ .BL) (begun : (s.port p).begun = []) {junk bytes : List Nat}
    (none : ∀ b ∈ junk, b ≠ 0xA5) (starts : begunBytes bytes) :
    State.feed p (plain (junk ++ bytes)) s = s.setBegun p bytes := by
  have split : plain (junk ++ bytes) = plain junk ++ (plain bytes ++ []) := by
    rw [List.append_nil]
    exact List.map_append
  have sync : ∃ m, bytes = 0xA5 :: m := by
    rcases starts with rfl | ⟨l, rest, -, -, -, rfl⟩ <;> exact ⟨_, rfl⟩
  have run := feed_going s port (l := []) (.inr sync) (fun a c e some => going_of_begun port starts e some) []
  rw [State.setBegun_self begun, List.nil_append] at run
  rw [split, feed_junk begun none, run]
  rfl

theorem State.begun_marred {s : State} {p : Port} (begun : (s.port p).begun = []) :
    ((s.setPort p (s.port p).marred).port p).begun = [] := by
  rw [State.port_setPort, if_pos rfl]
  unfold PortRec.marred
  split
  · rfl
  · exact begun

/-! ## The rows -/

theorem exec_badFrame {s : State} (free : s.held = false) (p : Port) (chars : List Chr) :
    exec (.badFrame p chars) s = .next (State.feed p chars s) := by
  have arm : exec (.badFrame p chars) s = execBadFrame p chars s := rfl
  rw [arm, execBadFrame, if_neg (by simp [free])]

theorem exec_byteGapTimeout {s : State} (free : s.held = false) (p : Port) (chars : List Chr) :
    exec (.byteGapTimeout p chars) s = .next (if ((State.feed p chars s).port p).begun = [] then State.feed p chars s
      else (State.feed p chars s).badOn p) := by
  have arm : exec (.byteGapTimeout p chars) s = execByteGapTimeout p chars s := rfl
  rw [arm, execByteGapTimeout, if_neg (by simp [free])]

/-- A bad frame, and one that a pause makes bad, leave the port's record marred (R165, R166). -/
theorem exec_marred {s : State} {p : Port} (free : s.held = false) (port : p ≠ .BL) (begun : (s.port p).begun = [])
    {junk bytes : List Nat} (none : ∀ b ∈ junk, b ≠ 0xA5) :
    (badBytes bytes → exec (.badFrame p (plain (junk ++ bytes))) s = .next (s.setPort p (s.port p).marred)
        ∧ exec (.byteGapTimeout p (plain (junk ++ bytes))) s = .next (s.setPort p (s.port p).marred))
      ∧ (begunBytes bytes → exec (.byteGapTimeout p (plain (junk ++ bytes))) s = .next (s.setPort p (s.port p).marred)) := by
  refine ⟨fun bad => ?_, fun starts => ?_⟩
  · rw [exec_badFrame free, exec_byteGapTimeout free, feed_badBytes port begun none bad, if_pos (State.begun_marred begun)]
    exact ⟨rfl, rfl⟩
  · rw [exec_byteGapTimeout free, feed_begunBytes port begun none starts, if_neg, State.badOn_setBegun port begun]
    rw [State.port_setBegun]
    rcases starts with rfl | ⟨l, rest, -, -, -, rfl⟩ <;> simp

theorem PortRec.marred_cases {s : State} {p : Port} {o : Outcome} (h : o = .next (s.setPort p (s.port p).marred)) :
    ((s.port p).rx ≠ .chain → o = .next (s.setPort p { s.port p with errors := min 65535 ((s.port p).errors + 1) }))
    ∧ ((s.port p).rx = .chain → o = .next (s.setPort p
      { rx := .hunt, inHand := none, frames := 0, joined := [], begun := [], reply := none,
        errors := min 65535 ((s.port p).errors + 1), overruns := (s.port p).overruns })) := by
  unfold PortRec.marred at h
  constructor
  · intro other
    rw [h, if_neg other]
  · intro chain
    rw [h, if_pos chain]

/-- The chain of a port is discarded (R166). -/
theorem State.dropChain_eq (s : State) (p : Port) : s.dropChain p = s.setPort p
    { rx := .hunt, inHand := none, frames := 0, joined := [], begun := [], reply := none,
      errors := min 65535 ((s.port p).errors + 1), overruns := (s.port p).overruns } := by
  cases p <;> rfl

theorem State.countOverrun_eq {s : State} {p : Port} (begun : (s.port p).begun = []) :
    s.countOverrun p = s.setPort p { s.port p with overruns := min 65535 ((s.port p).overruns + 1) } := by
  unfold State.countOverrun
  rw [← begun]
  rfl

theorem State.countError_eq {s : State} {p : Port} (begun : (s.port p).begun = []) :
    s.countError p = s.setPort p { s.port p with errors := min 65535 ((s.port p).errors + 1) } := by
  unfold State.countError
  rw [← begun]
  rfl

theorem exec_chainFrame {s : State} (free : s.held = false) {h : Header} (port : h.port ≠ .BL) (k : Kind) (body : List Nat) :
    exec (.chainFrame h k body) s = .next (s.chainOn h.port h.seq k body) := by
  have arm : exec (.chainFrame h k body) s = execChainFrame h k body s := rfl
  rw [arm, execChainFrame, if_neg (by simp [free])]
  obtain ⟨p, seq⟩ := h
  cases p <;> first | rfl | exact absurd rfl port

/-- What a chain frame does, by the state of its port (R166, R167). -/
theorem State.chainOn_cases {s : State} {p : Port} (begun : (s.port p).begun = []) (seq : Nat) (k : Kind) (body : List Nat) :
    ((s.port p).rx = .hunt → s.chainOn p seq k body = s.setPort p
        { s.port p with rx := .chain, inHand := some (seq, k), frames := 1, joined := body, begun := [], reply := none })
      ∧ ((s.port p).rx = .chain → (s.port p).inHand = some (seq, k) → (s.port p).frames < 3 →
        s.chainOn p seq k body = s.setPort p
          { s.port p with frames := (s.port p).frames + 1, joined := (s.port p).joined ++ body })
      ∧ ((s.port p).rx = .chain → (s.port p).inHand = some (seq, k) → 3 ≤ (s.port p).frames →
        s.chainOn p seq k body = s.dropChain p)
      ∧ ((s.port p).rx = .chain → (s.port p).inHand ≠ some (seq, k) → s.chainOn p seq k body = s.setPort p
          { rx := .chain, inHand := some (seq, k), frames := 1, joined := body, begun := [], reply := none,
            errors := min 65535 ((s.port p).errors + 1), overruns := (s.port p).overruns })
      ∧ (((s.port p).rx = .handling ∨ (s.port p).rx = .replying) → s.chainOn p seq k body = s.countOverrun p) := by
  unfold State.chainOn
  dsimp only
  refine ⟨fun hunt => ?_, fun chain same few => ?_, fun chain same many => ?_, fun chain other => ?_, fun busy => ?_⟩
  · rw [hunt]
  · rw [chain]
    dsimp only
    rw [if_pos same, if_neg (by omega), ← begun]
  · rw [chain]
    dsimp only
    rw [if_pos same, if_pos many]
  · rw [chain]
    dsimp only
    rw [if_neg other]
    cases p <;> rfl
  · rcases busy with busy | busy <;> rw [busy]

/-- Settles O50. -/
theorem framesReceived : Obligations.FramesReceived := by
  intro s p free port begun
  refine ⟨fun junk bytes none => ⟨fun bad c mem => ?_, fun starts => ?_, ?_⟩, fun chain => ?_, ?_, fun busy => ⟨?_, ?_⟩⟩
  · obtain ⟨frame, gap⟩ := (exec_marred free port begun none).1 bad
    simp only [List.mem_cons, List.not_mem_nil, or_false] at mem
    rcases mem with rfl | rfl
    · exact PortRec.marred_cases frame
    · exact PortRec.marred_cases gap
  · exact PortRec.marred_cases ((exec_marred free port begun none).2 starts)
  · have discarded : State.feed p (plain junk) s = s := by
      have := feed_junk begun none []
      rwa [List.append_nil] at this
    rw [exec_byteGapTimeout free, exec_badFrame free, discarded, if_pos begun]
    exact ⟨rfl, rfl⟩
  · have arm : exec (.chainGapTimeout p) s = execChainGapTimeout p s := rfl
    rw [arm, execChainGapTimeout, if_pos (by simp [free, chain, begun]), State.dropChain_eq]
  · rintro h k body rfl
    obtain ⟨opens, goes, full, other, busy⟩ := State.chainOn_cases begun h.seq k body
    rw [exec_chainFrame free port]
    refine ⟨fun hunt => by rw [opens hunt], fun chain same few => by rw [goes chain same few], fun chain same many => ?_,
      fun chain ne => by rw [other chain ne], fun handling => ?_⟩
    · rw [full chain same many, State.dropChain_eq]
    · rw [busy handling, State.countOverrun_eq begun]
  · have arm : exec (.overrunFrame p true) s = execOverrunFrame p true s := rfl
    rw [arm, execOverrunFrame, if_neg (by simp [free, port])]
    rcases busy with busy | busy <;> rw [busy] <;> exact congrArg _ (State.countOverrun_eq begun)
  · have arm : exec (.overrunFrame p false) s = execOverrunFrame p false s := rfl
    rw [arm, execOverrunFrame, if_neg (by simp [free, port])]
    rcases busy with busy | busy <;> rw [busy] <;> exact congrArg _ (State.countError_eq begun)

end Sys2Proof.Machine
end

section
/-! SUPPORT. Proofs/Posted.lean: what a posting puts into a set, what it leaves there, and when a full set drops it (R176, R177). -/

namespace Sys2Proof.Machine

/-! ## A posting at a set -/

/-- A set holds a record of the kind and subject. -/
def CondSet.holds (c : CondSet) (k : CondKind) (subj : Subject) : Prop := ∃ r ∈ c.records, r.kind = k ∧ r.subject = subj

/-- A set holds a STANDING record of the kind and subject. -/
def CondSet.stands (c : CondSet) (k : CondKind) (subj : Subject) : Prop :=
  ∃ r ∈ c.records, r.kind = k ∧ r.subject = subj ∧ r.status = .standing

theorem Cond.names_true {r : Cond} {k : CondKind} {subj : Subject} : r.names k subj = true ↔ r.kind = k ∧ r.subject = subj := by
  unfold Cond.names
  simp

theorem CondSet.any_names {c : CondSet} {k : CondKind} {subj : Subject} :
    c.records.any (fun r => r.names k subj) = true ↔ c.holds k subj := by
  simp only [List.any_eq_true, Cond.names_true, CondSet.holds]

section
variable {c : CondSet} {k : CondKind} {subj : Subject} (capacity minute : Nat) (status : CondStatus) (raise : Bool)

/-- The three fates of a posting (R176). -/
theorem CondSet.post_gathered (h : c.holds k subj) : c.post capacity minute k subj status raise
    = { c with records := c.records.map (fun r => if r.names k subj then r.gathered raise else r) } := by
  unfold CondSet.post
  rw [if_pos (CondSet.any_names.mpr h)]

variable {capacity} in
theorem CondSet.post_appended (h : ¬c.holds k subj) (room : c.records.length < capacity) : c.post capacity minute k subj status raise
    = { c with records := c.records ++ [⟨k, subj, minute, 1, status⟩], line := .high } := by
  unfold CondSet.post
  rw [if_neg (mt CondSet.any_names.mp h), if_pos room]

variable {capacity} in
theorem CondSet.post_dropped (h : ¬c.holds k subj) (full : ¬c.records.length < capacity) : c.post capacity minute k subj status raise
    = { c with overflow := true } := by
  unfold CondSet.post
  rw [if_neg (mt CondSet.any_names.mp h), if_neg full]

theorem Cond.gathered_kind (r : Cond) : (r.gathered raise).kind = r.kind := rfl
theorem Cond.gathered_subject (r : Cond) : (r.gathered raise).subject = r.subject := rfl

variable {capacity minute status raise}

/-- A posting that no full set dropped stands in the set. -/
theorem CondSet.post_holds (kept : (c.post capacity minute k subj status raise).overflow = false ∨ c.records.length < capacity) :
    ∃ r ∈ (c.post capacity minute k subj status raise).records, r.kind = k ∧ r.subject = subj
      ∧ (raise = true → status = .standing → r.status = .standing) := by
  by_cases held : c.holds k subj
  · rw [CondSet.post_gathered _ _ _ _ held]
    obtain ⟨r, mem, kind, subject⟩ := held
    refine ⟨r.gathered raise, List.mem_map.mpr ⟨r, mem, if_pos (Cond.names_true.mpr ⟨kind, subject⟩)⟩, kind, subject, fun on _ => ?_⟩
    simp [Cond.gathered, on]
  · by_cases room : c.records.length < capacity
    · rw [CondSet.post_appended _ _ _ held room]
      exact ⟨_, List.mem_append_right _ (List.mem_singleton_self _), rfl, rfl, fun _ e => e⟩
    · rw [CondSet.post_dropped _ _ _ held room] at kept
      exact kept.elim nofun fun h => absurd h room

theorem CondSet.post_overflow (kept : (c.post capacity minute k subj status raise).overflow = false) : c.overflow = false := by
  by_cases held : c.holds k subj
  · rwa [CondSet.post_gathered _ _ _ _ held] at kept
  · by_cases room : c.records.length < capacity
    · rwa [CondSet.post_appended _ _ _ held room] at kept
    · rw [CondSet.post_dropped _ _ _ held room] at kept
      exact nomatch kept

/-- A record stands through a posting, its count and status apart. -/
theorem CondSet.post_keeps {r : Cond} (mem : r ∈ c.records) : ∃ q ∈ (c.post capacity minute k subj status raise).records,
    q.kind = r.kind ∧ q.subject = r.subject ∧ (r.status = .standing → q.status = .standing) := by
  by_cases held : c.holds k subj
  · rw [CondSet.post_gathered _ _ _ _ held]
    refine ⟨_, List.mem_map.mpr ⟨r, mem, rfl⟩, ?_⟩
    split
    · refine ⟨rfl, rfl, fun stands => ?_⟩
      cases raise
      · exact stands
      · rfl
    · exact ⟨rfl, rfl, id⟩
  · by_cases room : c.records.length < capacity
    · rw [CondSet.post_appended _ _ _ held room]
      exact ⟨r, List.mem_append_left _ mem, rfl, rfl, id⟩
    · rw [CondSet.post_dropped _ _ _ held room]
      exact ⟨r, mem, rfl, rfl, id⟩

/-- Every record after a posting of another kind or subject is one from before it. -/
theorem CondSet.post_from {r : Cond} (mem : r ∈ (c.post capacity minute k subj status raise).records)
    (other : ¬(r.kind = k ∧ r.subject = subj)) : r ∈ c.records := by
  by_cases held : c.holds k subj
  · rw [CondSet.post_gathered _ _ _ _ held] at mem
    obtain ⟨q, old, e⟩ := List.mem_map.mp mem
    split at e
    · next named => exact absurd (Cond.names_true.mp named) (by subst e; exact other)
    · exact e ▸ old
  · by_cases room : c.records.length < capacity
    · rw [CondSet.post_appended _ _ _ held room] at mem
      rcases List.mem_append.mp mem with old | new
      · exact old
      · exact absurd ⟨rfl, rfl⟩ (List.mem_singleton.mp new ▸ other)
    · rwa [CondSet.post_dropped _ _ _ held room] at mem

/-- A posting that is not a standing one makes no record STANDING. -/
theorem CondSet.post_stands (quiet : raise = false) (event : status ≠ .standing) {k' : CondKind} {subj' : Subject}
    (after : (c.post capacity minute k subj status raise).stands k' subj') : c.stands k' subj' := by
  subst quiet
  obtain ⟨r, mem, kind, subject, standing⟩ := after
  by_cases held : c.holds k subj
  · rw [CondSet.post_gathered _ _ _ _ held] at mem
    obtain ⟨q, old, rfl⟩ := List.mem_map.mp mem
    refine ⟨q, old, ?_⟩
    split at kind <;> rename_i named
    · rw [if_pos named] at subject standing
      exact ⟨kind, subject, standing⟩
    · rw [if_neg named] at subject standing
      exact ⟨kind, subject, standing⟩
  · by_cases room : c.records.length < capacity
    · rw [CondSet.post_appended _ _ _ held room] at mem
      rcases List.mem_append.mp mem with old | new
      · exact ⟨r, old, kind, subject, standing⟩
      · rw [List.mem_singleton.mp new] at standing
        exact absurd standing event
    · rw [CondSet.post_dropped _ _ _ held room] at mem
      exact ⟨r, mem, kind, subject, standing⟩

theorem CondSet.post_length : (c.post capacity minute k subj status raise).records.length ≤ c.records.length + 1 := by
  by_cases held : c.holds k subj
  · rw [CondSet.post_gathered _ _ _ _ held]
    simp
  · by_cases room : c.records.length < capacity
    · rw [CondSet.post_appended _ _ _ held room]
      simp
    · rw [CondSet.post_dropped _ _ _ held room]
      simp

end

/-- The end of a cause leaves no STANDING record of it, and every other record as it was (R177). -/
theorem CondSet.clearStanding_stands (c : CondSet) (k : CondKind) (subj : Subject) : ¬(c.clearStanding k subj).stands k subj := by
  rintro ⟨r, mem, kind, subject, standing⟩
  obtain ⟨q, old, rfl⟩ := List.mem_map.mp mem
  split at standing
  · exact nomatch standing
  · next other =>
    rw [if_neg other] at kind subject
    exact other (by simp [Cond.names_true.mpr ⟨kind, subject⟩, standing])

theorem CondSet.clearStanding_keeps {c : CondSet} {r : Cond} (k : CondKind) (subj : Subject) (mem : r ∈ c.records) :
    ∃ q ∈ (c.clearStanding k subj).records, q.kind = r.kind ∧ q.subject = r.subject
      ∧ (¬(r.kind = k ∧ r.subject = subj) → q = r) := by
  refine ⟨_, List.mem_map.mpr ⟨r, mem, rfl⟩, ?_⟩
  split
  · next named =>
    refine ⟨rfl, rfl, fun other => absurd (Cond.names_true.mp ?_) other⟩
    simp only [Bool.and_eq_true] at named
    exact named.1
  · exact ⟨rfl, rfl, fun _ => rfl⟩

/-- No record is made STANDING by the end of a cause. -/
theorem CondSet.clearStanding_from {c : CondSet} {k k' : CondKind} {subj subj' : Subject}
    (after : (c.clearStanding k subj).stands k' subj') : c.stands k' subj' := by
  obtain ⟨r, mem, kind, subject, standing⟩ := after
  obtain ⟨q, old, rfl⟩ := List.mem_map.mp mem
  refine ⟨q, old, ?_⟩
  split at standing
  · exact nomatch standing
  · next named =>
    rw [if_neg named] at kind subject
    exact ⟨kind, subject, standing⟩

/-! ## The condition sets from state to state -/

/-- `t` comes of `s` with every record of the sets still there, and no overflow flag cleared. -/
def State.grows (s t : State) : Prop := ∀ p, ((t.condSet p).overflow = false → (s.condSet p).overflow = false)
  ∧ ∀ k subj, (s.condSet p).holds k subj → (t.condSet p).holds k subj

theorem State.grows.refl (s : State) : s.grows s := fun _ => ⟨id, fun _ _ => id⟩

theorem State.grows.trans {s t u : State} (h : s.grows t) (g : t.grows u) : s.grows u :=
  fun p => ⟨fun clear => (h p).1 ((g p).1 clear), fun k subj held => (g p).2 k subj ((h p).2 k subj held)⟩

theorem State.grows.of_same {s t : State} (same : ∀ p, t.condSet p = s.condSet p) : s.grows t := fun p => by
  rw [same p]
  exact ⟨id, fun _ _ => id⟩

theorem State.grows.of_cnd {s t : State} (same : t.cnd = s.cnd) : s.grows t :=
  .of_same fun p => by cases p <;> (unfold State.condSet; rw [same])

theorem State.SetStep.grows {s t : State} (step : s.SetStep t) : s.grows t := by
  intro q
  cases step with
  | post p k subj status raise =>
    unfold State.postAt
    rw [State.condSet_setCondSet]
    split
    · next e =>
      rw [← e]
      refine ⟨CondSet.post_overflow, fun k' subj' held => ?_⟩
      obtain ⟨r, mem, kind, subject⟩ := held
      obtain ⟨q, mem', kind', subject', -⟩ := CondSet.post_keeps (capacity := setCapacity p) (minute := s.clk.minute) (k := k)
        (subj := subj) (status := status) (raise := raise) mem
      exact ⟨q, mem', kind'.trans kind, subject'.trans subject⟩
    · exact ⟨id, fun _ _ => id⟩
  | settle k subj =>
    have same : (s.settled k subj).condSet q = (s.condSet q).clearStanding k subj := by cases q <;> rfl
    rw [same]
    refine ⟨id, fun k' subj' held => ?_⟩
    obtain ⟨r, mem, kind, subject⟩ := held
    obtain ⟨q, mem', kind', subject', -⟩ := CondSet.clearStanding_keeps k subj mem
    exact ⟨q, mem', kind'.trans kind, subject'.trans subject⟩

theorem State.posts.grows {s t : State} (h : s.posts t) : s.grows t := by
  induction h with
  | refl => exact .refl s
  | tail _ step ih => exact ih.trans step.grows

theorem State.MoveStep.grows {s t : State} (step : s.MoveStep t) : s.grows t := by
  cases step with
  | posted step => exact step.grows
  | rewritten | yields | paired | pieced | celled | bayed | stripped | bumped => exact .of_cnd (by rfl)
  | @granted x i m leg need held verdict =>
    have taken : ∀ added : List Nat, s.grows (added.foldl (State.takeBack x) (s.setMove i (some m.go))) := fun added => by
      obtain ⟨v, e⟩ : (s.setMove i (some m.go)).vacatesOnly (added.foldl (State.takeBack x) (s.setMove i (some m.go))) :=
        foldl_keeps State.vacatesOnly.refl State.vacatesOnly.trans (fun t n => State.takeBack_vacates x t n) _ _
      rw [e]
      exact .of_cnd (by rfl)
    have ends : ∀ (t : State) (c : CraneRec), t.grows ((t.setCrane x c).endDeadlockOf m.serial) := fun t c => by
      refine State.grows.trans (t := t.setCrane x c) (.of_cnd (by cases x <;> rfl)) ?_
      unfold State.endDeadlockOf State.endDeadlock
      split
      · split
        · exact State.grows.trans (.of_cnd (by rfl)) (State.posts_end _ _ _ _).grows
        · exact .refl _
      · exact .refl _
    exact (taken _).trans (ends _ _)
  | left => exact .of_cnd (by generalize Move.crane _ = y; cases y <;> rfl)
  | @worked y _ _ => exact .of_cnd (by cases y <;> rfl)
  | barred y => exact .of_cnd (by cases y <;> rfl)
  | @craned y _ _ _ => exact .of_cnd (by cases y <;> rfl)
  | @spaced y _ _ _ => exact .of_cnd (by cases y <;> rfl)
  | shrunk x r =>
    rcases s.shrinkTo_cases x r with ⟨_, _, _, _, e⟩ | ⟨e, _⟩
    · rw [e]
      exact .of_cnd (by cases x <;> rfl)
    · rw [e]
      exact .refl s

theorem State.moved.grows {s t : State} (moved : s.moved t) : s.grows t := by
  induction moved with
  | refl => exact .refl s
  | tail _ step ih => exact ih.trans step.grows

/-! ## Postings of the machine -/

theorem State.condSet_postAt (s : State) (p : Point) (k : CondKind) (subj : Subject) (st : CondStatus) (r : Bool) (q : Point) :
    (s.postAt p k subj st r).condSet q
      = if p = q then (s.condSet p).post (setCapacity p) s.clk.minute k subj st r else s.condSet q :=
  State.condSet_setCondSet s p _ q

/-- An event posted stands in the set unless a full set dropped a posting (R176). -/
theorem State.postEvent_holds {s : State} {p : Point} {k : CondKind} {subj : Subject}
    (kept : ((s.postEvent p k subj).condSet p).overflow = false ∨ (s.condSet p).records.length < setCapacity p) :
    ((s.postEvent p k subj).condSet p).holds k subj := by
  unfold State.postEvent at *
  rw [State.condSet_postAt, if_pos rfl] at *
  obtain ⟨r, mem, kind, subject, -⟩ := CondSet.post_holds kept
  exact ⟨r, mem, kind, subject⟩

/-- And it still stands after anything that only adds to the sets. -/
theorem State.grows.holds {s t : State} {p : Point} {k : CondKind} {subj : Subject} (h : (s.postEvent p k subj).grows t)
    (kept : (t.condSet p).overflow = false) : (t.condSet p).holds k subj :=
  (h p).2 k subj (State.postEvent_holds (.inl ((h p).1 kept)))

/-- A cause that appears stands at a port where its mode is BOTH, unless a full set dropped a posting (R177). -/
theorem State.postStanding_stands {s : State} {p : Point} {k : CondKind} {subj : Subject} (both : s.modeOf p k = .both)
    (kept : ((s.postStanding p k subj).condSet p).overflow = false ∨ (s.condSet p).records.length < setCapacity p) :
    ((s.postStanding p k subj).condSet p).stands k subj := by
  have as : s.postStanding p k subj = s.postAt p k subj .standing true := by
    unfold State.postStanding
    rw [both]
  rw [as, State.condSet_postAt, if_pos rfl] at kept ⊢
  obtain ⟨r, mem, kind, subject, stands⟩ := CondSet.post_holds kept
  exact ⟨r, mem, kind, subject, stands rfl rfl⟩

/-- A posting at one port leaves the sets of the others. -/
theorem State.condSet_postStanding_other (s : State) {p q : Point} (other : p ≠ q) (k : CondKind) (subj : Subject) :
    (s.postStanding p k subj).condSet q = s.condSet q := by
  unfold State.postStanding
  split <;> first | rfl | (rw [State.condSet_postAt, if_neg other])

theorem State.condSet_postCleared_other (s : State) {p q : Point} (other : p ≠ q) (k : CondKind) (subj : Subject) :
    (s.postCleared p k subj).condSet q = s.condSet q := by
  unfold State.postCleared
  split <;> first | rfl | (rw [State.condSet_postAt, if_neg other])

theorem State.condSet_settled (s : State) (k : CondKind) (subj : Subject) (p : Point) :
    (s.settled k subj).condSet p = (s.condSet p).clearStanding k subj := by
  cases p <;> rfl

/-- No record of a cause that ends stays STANDING, in any set (R177). -/
theorem State.endCause_stands (s : State) (ports : List Point) (k : CondKind) (subj : Subject) (q : Point) :
    ¬((s.endCause ports k subj).condSet q).stands k subj := by
  have cleared : ∀ (t : State) (p : Point), ¬(t.condSet q).stands k subj → ¬((t.postCleared p k subj).condSet q).stands k subj := by
    intro t p none
    unfold State.postCleared
    split
    · rw [State.condSet_postAt]
      split
      · next e =>
        subst e
        exact fun after => none (CondSet.post_stands rfl (by decide) after)
      · exact none
    all_goals exact none
  have start : ¬((s.settled k subj).condSet q).stands k subj := by
    rw [State.condSet_settled]
    exact CondSet.clearStanding_stands _ k subj
  have run : ∀ (l : List Point) (t : State), ¬(t.condSet q).stands k subj →
      ¬((l.foldl (fun t p => t.postCleared p k subj) t).condSet q).stands k subj := by
    intro l
    induction l with
    | nil => exact fun t none => none
    | cons p l ih => exact fun t none => ih _ (cleared t p none)
  exact run ports (s.settled k subj) start

/-- What stands STANDING in `s` stands STANDING in `t` (R177). -/
def State.lasts (s t : State) : Prop := ∀ p k subj, (s.condSet p).stands k subj → (t.condSet p).stands k subj

theorem State.lasts.refl (s : State) : s.lasts s := fun _ _ _ => id

theorem State.lasts.trans {s t u : State} (h : s.lasts t) (g : t.lasts u) : s.lasts u := fun p k subj stood => g p k subj (h p k subj stood)

theorem State.lasts.of_same {s t : State} (same : ∀ p, t.condSet p = s.condSet p) : s.lasts t := fun p k subj stood => by
  rw [same p]
  exact stood

theorem State.lasts.of_cnd {s t : State} (same : t.cnd = s.cnd) : s.lasts t :=
  .of_same fun p => by cases p <;> (unfold State.condSet; rw [same])

theorem State.postAt_lasts (s : State) (p : Point) (k : CondKind) (subj : Subject) (st : CondStatus) (r : Bool) :
    s.lasts (s.postAt p k subj st r) := by
  intro q k' subj' stood
  rw [State.condSet_postAt]
  split
  · next same =>
    subst same
    obtain ⟨c, mem, kind, subject, standing⟩ := stood
    obtain ⟨c', mem', kind', subject', standing'⟩ := CondSet.post_keeps (capacity := setCapacity p) (minute := s.clk.minute) (k := k)
      (subj := subj) (status := st) (raise := r) mem
    exact ⟨c', mem', kind'.trans kind, subject'.trans subject, standing' standing⟩
  · exact stood

theorem State.postStanding_lasts (s : State) (p : Point) (k : CondKind) (subj : Subject) : s.lasts (s.postStanding p k subj) := by
  unfold State.postStanding
  split <;> first | exact .refl s | exact s.postAt_lasts _ _ _ _ _

theorem State.raiseCause_lasts (s : State) (ports : List Point) (k : CondKind) (subj : Subject) : s.lasts (s.raiseCause ports k subj) :=
  foldl_keeps State.lasts.refl State.lasts.trans (fun t p => t.postStanding_lasts p k subj) ports s

/-- A posting puts one record at most into a set. -/
theorem State.postAt_length (s : State) (p : Point) (k : CondKind) (subj : Subject) (st : CondStatus) (r : Bool) (q : Point) :
    ((s.postAt p k subj st r).condSet q).records.length ≤ (s.condSet q).records.length + 1 := by
  rw [State.condSet_postAt]
  split
  · next same =>
    subst same
    exact CondSet.post_length
  · omega

theorem State.postStanding_length (s : State) (p : Point) (k : CondKind) (subj : Subject) (q : Point) :
    ((s.postStanding p k subj).condSet q).records.length ≤ (s.condSet q).records.length + 1 := by
  unfold State.postStanding
  split <;> first | exact Nat.le_succ _ | exact s.postAt_length _ _ _ _ _ _

theorem CondSet.post_modes (c : CondSet) (capacity minute : Nat) (k : CondKind) (subj : Subject) (status : CondStatus) (raise : Bool) :
    (c.post capacity minute k subj status raise).modes = c.modes := by
  unfold CondSet.post
  split
  · rfl
  · split <;> rfl

theorem State.postAt_modes (s : State) (p : Point) (k : CondKind) (subj : Subject) (st : CondStatus) (r : Bool) (q : Point) :
    ((s.postAt p k subj st r).condSet q).modes = (s.condSet q).modes := by
  rw [State.condSet_postAt]
  split
  · next same =>
    subst same
    exact CondSet.post_modes _ _ _ _ _ _ _
  · rfl

/-- The report modes stand through a posting. -/
theorem State.postStanding_modes (s : State) (p : Point) (k : CondKind) (subj : Subject) (q : Point) :
    ((s.postStanding p k subj).condSet q).modes = (s.condSet q).modes := by
  unfold State.postStanding
  split <;> first | rfl | exact s.postAt_modes _ _ _ _ _ _

/-- The same in the words of the statements. -/
theorem CondSet.none_stands {c : CondSet} {k : CondKind} {subj : Subject} (none : ¬c.stands k subj) {r : Cond} (mem : r ∈ c.records)
    (kind : r.kind = k) (subject : r.subject = subj) : r.status ≠ .standing :=
  fun standing => none ⟨r, mem, kind, subject, standing⟩

end Sys2Proof.Machine
end

section
/-! SUPPORT. Proofs/Polled.lean: the poll of the panels, their missed answers, and the loss of one (R171, R172). -/

namespace Sys2Proof.Machine

/-! ## The next bed -/

theorem State.bedConfigured_le {s : State} {b : Nat} (configured : s.bedConfigured b = true) : b ≤ Config.beds := by
  unfold State.bedConfigured at configured
  simp only [Bool.and_eq_true, decide_eq_true_eq] at configured
  omega

/-- The first of an ascending list of numbers that passes a test. -/
theorem find_eq_of_least {l : List Nat} (ascends : l.Pairwise (· < ·)) {f : Nat → Bool} {b : Nat} (mem : b ∈ l) (passes : f b = true)
    (least : ∀ a ∈ l, a < b → f a = false) : l.find? f = some b := by
  induction l with
  | nil => exact nomatch mem
  | cons c l ih =>
    obtain ⟨above, ascends⟩ := List.pairwise_cons.mp ascends
    rcases List.mem_cons.mp mem with rfl | later
    · exact List.find?_cons_of_pos passes
    · rw [List.find?_cons_of_neg (by rw [least c (List.mem_cons_self ..) (above b later)]; exact Bool.false_ne_true)]
      exact ih ascends later fun a mem => least a (List.mem_cons_of_mem _ mem)

theorem State.nextBed_eq {s : State} {last b : Nat} (configured : s.bedConfigured b = true)
    (next : (last < b ∧ ∀ a, last < a → a < b → s.bedConfigured a = false)
      ∨ ((∀ a, last < a → s.bedConfigured a = false) ∧ ∀ a, a < b → s.bedConfigured a = false)) :
    s.nextBed last = some b := by
  have ascends : ((List.range (Config.beds + 1)).filter s.bedConfigured).Pairwise (· < ·) :=
    List.Pairwise.filter _ List.pairwise_lt_range
  have mem : b ∈ (List.range (Config.beds + 1)).filter s.bedConfigured :=
    List.mem_filter.mpr ⟨List.mem_range.mpr (Nat.lt_succ_of_le (State.bedConfigured_le configured)), configured⟩
  unfold State.nextBed
  rcases next with ⟨above, least⟩ | ⟨noneAbove, least⟩
  · have found : ((List.range (Config.beds + 1)).filter s.bedConfigured).find? (fun b => decide (last < b)) = some b := by
      refine find_eq_of_least ascends mem (decide_eq_true above) fun a mem less => ?_
      have on := (List.mem_filter.mp mem).2
      refine decide_eq_false fun higher => ?_
      rw [least a higher less] at on
      exact nomatch on
    simp only [found]
  · have missing : ((List.range (Config.beds + 1)).filter s.bedConfigured).find? (fun b => decide (last < b)) = none := by
      refine List.find?_eq_none.mpr fun a mem higher => ?_
      have on := (List.mem_filter.mp mem).2
      rw [noneAbove a (of_decide_eq_true higher)] at on
      exact nomatch on
    have first : ((List.range (Config.beds + 1)).filter s.bedConfigured).find? (fun _ => true) = some b := by
      refine find_eq_of_least ascends mem rfl fun a mem less => ?_
      have on := (List.mem_filter.mp mem).2
      rw [least a less] at on
      exact nomatch on
    simp only [missing]
    cases all : (List.range (Config.beds + 1)).filter s.bedConfigured with
    | nil => rw [all] at mem; exact nomatch mem
    | cons c l =>
      rw [all] at first
      exact first

/-! ## A missed answer -/

/-- A panel not yet lost for good: its missed-poll count rises (R172). -/
theorem State.panelMissed_counts {s : State} {b : Nat} (few : (s.bed b).missed < 2 ∨ (s.bed b).panelLost = true) :
    s.panelMissed b = s.setBed b { s.bed b with missed := min 3 ((s.bed b).missed + 1) } := by
  have count : holdAt 3 (s.bed b).missed = min 3 ((s.bed b).missed + 1) := by
    unfold holdAt
    omega
  unfold State.panelMissed
  simp only [count]
  rw [if_neg]
  simp only [Bool.and_eq_true, decide_eq_true_eq, not_and]
  intro third
  rcases few with few | lost
  · omega
  · simp [lost]

/-- The state in which a panel has just been lost (R172). -/
def State.panelGone (s : State) (b : Nat) : State :=
  ((s.setBed b { s.bed b with missed := 3, panelLost := true }).raiseCause [.PL] .panelLost (.bed b)).flagPanelLost b

theorem State.panelMissed_third {s : State} {b : Nat} (many : 2 ≤ (s.bed b).missed) (present : (s.bed b).panelLost = false) :
    s.panelMissed b = s.panelGone b := by
  have count : holdAt 3 (s.bed b).missed = 3 := by
    unfold holdAt
    omega
  unfold State.panelMissed State.panelGone
  simp only [count, present]
  rfl

theorem State.missAnswer_eq {s : State} {q : Poll} (opened : s.lnk.window = true) (poll : s.lnk.poll = some q) :
    s.missAnswer = (s.closeWindow.panelMissed q.bed).pollNext := by
  unfold State.missAnswer
  rw [opened, poll]

theorem exec_missedAnswer {s : State} {q : Poll} (free : s.held = false) (opened : s.lnk.window = true) (poll : s.lnk.poll = some q)
    (begun : s.lnk.bl.begun = []) : exec .missedAnswer s = .next (s.closeWindow.panelMissed q.bed).pollNext := by
  have arm : exec .missedAnswer s = execMissedAnswer s := rfl
  rw [arm, execMissedAnswer, if_neg (by simp [free, begun]), State.missAnswer_eq opened poll]

/-- What the loss of a panel leaves. -/
theorem State.panelGone_posted (s : State) (b : Nat) :
    (s.panelGone b).bed b = { s.bed b with missed := 3, panelLost := true }
    ∧ (∀ a, a ≠ b → (s.panelGone b).bed a = s.bed a ∧ (s.panelGone b).flags a = s.flags a)
    ∧ (∃ f, ((s.panelGone b).flags b).panelLost = some f ∧ f.status = .standing)
    ∧ (s.modeOf .PL .panelLost = .both → ((s.panelGone b).condSet .PL).overflow = false →
      ((s.panelGone b).condSet .PL).stands .panelLost (.bed b))
    ∧ (s.panelGone b).condSet .CW = s.condSet .CW ∧ (s.panelGone b).condSet .CE = s.condSet .CE
    ∧ { s.panelGone b with cnd := s.cnd, beds := s.beds } = s := by
  have raised : (s.setBed b { s.bed b with missed := 3, panelLost := true }).raiseCause [.PL] .panelLost (.bed b)
      = (s.setBed b { s.bed b with missed := 3, panelLost := true }).postStanding .PL .panelLost (.bed b) := rfl
  unfold State.panelGone
  rw [raised]
  have stands := @State.postStanding_stands (s.setBed b { s.bed b with missed := 3, panelLost := true }) .PL .panelLost (.bed b)
  have west := State.condSet_postStanding_other (s.setBed b { s.bed b with missed := 3, panelLost := true })
    (p := .PL) (q := .CW) nofun .panelLost (.bed b)
  have east := State.condSet_postStanding_other (s.setBed b { s.bed b with missed := 3, panelLost := true })
    (p := .PL) (q := .CE) nofun .panelLost (.bed b)
  obtain ⟨x, y, z, e⟩ := (s.setBed b { s.bed b with missed := 3, panelLost := true }).postStanding_only .PL .panelLost (.bed b)
  generalize (s.setBed b { s.bed b with missed := 3, panelLost := true }).postStanding .PL .panelLost (.bed b) = t at *
  have beds : ∀ a, (t.flagPanelLost b).bed a = if b = a then { s.bed b with missed := 3, panelLost := true } else s.bed a :=
    fun a => by
      rw [e]
      exact State.bed_setBed s b _ a
  have flags : ∀ a, t.flags a = s.flags a := fun a => by
    rw [e]
    rfl
  have written : ∀ a, (t.flagPanelLost b).flags a
      = if b = a then { t.flags b with panelLost := some (Flag.post t.clk.minute true (t.flags b).panelLost) } else t.flags a :=
    fun a => State.flags_setFlags t b _ a
  refine ⟨(beds b).trans (if_pos rfl), fun a other => ⟨(beds a).trans (if_neg other.symm),
    ((written a).trans (if_neg other.symm)).trans (flags a)⟩, ?_, fun both kept => ?_, ?_, ?_, ?_⟩
  · rw [written b, if_pos rfl]
    refine ⟨_, rfl, ?_⟩
    cases (t.flags b).panelLost <;> rfl
  · exact stands both (.inl kept)
  · exact west
  · exact east
  · subst e
    rfl

/-! ## The rows -/

theorem exec_bedPoll (s : State) : exec .bedPoll s = .next s.pollNext := rfl

/-- A bad character sequence in the answer window is a missed answer and an error of BL (R165, R172). -/
theorem State.badOn_window {s : State} {q : Poll} (opened : s.lnk.window = true) (poll : s.lnk.poll = some q) (l : List Nat) :
    (s.setBegun .BL l).badOn .BL = ((s.countError .BL).closeWindow.panelMissed q.bed).pollNext := by
  have waits : ((s.setBegun .BL l).lnk.window && (s.setBegun .BL l).lnk.poll.isSome) = true := by
    show (s.lnk.window && s.lnk.poll.isSome) = true
    simp [opened, poll]
  have arm : (s.setBegun .BL l).badOn .BL
      = if (s.setBegun .BL l).lnk.window && (s.setBegun .BL l).lnk.poll.isSome then ((s.setBegun .BL l).countError .BL).missAnswer
        else s.setBegun .BL l := rfl
  rw [arm, if_pos waits]
  exact State.missAnswer_eq opened poll

theorem State.takeChar_bad {s : State} {q : Poll} (opened : s.lnk.window = true) (poll : s.lnk.poll = some q) {l : List Nat} {c : Chr}
    (taken : l ≠ [] ∨ c.byte = 0xA5) (bad : frameFinding .BL c.ninth (l ++ [c.byte]) = .bad) (rest : List Chr) :
    State.feed .BL (c :: rest) (s.setBegun .BL l) = ((s.countError .BL).closeWindow.panelMissed q.bed).pollNext := by
  have hears : (s.setBegun .BL l).hears .BL = true := by
    show (s.lnk.window && s.lnk.poll.isSome) = true
    simp [opened, poll]
  have stop : (s.setBegun .BL l).takeChar .BL c = ((s.setBegun .BL l).badOn .BL, false) := by
    unfold State.takeChar
    rw [if_neg (by simp [hears]), State.port_setBegun, if_neg]
    · simp [bad]
    · simp only [Bool.and_eq_true, decide_eq_true_eq, not_and]
      intro empty
      rcases taken with some | same
      · exact absurd empty some
      · exact fun other => other same
  rw [State.feed, if_neg (by rw [stop]; exact Bool.false_ne_true), stop, State.badOn_window opened poll]

/-- A frame that goes bad in the window: its length byte out of range, or a ninth bit on its A5h. -/
theorem State.feed_window {s : State} {q : Poll} (opened : s.lnk.window = true) (poll : s.lnk.poll = some q) (begun : s.lnk.bl.begun = [])
    {chars : List Chr} (bad : (∃ l, (l < 2 ∨ 120 < l) ∧ chars = plain [0xA5, l]) ∨ chars = [⟨0xA5, true⟩]) :
    State.feed .BL chars s = ((s.countError .BL).closeWindow.panelMissed q.bed).pollNext := by
  have empty : s.setBegun .BL [] = s := State.setBegun_self (p := .BL) begun
  rcases bad with ⟨l, out, rfl⟩ | rfl
  · have hears : s.hears .BL = true := by
      show (s.lnk.window && s.lnk.poll.isSome) = true
      simp [opened, poll]
    have sync : s.takeChar .BL ⟨0xA5, false⟩ = (s.setBegun .BL [0xA5], true) := by
      have begun : (s.port .BL).begun = [] := begun
      unfold State.takeChar
      rw [if_neg (by simp [hears]), begun]
      rfl
    exact (feed_cons sync).trans (State.takeChar_bad (c := ⟨l, false⟩) opened poll (.inl (by simp)) (frameFinding_length .BL out) [])
  · have run := State.takeChar_bad (l := []) (c := ⟨0xA5, true⟩) opened poll (.inr rfl) rfl []
    rwa [empty] at run

/-- Settles O51. -/
theorem pollsAndMisses : Obligations.PollsAndMisses := by
  refine ⟨fun s b free run closed rx configured next => ?_, fun s q free opened poll begun => ⟨fun few => ?_, fun many present => ?_⟩,
    fun s q junk chars free opened poll begun none bad few => ?_⟩
  · rw [exec_bedPoll, State.pollNext, if_neg (by simp [free, run, closed, rx]), State.nextBed_eq configured next]
  · refine ⟨_, exec_missedAnswer free opened poll begun, ?_⟩
    rw [State.panelMissed_counts (s := s.closeWindow) few]
    rfl
  · obtain ⟨bed, others, flag, stands, west, east, frame⟩ := s.closeWindow.panelGone_posted q.bed
    refine ⟨_, _, exec_missedAnswer free opened poll begun, rfl, ?_⟩
    rw [State.panelMissed_third (s := s.closeWindow) many present]
    exact ⟨bed, others, flag, stands, congrArg State.lnk frame, west, east,
      congrArg (fun t : State => { t with lnk := s.lnk }) frame⟩
  · have split : exec (.badFrame .BL (plain junk ++ chars)) s = .next (State.feed .BL chars s) := by
      rw [exec_badFrame free, feed_junk (p := .BL) begun none]
    have missed : min 3 ((s.bed q.bed).missed + 1) = (s.bed q.bed).missed + 1 := by omega
    have counted := State.panelMissed_counts (s := (s.countError .BL).closeWindow) (b := q.bed) (.inl few)
    rw [split, State.feed_window opened poll begun bad, counted, State.countError_eq (p := .BL) begun, exec_bedPoll, ← missed]
    rfl

end Sys2Proof.Machine
end

section
/-! SUPPORT. Proofs/Answers.lean: a request whose owning block makes `t` of the state and answers `r`, whatever stands in the link. -/

namespace Sys2Proof.Machine

/-- The owning block makes `t` of `s` and answers `r`, whatever stands in the link ports. -/
def State.owned (s : State) (act : State → Answer) (t : State) (r : Reply) : Prop :=
  t.lnk = s.lnk ∧ ∀ l, act { s with lnk := l } = ({ t with lnk := l }, r)

theorem State.owned.intro {s t : State} {act : State → Answer} {r : Reply} (link : t.lnk = s.lnk)
    (acts : ∀ l, act { s with lnk := l } = ({ t with lnk := l }, r)) : s.owned act t r := ⟨link, acts⟩

section
variable {s t : State} {h : Header} {k : Kind} {body : List Nat} {owner : List Nat → State → Answer} {r : Reply}

theorem State.owned.handled (own : s.owned (owner body) t r) :
    owner body (s.handled h k) = ({ t with lnk := (s.handled h k).lnk }, r) := by
  obtain ⟨l, e⟩ := s.handled_eq h k
  rw [e]
  exact own.2 l

theorem State.owned.relinked (own : s.owned (owner body) t r) (l : Lnk) : ({ ({ t with lnk := l } : State) with lnk := s.lnk }) = t := by
  rw [← own.1]

/-- A planner's request in RUN. -/
theorem State.planner_answers (a : s.planner h) (own : s.owned (owner body) t r) (hp : permitted k .PL = true)
    (hl : lockedInRun k = false) (hf : bodyFits k body.length = true) : s.request h k body owner = t.answered h k r := by
  rw [State.request_planner_answered a hp hl hf (by rw [own.handled]), own.handled, own.relinked]

/-- A planner's request in CONFIG. -/
theorem State.loading_answers (a : s.loading h) (own : s.owned (owner body) t r) (hl : admittedInConfig k = true)
    (hf : bodyFits k body.length = true) : s.request h k body owner = t.answered h k r := by
  rw [State.request_loading_answered a hl hf (by rw [own.handled]), own.handled, own.relinked]

/-- A request of PL, CW or CE in RUN. -/
theorem State.master_answers (a : s.master h) (own : s.owned (owner body) t r) (hp : permitted k h.port = true)
    (hl : lockedInRun k = false) (hf : bodyFits k body.length = true) : s.request h k body owner = t.answered h k r := by
  rw [State.request_master_answered a hp hl hf (by rw [own.handled]), own.handled, own.relinked]

/-- A panel's request in RUN: its answer has been taken first. -/
theorem State.panel_answers {b : Nat} (a : s.panel h b) (own : (s.heard b).owned (owner body) t r) (hp : permitted k .BL = true)
    (hf : bodyFits k body.length = true) : s.request h k body owner = t.answered h k r := by
  rw [State.request_panel_answered a hp hf (by rw [own.handled]), own.handled, own.relinked]

end

end Sys2Proof.Machine
end

section
/-! SUPPORT. Proofs/Resets.lean: what a cold and a warm reset leave, what a hold does, and the retention supply (R12 to R15). -/

namespace Sys2Proof.Machine

/-! ## The state after reset -/

/-- Settles O52. -/
theorem invariantsAtReset : Obligations.InvariantsAtReset := by
  have tables := (State.tabled_iff State.reset).mp ⟨State.reset_tabled, nofun⟩
  refine ⟨fun p => by cases p <;> rfl, fun p => by cases p <;> exact ⟨Nat.zero_le _, .nil⟩, ⟨nofun, fun _ => ⟨rfl, rfl⟩⟩,
    fun n => ⟨Nat.zero_le _, Nat.zero_le _⟩, ⟨Nat.zero_le _, Nat.zero_le _, rfl⟩, ⟨Nat.le_refl 1, by decide⟩, tables.1, tables.2,
    fun x => by cases x <;> exact ⟨nofun, nofun⟩, ⟨fun z _ asks => absurd asks (Nat.lt_irrefl 0), fun _ => ⟨rfl, fun _ _ => rfl⟩⟩, ?_⟩
  rintro f (prepared | ⟨n, running⟩)
  · exact nomatch prepared
  · exact nomatch running

/-! ## Cold resets -/

theorem State.leaveHold_cold {s : State} (cold : s.run = false ∨ s.rst.retention = false ∨ s.rst.supplyLost = true) :
    s.leaveHold = s.chilled := by
  unfold State.leaveHold
  rw [if_neg]
  simp only [Bool.and_eq_true, decide_eq_true_eq, not_and]
  rintro ⟨run, supply⟩ kept
  rcases cold with other | other | other <;> simp_all

theorem exec_warmReset_held {s : State} (held : s.held = true) : exec .warmReset s = .next s.leaveHold := by
  have arm : exec .warmReset s = execWarmReset s := rfl
  rw [arm, execWarmReset]
  cases hold : s.rst.hold with
  | none => simp [State.held, hold] at held
  | line => rfl
  | restart => rfl

/-- Settles O6. -/
theorem coldResets : Obligations.ColdResets := by
  refine ⟨fun s => rfl, fun s held cold => ?_⟩
  rw [exec_warmReset_held held, State.leaveHold_cold cold]
  rfl

/-! ## The hold -/

/-- The records that stand while the part is taken into a hold (R14). -/
theorem State.enterHold_stands (s : State) (h : Hold) : (s.enterHold h).lyt = s.lyt ∧ (s.enterHold h).clk = s.clk
    ∧ (s.enterHold h).beds = s.beds ∧ (s.enterHold h).pcv = s.pcv ∧ (s.enterHold h).zcu = s.zcu ∧ (s.enterHold h).sha = s.sha
    ∧ (s.enterHold h).pct = s.pct ∧ (s.enterHold h).stk = s.stk ∧ (s.enterHold h).rru = s.rru ∧ (s.enterHold h).mvu = s.mvu
    ∧ (s.enterHold h).pending = s.pending := by
  unfold State.enterHold
  cases s.coldNow <;> exact ⟨rfl, rfl, rfl, rfl, rfl, rfl, rfl, rfl, rfl, rfl, rfl⟩

theorem State.enterHold_rst (s : State) (h : Hold) :
    (s.enterHold h).rst = { s.rst with hold := h, supplyLost := !s.rst.retention, restartOwed := false, driverDisabled := true } := by
  unfold State.enterHold
  cases s.coldNow <;> rfl

/-- The valve lines of a hold: each closed by its zone's sense in a warm reset, and low in a cold one (R14). -/
theorem State.enterHold_valves (s : State) (h : Hold) :
    (s.run = true → s.rst.retention = true → ∀ z, z < 16 → (s.enterHold h).valve z = match (s.zoneLayout z).sense with
        | .openHigh => Level.low
        | .openLow => Level.high)
      ∧ ((s.run = false ∨ s.rst.retention = false) → ∀ z, (s.enterHold h).valve z = .low) := by
  refine ⟨fun run supply z zone => ?_, fun cold z => ?_⟩
  · have warm : s.coldNow = false := by simp [State.coldNow, run, supply]
    have line : (s.enterHold h).valve z = s.closeValves.valve z := by
      unfold State.enterHold
      rw [warm]
      rfl
    rw [line, State.valve_closeValves s z zone]
    cases (s.zoneLayout z).sense <;> rfl
  · have cold : s.coldNow = true := by
      unfold State.coldNow
      rcases cold with other | other <;> simp [other]
    unfold State.enterHold
    rw [cold]
    rfl

theorem State.enterHold_condSet (s : State) (h : Hold) (p : Point) :
    (s.enterHold h).condSet p = { s.condSet p with line := .low } := by
  unfold State.enterHold
  cases s.coldNow <;> cases p <;> rfl

theorem State.enterHold_port (s : State) (h : Hold) (p : Port) : (s.enterHold h).port p =
    { s.port p with rx := .hunt, inHand := none, frames := 0, joined := [], begun := [], reply := none } := by
  unfold State.enterHold
  cases s.coldNow <;> cases p <;> rfl

theorem State.enterHold_window (s : State) (h : Hold) : (s.enterHold h).lnk.window = false := by
  unfold State.enterHold
  cases s.coldNow <;> rfl

/-- Settles O7. -/
theorem lineHolds : Obligations.LineHolds := by
  intro s unlined
  have line : exec .resetLineAssert s = .next (s.enterHold .line) := by
    have arm : exec .resetLineAssert s = execResetLineAssert s := rfl
    rw [arm, execResetLineAssert]
    cases hold : s.rst.hold with
    | line => exact absurd hold unlined
    | none => rfl
    | restart => rfl
  obtain ⟨lyt, clk, beds, pcv, zcu, sha, pct, stk, rru, mvu, pending⟩ := s.enterHold_stands .line
  obtain ⟨warm, cold⟩ := s.enterHold_valves .line
  have rst := s.enterHold_rst .line
  refine ⟨_, line, ?_, ?_, ?_, ?_, ?_, warm, cold, s.enterHold_condSet .line, s.enterHold_port .line, s.enterHold_window .line,
    lyt, clk, beds, pcv, zcu, sha, pct, stk, rru, mvu, pending⟩ <;> rw [rst]

/-! ## The warm reset -/

theorem State.leaveHold_warm {s : State} (run : s.run = true) (supply : s.rst.retention = true) (kept : s.rst.supplyLost = false) :
    s.leaveHold = s.rewarmed.postEvent .PL .restarted .none := by
  unfold State.leaveHold
  rw [if_pos (by simp [run, supply, kept]), State.warmed_eq]

/-- A block's record of a table that every warm reset rewrites. -/
theorem Tab.read_warm {α : Type} [DecidableEq α] {d : α} {n : Nat} {f : α → α} {t : Tab α} {i : Nat} (h : i < n) :
    (Tab.mapAll d n (fun _ v => f v) t).read d i = f (t.read d i) := by
  rw [Tab.read_mapAll, if_pos h]

/-- The orphan found for a crane is a piece on its hook, and one is found where there is one (R161). -/
theorem State.orphanOf_hooked {s : State} {x : Crane} {n : Nat} (found : s.orphanOf x = some n) :
    (s.piece n).state = .hook ∧ (s.piece n).location = some (.crane x) := by
  have passes := List.find?_some found
  simp only [Bool.and_eq_true, decide_eq_true_eq] at passes
  exact passes

theorem State.orphanOf_isSome {s : State} {x : Crane} {n : Nat} (slot : n < 192) (hook : (s.piece n).state = .hook)
    (crane : (s.piece n).location = some (.crane x)) : ∃ m, s.orphanOf x = some m := by
  refine Option.isSome_iff_exists.mp (List.find?_isSome.mpr ⟨n, List.mem_range.mpr slot, ?_⟩)
  simp [hook, crane]

/-- Settles O8. -/
theorem warmResetKeeps : Obligations.WarmResetKeeps := by
  intro s held run supply kept
  have leaves := (exec_warmReset_held held).trans (congrArg Host.Outcome.next (State.leaveHold_warm run supply kept))
  have beds : ∀ b, b ≤ 12 → (s.rewarmed.postEvent .PL .restarted .none).bed b = (s.bed b).warm :=
    fun b bed => Tab.read_warm (Nat.lt_succ_of_le bed)
  have zones : ∀ z, z < 16 → (s.rewarmed.postEvent .PL .restarted .none).zone z = s.warmZone (s.zone z) := fun z zone => Tab.read_warm zone
  refine ⟨_, leaves, rfl, rfl, rfl, fun b bed other => ?_, fun b bed permitted => ?_, fun c channel => Tab.read_warm channel,
    fun c => rfl, rfl, rfl, rfl, rfl, rfl, fun z zone => ?_, fun z n zone named => ?_, rfl, fun z zone => ?_,
    fun n slot => Tab.read_warm slot, fun c cell => Tab.read_warm cell, fun b bay => Tab.read_warm bay, rfl, fun p => by cases p <;> rfl,
    fun x => by cases x <;> rfl, fun n => rfl, rfl, rfl, rfl, fun i => rfl, rfl, fun x => by cases x <;> exact ⟨rfl, rfl, rfl, rfl⟩,
    fun x n orphan => ?_, fun x n slot hook crane => ?_, rfl, rfl, rfl, rfl, rfl, rfl, fun p => by cases p <;> exact ⟨rfl, rfl⟩,
    fun b => rfl, rfl, rfl⟩
  · rw [beds b bed, Bed.warm, if_neg other, if_neg other]
  · rw [beds b bed, Bed.warm, if_pos permitted, if_pos permitted]
  · rw [zones z zone]
    exact ⟨rfl, rfl, rfl, rfl, rfl, rfl, rfl, rfl, rfl⟩
  · rw [zones z zone, State.warmZone, named]
    cases (s.zone z).stage <;> rfl
  · have line : (s.rewarmed.postEvent .PL .restarted .none).valve z = s.closeValves.valve z := rfl
    rw [line, State.valve_closeValves s z zone]
    cases (s.zoneLayout z).sense <;> rfl
  · exact State.orphanOf_hooked (by cases x <;> exact orphan)
  · obtain ⟨m, found⟩ := State.orphanOf_isSome slot hook crane
    exact ⟨m, by cases x <;> exact found⟩

/-! ## RESTART and the retention supply -/

theorem exec_replySent {s : State} (free : s.held = false) {p : Port} (replying : (s.port p).rx = .replying) (other : p ≠ .BL)
    (owed : p ≠ .PL ∨ s.rst.restartOwed = false) : exec (.replySent p) s = .next (s.toHunt p) := by
  have arm : exec (.replySent p) s = execReplySent p s := rfl
  rw [arm]
  unfold execReplySent
  rw [if_pos (by simp [free, replying])]
  cases p with
  | PL => simp only [owed.resolve_left (fun ne => ne rfl), Bool.false_eq_true, if_false]
  | CW | CE => rfl
  | BL => exact absurd rfl other

theorem exec_replySent_panel {s : State} (free : s.held = false) (replying : (s.port .BL).rx = .replying) :
    exec (.replySent .BL) s = .next (s.toHunt .BL).pollNext := by
  have arm : exec (.replySent .BL) s = execReplySent .BL s := rfl
  rw [arm, execReplySent, if_pos (by simp [free, replying])]

theorem exec_replySent_restart {s : State} (free : s.held = false) (replying : (s.port .PL).rx = .replying)
    (owed : s.rst.restartOwed = true) : exec (.replySent .PL) s = .next (s.enterHold .restart) := by
  have arm : exec (.replySent .PL) s = execReplySent .PL s := rfl
  rw [arm, execReplySent, if_pos (by simp [free, replying])]
  simp only [owed, if_true]

theorem exec_supplyLoss (s : State) : exec .retentionSupplyLoss s = .next (if s.rst.hold = .line then
      { s.lowValves with rst := { s.rst with retention := false, supplyLost := true } }
    else { s with rst := { s.rst with retention := false } }) := rfl

/-- Settles O9. -/
theorem restartAndSupply : Obligations.RestartAndSupply := by
  refine ⟨fun s h a => ?_, fun s p free replying other owed => exec_replySent free replying other owed,
    fun s free replying => exec_replySent_panel free replying, fun s free replying owed => ?_,
    fun s line => ?_, fun s unlined => ?_, fun s => rfl⟩
  · exact congrArg Host.Outcome.next (State.planner_answers a (.intro rfl fun l => rfl) rfl rfl rfl)
  · obtain ⟨lyt, clk, beds, -, -, -, pct, stk, rru, mvu, -⟩ := s.enterHold_stands .restart
    have rst := s.enterHold_rst .restart
    have links := s.enterHold_port .restart
    refine ⟨_, exec_replySent_restart free replying owed, ?_, ?_, ?_, (s.enterHold_valves .restart).1, fun p => ?_, fun p => ?_,
      s.enterHold_window .restart, lyt, clk, beds, pct, stk, rru, mvu⟩
    · rw [rst]
    · rw [rst]
    · rw [rst]
    · rw [s.enterHold_condSet .restart p]
    · rw [links p]
      exact ⟨rfl, rfl⟩
  · rw [exec_supplyLoss, if_pos line]
    exact ⟨_, rfl, rfl, fun z => rfl, rfl⟩
  · rw [exec_supplyLoss, if_neg unlined]

end Sys2Proof.Machine
end

section
/-! SUPPORT. Proofs/Ticked.lean: what a second and a minute do (R9, R10, R29, R90, R122, R129). -/

namespace Sys2Proof.Machine

/-! ## A presence timer -/

/-- A crane record after a second tick (R122). -/
def CraneRec.ticked (r : CraneRec) : CraneRec :=
  if r.presence = .active then
    match r.timer with
    | some n => if n ≤ 1 then { r with presence := .stale, timer := none } else { r with timer := some (n - 1) }
    | none => r
  else r

theorem State.setsOnly.crane {s t : State} (h : s.setsOnly t) (x : Crane) : t.crane x = s.crane x := by
  obtain ⟨_, _, _, rfl⟩ := h
  rfl

theorem State.tickPresence_crane (s : State) (x y : Crane) :
    (s.tickPresence x).crane y = if x = y then (s.crane x).ticked else s.crane y := by
  have same : s.crane y = if x = y then s.crane x else s.crane y := by
    split
    · next e => rw [e]
    · rfl
  unfold State.tickPresence CraneRec.ticked
  dsimp only
  split
  · cases (s.crane x).timer with
    | none => exact same
    | some n =>
      dsimp only
      split
      · rw [(State.raiseCause_only _ _ _ _).crane, State.crane_setCrane]
      · rw [State.crane_setCrane]
  · exact same

theorem State.tickPresence_due {s : State} {x : Crane} {n : Nat} (active : (s.crane x).presence = .active)
    (timer : (s.crane x).timer = some n) (out : n ≤ 1) : s.tickPresence x
      = (s.setCrane x { s.crane x with presence := .stale, timer := none }).raiseCause (stalePorts x) .craneStale (.crane x) := by
  unfold State.tickPresence
  simp only [active, timer, if_true, out]

theorem State.condSet_setCrane (s : State) (x : Crane) (r : CraneRec) (p : Point) : (s.setCrane x r).condSet p = s.condSet p := by
  cases x <;> rfl

/-- CRANE-STALE goes to two ports, and so adds one record at most to each set. -/
theorem State.raiseStale_length (s : State) (x : Crane) (p : Point) :
    ((s.raiseCause (stalePorts x) .craneStale (.crane x)).condSet p).records.length ≤ (s.condSet p).records.length + 1 := by
  have apart : cranePoint x.other ≠ .PL := by cases x <;> decide
  have both : s.raiseCause (stalePorts x) .craneStale (.crane x)
      = (s.postStanding .PL .craneStale (.crane x)).postStanding (cranePoint x.other) .craneStale (.crane x) := rfl
  rw [both]
  by_cases planner : p = .PL
  · rw [State.condSet_postStanding_other _ (planner ▸ apart)]
    exact State.postStanding_length _ _ _ _ _
  · refine Nat.le_trans (State.postStanding_length _ _ _ _ _) ?_
    rw [State.condSet_postStanding_other _ (Ne.symm planner)]

/-- CRANE-STALE stands on a port of its own where the mode is BOTH and room is left (R122, R177). -/
theorem State.raiseStale_stands {s : State} {x : Crane} {p : Point} (port : p = .PL ∨ p = cranePoint x.other)
    (both : s.modeOf p .craneStale = .both) (room : (s.condSet p).records.length < setCapacity p) :
    ((s.raiseCause (stalePorts x) .craneStale (.crane x)).condSet p).stands .craneStale (.crane x) := by
  have apart : .PL ≠ cranePoint x.other := by cases x <;> decide
  have twice : s.raiseCause (stalePorts x) .craneStale (.crane x)
      = (s.postStanding .PL .craneStale (.crane x)).postStanding (cranePoint x.other) .craneStale (.crane x) := rfl
  rw [twice]
  rcases port with rfl | rfl
  · exact State.postStanding_lasts _ _ _ _ _ _ _ (State.postStanding_stands both (.inr room))
  · have other := State.condSet_postStanding_other s apart .craneStale (.crane x)
    refine State.postStanding_stands ?_ (.inr (by rw [other]; exact room))
    unfold State.modeOf at both ⊢
    rw [other]
    exact both

/-- The end of a presence timer is the one thing a presence tick posts. -/
theorem State.tickPresence_posts (s : State) (x : Crane) : s.lasts (s.tickPresence x)
    ∧ (∀ p, ((s.tickPresence x).condSet p).modes = (s.condSet p).modes)
    ∧ ∀ p, ((s.tickPresence x).condSet p).records.length ≤ (s.condSet p).records.length + 1 := by
  have quiet : ∀ r, s.lasts (s.setCrane x r) ∧ (∀ p, ((s.setCrane x r).condSet p).modes = (s.condSet p).modes)
      ∧ ∀ p, ((s.setCrane x r).condSet p).records.length ≤ (s.condSet p).records.length + 1 := fun r =>
    ⟨.of_same fun p => s.condSet_setCrane x r p, fun p => by rw [State.condSet_setCrane], fun p => by
      rw [State.condSet_setCrane]
      omega⟩
  have same : s.lasts s ∧ (∀ p, (s.condSet p).modes = (s.condSet p).modes)
      ∧ ∀ p, (s.condSet p).records.length ≤ (s.condSet p).records.length + 1 := ⟨.refl s, fun _ => rfl, fun _ => Nat.le_succ _⟩
  unfold State.tickPresence
  dsimp only
  split
  · split
    · split
      · obtain ⟨lasts, modes, -⟩ := quiet { s.crane x with presence := .stale, timer := none }
        refine ⟨lasts.trans (State.raiseCause_lasts _ _ _ _), fun p => ?_, fun p => ?_⟩
        · refine Eq.trans ?_ (modes p)
          exact (State.postStanding_modes _ _ _ _ p).trans (State.postStanding_modes _ _ _ _ p)
        · rw [← s.condSet_setCrane x { s.crane x with presence := .stale, timer := none } p]
          exact State.raiseStale_length _ x p
      · exact quiet _
    · exact same
  · exact same

/-! ## The second -/

/-- A second with what it delivers before the minute (R10). -/
def State.second (s : State) : State := ({ s with clk := s.clk.next } : State).secondTick

theorem State.countSecond_eq (s : State) : s.countSecond = if 59 ≤ s.clk.second then s.second.minuteTick else s.second := by
  unfold State.countSecond State.minuteDue State.second
  simp only [decide_eq_true_eq]

theorem exec_secondTick {s : State} (ticking : s.ticking = true) : exec .secondTick s = .next s.countSecond := by
  have arm : exec .secondTick s = execSecondTick s := rfl
  rw [arm, execSecondTick, State.tick, if_pos ticking]

/-- What the second changes before the minute. -/
theorem State.second_only (s : State) : ∃ r a b c, s.second = { s with
    clk := s.clk.next, sha := ({ s with clk := s.clk.next } : State).steamTick.sha,
    valves := ({ s with clk := s.clk.next } : State).steamTick.valves, rru := r, cnd := { s.cnd with pl := a, cw := b, ce := c } } := by
  obtain ⟨a, v, e⟩ := State.steamTick_only { s with clk := s.clk.next }
  obtain ⟨r, x, y, z, e'⟩ := State.runwayTick_only ({ s with clk := s.clk.next } : State).steamTick
  refine ⟨r, x, y, z, ?_⟩
  unfold State.second State.secondTick
  rw [e', e]

theorem State.steamTick_reads (s : State) : (∀ x, s.steamTick.crane x = s.crane x) ∧ (∀ i, s.steamTick.vacate i = s.vacate i)
    ∧ (∀ p, s.steamTick.condSet p = s.condSet p) := by
  obtain ⟨a, v, e⟩ := s.steamTick_only
  rw [e]
  exact ⟨fun x => by cases x <;> rfl, fun _ => rfl, fun p => by cases p <;> rfl⟩

theorem State.runwayTick_crane (s : State) (x : Crane) : s.runwayTick.crane x = (s.crane x).ticked := by
  have last : s.runwayTick.crane x = ((s.tickPresence .W).tickPresence .E).crane x := by cases x <;> rfl
  rw [last, State.tickPresence_crane, State.tickPresence_crane, State.tickPresence_crane]
  cases x <;> rfl

theorem State.tickPresence_vacate (s : State) (x : Crane) (i : Nat) : (s.tickPresence x).vacate i = s.vacate i := by
  have raised : ∀ (t : State) l k j, (t.raiseCause l k j).vacate i = t.vacate i := fun t l k j => by
    obtain ⟨_, _, _, e⟩ := t.raiseCause_only l k j
    rw [e]
    rfl
  unfold State.tickPresence
  dsimp only
  split
  · split
    · split
      · rw [raised, State.vacate_setCrane]
      · rw [State.vacate_setCrane]
    · rfl
  · rfl

theorem State.runwayTick_vacate (s : State) (i : Nat) : s.runwayTick.vacate i = if i < 32 then Vacate.ticked (s.vacate i) else none := by
  have last : s.runwayTick.vacate i = if i < 32 then Vacate.ticked (((s.tickPresence .W).tickPresence .E).vacate i) else none :=
    Tab.read_mapAll _ _ _ _ _
  rw [last, State.tickPresence_vacate, State.tickPresence_vacate]

/-- A crane whose timer runs out becomes STALE, and CRANE-STALE stands on its ports (R122). -/
theorem State.runwayTick_stale {s : State} {x : Crane} {n : Nat} (active : (s.crane x).presence = .active)
    (timer : (s.crane x).timer = some n) (out : n ≤ 1) {p : Point} (port : p = .PL ∨ p = cranePoint x.other)
    (both : s.modeOf p .craneStale = .both) (room : (s.condSet p).records.length + 1 < setCapacity p) :
    (s.runwayTick.condSet p).stands .craneStale (.crane x) := by
  have last : s.runwayTick.condSet p = ((s.tickPresence .W).tickPresence .E).condSet p := by cases p <;> rfl
  rw [last]
  obtain ⟨-, modes, more⟩ := s.tickPresence_posts .W
  obtain ⟨lasts, -, -⟩ := (s.tickPresence .W).tickPresence_posts .E
  have mode : ∀ t : State, (t.condSet p).modes = (s.condSet p).modes → t.modeOf p .craneStale = .both := fun t same => by
    unfold State.modeOf at both ⊢
    rw [same]
    exact both
  have stands : ∀ t : State, (t.crane x) = s.crane x → (t.condSet p).modes = (s.condSet p).modes →
      (t.condSet p).records.length < setCapacity p → ((t.tickPresence x).condSet p).stands .craneStale (.crane x) := by
    intro t same modes less
    rw [State.tickPresence_due (by rw [same]; exact active) (by rw [same]; exact timer) out]
    refine State.raiseStale_stands port (mode _ ?_) ?_
    · rw [State.condSet_setCrane]
      exact modes
    · rw [State.condSet_setCrane]
      exact less
  cases x with
  | W => exact lasts _ _ _ (stands s rfl rfl (by omega))
  | E =>
    refine stands (s.tickPresence .W) ?_ (modes p) ?_
    · rw [State.tickPresence_crane]
      rfl
    · have := more p
      omega

/-! ## The minute -/

/-- The permit of a bed expires now (R29). -/
def State.expires (s : State) (b : Nat) : Prop := (s.bed b).state = .permitted ∧ (s.bed b).deadline = some s.clk.minute

theorem State.expirePermit_due {s : State} {b : Nat} (due : s.expires b) : s.expirePermit b
    = ((s.setBed b { s.bed b with state := .ready, deadline := none }).postEvent .PL .permitExpired (.bed b)).flagExpired b := by
  obtain ⟨state, deadline⟩ := due
  unfold State.expirePermit
  rw [if_pos (by simp [state, deadline])]

theorem State.expirePermit_stands {s : State} {b : Nat} (none : ¬s.expires b) : s.expirePermit b = s := by
  unfold State.expirePermit
  rw [if_neg]
  simp only [Bool.and_eq_true, decide_eq_true_eq]
  exact none

/-- The beds below `n` have made their comparison at a minute tick, and no other. -/
structure State.expired (s : State) (n : Nat) (t : State) : Prop where
  clock : t.clk = s.clk
  ends : ∀ b, b < n → s.expires b → t.bed b = { s.bed b with state := .ready, deadline := none } ∧ (t.flags b).expired.isSome = true
  stands : ∀ b, ¬(b < n ∧ s.expires b) → t.bed b = s.bed b
  length : (t.condSet .PL).records.length ≤ (s.condSet .PL).records.length + n
  posted : (s.condSet .PL).records.length + n ≤ 32 → ∀ b, b < n → s.expires b → (t.condSet .PL).holds .permitExpired (.bed b)
  lasts : s.lasts t
  only : ∃ e c, t = { s with beds := e, cnd := c }

/-- The bed that comes next expires. -/
theorem State.expired.posts {s t : State} {n : Nat} (h : s.expired n t) (due : s.expires n) : s.expired (n + 1)
    (((t.setBed n { t.bed n with state := .ready, deadline := none }).postEvent .PL .permitExpired (.bed n)).flagExpired n) := by
  have same : t.bed n = s.bed n := h.stands n fun ⟨less, _⟩ => absurd less (Nat.lt_irrefl n)
  have step := State.SetStep.grows (.post (s := t.setBed n { t.bed n with state := .ready, deadline := none })
    .PL .permitExpired (.bed n) .notice false)
  have more := (t.setBed n { t.bed n with state := .ready, deadline := none }).postAt_length .PL .permitExpired (.bed n) .notice false .PL
  have posted := @State.postEvent_holds (t.setBed n { t.bed n with state := .ready, deadline := none }) .PL .permitExpired (.bed n)
  have lasts := (t.setBed n { t.bed n with state := .ready, deadline := none }).postAt_lasts .PL .permitExpired (.bed n) .notice false
  obtain ⟨x, y, z, e⟩ := State.postEvent_only (t.setBed n { t.bed n with state := .ready, deadline := none }) .PL .permitExpired (.bed n)
  have beds : ∀ b, (((t.setBed n { t.bed n with state := .ready, deadline := none }).postEvent .PL .permitExpired (.bed n)).flagExpired
      n).bed b = if n = b then { s.bed n with state := .ready, deadline := none } else t.bed b := fun b => by
    rw [← same]
    exact t.bed_setBed n { t.bed n with state := .ready, deadline := none } b
  have flags : ∀ b, (((t.setBed n { t.bed n with state := .ready, deadline := none }).postEvent .PL .permitExpired (.bed n)).flagExpired
      n).flags b = if n = b then { t.flags n with expired := some (Flag.post t.clk.minute false (t.flags n).expired) } else t.flags b :=
    fun b => State.flags_setFlags _ n _ b
  have sets : ∀ p, (((t.setBed n { t.bed n with state := .ready, deadline := none }).postEvent .PL .permitExpired (.bed n)).flagExpired
      n).condSet p = ((t.setBed n { t.bed n with state := .ready, deadline := none }).postAt .PL .permitExpired (.bed n) .notice
      false).condSet p := fun p => State.condSet_setFlags _ n _ p
  refine ⟨h.clock, fun b less now => ?_, fun b none => ?_, ?_, fun room b less now => ?_, ?_, ?_⟩
  · rw [beds, flags]
    by_cases here : n = b
    · subst here
      exact ⟨if_pos rfl, by rw [if_pos rfl]; rfl⟩
    · rw [if_neg here, if_neg here]
      exact h.ends b (by omega) now
  · rw [beds, if_neg (fun here : n = b => none ⟨by omega, here ▸ due⟩)]
    exact h.stands b fun ⟨less, now⟩ => none ⟨by omega, now⟩
  · rw [sets]
    exact Nat.le_trans more (Nat.succ_le_succ h.length)
  · rw [sets]
    by_cases here : n = b
    · subst here
      refine posted (.inr ?_)
      have := h.length
      show (t.condSet .PL).records.length < 32
      omega
    · exact (step .PL).2 _ _ (h.posted (by omega) b (by omega) now)
  · exact h.lasts.trans (fun p k subj stood => by rw [sets]; exact lasts p k subj stood)
  · obtain ⟨e, c, only⟩ := h.only
    rw [only]
    exact ⟨_, _, rfl⟩

theorem State.expired.next {s t : State} {n : Nat} (h : s.expired n t) : s.expired (n + 1) (t.expirePermit n) := by
  have same : t.bed n = s.bed n := h.stands n fun ⟨less, _⟩ => absurd less (Nat.lt_irrefl n)
  have clock := h.clock
  by_cases due : s.expires n
  · have now : t.expires n := by
      unfold State.expires at due ⊢
      rw [same, clock]
      exact due
    rw [State.expirePermit_due now]
    exact h.posts due
  · have not : ¬t.expires n := by
      unfold State.expires at due ⊢
      rw [same, clock]
      exact due
    rw [State.expirePermit_stands not]
    have before : ∀ b, b < n + 1 → s.expires b → b < n := fun b less now => by
      rcases Nat.lt_succ_iff_lt_or_eq.mp less with less | rfl
      · exact less
      · exact absurd now due
    exact ⟨h.clock, fun b less now => h.ends b (before b less now) now, fun b none => h.stands b fun ⟨less, now⟩ => none ⟨by omega, now⟩,
      Nat.le_succ_of_le h.length, fun room b less now => h.posted (by omega) b (before b less now) now, h.lasts, h.only⟩

theorem State.expirePermits_expired (s : State) : s.expired 13 s.expirePermits := by
  have fold : ∀ n, s.expired n ((List.range n).foldl State.expirePermit s) := by
    intro n
    induction n with
    | zero => exact ⟨rfl, nofun, fun _ _ => rfl, Nat.le_refl _, nofun, .refl s, ⟨_, _, rfl⟩⟩
    | succ n ih =>
      rw [List.range_succ, List.foldl_append]
      exact ih.next
  exact fold 13

/-- What a second that completes a minute is (R10). -/
theorem State.countSecond_minute {s : State} (due : 59 ≤ s.clk.second) :
    ∃ t, s.countSecond = t ∧ s.second.startScan.expired 13 t :=
  ⟨_, by rw [State.countSecond_eq, if_pos due]; rfl, State.expirePermits_expired _⟩

/-- A second changes no more of the cranes, the vacate records and the allocator than before its minute. -/
theorem State.countSecond_reads (s : State) : (∀ x, s.countSecond.crane x = (s.crane x).ticked)
    ∧ (∀ i, s.countSecond.vacate i = if i < 32 then Vacate.ticked (s.vacate i) else none)
    ∧ s.countSecond.sha = ({ s with clk := s.clk.next } : State).steamTick.sha
    ∧ s.countSecond.valves = ({ s with clk := s.clk.next } : State).steamTick.valves := by
  have before : (∀ x, s.second.crane x = (s.crane x).ticked)
      ∧ (∀ i, s.second.vacate i = if i < 32 then Vacate.ticked (s.vacate i) else none) := by
    obtain ⟨cranes, vacates, -⟩ := State.steamTick_reads { s with clk := s.clk.next }
    refine ⟨fun x => ?_, fun i => ?_⟩
    · refine (State.runwayTick_crane _ x).trans ?_
      rw [cranes]
      cases x <;> rfl
    · refine (State.runwayTick_vacate _ i).trans ?_
      rw [vacates]
      rfl
  obtain ⟨cranes, vacates⟩ := before
  obtain ⟨r, a, b, c, e⟩ := s.second_only
  have sha : s.second.sha = ({ s with clk := s.clk.next } : State).steamTick.sha := by rw [e]
  have valves : s.second.valves = ({ s with clk := s.clk.next } : State).steamTick.valves := by rw [e]
  rw [State.countSecond_eq]
  split
  · obtain ⟨_, _, e'⟩ := (State.expirePermits_expired s.second.startScan).only
    have minute : s.second.minuteTick = s.second.startScan.expirePermits := rfl
    rw [minute, e']
    generalize s.second = u at *
    exact ⟨fun x => Eq.trans (by cases x <;> rfl) (cranes x), vacates, sha, valves⟩
  · exact ⟨cranes, vacates, sha, valves⟩

/-! ## The steam frame -/

theorem State.steamTick_prepared {s : State} {f : Frame} (prepared : s.sha.prepared = some f) : s.steamTick
    = ({ s with sha := { s.sha with prepared := none, running := some (f, 0) } } : State).driveValves (f.openAt 0) := by
  unfold State.steamTick
  simp only [prepared]

theorem State.steamTick_running {s : State} {f : Frame} {n : Nat} (none : s.sha.prepared = none) (running : s.sha.running = some (f, n))
    (short : n < 59) : s.steamTick
      = ({ s with sha := { s.sha with running := some (f, n + 1) } } : State).driveValves (f.openAt (n + 1)) := by
  unfold State.steamTick
  simp only [none, running]
  exact if_pos (Nat.succ_lt_succ short)

theorem State.steamTick_ends {s : State} {f : Frame} {n : Nat} (none : s.sha.prepared = none) (running : s.sha.running = some (f, n))
    (last : 59 ≤ n) : s.steamTick = ({ s with sha := { s.sha with running := .none } } : State).closeValves := by
  unfold State.steamTick
  simp only [none, running]
  exact if_neg (Nat.not_lt.mpr (Nat.succ_le_succ last))

/-! ## The obligations -/

/-- Nothing is delivered while the clock is STOPPED or the part is held (R9). -/
theorem State.tick_stopped {s : State} (stopped : s.held = true ∨ s.clk.running = false) : s.tick = s := by
  unfold State.tick State.ticking
  rw [if_neg]
  rcases stopped with held | still
  · simp [held]
  · simp [still]

theorem State.tick_ticking {s : State} (ticking : s.ticking = true) : s.tick = s.countSecond := by
  unfold State.tick
  rw [if_pos ticking]

theorem CraneRec.ticked_counts {r : CraneRec} {n : Nat} (active : r.presence = .active) (timer : r.timer = some n) (more : 2 ≤ n) :
    r.ticked = { r with timer := some (n - 1) } := by
  unfold CraneRec.ticked
  simp only [active, timer, if_true]
  exact if_neg (by omega)

theorem CraneRec.ticked_out {r : CraneRec} {n : Nat} (active : r.presence = .active) (timer : r.timer = some n) (out : n ≤ 1) :
    r.ticked = { r with presence := .stale, timer := none } := by
  unfold CraneRec.ticked
  simp only [active, timer, if_true]
  exact if_pos out

/-- CRANE-STALE stands after the whole second. -/
theorem State.countSecond_stale {s : State} {x : Crane} {n : Nat} (active : (s.crane x).presence = .active)
    (timer : (s.crane x).timer = some n) (out : n ≤ 1) {p : Point} (port : p = .PL ∨ p = cranePoint x.other)
    (both : s.modeOf p .craneStale = .both) (room : (s.condSet p).records.length + 1 < setCapacity p) :
    (s.countSecond.condSet p).stands .craneStale (.crane x) := by
  obtain ⟨cranes, -, sets⟩ := State.steamTick_reads { s with clk := s.clk.next }
  have same : ({ s with clk := s.clk.next } : State).steamTick.crane x = s.crane x := (cranes x).trans (by cases x <;> rfl)
  have set : ({ s with clk := s.clk.next } : State).steamTick.condSet p = s.condSet p := (sets p).trans (by cases p <;> rfl)
  have second : (s.second.condSet p).stands .craneStale (.crane x) := by
    refine State.runwayTick_stale (by rw [same]; exact active) (by rw [same]; exact timer) out port ?_ (by rw [set]; exact room)
    unfold State.modeOf at both ⊢
    rw [set]
    exact both
  rw [State.countSecond_eq]
  split
  · exact (State.expirePermits_expired s.second.startScan).lasts p _ _ (by cases p <;> exact second)
  · exact second

/-- Settles O10. -/
theorem secondsAndTimers : Obligations.SecondsAndTimers := by
  refine ⟨fun s ticking short => ?_, fun s stopped => ?_, fun s x n ticking active timer out => ?_, fun s i v ticking slot held out => ?_⟩
  · obtain ⟨cranes, vacates, sha, -⟩ := s.countSecond_reads
    have before : s.countSecond = s.second := by
      rw [State.countSecond_eq]
      exact if_neg (by omega)
    obtain ⟨r, a, b, c, e⟩ := s.second_only
    have clock : s.clk.next = { s.clk with second := s.clk.second + 1 } := if_pos short
    refine ⟨_, exec_secondTick ticking, ?_, fun x n active timer more => ?_, fun x other => ?_, fun i v slot held more => ?_,
      fun i none => ?_, fun f n none running short => ?_, ?_⟩
    · rw [before, e, clock]
    · rw [cranes, CraneRec.ticked_counts active timer more]
    · rw [cranes, CraneRec.ticked, if_neg other]
    · rw [vacates, if_pos slot, held]
      exact if_neg (by omega)
    · rw [vacates, none]
      split <;> rfl
    · rw [sha, State.steamTick_running (s := { s with clk := s.clk.next }) none running short]
      rfl
    · rw [before, e]
      exact ⟨rfl, rfl, rfl, rfl, rfl, rfl, rfl, rfl, rfl, rfl⟩
  · have still := State.tick_stopped stopped
    have either : ∀ c : Bool, (if c = true then s.tick else s) = s := fun c => by rw [still, ite_self]
    refine ⟨congrArg Host.Outcome.next still, congrArg Host.Outcome.next (either _), congrArg Host.Outcome.next (either _),
      congrArg Host.Outcome.next (either _), fun b => congrArg Host.Outcome.next (either _), fun x => congrArg Host.Outcome.next (either _),
      fun n => congrArg Host.Outcome.next (either _)⟩
  · obtain ⟨cranes, -⟩ := s.countSecond_reads
    have due : s.presenceDue x = true := by simp [State.presenceDue, active, timer, out]
    refine ⟨_, ?_, exec_secondTick ticking, ?_, fun p port both room => ?_⟩
    · have arm : exec (.presenceTimeout x) s = execPresenceTimeout x s := rfl
      rw [arm, execPresenceTimeout, if_pos due, State.tick_ticking ticking]
    · rw [cranes, CraneRec.ticked_out active timer out]
    · exact State.countSecond_stale active timer out (by cases x <;> exact port) both room
  · obtain ⟨-, vacates, -⟩ := s.countSecond_reads
    have due : s.vacateDue i = true := by simp [State.vacateDue, held, out]
    refine ⟨_, ?_, exec_secondTick ticking, ?_⟩
    · have arm : exec (.vacateExpiry i) s = execVacateExpiry i s := rfl
      rw [arm, execVacateExpiry, if_pos due, State.tick_ticking ticking]
    · rw [vacates, if_pos slot, held]
      exact if_pos out

/-- A second posts two records at most at a port before its minute. -/
theorem State.second_length (s : State) (p : Point) : (s.second.condSet p).records.length ≤ (s.condSet p).records.length + 2 := by
  obtain ⟨-, -, sets⟩ := State.steamTick_reads { s with clk := s.clk.next }
  have last : s.second.condSet p = (((({ s with clk := s.clk.next } : State).steamTick).tickPresence .W).tickPresence .E).condSet p := by
    cases p <;> rfl
  have first := (({ s with clk := s.clk.next } : State).steamTick.tickPresence_posts .W).2.2 p
  have second := ((({ s with clk := s.clk.next } : State).steamTick.tickPresence .W).tickPresence_posts .E).2.2 p
  have same : ({ s with clk := s.clk.next } : State).steamTick.condSet p = s.condSet p := (sets p).trans (by cases p <;> rfl)
  rw [same] at first
  rw [last]
  omega

/-- Settles O11. -/
theorem minuteCounted : Obligations.MinuteCounted := by
  intro s ticking due
  have whole : s.countSecond = s.second.startScan.expirePermits := by
    rw [State.countSecond_eq, if_pos due]
    rfl
  have permits := State.expirePermits_expired s.second.startScan
  obtain ⟨r, x, y, z, e⟩ := s.second_only
  have clock : s.second.startScan.clk = { s.clk with second := 0, minute := nextMinute s.clk.minute } := by
    have next : s.clk.next = { s.clk with second := 0, minute := nextMinute s.clk.minute } := if_neg (by omega)
    rw [e, ← next]
    rfl
  have beds : ∀ b, s.second.startScan.bed b = s.bed b := fun b => by
    rw [e]
    rfl
  have expires : ∀ b, s.second.startScan.expires b ↔ (s.bed b).state = .permitted ∧ (s.bed b).deadline = some s.countSecond.clk.minute := by
    intro b
    unfold State.expires
    rw [beds, whole, permits.clock]
  refine ⟨_, ?_, exec_secondTick ticking, ?_⟩
  · have arm : exec .minuteTick s = execMinuteTick s := rfl
    have full : s.minuteDue = true := decide_eq_true due
    rw [arm, execMinuteTick, if_pos full, State.tick_ticking ticking]
  obtain ⟨e', c', only⟩ := permits.only
  have clk : s.countSecond.clk = { s.clk with second := 0, minute := nextMinute s.clk.minute } := by
    rw [whole, permits.clock, clock]
  refine ⟨by rw [clk], by rw [clk]; rfl, ?_, fun b bed state deadline => ⟨?_, ?_, fun some => ?_, fun room => ?_⟩, fun b other => ?_, ?_⟩
  · rw [whole, only, e]
    rfl
  · rw [whole, ← beds b]
    exact (permits.ends b (Nat.lt_succ_of_le bed) ((expires b).mpr ⟨state, deadline⟩)).1
  · rw [whole]
    exact (permits.ends b (Nat.lt_succ_of_le bed) ((expires b).mpr ⟨state, deadline⟩)).2
  · have arm : exec (.permitExpiry b) s = execPermitExpiry b s := rfl
    have due : s.permitDue b = true := by
      rw [clk] at deadline
      simp [State.permitDue, State.minuteDue, due, state, deadline]
    rw [arm, execPermitExpiry, if_pos due, State.tick_ticking ticking]
  · rw [whole]
    refine permits.posted ?_ b (Nat.lt_succ_of_le bed) ((expires b).mpr ⟨state, deadline⟩)
    have more : (s.second.startScan.condSet .PL).records.length ≤ (s.condSet .PL).records.length + 2 := s.second_length .PL
    omega
  · rw [whole, permits.stands b, beds]
    rintro ⟨-, now⟩
    obtain ⟨state, deadline⟩ := (expires b).mp now
    exact other.elim (fun h => h state) (fun h => h deadline)
  · rw [whole, only, e]
    exact ⟨rfl, rfl, rfl, rfl, rfl, rfl, rfl, rfl⟩

/-- Settles O12. -/
theorem framesBeginAndEnd : Obligations.FramesBeginAndEnd := by
  refine ⟨fun s f ticking prepared => ?_, fun s f n ticking none running short => ?_, fun s f n ticking none running last => ?_⟩
  · obtain ⟨-, -, sha, valves⟩ := s.countSecond_reads
    have frame := State.steamTick_prepared (s := { s with clk := s.clk.next }) prepared
    rw [frame] at sha valves
    refine ⟨_, ?_, exec_secondTick ticking, ?_, ?_, fun z zone => ?_⟩
    · have arm : exec .frameBegin s = execFrameBegin s := rfl
      rw [arm, execFrameBegin, if_pos (by simp [prepared]), State.tick_ticking ticking]
    · rw [sha]
      rfl
    · rw [sha]
      rfl
    · unfold State.valve
      rw [valves]
      exact State.valve_driveValves _ _ z zone
  · obtain ⟨-, -, sha, valves⟩ := s.countSecond_reads
    have frame := State.steamTick_running (s := { s with clk := s.clk.next }) none running short
    rw [frame] at sha valves
    refine ⟨_, exec_secondTick ticking, ?_, fun z zone => ?_⟩
    · rw [sha]
      rfl
    · unfold State.valve
      rw [valves]
      exact State.valve_driveValves _ _ z zone
  · obtain ⟨-, -, sha, valves⟩ := s.countSecond_reads
    have frame := State.steamTick_ends (s := { s with clk := s.clk.next }) none running last
    rw [frame] at sha valves
    refine ⟨_, ?_, exec_secondTick ticking, ?_, fun z zone => ?_⟩
    · have over_ : s.frameDue = true := by
        simp only [State.frameDue, none, running, Option.isNone_none, Option.map_some, Option.getD_some, Bool.true_and,
          decide_eq_true_eq]
        exact Nat.succ_le_succ last
      have arm : exec .frameEnd s = execFrameEnd s := rfl
      rw [arm, execFrameEnd, if_pos over_, State.tick_ticking ticking]
    · rw [sha]
      rfl
    · unfold State.valve
      rw [valves]
      exact State.valve_closeValves _ z zone

end Sys2Proof.Machine
end

section
/-! SUPPORT. Proofs/Probed.lean: conversions, the reference check and the completion of a scan (R38 to R47). -/

namespace Sys2Proof.Machine

/-! ## A channel's record -/

theorem Channel.good_eq (c : Channel) (temp : Option Int) : c.good temp = { c with
    temp := temp, badRun := 0,
    goodRun := (match c.state with
      | .held => 1
      | .valid => min 3 (c.goodRun + 1)
      | .unsettled => min 3 (c.goodRun + 1)
      | .lost => min 3 (c.goodRun + 1)),
    state := (match c.state with
      | .valid => .valid
      | .held => .valid
      | .unsettled => if c.goodRun + 1 < 3 then .unsettled else .valid
      | .lost => if c.goodRun + 1 < 3 then .lost else .valid) } := by
  obtain ⟨trim, state, goodRun, badRun, lastRaw, lastResult, temp'⟩ := c
  have swap : ∀ a b : ProbeState, (if 3 ≤ goodRun + 1 then a else b) = if goodRun + 1 < 3 then b else a := fun a b => by
    by_cases h : goodRun + 1 < 3
    · rw [if_neg (by omega), if_pos h]
    · rw [if_pos (by omega), if_neg h]
  cases state with
  | valid | held => rfl
  | unsettled | lost => simp only [Channel.good, holdAt, swap]

theorem Channel.bad_eq (c : Channel) : c.bad = { c with
    badRun := (match c.state with
      | .valid => 1
      | .held => min 4 (c.badRun + 1)
      | .unsettled => min 4 (c.badRun + 1)
      | .lost => 4),
    goodRun := (match c.state with
      | .valid => 0
      | .held => c.goodRun
      | .unsettled => 0
      | .lost => 0),
    state := (match c.state with
      | .valid => .held
      | .held => if c.badRun + 1 < 4 then .held else .lost
      | .unsettled => if c.badRun + 1 < 4 then .unsettled else .lost
      | .lost => .lost) } := by
  obtain ⟨trim, state, goodRun, badRun, lastRaw, lastResult, temp'⟩ := c
  have swap : ∀ a b : ProbeState, (if 4 ≤ badRun + 1 then a else b) = if badRun + 1 < 4 then b else a := fun a b => by
    by_cases h : badRun + 1 < 4
    · rw [if_neg (by omega), if_pos h]
    · rw [if_pos (by omega), if_neg h]
  cases state with
  | valid | lost => rfl
  | unsettled | held => simp only [Channel.bad, holdAt, swap]

theorem Channel.updated_bad (c : Channel) (raw : Nat) {r : ConvResult} (bad : r ≠ .good) (temp : Option Int) :
    c.updated (some (.taken raw r temp)) = { c.bad with lastRaw := some raw, lastResult := some r } := by
  cases r with
  | good => exact absurd rfl bad
  | short | opened | refFail => rfl

theorem exec_conversionEnd {s : State} {c : Nat} (raw : Nat) (free : s.held = false) (scan : s.pcv.scan = .scanning c) (channel : c < 18) :
    exec (.conversionEnd raw) s = .next (s.enterConversion c (judge raw (s.channel c).trim)) := by
  have arm : exec (.conversionEnd raw) s = execConversionEnd raw s := rfl
  rw [arm, execConversionEnd, if_neg (by simp [free]), scan]
  exact congrArg Host.Outcome.next (if_pos channel)

/-- A conversion before channel 18 leaves its entry, and the scan goes on (R38). -/
theorem State.enterConversion_before {s : State} {c : Nat} (channel : c < 18) (e : ScanEntry) : s.enterConversion c e
    = { s with pcv := { s.pcv with record := s.pcv.record.write none c (some e), scan := .scanning (c + 1) } } :=
  if_pos (Nat.succ_lt_succ channel)

/-- Settles O13. -/
theorem conversionsJudged : Obligations.ConversionsJudged := by
  refine ⟨fun s c raw free scan channel => ?_, fun c raw temp => ⟨?_, fun r bad => ?_⟩⟩
  · rw [exec_conversionEnd raw free scan channel, State.enterConversion_before channel]
    rfl
  · have good : c.updated (some (.taken raw .good temp)) = { (c.good temp) with lastRaw := some raw, lastResult := some .good } := rfl
    exact good.trans (by rw [Channel.good_eq] <;> rfl)
  · exact (Channel.updated_bad c raw bad temp).trans (by rw [Channel.bad_eq] <;> rfl)

end Sys2Proof.Machine
end

section
/-! SUPPORT. Proofs/Completed.lean: a scan's completion: the check of the reference, the postings of the channels, the publication, and what
it hands on (R40 to R44). -/

namespace Sys2Proof.Machine

/-! ## What a posting of one kind does to the others -/

/-- Every record of a kind in `t` is one of `s`. -/
def State.spares (k : CondKind) (s t : State) : Prop := ∀ p r, r ∈ (t.condSet p).records → r.kind = k → r ∈ (s.condSet p).records

theorem State.spares.refl (k : CondKind) (s : State) : State.spares k s s := fun _ _ mem _ => mem

theorem State.spares.trans {k : CondKind} {s t u : State} (h : State.spares k s t) (g : State.spares k t u) : State.spares k s u :=
  fun p r mem kind => h p r (g p r mem kind) kind

theorem State.spares.of_same {k : CondKind} {s t : State} (same : ∀ p, t.condSet p = s.condSet p) : State.spares k s t := fun p r mem _ => by
  rwa [same p] at mem

theorem State.spares.of_cnd {k : CondKind} {s t : State} (same : t.cnd = s.cnd) : State.spares k s t :=
  .of_same fun p => by cases p <;> (unfold State.condSet; rw [same])

theorem State.postAt_spares (s : State) (p : Point) {k k' : CondKind} (other : k' ≠ k) (subj : Subject) (st : CondStatus) (r : Bool) :
    State.spares k s (s.postAt p k' subj st r) := by
  intro q c mem kind
  rw [State.condSet_postAt] at mem
  split at mem
  · next same =>
    subst same
    exact CondSet.post_from mem fun named => other (named.1.symm.trans kind)
  · exact mem

theorem State.postStanding_spares (s : State) (p : Point) {k k' : CondKind} (other : k' ≠ k) (subj : Subject) :
    State.spares k s (s.postStanding p k' subj) := by
  unfold State.postStanding
  split <;> first | exact .refl k s | exact s.postAt_spares p other subj _ _

theorem State.raiseCause_spares (s : State) (ports : List Point) {k k' : CondKind} (other : k' ≠ k) (subj : Subject) :
    State.spares k s (s.raiseCause ports k' subj) :=
  foldl_keeps (State.spares.refl k) State.spares.trans (fun t p => t.postStanding_spares p other subj) ports s

theorem State.settled_spares (s : State) {k k' : CondKind} (other : k' ≠ k) (subj : Subject) : State.spares k s (s.settled k' subj) := by
  intro p r mem kind
  rw [State.condSet_settled] at mem
  obtain ⟨q, old, e⟩ := List.mem_map.mp mem
  split at e
  · next named =>
    simp only [Bool.and_eq_true] at named
    subst e
    exact absurd ((Cond.names_true.mp named.1).1.symm.trans kind) other
  · exact e ▸ old

theorem State.postCleared_spares (s : State) (p : Point) {k k' : CondKind} (other : k' ≠ k) (subj : Subject) :
    State.spares k s (s.postCleared p k' subj) := by
  unfold State.postCleared
  split <;> first | exact .refl k s | exact s.postAt_spares p other subj _ _

theorem State.endCause_spares (s : State) (ports : List Point) {k k' : CondKind} (other : k' ≠ k) (subj : Subject) :
    State.spares k s (s.endCause ports k' subj) :=
  (s.settled_spares other subj).trans
    (foldl_keeps (State.spares.refl k) State.spares.trans (fun t p => t.postCleared_spares p other subj) ports _)

/-- A cause that no longer stands does not stand again while no posting is of its kind. -/
theorem State.spares.none_stands {k : CondKind} {s t : State} (h : State.spares k s t) {p : Point} {subj : Subject}
    (none : ¬(s.condSet p).stands k subj) : ¬(t.condSet p).stands k subj := by
  rintro ⟨r, mem, kind, subject, standing⟩
  exact none ⟨r, h p r mem kind, kind, subject, standing⟩

theorem State.postCleared_lasts (s : State) (p : Point) (k : CondKind) (subj : Subject) : s.lasts (s.postCleared p k subj) := by
  unfold State.postCleared
  split <;> first | exact .refl s | exact s.postAt_lasts _ _ _ _ _

/-- The end of one cause leaves every other one standing. -/
theorem State.endCause_lasts (s : State) (ports : List Point) {k k' : CondKind} {subj subj' : Subject} (other : ¬(k = k' ∧ subj = subj'))
    {p : Point} (stood : (s.condSet p).stands k subj) : ((s.endCause ports k' subj').condSet p).stands k subj := by
  have settled : ((s.settled k' subj').condSet p).stands k subj := by
    rw [State.condSet_settled]
    obtain ⟨r, mem, kind, subject, standing⟩ := stood
    obtain ⟨q, mem', -, -, same⟩ := CondSet.clearStanding_keeps k' subj' mem
    obtain rfl := same fun named => other ⟨kind.symm.trans named.1, subject.symm.trans named.2⟩
    exact ⟨q, mem', kind, subject, standing⟩
  exact foldl_keeps State.lasts.refl State.lasts.trans (fun t p => t.postCleared_lasts p k' subj') ports _ p k subj settled

theorem State.postCleared_length (s : State) (p : Point) (k : CondKind) (subj : Subject) (q : Point) :
    ((s.postCleared p k subj).condSet q).records.length ≤ (s.condSet q).records.length + 1 := by
  unfold State.postCleared
  split <;> first | exact Nat.le_succ _ | exact s.postAt_length _ _ _ _ _ _

theorem State.postCleared_modes (s : State) (p : Point) (k : CondKind) (subj : Subject) (q : Point) :
    ((s.postCleared p k subj).condSet q).modes = (s.condSet q).modes := by
  unfold State.postCleared
  split <;> first | rfl | exact s.postAt_modes _ _ _ _ _ _

theorem State.settled_length (s : State) (k : CondKind) (subj : Subject) (q : Point) :
    ((s.settled k subj).condSet q).records.length = (s.condSet q).records.length := by
  rw [State.condSet_settled]
  exact List.length_map _

theorem State.settled_modes (s : State) (k : CondKind) (subj : Subject) (q : Point) :
    ((s.settled k subj).condSet q).modes = (s.condSet q).modes := by
  rw [State.condSet_settled]
  rfl

/-- A cause that appears or ends at PL puts one record at most into its set, and leaves the report modes. -/
theorem State.raisePL_length (s : State) (k : CondKind) (subj : Subject) :
    ((s.raiseCause [.PL] k subj).condSet .PL).records.length ≤ (s.condSet .PL).records.length + 1
      ∧ ((s.raiseCause [.PL] k subj).condSet .PL).modes = (s.condSet .PL).modes :=
  ⟨s.postStanding_length .PL k subj .PL, s.postStanding_modes .PL k subj .PL⟩

theorem State.endPL_length (s : State) (k : CondKind) (subj : Subject) :
    ((s.endCause [.PL] k subj).condSet .PL).records.length ≤ (s.condSet .PL).records.length + 1
      ∧ ((s.endCause [.PL] k subj).condSet .PL).modes = (s.condSet .PL).modes := by
  have length := (s.settled k subj).postCleared_length .PL k subj .PL
  rw [State.settled_length] at length
  exact ⟨length, ((s.settled k subj).postCleared_modes .PL k subj .PL).trans (s.settled_modes k subj .PL)⟩

/-! ## The postings of the channels -/

/-- `t` differs from `s` at most in the condition unit. -/
def State.cndOnly (s t : State) : Prop := ∃ c, t = { s with cnd := c }

theorem State.cndOnly.refl (s : State) : s.cndOnly s := ⟨_, rfl⟩

theorem State.cndOnly.trans {s t u : State} (h : s.cndOnly t) (g : t.cndOnly u) : s.cndOnly u := by
  obtain ⟨_, rfl⟩ := h
  obtain ⟨_, rfl⟩ := g
  exact ⟨_, rfl⟩

theorem State.setsOnly.cndOnly {s t : State} (h : s.setsOnly t) : s.cndOnly t := by
  obtain ⟨_, _, _, rfl⟩ := h
  exact ⟨_, rfl⟩

/-- A channel of `s` enters LOST, which `before` it was not (R43). -/
def State.entersLost (before s : State) (c : Nat) : Prop := (before.channel c).state ≠ .lost ∧ (s.channel c).state = .lost

/-- The PROBE-LOST entry of a bed's flags is STANDING. -/
def State.flagStands (s : State) (b : Nat) : Prop := ∃ f, (s.flags b).probeLost = some f ∧ f.status = .standing

/-- The channels below `n` have posted what their change of state posts, and no other. -/
structure State.probed (before s : State) (n : Nat) (t : State) : Prop where
  only : s.cndOnly t
  modes : (t.condSet .PL).modes = (s.condSet .PL).modes
  length : (t.condSet .PL).records.length ≤ (s.condSet .PL).records.length + n
  posted : ∀ c, c < n → before.entersLost s c → s.probePosted c = true → s.modeOf .PL .probeLost = .both →
    (s.condSet .PL).records.length + c < 32 → (t.condSet .PL).stands .probeLost (.channel c)
  flagged : ∀ c b, c < n → before.entersLost s c → s.probeBed c = some b → t.flagStands b
  spares : ∀ k, k ≠ .probeLost → State.spares k s t
  lasts : ∀ k, k ≠ .probeLost → ∀ p subj, (s.condSet p).stands k subj → (t.condSet p).stands k subj

theorem State.flagProbeLost_sets (s : State) (b : Nat) (p : Point) : (s.flagProbeLost b).condSet p = s.condSet p :=
  State.condSet_setFlags s b _ p

theorem State.unflagProbeLost_sets (s : State) (b : Nat) (p : Point) : (s.unflagProbeLost b).condSet p = s.condSet p := by
  unfold State.unflagProbeLost
  split
  · rfl
  · exact State.condSet_setFlags s b _ p

theorem State.flagProbeLost_stands (s : State) (b a : Nat) (h : a = b ∨ s.flagStands a) : (s.flagProbeLost b).flagStands a := by
  unfold State.flagStands State.flagProbeLost at *
  rw [State.flags_setFlags]
  split
  · exact ⟨_, rfl, by cases (s.flags b).probeLost <;> rfl⟩
  · next other => exact h.resolve_left fun same => other same.symm

/-- The flag of a bed stands while one of its zones' channels is LOST (R181). -/
theorem State.unflagProbeLost_stands {s : State} {a b c : Nat} (zone : s.probeBed c = some a) (lost : (s.channel c).state = .lost)
    (h : s.flagStands a) : (s.unflagProbeLost b).flagStands a := by
  have assigned : c < Config.zones ∧ (s.zoneLayout c).bed = some a := by
    unfold State.probeBed at zone
    split at zone
    · next low => exact ⟨low, zone⟩
    · exact nomatch zone
  by_cases same : b = a
  · subst same
    unfold State.unflagProbeLost
    rw [if_pos]
    · exact h
    · refine List.any_eq_true.mpr ⟨c, List.mem_filter.mpr ⟨List.mem_range.mpr assigned.1, ?_⟩, ?_⟩
      · simp [assigned.2]
      · simp [lost]
  · unfold State.unflagProbeLost
    split
    · exact h
    · unfold State.flagStands at *
      rw [State.flags_setFlags, if_neg same]
      exact h

theorem State.setsOnly.flags {s t : State} (h : s.setsOnly t) (b : Nat) : t.flags b = s.flags b := by
  obtain ⟨_, _, _, rfl⟩ := h
  rfl

theorem State.setsOnly.flagStands {s t : State} (h : s.setsOnly t) {b : Nat} (stands : s.flagStands b) : t.flagStands b := by
  unfold State.flagStands at *
  rw [h.flags]
  exact stands

/-- A channel that enters LOST (R43). -/
theorem State.probeLost_posts (s : State) (c : Nat) : s.cndOnly (s.probeLost c)
    ∧ ((s.probeLost c).condSet .PL).modes = (s.condSet .PL).modes
    ∧ ((s.probeLost c).condSet .PL).records.length ≤ (s.condSet .PL).records.length + 1
    ∧ (s.modeOf .PL .probeLost = .both → (s.condSet .PL).records.length < 32 →
      ((s.probeLost c).condSet .PL).stands .probeLost (.channel c))
    ∧ (∀ b, s.probeBed c = some b ∨ s.flagStands b → (s.probeLost c).flagStands b)
    ∧ (∀ k, k ≠ .probeLost → State.spares k s (s.probeLost c)) ∧ s.lasts (s.probeLost c) := by
  obtain ⟨length, modes⟩ := s.raisePL_length .probeLost (.channel c)
  have lasts := s.raiseCause_lasts [.PL] .probeLost (.channel c)
  have only := s.raiseCause_only [.PL] .probeLost (.channel c)
  have posted : s.modeOf .PL .probeLost = .both → (s.condSet .PL).records.length < 32 →
      ((s.raiseCause [.PL] .probeLost (.channel c)).condSet .PL).stands .probeLost (.channel c) := fun both room =>
    State.postStanding_stands both (.inr room)
  unfold State.probeLost
  dsimp only
  cases found : s.probeBed c with
  | none =>
    exact ⟨only.cndOnly, modes, length, posted, fun b h => only.flagStands (h.resolve_left nofun),
      fun k other => s.raiseCause_spares _ (Ne.symm other) _, lasts⟩
  | some b =>
    have sets := (s.raiseCause [.PL] .probeLost (.channel c)).flagProbeLost_sets b
    refine ⟨only.cndOnly.trans ⟨_, rfl⟩, (congrArg CondSet.modes (sets .PL)).trans modes, ?_, fun both room => ?_,
      fun a h => State.flagProbeLost_stands _ b a ?_, fun k other => ?_, lasts.trans (.of_same sets)⟩
    · rw [sets]
      exact length
    · rw [sets]
      exact posted both room
    · exact h.imp (fun e => (Option.some.inj e).symm) only.flagStands
    · exact (s.raiseCause_spares _ (Ne.symm other) _).trans (.of_same sets)

/-- A channel that goes from LOST to VALID (R43). -/
theorem State.probeFound_posts (s : State) (c : Nat) : s.cndOnly (s.probeFound c)
    ∧ ((s.probeFound c).condSet .PL).modes = (s.condSet .PL).modes
    ∧ ((s.probeFound c).condSet .PL).records.length ≤ (s.condSet .PL).records.length + 1
    ∧ (∀ d b, s.probeBed d = some b → (s.channel d).state = .lost → s.flagStands b → (s.probeFound c).flagStands b)
    ∧ (∀ k, k ≠ .probeLost → State.spares k s (s.probeFound c))
    ∧ ∀ p k subj, ¬(k = .probeLost ∧ subj = .channel c) → (s.condSet p).stands k subj → ((s.probeFound c).condSet p).stands k subj := by
  obtain ⟨length, modes⟩ := s.endPL_length .probeLost (.channel c)
  have only := s.endCause_only [.PL] .probeLost (.channel c)
  have lasts : ∀ p k subj, ¬(k = .probeLost ∧ subj = .channel c) → (s.condSet p).stands k subj →
      ((s.endCause [.PL] .probeLost (.channel c)).condSet p).stands k subj := fun p k subj other stood => s.endCause_lasts [.PL] other stood
  have reads : (∀ d, (s.endCause [.PL] .probeLost (.channel c)).probeBed d = s.probeBed d)
      ∧ ∀ d, (s.endCause [.PL] .probeLost (.channel c)).channel d = s.channel d := by
    obtain ⟨_, _, _, e⟩ := only
    rw [e]
    exact ⟨fun _ => rfl, fun _ => rfl⟩
  unfold State.probeFound
  dsimp only
  cases found : s.probeBed c with
  | none =>
    exact ⟨only.cndOnly, modes, length, fun d b _ _ h => only.flagStands h, fun k other => s.endCause_spares _ (Ne.symm other) _, lasts⟩
  | some a =>
    have sets := (s.endCause [.PL] .probeLost (.channel c)).unflagProbeLost_sets a
    have unflagged : (s.endCause [.PL] .probeLost (.channel c)).cndOnly
        ((s.endCause [.PL] .probeLost (.channel c)).unflagProbeLost a) := by
      unfold State.unflagProbeLost
      split <;> exact ⟨_, rfl⟩
    refine ⟨only.cndOnly.trans unflagged, (congrArg CondSet.modes (sets .PL)).trans modes, ?_, fun d b bed lost h => ?_, fun k other => ?_,
      fun p k subj other stood => ?_⟩
    · rw [sets]
      exact length
    · exact State.unflagProbeLost_stands (c := d) ((reads.1 d).trans bed) (by rw [reads.2]; exact lost) (only.flagStands h)
    · exact (s.endCause_spares _ (Ne.symm other) _).trans (.of_same sets)
    · rw [sets]
      exact lasts p k subj other stood

theorem State.probed.next {before s t : State} {n : Nat} (h : before.probed s n t) : before.probed s (n + 1) (State.probePosting before t n) := by
  obtain ⟨c, only⟩ := h.only
  have reads : (∀ d, t.channel d = s.channel d) ∧ (∀ d, t.probeBed d = s.probeBed d) ∧ ∀ d, t.probePosted d = s.probePosted d := by
    rw [only]
    exact ⟨fun _ => rfl, fun _ => rfl, fun _ => rfl⟩
  obtain ⟨channels, probeBeds, probePosteds⟩ := reads
  have mode : t.modeOf .PL .probeLost = s.modeOf .PL .probeLost := by
    unfold State.modeOf
    rw [h.modes]
  have posted : ∀ d, before.entersLost s d → ∀ b, s.probeBed d = some b → s.probePosted d = true := fun d _ b bed => by
    simp [State.probePosted, bed]
  unfold State.probePosting
  have stays : (before.entersLost s n → s.probePosted n = false) → before.probed s (n + 1) t := fun silent =>
    { only := h.only, modes := h.modes, length := Nat.le_succ_of_le h.length, spares := h.spares, lasts := h.lasts
      posted := fun d less lost on both room => by
        rcases Nat.lt_succ_iff_lt_or_eq.mp less with less | rfl
        · exact h.posted d less lost on both room
        · rw [silent lost] at on
          exact nomatch on
      flagged := fun d b less lost bed => by
        rcases Nat.lt_succ_iff_lt_or_eq.mp less with less | rfl
        · exact h.flagged d b less lost bed
        · have on := posted d lost b bed
          rw [silent lost] at on
          exact nomatch on }
  rw [probePosteds, channels]
  split
  · next quiet => exact stays fun _ => quiet
  · next loud =>
    split
    · next enters =>
      simp only [Bool.and_eq_true, decide_eq_true_eq] at enters
      obtain ⟨only', modes', length', posted', flagged', spares', lasts'⟩ := t.probeLost_posts n
      refine ⟨h.only.trans only', modes'.trans h.modes, ?_, fun d less lost on both room => ?_, fun d b less lost bed => ?_,
        fun k other => (h.spares k other).trans (spares' k other), fun k other p subj stood => lasts' p k subj (h.lasts k other p subj stood)⟩
      · have := h.length
        omega
      · rcases Nat.lt_succ_iff_lt_or_eq.mp less with less | rfl
        · exact lasts' _ _ _ (h.posted d less lost on both room)
        · have := h.length
          exact posted' (mode.trans both) (by omega)
      · refine flagged' b ?_
        rcases Nat.lt_succ_iff_lt_or_eq.mp less with less | rfl
        · exact .inr (h.flagged d b less lost bed)
        · exact .inl ((probeBeds d).trans bed)
    · next stands =>
      simp only [Bool.and_eq_true, decide_eq_true_eq] at stands
      split
      · next found =>
        simp only [Bool.and_eq_true, decide_eq_true_eq] at found
        obtain ⟨only', modes', length', flagged', spares', lasts'⟩ := t.probeFound_posts n
        have earlier : ∀ d, d < n + 1 → before.entersLost s d → d < n := fun d less lost => by
          rcases Nat.lt_succ_iff_lt_or_eq.mp less with less | rfl
          · exact less
          · exact absurd found.1 lost.1
        refine ⟨h.only.trans only', modes'.trans h.modes, ?_, fun d less lost on both room => ?_, fun d b less lost bed => ?_,
          fun k other => (h.spares k other).trans (spares' k other),
          fun k other p subj stood => lasts' p k subj (fun named => other named.1) (h.lasts k other p subj stood)⟩
        · have := h.length
          omega
        · have less' := earlier d less lost
          refine lasts' _ _ _ (fun named => ?_) (h.posted d less' lost on both room)
          exact absurd (Subject.channel.inj named.2) (by omega)
        · have less' := earlier d less lost
          exact flagged' d b ((probeBeds d).trans bed) (by rw [channels]; exact lost.2) (h.flagged d b less' lost bed)
      · exact stays fun lost => absurd lost stands

theorem State.probePostings_probed (before s : State) : before.probed s 19 ((List.range Config.channels).foldl (State.probePosting before) s) := by
  have fold : ∀ n, before.probed s n ((List.range n).foldl (State.probePosting before) s) := by
    intro n
    induction n with
    | zero =>
      exact ⟨.refl s, rfl, Nat.le_refl _, nofun, nofun, fun k _ => .refl k s, fun _ _ _ _ => id⟩
    | succ n ih =>
      rw [List.range_succ, List.foldl_append]
      exact ih.next
  exact fold 19

end Sys2Proof.Machine
end

section
/-! SUPPORT. Proofs/Handed.lean: what a scan's completion publishes and hands on, read by read, and the statements of the converter
(R40 to R47). -/

namespace Sys2Proof.Machine

/-! ## What the bed evaluations and the zone step do to the condition unit -/

/-- `t` comes of `s` with nothing posted but BED-READY and HEAT-TRIMMED. -/
structure State.readies (s t : State) : Prop where
  lasts : s.lasts t
  grows : s.grows t
  flags : ∀ b, (t.flags b).probeLost = (s.flags b).probeLost
  spares : ∀ k, k ≠ .bedReady → k ≠ .heatTrimmed → State.spares k s t

theorem State.readies.refl (s : State) : s.readies s := ⟨.refl s, .refl s, fun _ => rfl, fun k _ _ => .refl k s⟩

theorem State.readies.trans {s t u : State} (h : s.readies t) (g : t.readies u) : s.readies u :=
  ⟨h.lasts.trans g.lasts, h.grows.trans g.grows, fun b => (g.flags b).trans (h.flags b),
    fun k ready trimmed => (h.spares k ready trimmed).trans (g.spares k ready trimmed)⟩

theorem State.readies.of_cnd {s t : State} (same : t.cnd = s.cnd) : s.readies t :=
  ⟨.of_cnd same, .of_cnd same, fun b => by unfold State.flags; rw [same], fun _ _ _ => .of_cnd same⟩

theorem State.readies_event (s : State) {k : CondKind} (kind : k = .bedReady ∨ k = .heatTrimmed) (subj : Subject) :
    s.readies (s.postEvent .PL k subj) :=
  ⟨s.postAt_lasts _ _ _ _ _, (State.posts_event s _ _ _).grows, fun b => by rw [(s.postEvent_only _ _ _).flags],
    fun k' ready trimmed => s.postAt_spares .PL (by rcases kind with rfl | rfl; exacts [ready.symm, trimmed.symm]) _ _ _⟩

theorem State.flagReady_readies (s : State) (b : Nat) : s.readies (s.flagReady b) := by
  have sets : ∀ p, (s.flagReady b).condSet p = s.condSet p := fun p => State.condSet_setFlags s b _ p
  refine ⟨.of_same sets, .of_same sets, fun a => ?_, fun _ _ _ => .of_same sets⟩
  unfold State.flagReady
  rw [State.flags_setFlags]
  split
  · next same => rw [same]
  · rfl

theorem State.becomeReady_readies (s : State) (b : Nat) : s.readies (s.becomeReady b) := by
  refine State.readies.trans (t := (s.setBed b { s.bed b with state := .ready }).postEvent .PL .bedReady (.bed b)) ?_
    (State.flagReady_readies _ b)
  exact (State.readies.of_cnd (s := s) (t := s.setBed b { s.bed b with state := .ready }) rfl).trans
    (State.readies_event _ (.inl rfl) _)

theorem State.evaluateCooling_readies (s : State) (b : Nat) : s.readies (s.evaluateCooling b) := by
  unfold State.evaluateCooling
  split
  · exact s.becomeReady_readies b
  · exact .refl s

theorem State.evaluateBed_readies (s : State) (b : Nat) : s.readies (s.evaluateBed b) := by
  unfold State.evaluateBed
  split
  case h_1 =>
    split
    · split
      · exact s.becomeReady_readies b
      · exact .refl s
    · split
      · exact (State.readies.of_cnd (s := s) (t := s.setBed b { s.bed b with state := .cooling }) rfl).trans (State.evaluateCooling_readies _ b)
      · exact .refl s
  case h_2 =>
    split
    · exact .refl s
    · exact s.evaluateCooling_readies b
  case h_3 => exact .refl s

theorem State.evaluateBeds_readies (s : State) : s.readies s.evaluateBeds := by
  unfold State.evaluateBeds
  exact foldl_keeps State.readies.refl State.readies.trans State.evaluateBed_readies _ s

theorem State.handStages_readies (l : List Nat) (s : State) : s.readies (l.foldl State.handStage s) := by
  refine foldl_keeps State.readies.refl State.readies.trans (fun t z => ?_) l s
  unfold State.handStage
  split
  · exact t.evaluateBed_readies _
  · exact .refl t

theorem State.prepareFrame_readies (s : State) (pubs : List PubEntry) : s.readies (s.prepareFrame pubs) := by
  unfold State.prepareFrame
  dsimp only
  split
  · exact (State.readies.of_cnd (s := s) (by rfl)).trans (State.readies_event _ (.inr rfl) _)
  · exact .of_cnd rfl

theorem State.zoneStep_readies (s : State) : s.readies s.zoneStep := by
  have stepped : s.readies s.zonesStepped := by
    obtain ⟨z, e⟩ := s.zonesStepped_zones
    rw [e]
    exact .of_cnd rfl
  have prepared := s.zonesStepped.prepareFrame_readies s.zonesStepped.publication
  have handed := State.handStages_readies s.stageChanges (s.zonesStepped.prepareFrame s.zonesStepped.publication)
  exact (stepped.trans prepared).trans handed

theorem State.handScan_readies (s : State) : s.readies s.handScan := by
  unfold State.handScan
  refine State.readies.trans (t := s.maturityUpdate.evaluateBeds) ?_ (State.zoneStep_readies _)
  exact State.readies.trans (t := s.maturityUpdate) (.of_cnd (by rfl)) (State.evaluateBeds_readies _)

/-! ## The completion -/

/-- The converter as a completion leaves it (R41, R44). -/
def State.pcvCompleted (s : State) : Pcv :=
  { s.channelsUpdated.pcv with
    scan := .idle, record := [],
    published := Tab.build {} Config.refChannel (fun c => ⟨(s.channelsUpdated.channel c).state, (s.channelsUpdated.channel c).temp⟩) }

/-- A completion publishes, with the postings of its channels made, and hands the publication on. -/
theorem State.completeScan_hands (s : State) : ∃ c, s.completeScan = ({ s with pcv := s.pcvCompleted, cnd := c } : State).handScan
    ∧ s.probed s.channelsUpdated 19 { s.channelsUpdated with cnd := c } := by
  have posted := s.probePostings_probed s.channelsUpdated
  obtain ⟨c, only⟩ := posted.only
  unfold State.completeScan
  dsimp only
  rw [only] at posted ⊢
  exact ⟨c, rfl, posted⟩

/-- The entry of a channel as a completion takes it (R41). -/
def condemns (pass : Bool) (e : Option ScanEntry) : Option ScanEntry := if pass = false then e.map ScanEntry.condemned else e

theorem State.channel_channelsUpdated (s : State) {c : Nat} (channel : c < 19) :
    s.channelsUpdated.channel c = (s.channel c).updated (s.judgedEntry c) :=
  (Tab.read_mapAll ({} : Channel) Config.channels (fun c r => r.updated (s.judgedEntry c)) s.pcv.channels c).trans (if_pos channel)

/-- What the last conversion of a scan leaves. -/
structure State.finished (s : State) (e : ScanEntry) (t : State) : Prop where
  scan : t.pcv.scan = .idle
  record : t.pcv.record = []
  refPass : t.pcv.refPass = s.pcv.refPass
  fault : t.pcv.fault = s.pcv.fault
  sampleTime : t.pcv.sampleTime = s.pcv.sampleTime
  published : ∀ c, c < 18 → t.published c = ⟨(t.channel c).state, (t.channel c).temp⟩
  channels : ∀ c, c < 18 → t.channel c = (s.channel c).updated (condemns s.pcv.refPass (s.pcv.record.read none c))
  reference : t.channel 18 = (s.channel 18).updated (some e)
  only : s.scanOnly t

/-- The entry of channel 18 is put into the scan record. -/
def State.entered (s : State) (e : ScanEntry) : State :=
  { s with pcv := { s.pcv with record := s.pcv.record.write none 18 (some e), scan := .scanning 19 } }

theorem State.enterConversion_last (s : State) (e : ScanEntry) : s.enterConversion 18 e = (s.entered e).completeScan := rfl

theorem State.judgedEntry_entered (s : State) (e : ScanEntry) :
    (∀ c, c < 18 → (s.entered e).judgedEntry c = condemns s.pcv.refPass (s.pcv.record.read none c))
      ∧ (s.entered e).judgedEntry 18 = some e := by
  refine ⟨fun c channel => ?_, ?_⟩
  · have read : (s.entered e).pcv.record.read none c = s.pcv.record.read none c :=
      Tab.read_write_other none s.pcv.record (some e) (by omega)
    unfold State.judgedEntry condemns
    rw [read]
    have low : c < Config.refChannel := channel
    simp only [low, decide_true, Bool.and_true, decide_eq_true_eq]
    rfl
  · have read : (s.entered e).pcv.record.read none 18 = some e := Tab.read_write_same none s.pcv.record 18 (some e)
    unfold State.judgedEntry
    rw [read]
    exact if_neg (by simp [Config.refChannel])

theorem State.enterConversion_finished (s : State) (e : ScanEntry) : s.finished e (s.enterConversion 18 e) := by
  obtain ⟨c, hands, -⟩ := (s.entered e).completeScan_hands
  obtain ⟨beds, zcu, sha, cnd, only⟩ := ({ s.entered e with pcv := (s.entered e).pcvCompleted, cnd := c } : State).handScan_only
  have pcv : (s.enterConversion 18 e).pcv = (s.entered e).pcvCompleted := by
    rw [State.enterConversion_last, hands, only]
    rfl
  obtain ⟨entries, last⟩ := s.judgedEntry_entered e
  have channels : ∀ c, (s.enterConversion 18 e).channel c = (s.entered e).channelsUpdated.channel c := fun c => by
    unfold State.channel
    rw [pcv]
    rfl
  refine ⟨?_, ?_, ?_, ?_, ?_, fun c channel => ?_, fun c channel => ?_, ?_, s.enterConversion_only 18 e⟩
  · rw [pcv]; rfl
  · rw [pcv]; rfl
  · rw [pcv]; rfl
  · rw [pcv]; rfl
  · rw [pcv]; rfl
  · rw [channels]
    unfold State.published
    rw [pcv]
    exact (Tab.read_build _ _ _ _).trans (if_pos channel)
  · rw [channels, State.channel_channelsUpdated _ (by omega), entries c channel]
    rfl
  · rw [channels, State.channel_channelsUpdated _ (by omega), last]
    rfl

/-! ## The reference check -/

theorem State.checkReference_pcv (s : State) (raw : Nat) :
    (s.checkReference raw).pcv = { s.pcv with refPass := refInWindow raw, fault := !refInWindow raw } := by
  unfold State.checkReference
  dsimp only
  split
  · obtain ⟨_, _, _, e⟩ := State.raiseCause_only ({ s with pcv := { s.pcv with refPass := refInWindow raw, fault := !refInWindow raw } })
      [.PL] .converterFault .none
    rw [e]
  · split
    · obtain ⟨_, _, _, e⟩ := State.endCause_only ({ s with pcv := { s.pcv with refPass := refInWindow raw, fault := !refInWindow raw } })
        [.PL] .converterFault .none
      rw [e]
    · rfl

/-- The first failure of the check posts CONVERTER-FAULT, and a pass ends it (R40). -/
theorem State.checkReference_posts (s : State) (raw : Nat) :
    (refInWindow raw = false → s.pcv.fault = false → s.modeOf .PL .converterFault = .both → (s.condSet .PL).records.length < 32 →
      ((s.checkReference raw).condSet .PL).stands .converterFault .none)
    ∧ (refInWindow raw = true → s.pcv.fault = true → ∀ p, ¬((s.checkReference raw).condSet p).stands .converterFault .none)
    ∧ ((s.checkReference raw).condSet .PL).records.length ≤ (s.condSet .PL).records.length + 1
    ∧ ((s.checkReference raw).condSet .PL).modes = (s.condSet .PL).modes
    ∧ ∀ k, k ≠ .converterFault → State.spares k s (s.checkReference raw) := by
  have raised := State.raisePL_length { s with pcv := { s.pcv with refPass := refInWindow raw, fault := !refInWindow raw } }
    .converterFault .none
  have ended := State.endPL_length { s with pcv := { s.pcv with refPass := refInWindow raw, fault := !refInWindow raw } }
    .converterFault .none
  unfold State.checkReference
  dsimp only
  split
  · next first =>
    simp only [Bool.and_eq_true, decide_eq_true_eq] at first
    refine ⟨fun _ _ both room => State.postStanding_stands both (.inr room), fun pass => ?_, raised.1, raised.2, fun k other => ?_⟩
    · rw [first.1] at pass
      exact nomatch pass
    · exact (State.spares.of_cnd (by rfl)).trans (State.raiseCause_spares _ _ (Ne.symm other) _)
  · next notFirst =>
    split
    · next last =>
      simp only [Bool.and_eq_true] at last
      refine ⟨fun fail => ?_, fun _ _ p => State.endCause_stands _ _ _ _ p, ended.1, ended.2, fun k other => ?_⟩
      · rw [last.1] at fail
        exact nomatch fail
      · exact (State.spares.of_cnd (by rfl)).trans (State.endCause_spares _ _ (Ne.symm other) _)
    · next notLast =>
      refine ⟨fun fail clear => absurd ?_ notFirst, fun pass fault => absurd ?_ notLast, Nat.le_succ _, rfl, fun k _ => .of_cnd rfl⟩
      · simp [fail, clear]
      · simp [pass, fault]

/-- The end of the reference conversion, in parts: the converter is as the last conversion leaves it, the channels have made their
postings, and what is handed on posts nothing but BED-READY and HEAT-TRIMMED. -/
theorem exec_referenceCheck_finishes {s : State} (raw : Nat) (free : s.held = false) (atRef : s.pcv.scan = .scanning 18) :
    ∃ t u, exec (.referenceCheck raw) s = .next t ∧ (s.checkReference raw).finished (judgeRef raw) t
      ∧ ((s.checkReference raw).entered (judgeRef raw)).probed ((s.checkReference raw).entered (judgeRef raw)).channelsUpdated 19 u
      ∧ u.readies t := by
  obtain ⟨c, hands, probed⟩ := ((s.checkReference raw).entered (judgeRef raw)).completeScan_hands
  refine ⟨_, _, exec_referenceCheck_atRef raw free atRef, (s.checkReference raw).enterConversion_finished (judgeRef raw), probed, ?_⟩
  have last : (s.checkReference raw).enterConversion Config.refChannel (judgeRef raw)
      = ((s.checkReference raw).entered (judgeRef raw)).completeScan := State.enterConversion_last _ _
  rw [last, hands]
  exact State.readies.trans (t := { (s.checkReference raw).entered (judgeRef raw) with
    pcv := ((s.checkReference raw).entered (judgeRef raw)).pcvCompleted, cnd := c }) (.of_cnd rfl) (State.handScan_readies _)

theorem State.entered_reads (s : State) (e : ScanEntry) : (∀ c, (s.entered e).channel c = s.channel c)
    ∧ (s.entered e).zoneLayout = s.zoneLayout ∧ (s.entered e).cnd = s.cnd := ⟨fun _ => rfl, rfl, rfl⟩

/-- Settles O14. -/
theorem referenceCompletes : Obligations.ReferenceCompletes := by
  intro s raw free atRef
  obtain ⟨t, u, runs, done, probed, handed⟩ := exec_referenceCheck_finishes raw free atRef
  obtain ⟨faults, ends, length, modes, -⟩ := s.checkReference_posts raw
  have pcv := s.checkReference_pcv raw
  obtain ⟨e, p, z, a, q, c, only⟩ := done.only
  obtain ⟨p', c', checked⟩ := s.checkReference_only raw
  have refPass : t.pcv.refPass = refInWindow raw := by rw [done.refPass, pcv]
  have channels : ∀ d, (s.checkReference raw).channel d = s.channel d := fun d => by
    unfold State.channel
    rw [pcv]
  have entries : ∀ d, (s.checkReference raw).pcv.record.read none d = s.pcv.record.read none d := fun d => by rw [pcv]
  have updated : ∀ d, d < 18 → t.channel d = (s.channel d).updated (condemns (refInWindow raw) (s.pcv.record.read none d)) := fun d channel => by
    rw [done.channels d channel, channels, entries, pcv]
  have layouts : ∀ d, (s.checkReference raw).zoneLayout d = s.zoneLayout d := fun d => by
    rw [checked]
    rfl
  have enters : ∀ d, d < 18 → (s.channel d).state ≠ .lost → (t.channel d).state = .lost →
      ((s.checkReference raw).entered (judgeRef raw)).entersLost ((s.checkReference raw).entered (judgeRef raw)).channelsUpdated d := by
    intro d channel stood lost
    refine ⟨?_, ?_⟩
    · show ((s.checkReference raw).channel d).state ≠ .lost
      rw [channels]
      exact stood
    · rw [State.channel_channelsUpdated _ (by omega), (State.judgedEntry_entered _ _).1 d channel]
      rw [done.channels d channel] at lost
      exact lost
  refine ⟨t, runs, done.scan, done.record, refPass, ?_, ?_, done.published, fun d r res temp channel entry => ⟨fun pass => ?_, fun fail => ?_⟩,
    fun d channel entry => ?_, fun pass => ?_, fun fail => ?_, fun fail clear both room => ?_, fun pass fault p r mem kind subject => ?_,
    fun d channel stood lost => ⟨fun posts both room => ?_, fun b zone bed => ?_⟩, ?_⟩
  · rw [done.fault, refPass, pcv]
  · rw [done.sampleTime, pcv]
  · rw [updated d channel, entry, ← refPass, pass]
    rfl
  · rw [updated d channel, entry, ← refPass, fail]
    rfl
  · rw [updated d channel, entry]
    cases refInWindow raw <;> rfl
  · rw [refPass] at pass
    rw [done.reference, channels, judgeRef, if_pos pass]
  · rw [refPass] at fail
    rw [done.reference, channels, judgeRef, if_neg (by simp [fail])]
  · rw [refPass] at fail
    exact handed.lasts _ _ _ (probed.lasts .converterFault nofun .PL .none (faults fail clear both room))
  · rw [refPass] at pass
    refine CondSet.none_stands ?_ mem kind subject
    refine (handed.spares .converterFault nofun nofun).none_stands ?_
    exact (probed.spares .converterFault nofun).none_stands (ends pass fault p)
  · refine handed.lasts _ _ _ (probed.posted d (by omega) (enters d channel stood lost) ?_ ?_ ?_)
    · show (s.checkReference raw).probePosted d = true
      unfold State.probePosted State.probeBed
      rw [layouts]
      rcases posts with rfl | rfl | assigned
      · rfl
      · rfl
      · have zone : d < Config.zones ∨ d = 16 ∨ d = 17 := by
          have : d < 16 ∨ d = 16 ∨ d = 17 := by omega
          exact this
        rcases zone with zone | rfl | rfl
        · simp [zone, assigned]
        · rfl
        · rfl
    · show ((s.checkReference raw).condSet .PL).modes.read .both _ = .both
      rw [modes]
      exact both
    · show ((s.checkReference raw).condSet .PL).records.length + d < 32
      omega
  · have flagged := probed.flagged d b (by omega) (enters d channel stood lost) ?_
    · unfold State.flagStands at flagged
      rw [← handed.flags] at flagged
      exact flagged
    · show (s.checkReference raw).probeBed d = some b
      unfold State.probeBed
      rw [layouts, bed]
      exact if_pos zone
  · rw [only, checked]
    exact ⟨rfl, rfl, rfl, rfl, rfl, rfl, rfl, rfl, rfl⟩

/-! ## The converter's settings (R45 to R47) -/

theorem State.setTrim_eq (s : State) {c : Nat} (channel : c < 18) (v : Int) : s.setTrim c v =
    Answer.done (if s.pcv.scan = .scanning c then (s.setChannel c { s.channel c with trim := max (-50) (min 50 v) }).discardConversion
      else s.setChannel c { s.channel c with trim := max (-50) (min 50 v) }) (.trim (max (-50) (min 50 v))) := by
  unfold State.setTrim
  exact if_pos channel

theorem State.discardConversion_scanning {s : State} {c : Nat} (scan : s.pcv.scan = .scanning c) :
    s.discardConversion = s.enterConversion c .discarded := by
  unfold State.discardConversion
  rw [scan]

theorem State.discardConversion_before {s : State} {c : Nat} (scan : s.pcv.scan = .scanning c) (channel : c < 18) :
    s.discardConversion = { s with pcv := { s.pcv with record := s.pcv.record.write none c (some .discarded), scan := .scanning (c + 1) } } :=
  (State.discardConversion_scanning scan).trans (State.enterConversion_before channel .discarded)

theorem State.discardConversion_idle {s : State} (scan : s.pcv.scan = .idle) : s.discardConversion = s := by
  unfold State.discardConversion
  rw [scan]

/-- PROBE-TRIM of a channel 0 to 17 (R45). -/
theorem exec_probeTrim {s t : State} {h : Header} {c : Nat} {v : Int} (a : s.planner h) (low : -32768 ≤ v) (high : v ≤ 32767)
    (own : s.owned (fun u => u.setTrim c v) t { result := .done, data := .trim (max (-50) (min 50 v)) }) :
    exec (.probeTrim h (c :: twoSigned v)) s = .next (t.answered h .probeTrim { result := .done, data := .trim (max (-50) (min 50 v)) }) := by
  refine congrArg Host.Outcome.next (State.planner_answers a ⟨own.1, fun l => ?_⟩ rfl rfl rfl)
  rw [← own.2 l]
  exact congrArg (fun w => State.setTrim { s with lnk := l } c w) (signed2_two v low high)

/-- SAMPLE-TIME of 1 to 8 (R46). -/
theorem exec_sampleTime {s t : State} {h : Header} {n : Nat} (a : s.planner h) (low : 1 ≤ n) (high : n ≤ 8)
    (own : s.owned (fun u => Answer.done ({ u with pcv := { u.pcv with sampleTime := n } } : State).discardConversion) t ok) :
    exec (.sampleTime h [n]) s = .next (t.answered h .sampleTime ok) := by
  refine congrArg Host.Outcome.next (State.planner_answers a ⟨own.1, fun l => ?_⟩ rfl rfl rfl)
  rw [← own.2 l]
  exact if_pos (by simp [low, high])

/-- What the converter does for SAMPLE-TIME (R46, R47). -/
def sampleOwner : List Nat → State → Answer := fields1 fun n t =>
  if 1 ≤ n && n ≤ 8 then Answer.done ({ t with pcv := { t.pcv with sampleTime := n } }.discardConversion) else Answer.badField t 1

theorem State.sampleOwner_eq (s : State) {n : Nat} (low : 1 ≤ n) (high : n ≤ 8) : sampleOwner [n] s
    = Answer.done (({ s with pcv := { s.pcv with sampleTime := n } } : State).discardConversion) := if_pos (by simp [low, high])

/-- A SAMPLE-TIME that meets the conversion of channel 18 discards it, and the scan completes (R47). -/
theorem State.sampleOwner_last (s : State) {n : Nat} (low : 1 ≤ n) (high : n ≤ 8) (scan : s.pcv.scan = .scanning 18) : sampleOwner [n] s
    = (({ s with pcv := { s.pcv with sampleTime := n } } : State).enterConversion 18 .discarded, ok) :=
  (s.sampleOwner_eq low high).trans (congrArg Answer.done (State.discardConversion_scanning scan))

theorem State.enterConversion_lnk (s : State) (e : ScanEntry) : (s.enterConversion 18 e).lnk = s.lnk := by
  obtain ⟨_, _, _, _, _, _, only⟩ := s.enterConversion_only 18 e
  rw [only]

theorem State.sampleOwner_link (s : State) {n : Nat} (low : 1 ≤ n) (high : n ≤ 8) (scan : s.pcv.scan = .scanning 18) :
    (sampleOwner [n] s).1.lnk = s.lnk := by
  have link := State.enterConversion_lnk { s with pcv := { s.pcv with sampleTime := n } } .discarded
  rw [s.sampleOwner_last low high scan]
  exact link

/-- Settles O26. -/
theorem converterSettings : Obligations.ConverterSettings := by
  intro s h a
  refine ⟨fun c v channel low high other => ?_, fun c v channel low high scan => ?_, fun n low high idle => ?_,
    fun n c low high channel scan => ?_, fun n low high scan => ?_⟩
  · refine exec_probeTrim a low high ⟨rfl, fun l => ?_⟩
    refine (State.setTrim_eq _ channel v).trans ?_
    rw [if_neg other]
    rfl
  · refine ⟨{ s.setChannel c { s.channel c with trim := max (-50) (min 50 v) } with pcv := { (s.setChannel c { s.channel c with
      trim := max (-50) (min 50 v) }).pcv with record := s.pcv.record.write none c (some .discarded), scan := .scanning (c + 1) } },
      exec_probeTrim a low high ⟨rfl, fun l => ?_⟩, ?_, fun d other => ?_, rfl, rfl, rfl⟩
    · refine (State.setTrim_eq _ channel v).trans ?_
      rw [if_pos scan]
      exact congrArg (fun t => Answer.done t (.trim (max (-50) (min 50 v)))) (State.discardConversion_before scan channel)
    · exact (State.channel_setChannel s c _ c).trans (if_pos rfl)
    · exact (State.channel_setChannel s c _ d).trans (if_neg other.symm)
  · refine exec_sampleTime a low high ⟨rfl, fun l => ?_⟩
    exact congrArg Answer.done (State.discardConversion_idle idle)
  · refine exec_sampleTime a low high ⟨rfl, fun l => ?_⟩
    exact congrArg Answer.done (State.discardConversion_before scan channel)
  · obtain ⟨l, handled⟩ := s.handled_eq h .sampleTime
    have runs := State.request_planner_answered (k := .sampleTime) (body := [n]) (owner := sampleOwner) a rfl rfl rfl
      (State.sampleOwner_link _ low high (by rw [handled]; exact scan))
    rw [State.sampleOwner_last _ low high (by rw [handled]; exact scan)] at runs
    have done := State.enterConversion_finished { s.handled h .sampleTime with pcv := { (s.handled h .sampleTime).pcv with sampleTime := n } }
      .discarded
    rw [handled] at runs done
    dsimp only at runs
    generalize State.enterConversion _ 18 .discarded = t at runs done
    obtain ⟨e, p, z, v, q, c, only⟩ := done.only
    have channels : ∀ c, c < 18 → t.channel c = (s.channel c).updated (condemns s.pcv.refPass (s.pcv.record.read none c)) := done.channels
    refine ⟨{ t with lnk := s.lnk }, congrArg Host.Outcome.next runs, done.sampleTime, done.scan, done.record, done.refPass, done.fault,
      done.reference, done.published, fun c r res temp channel entry => ⟨fun pass => ?_, fun fail => ?_⟩, fun c channel entry => ?_, ?_⟩
    · refine (channels c channel).trans ?_
      rw [entry, pass]
      rfl
    · refine (channels c channel).trans ?_
      rw [entry, fail]
      rfl
    · refine (channels c channel).trans ?_
      rw [entry]
      cases s.pcv.refPass <;> rfl
    · rw [only]
      exact ⟨rfl, rfl, rfl, rfl, rfl, rfl, rfl, rfl, rfl⟩

end Sys2Proof.Machine
end

section
/-! SUPPORT. Proofs/Evaluated.lean: the stage work of a zone, the evaluation of a bed, and the two together at a scan's completion (R26,
R27, R71 to R77). -/

namespace Sys2Proof.Machine

/-! ## One evaluation of a bed (R26) -/

/-- The state of a bed after an evaluation: whether it has zones, whether they all stand in COOL or DONE, whether they all stand in DONE,
whether its pieces are all release-ok. -/
def evaluatedState (zones cooling done ready : Bool) : BedState → BedState
  | .curing =>
    if zones = false then (if ready then .ready else .curing)
    else if cooling then (if done && ready then .ready else .cooling) else .curing
  | .cooling => if zones = false then .cooling else if done && ready then .ready else .cooling
  | st => st

/-- The state of bed `b` after an evaluation in `s`. -/
def State.evaluatedBed (s : State) (b : Nat) : BedState :=
  evaluatedState (!(s.bedZones b).isEmpty) (s.zonesCooling b) (s.zonesDone b) (s.piecesReady b) (s.bed b).state

/-- A later evaluation, with no zone gone back, makes of the state what it would have made of it at first. -/
theorem evaluatedState_again {c c' d d' : Bool} (cools : c = true → c' = true) (ends : d = true → d' = true) (z r : Bool) (st : BedState) :
    evaluatedState z c' d' r (evaluatedState z c d r st) = evaluatedState z c' d' r st := by
  cases st with
  | curing | cooling => revert cools ends; revert c c' d d' z r; decide
  | _ => rfl

theorem State.becomeReady_bed (s : State) (b a : Nat) :
    (s.becomeReady b).bed a = if b = a then { s.bed b with state := .ready } else s.bed a := by
  obtain ⟨_, _, _, e⟩ := State.postEvent_only (s.setBed b { s.bed b with state := .ready }) .PL .bedReady (.bed b)
  have same : (s.becomeReady b).bed a = (s.setBed b { s.bed b with state := .ready }).bed a := by
    unfold State.becomeReady
    rw [e]
    rfl
  rw [same, State.bed_setBed]

theorem State.evaluateCooling_bed (s : State) (b a : Nat) : (s.evaluateCooling b).bed a =
    if b = a then { s.bed b with state := if s.zonesDone b && s.piecesReady b then .ready else (s.bed b).state } else s.bed a := by
  unfold State.evaluateCooling
  split
  · rw [State.becomeReady_bed]
  · split
    · next same => rw [same]
    · rfl

theorem State.evaluateBed_bed (s : State) (b a : Nat) :
    (s.evaluateBed b).bed a = if b = a then { s.bed b with state := s.evaluatedBed b } else s.bed a := by
  have stands : s.evaluatedBed b = (s.bed b).state → s.bed a = if b = a then { s.bed b with state := s.evaluatedBed b } else s.bed a := by
    intro same
    rw [same]
    split
    · next e => rw [e]
    · rfl
  unfold State.evaluateBed
  cases state : (s.bed b).state with
  | curing =>
    dsimp only
    by_cases zones : (s.bedZones b).isEmpty = true
    · rw [if_pos zones]
      by_cases ready : s.piecesReady b = true
      · have next : s.evaluatedBed b = .ready := by simp [State.evaluatedBed, state, evaluatedState, zones, ready]
        rw [if_pos ready, State.becomeReady_bed, next]
      · rw [if_neg ready]
        exact stands (by simp [State.evaluatedBed, state, evaluatedState, zones, ready])
    · rw [if_neg zones]
      by_cases cooling : s.zonesCooling b = true
      · have next : s.evaluatedBed b = if s.zonesDone b && s.piecesReady b then .ready else .cooling := by
          simp [State.evaluatedBed, state, evaluatedState, zones, cooling]
        have written : (s.setBed b { s.bed b with state := .cooling }).bed b = { s.bed b with state := .cooling } :=
          (State.bed_setBed _ _ _ _).trans (if_pos rfl)
        have pieces : (s.setBed b { s.bed b with state := .cooling }).piecesReady b = s.piecesReady b := by
          unfold State.piecesReady
          rw [written]
          rfl
        have done : (s.setBed b { s.bed b with state := .cooling }).zonesDone b = s.zonesDone b := rfl
        rw [if_pos cooling, State.evaluateCooling_bed, written, pieces, done, next, State.bed_setBed]
        split <;> rfl
      · rw [if_neg cooling]
        exact stands (by simp [State.evaluatedBed, state, evaluatedState, zones, cooling])
  | cooling =>
    dsimp only
    by_cases zones : (s.bedZones b).isEmpty = true
    · rw [if_pos zones]
      exact stands (by simp [State.evaluatedBed, state, evaluatedState, zones])
    · have next : s.evaluatedBed b = if s.zonesDone b && s.piecesReady b then .ready else .cooling := by
        simp [State.evaluatedBed, state, evaluatedState, zones]
      rw [if_neg zones, State.evaluateCooling_bed, next, state]
  | _ => exact stands (by simp [State.evaluatedBed, state, evaluatedState])

/-- What an evaluation reads of the rest of the state. -/
theorem State.bedsOnly.evaluatedBed {s t : State} (h : s.bedsOnly t) {b : Nat} {st : BedState} (bed : t.bed b = { s.bed b with state := st }) :
    t.evaluatedBed b = evaluatedState (!(s.bedZones b).isEmpty) (s.zonesCooling b) (s.zonesDone b) (s.piecesReady b) st := by
  have pieces : t.piecesReady b = s.piecesReady b := by
    unfold State.piecesReady
    rw [bed]
    obtain ⟨_, _, rfl⟩ := h
    rfl
  unfold State.evaluatedBed
  rw [pieces, bed]
  obtain ⟨_, _, rfl⟩ := h
  rfl

/-- Every bed evaluated once. -/
theorem State.evaluateBeds_bed (s : State) {b : Nat} (bed : b ≤ 12) : s.evaluateBeds.bed b = { s.bed b with state := s.evaluatedBed b } := by
  have fold : ∀ n, s.bedsOnly ((List.range n).foldl State.evaluateBed s) ∧ ∀ a, ((List.range n).foldl State.evaluateBed s).bed a
      = if a < n then { s.bed a with state := s.evaluatedBed a } else s.bed a := by
    intro n
    induction n with
    | zero => exact ⟨.refl s, fun a => rfl⟩
    | succ n ih =>
      obtain ⟨only, beds⟩ := ih
      rw [List.range_succ, List.foldl_append]
      refine ⟨only.trans (State.evaluateBed_beds _ n), fun a => ?_⟩
      have before : ((List.range n).foldl State.evaluateBed s).bed n = s.bed n := (beds n).trans (if_neg (Nat.lt_irrefl n))
      have next : ((List.range n).foldl State.evaluateBed s).evaluatedBed n = s.evaluatedBed n :=
        only.evaluatedBed (st := (s.bed n).state) before
      show (State.evaluateBed _ n).bed a = _
      rw [State.evaluateBed_bed, before, next, beds]
      by_cases here : n = a
      · subst here
        rw [if_pos rfl, if_pos (Nat.lt_succ_self _)]
      · rw [if_neg here]
        by_cases less : a < n
        · rw [if_pos less, if_pos (by omega)]
        · rw [if_neg less, if_neg (by omega)]
  unfold State.evaluateBeds
  exact ((fold (Config.beds + 1)).2 b).trans (if_pos (Nat.lt_succ_of_le bed))

/-- A bed evaluated at each stage change of a zone of it, once or more (R77). -/
theorem State.handStages_bed (l : List Nat) (s : State) (b : Nat) : (l.foldl State.handStage s).bed b =
    if ∃ z ∈ l, (s.zoneLayout z).bed = some b then { s.bed b with state := s.evaluatedBed b } else s.bed b := by
  induction l generalizing s with
  | nil => exact (if_neg (by simp)).symm
  | cons z l ih =>
    have layouts : ∀ i, (s.handStage z).zoneLayout i = s.zoneLayout i := fun i => by
      obtain ⟨_, _, e⟩ := s.handStage_beds z
      rw [e]
      rfl
    have handed : (s.handStage z).bed b
        = if (s.zoneLayout z).bed = some b then { s.bed b with state := s.evaluatedBed b } else s.bed b := by
      unfold State.handStage
      cases zone : (s.zoneLayout z).bed with
      | none => simp
      | some a =>
        dsimp only
        rw [State.evaluateBed_bed]
        by_cases same : a = b
        · subst same
          simp
        · simp [same]
    have rest := ih (s.handStage z)
    simp only [layouts, handed] at rest
    show (l.foldl State.handStage (s.handStage z)).bed b = _
    rw [rest]
    by_cases here : (s.zoneLayout z).bed = some b
    · have again : (s.handStage z).evaluatedBed b = s.evaluatedBed b := by
        rw [(s.handStage_beds z).evaluatedBed (handed.trans (if_pos here))]
        exact evaluatedState_again id id _ _ _
      simp [here, again]
    · have first : (s.handStage z).evaluatedBed b = s.evaluatedBed b :=
        (s.handStage_beds z).evaluatedBed (st := (s.bed b).state) (handed.trans (if_neg here))
      simp [here, first]

end Sys2Proof.Machine
end

section
/-! SUPPORT. Proofs/Staged.lean: the stage work of a zone, case by case, and the zone step record by record (R71 to R81). -/

namespace Sys2Proof.Machine

/-! ## The entries and tests of the stages -/

/-- What stage work leaves of a zone: its stage, setpoint, timer and pending ADVANCE apart, all of it. -/
def Zone.worked (z r : Zone) : Prop :=
  ∃ st sp ti ad, r = { z with stage := st, setpoint := sp, timer := ti, advance := ad }

theorem Zone.worked.refl (z : Zone) : z.worked z := ⟨_, _, _, _, rfl⟩

theorem Zone.worked.trans {z r q : Zone} (h : z.worked r) (g : r.worked q) : z.worked q := by
  obtain ⟨_, _, _, _, rfl⟩ := h
  obtain ⟨_, _, _, _, rfl⟩ := g
  exact ⟨_, _, _, _, rfl⟩

theorem rampTest_worked (p : Profile) (z : Zone) : z.worked (rampTest p z).1 := by
  unfold rampTest enterHoldStage
  split <;> exact ⟨_, _, _, _, rfl⟩

/-- The setpoint a zone enters RAMP with (R74). -/
def rampStart (p : Profile) : Option Int → Int
  | some t => min t p.holdTemp
  | none => p.frostFloor

/-- A zone that has just entered RAMP, before its entry test. -/
def Zone.ramping (z : Zone) (v : Int) : Zone := { z with stage := .ramp, setpoint := some v, timer := 0 }

theorem enterRamp_eq (p : Profile) (own : Option Int) (z : Zone) : (enterRamp p own z).1 = (rampTest p (z.ramping (rampStart p own))).1 := by
  cases own <;> rfl

theorem enterRamp_worked (p : Profile) (own : Option Int) (z : Zone) : z.worked (enterRamp p own z).1 :=
  Zone.worked.trans (r := z.ramping (rampStart p own)) ⟨_, _, _, _, rfl⟩ (by
    rw [enterRamp_eq]
    exact rampTest_worked p _)

theorem coolTest_worked (p : Profile) (hall : Option Int) (sp : Int) (z : Zone) : z.worked (coolTest p hall sp z).1 := by
  unfold coolTest enterDone
  split <;> exact ⟨_, _, _, _, rfl⟩

theorem stageWork_worked (p : Profile) (own : Option Int) (st : ProbeState) (hall : Option Int) (ready : Bool) (z : Zone) :
    z.worked (stageWork p own st hall ready z).1 := by
  have ticked : z.worked z.ticked := ⟨_, _, _, _, rfl⟩
  unfold stageWork
  split
  · exact .refl z
  · exact .refl z
  · unfold enterDelay
    dsimp only
    split
    · exact Zone.worked.trans ⟨_, _, _, _, rfl⟩ (enterRamp_worked p own _)
    · exact ⟨_, _, _, _, rfl⟩
  · split
    · exact Zone.worked.trans ⟨_, _, _, _, rfl⟩ (enterRamp_worked p own _)
    · split
      · exact ticked.trans (enterRamp_worked p own _)
      · exact ticked
  · split
    · exact ⟨_, _, _, _, rfl⟩
    · unfold rampWork
      split
      · exact (ticked.trans ⟨_, _, _, _, rfl⟩).trans (rampTest_worked p _)
      · split
        · exact (ticked.trans ⟨_, _, _, _, rfl⟩).trans (rampTest_worked p _)
        · split <;> exact ticked.trans ⟨_, _, _, _, rfl⟩
  · split
    · exact ⟨_, _, _, _, rfl⟩
    · split <;> exact ticked.trans ⟨_, _, _, _, rfl⟩
  · unfold coolWork
    split
    · exact (ticked.trans ⟨_, _, _, _, rfl⟩).trans (coolTest_worked p hall _ _)
    · split
      · exact (ticked.trans ⟨_, _, _, _, rfl⟩).trans (coolTest_worked p hall _ _)
      · split <;> exact ticked.trans ⟨_, _, _, _, rfl⟩

/-- The RAMP test (R74). -/
theorem rampTest_cases {p : Profile} {z : Zone} {v : Int} (sp : z.setpoint = some v) :
    (v = p.holdTemp → (rampTest p z).1.inHold p) ∧ (v ≠ p.holdTemp → (rampTest p z).1 = z) := by
  unfold rampTest
  refine ⟨fun same => ?_, fun other => ?_⟩
  · rw [if_pos (by rw [sp, same])]
    exact ⟨rfl, rfl, rfl⟩
  · rw [if_neg (by rw [sp]; exact fun e => other (Option.some.inj e))]

theorem enterRamp_inRamp (p : Profile) (own : Option Int) (z : Zone) : (enterRamp p own z).1.inRamp p own := by
  intro v value
  have sp : v = rampStart p own := by cases own <;> exact value
  subst sp
  obtain ⟨enters, stays⟩ := rampTest_cases (p := p) (z := z.ramping (rampStart p own)) rfl
  rw [enterRamp_eq]
  refine ⟨enters, fun other => ?_⟩
  rw [stays other]
  exact ⟨rfl, rfl, rfl⟩

/-- The COOL exit test (R76). -/
theorem coolTest_tested (p : Profile) (hall : Option Int) (v : Int) (z : Zone) (cool : z.stage = .cool) (sp : z.setpoint = some v) :
    (coolTest p hall v z).1.testedCool p hall v z.timer := by
  have test : (((hall.map (fun t => decide (v ≤ t + p.releaseDelta))).getD false || decide (v = p.frostFloor)) = true)
      ↔ ((∃ t, hall = some t ∧ v ≤ t + p.releaseDelta) ∨ v = p.frostFloor) := by
    cases hall <;> simp
  unfold coolTest
  refine ⟨fun exits => ?_, fun stays => ?_⟩
  · rw [if_pos (test.mpr exits)]
    exact ⟨rfl, rfl, rfl⟩
  · rw [if_neg (mt test.mp stays)]
    exact ⟨cool, sp, rfl⟩

/-! ## The stage changes -/

/-- Stage work that changes no stage names no change, and a zone in COOL or DONE goes on to DONE alone (R77). -/
theorem stageWork_changes (p : Profile) (own : Option Int) (st : ProbeState) (hall : Option Int) (ready : Bool) (z : Zone) :
    ((stageWork p own st hall ready z).2 = [] → (stageWork p own st hall ready z).1.stage = z.stage)
    ∧ (z.stage = .done → (stageWork p own st hall ready z).1.stage = .done)
    ∧ (z.stage = .cool → (stageWork p own st hall ready z).1.stage = .cool ∨ (stageWork p own st hall ready z).1.stage = .done) := by
  have ramp : ∀ r : Zone, (rampTest p r).2 = [] → (rampTest p r).1.stage = r.stage := fun r => by
    unfold rampTest enterHoldStage
    split
    · exact nofun
    · exact fun _ => rfl
  have cool : ∀ v (r : Zone), ((coolTest p hall v r).2 = [] → (coolTest p hall v r).1.stage = r.stage)
      ∧ (r.stage = .cool → (coolTest p hall v r).1.stage = .cool ∨ (coolTest p hall v r).1.stage = .done) := fun v r => by
    unfold coolTest enterDone
    split
    · exact ⟨nofun, fun _ => .inr rfl⟩
    · exact ⟨fun _ => rfl, fun c => .inl c⟩
  unfold stageWork
  cases stage : z.stage with
  | idle => exact ⟨fun _ => stage, nofun, nofun⟩
  | done => exact ⟨fun _ => stage, fun _ => stage, nofun⟩
  | startPending =>
    refine ⟨fun none => ?_, nofun, nofun⟩
    dsimp only at none
    unfold enterDelay at none
    dsimp only at none
    split at none <;> exact nomatch none
  | delay =>
    refine ⟨?_, nofun, nofun⟩
    dsimp only
    split
    · exact nofun
    · split
      · exact nofun
      · exact fun _ => stage
  | ramp =>
    refine ⟨?_, nofun, nofun⟩
    dsimp only
    split
    · exact nofun
    · unfold rampWork
      split
      · exact fun none => (ramp _ none).trans stage
      · split
        · exact fun none => (ramp _ none).trans stage
        · split <;> exact fun _ => stage
  | hold =>
    refine ⟨?_, nofun, nofun⟩
    dsimp only
    split
    · exact nofun
    · split
      · exact nofun
      · exact fun _ => stage
  | cool =>
    dsimp only
    unfold coolWork
    split
    · exact ⟨fun none => ((cool _ _).1 none).trans stage, nofun, fun _ => (cool _ _).2 stage⟩
    · split
      · exact ⟨fun none => ((cool _ _).1 none).trans stage, nofun, fun _ => (cool _ _).2 stage⟩
      · split <;> exact ⟨fun _ => stage, nofun, fun _ => .inl stage⟩

/-! ## The zone step, record by record -/

/-- The zones with their pending priorities taken (R71, step 1). -/
def State.prioritised (s : State) : State := s.mapZones (fun _ z => z.takePriority)

/-- A zone after its stage work in the zone step. -/
def State.workedZone (s : State) (z : Nat) : Zone := (s.prioritised.zoneWork z).1

theorem State.mapZones_zone {s : State} {f : Nat → Zone → Zone} {z : Nat} (zone : z < 16) : (s.mapZones f).zone z = f z (s.zone z) :=
  (s.zone_mapZones f z).trans (if_pos zone)

/-- The zones after stage work, and after their computed requests. -/
def State.stageworked (s : State) : State := s.prioritised.mapZones (fun i _ => (s.prioritised.zoneWork i).1)
def State.computedAll (s : State) : State := s.stageworked.mapZones (fun i z => { z with computed := s.stageworked.computedOf i })

theorem State.zonesStepped_eq (s : State) : s.zonesStepped = s.computedAll.mapZones (fun i z => { z with request := s.computedAll.requestOf i }) :=
  rfl

theorem State.zonesStepped_zone (s : State) {z : Nat} (zone : z < 16) : s.zonesStepped.zone z
    = { s.workedZone z with computed := s.stageworked.computedOf z, request := s.computedAll.requestOf z } := by
  rw [State.zonesStepped_eq, State.mapZones_zone zone]
  unfold State.computedAll State.stageworked
  rw [State.mapZones_zone zone, State.mapZones_zone zone]
  rfl

/-- The stage work of a zone with a profile, in the zone step. -/
theorem State.workedZone_eq {s : State} {z n : Nat} (zone : z < 16) (profile : (s.zone z).profile = some n) :
    s.prioritised.zoneWork z = stageWork (s.profile n) (s.usable z) (s.published z).state (s.usable 16)
      (s.holdReady (s.profile n) z) (s.zone z).takePriority := by
  have taken : s.prioritised.zone z = (s.zone z).takePriority := State.mapZones_zone zone
  unfold State.zoneWork
  rw [taken]
  have named : (s.zone z).takePriority.profile = some n := profile
  rw [named]
  rfl

theorem State.workedZone_none {s : State} {z : Nat} (zone : z < 16) (profile : (s.zone z).profile = none) :
    s.prioritised.zoneWork z = ((s.zone z).takePriority, []) := by
  have taken : s.prioritised.zone z = (s.zone z).takePriority := State.mapZones_zone zone
  unfold State.zoneWork
  rw [taken]
  have named : (s.zone z).takePriority.profile = none := profile
  rw [named]

theorem State.workedZone_worked {s : State} {z : Nat} (zone : z < 16) : (s.zone z).takePriority.worked (s.workedZone z) := by
  unfold State.workedZone
  cases profile : (s.zone z).profile with
  | none => rw [State.workedZone_none zone profile]; exact .refl _
  | some n => rw [State.workedZone_eq zone profile]; exact stageWork_worked _ _ _ _ _ _

end Sys2Proof.Machine
end

section
/-! SUPPORT. Proofs/Cured.lean: the zone step at a scan's completion, in the words of the spec (R71 to R81). -/

namespace Sys2Proof.Machine

/-! ## Stage work, stage by stage -/

section
variable {p : Profile} {own : Option Int} {st : ProbeState} {hall : Option Int} {ready : Bool} {z : Zone}

theorem stageWork_startPending (stage : z.stage = .startPending) :
    (0 < p.delay → (stageWork p own st hall ready z).1.stage = .delay
      ∧ (stageWork p own st hall ready z).1.setpoint = some p.frostFloor ∧ (stageWork p own st hall ready z).1.timer = 0)
    ∧ (p.delay = 0 → (stageWork p own st hall ready z).1.inRamp p own) := by
  have work : stageWork p own st hall ready z = enterDelay p own z := by simp only [stageWork, stage]
  rw [work]
  unfold enterDelay
  refine ⟨fun some => ?_, fun none => ?_⟩
  · rw [if_neg (by omega)]
    exact ⟨rfl, rfl, rfl⟩
  · rw [if_pos none]
    exact enterRamp_inRamp p own _

theorem enterRamp_advance : (enterRamp p own z).1.advance = z.advance := by
  rw [enterRamp_eq]
  unfold rampTest enterHoldStage
  split <;> rfl

theorem stageWork_delay (stage : z.stage = .delay) :
    (z.advance = true → (stageWork p own st hall ready z).1.inRamp p own ∧ (stageWork p own st hall ready z).1.advance = false)
    ∧ (z.advance = false →
      (p.delay ≤ min 65535 (z.timer + 1) → (stageWork p own st hall ready z).1.inRamp p own)
      ∧ (min 65535 (z.timer + 1) < p.delay → (stageWork p own st hall ready z).1.stage = .delay
        ∧ (stageWork p own st hall ready z).1.setpoint = z.setpoint
        ∧ (stageWork p own st hall ready z).1.timer = min 65535 (z.timer + 1))) := by
  have timer : z.ticked.timer = min 65535 (z.timer + 1) := rfl
  have work : stageWork p own st hall ready z = if z.advance then enterRamp p own { z with advance := false }
      else if p.delay ≤ z.ticked.timer then enterRamp p own z.ticked else (z.ticked, []) := by
    simp only [stageWork, stage]
  rw [work, timer]
  refine ⟨fun advance => ?_, fun stays => ⟨fun over_ => ?_, fun under => ?_⟩⟩
  · rw [if_pos advance]
    exact ⟨enterRamp_inRamp p own _, enterRamp_advance⟩
  · rw [if_neg (by simp [stays]), if_pos over_]
    exact enterRamp_inRamp p own _
  · rw [if_neg (by simp [stays]), if_neg (by omega)]
    exact ⟨stage, rfl, rfl⟩

theorem stageWork_ramp (stage : z.stage = .ramp) :
    (z.advance = true → (stageWork p own st hall ready z).1.inHold p ∧ (stageWork p own st hall ready z).1.advance = false)
    ∧ (z.advance = false →
      (∀ v, ((∃ sp, z.setpoint = some sp ∧ v = min (sp + p.rampRate) p.holdTemp)
          ∨ (z.setpoint = none ∧ ∃ t, own = some t ∧ v = min t p.holdTemp)) →
        (v = p.holdTemp → (stageWork p own st hall ready z).1.inHold p)
        ∧ (v ≠ p.holdTemp → (stageWork p own st hall ready z).1.stage = .ramp
          ∧ (stageWork p own st hall ready z).1.setpoint = some v
          ∧ (stageWork p own st hall ready z).1.timer = min 65535 (z.timer + 1)))
      ∧ (z.setpoint = none → own = none → st = .lost → (stageWork p own st hall ready z).1.stage = .ramp
        ∧ (stageWork p own st hall ready z).1.setpoint = some p.frostFloor
        ∧ (stageWork p own st hall ready z).1.timer = min 65535 (z.timer + 1))
      ∧ (z.setpoint = none → own = none → st ≠ .lost → (stageWork p own st hall ready z).1.stage = .ramp
        ∧ (stageWork p own st hall ready z).1.setpoint = none
        ∧ (stageWork p own st hall ready z).1.timer = min 65535 (z.timer + 1))) := by
  have work : stageWork p own st hall ready z
      = if z.advance then enterHoldStage p { z with advance := false } else rampWork p own st z.ticked := by
    simp only [stageWork, stage]
  have ticked : z.ticked.setpoint = z.setpoint := rfl
  rw [work]
  refine ⟨fun advance => ?_, fun stays => ?_⟩
  · rw [if_pos advance]
    exact ⟨⟨rfl, rfl, rfl⟩, rfl⟩
  · rw [if_neg (by simp [stays])]
    refine ⟨fun v value => ?_, fun none unusable lost => ?_, fun none unusable other => ?_⟩
    · have test : rampWork p own st z.ticked = rampTest p { z.ticked with setpoint := some v } := by
        unfold rampWork
        rcases value with ⟨sp, held, rfl⟩ | ⟨none, t, rfl, rfl⟩
        · rw [ticked, held]
        · rw [ticked, none]
      obtain ⟨enters, goes⟩ := rampTest_cases (p := p) (z := { z.ticked with setpoint := some v }) rfl
      rw [test]
      refine ⟨enters, fun other => ?_⟩
      rw [goes other]
      exact ⟨stage, rfl, rfl⟩
    · unfold rampWork
      rw [ticked, none, unusable]
      dsimp only
      rw [if_pos lost]
      exact ⟨stage, rfl, rfl⟩
    · unfold rampWork
      rw [ticked, none, unusable]
      dsimp only
      rw [if_neg other]
      exact ⟨stage, none, rfl⟩

theorem stageWork_hold (stage : z.stage = .hold) :
    (z.advance = true → (stageWork p own st hall ready z).1.inCool p ∧ (stageWork p own st hall ready z).1.advance = false)
    ∧ (z.advance = false →
      ((ready = true ∨ p.maxHold ≤ min 65535 (z.timer + 1)) → (stageWork p own st hall ready z).1.inCool p)
      ∧ (¬(ready = true ∨ p.maxHold ≤ min 65535 (z.timer + 1)) → (stageWork p own st hall ready z).1.stage = .hold
        ∧ (stageWork p own st hall ready z).1.setpoint = some p.holdTemp
        ∧ (stageWork p own st hall ready z).1.timer = min 65535 (z.timer + 1))) := by
  have timer : z.ticked.timer = min 65535 (z.timer + 1) := rfl
  have work : stageWork p own st hall ready z = if z.advance then enterCool p { z with advance := false }
      else if ready || decide (p.maxHold ≤ z.ticked.timer) then enterCool p z.ticked
      else ({ z.ticked with setpoint := some p.holdTemp }, []) := by
    simp only [stageWork, stage]
  rw [work, timer]
  refine ⟨fun advance => ?_, fun stays => ⟨fun exits => ?_, fun goes => ?_⟩⟩
  · rw [if_pos advance]
    exact ⟨⟨rfl, rfl, rfl⟩, rfl⟩
  · rw [if_neg (by simp [stays]), if_pos (by simpa using exits)]
    exact ⟨rfl, rfl, rfl⟩
  · rw [if_neg (by simp [stays]), if_neg (by simpa using goes)]
    exact ⟨stage, rfl, rfl⟩

theorem stageWork_cool (stage : z.stage = .cool) :
    (∀ v, ((∃ sp, z.setpoint = some sp ∧ v = max (sp - p.coolRate) p.frostFloor)
        ∨ (z.setpoint = none ∧ ∃ t, own = some t ∧ v = min t p.holdTemp)) →
      (stageWork p own st hall ready z).1.testedCool p hall v (min 65535 (z.timer + 1)))
    ∧ (z.setpoint = none → own = none → st = .lost → (stageWork p own st hall ready z).1.stage = .cool
      ∧ (stageWork p own st hall ready z).1.setpoint = some p.holdTemp
      ∧ (stageWork p own st hall ready z).1.timer = min 65535 (z.timer + 1))
    ∧ (z.setpoint = none → own = none → st ≠ .lost → (stageWork p own st hall ready z).1.stage = .cool
      ∧ (stageWork p own st hall ready z).1.setpoint = none
      ∧ (stageWork p own st hall ready z).1.timer = min 65535 (z.timer + 1)) := by
  have work : stageWork p own st hall ready z = coolWork p own st hall z.ticked := by simp only [stageWork, stage]
  have ticked : z.ticked.setpoint = z.setpoint := rfl
  rw [work]
  refine ⟨fun v value => ?_, fun none unusable lost => ?_, fun none unusable other => ?_⟩
  · have test : coolWork p own st hall z.ticked = coolTest p hall v { z.ticked with setpoint := some v } := by
      unfold coolWork
      rcases value with ⟨sp, held, rfl⟩ | ⟨none, t, rfl, rfl⟩
      · rw [ticked, held]
      · rw [ticked, none]
    rw [test]
    exact coolTest_tested p hall v { z.ticked with setpoint := some v } stage rfl
  · unfold coolWork
    rw [ticked, none, unusable]
    dsimp only
    rw [if_pos lost]
    exact ⟨stage, rfl, rfl⟩
  · unfold coolWork
    rw [ticked, none, unusable]
    dsimp only
    rw [if_neg other]
    exact ⟨stage, none, rfl⟩

/-! ## The computed request (R79, R80) -/

theorem Stage.heats_iff (x : Stage) : x.heats = true ↔ x = .delay ∨ x = .ramp ∨ x = .hold ∨ x = .cool := by
  cases x <;> decide

theorem dutyOf_hold (p : Profile) (e : Int) : (dutyOf p .hold e : Int) = max 0 (min 60 (p.holdBias + e * p.gain / 10)) := by
  unfold dutyOf clampInt
  rw [if_pos rfl]
  omega

theorem dutyOf_other (p : Profile) {x : Stage} (other : x ≠ .hold) (e : Int) :
    (dutyOf p x e : Int) = if 0 < e then max 0 (min 60 (e * p.gain / 10)) else 0 := by
  unfold dutyOf clampInt
  rw [if_neg other]
  split <;> omega

theorem computedRequest_heats (heats : z.stage.heats = true) :
    (∀ t sp, own = some t → z.setpoint = some sp → computedRequest p own z = dutyOf p z.stage (sp - t))
    ∧ ((own = none ∨ z.setpoint = none) → computedRequest p own z = p.fallback) := by
  unfold computedRequest
  rw [if_pos heats]
  refine ⟨fun t sp usable held => by rw [usable, held], fun missing => ?_⟩
  rcases missing with none | none <;> rw [none]
  cases own <;> rfl

theorem computedRequest_cold (cold : z.stage.heats = false) : computedRequest p own z = 0 := by
  unfold computedRequest
  rw [if_neg (by simp [cold])]

end

/-! ## The hold-exit test on maturity -/

theorem State.mem_zonePieces {s : State} {z n : Nat} : n ∈ s.zonePieces z ↔ s.zonePiece z n := by
  unfold State.zonePieces State.zonePiece
  cases bed : (s.zoneLayout z).bed with
  | none => simp
  | some b =>
    cases range : (s.zoneLayout z).range with
    | none => simp
    | some r => simp [Range.has]

theorem State.holdReady_iff {s : State} {p : Profile} {z : Nat} : s.holdReady p z = true
    ↔ (∃ k, s.zonePiece z k) ∧ ∀ k, s.zonePiece z k → p.holdExit * 600 ≤ (s.piece k).accumulator := by
  unfold State.holdReady
  simp only [Bool.and_eq_true, Bool.not_eq_true', List.all_eq_true, decide_eq_true_eq, ← State.mem_zonePieces]
  exact and_congr List.isEmpty_eq_false_iff_exists_mem Iff.rfl

/-! ## The whole step -/

/-- The state that the zone step of a completion finds: the pieces credited, the beds evaluated. -/
def State.evaluated (v : State) : State := v.maturityUpdate.evaluateBeds

theorem State.evaluated_only (v : State) : ∃ e c, v.evaluated = { v.maturityUpdate with beds := e, cnd := c } := v.maturityUpdate.evaluateBeds_beds

theorem State.prepareFrame_after (s : State) (pubs : List PubEntry) : ∃ a c, s.prepareFrame pubs = { s with sha := a, cnd := c } := by
  unfold State.prepareFrame
  dsimp only
  split
  · obtain ⟨_, _, _, e⟩ := State.postEvent_only { s with sha := _ } .PL .heatTrimmed .none
    rw [e]
    exact ⟨_, _, rfl⟩
  · exact ⟨_, _, rfl⟩

theorem State.zoneStep_eq (s : State) :
    s.zoneStep = s.stageChanges.foldl State.handStage (s.zonesStepped.prepareFrame s.zonesStepped.publication) := rfl

theorem State.prepared_handed (t : State) (pubs : List PubEntry) (l : List Nat) :
    ∃ e a c, l.foldl State.handStage (t.prepareFrame pubs) = { t with beds := e, sha := a, cnd := c } := by
  obtain ⟨a, c, e⟩ := t.prepareFrame_after pubs
  obtain ⟨b, c', handed⟩ := State.handStages_beds l (t.prepareFrame pubs)
  rw [handed, e]
  exact ⟨_, _, _, rfl⟩

/-- A zone step changes the zones by `zonesStepped`, then beds, allocator and condition unit alone. -/
theorem State.zoneStep_after (s : State) : ∃ e a c, s.zoneStep = { s.zonesStepped with beds := e, sha := a, cnd := c } := by
  rw [s.zoneStep_eq]
  exact State.prepared_handed _ _ _

/-- A zone whose stage work changes its stage has its bed evaluated (R77). -/
theorem State.mem_stageChanges {s : State} {z : Nat} : z ∈ s.stageChanges ↔ z < 16 ∧ (s.prioritised.zoneWork z).2 ≠ [] := by
  have listed : s.stageChanges = (List.range Config.zones).flatMap (fun i => (s.prioritised.zoneWork i).2.map (fun _ => i)) := rfl
  rw [listed, List.mem_flatMap]
  constructor
  · rintro ⟨i, mem, work⟩
    obtain ⟨x, change, rfl⟩ := List.mem_map.mp work
    exact ⟨List.mem_range.mp mem, List.ne_nil_of_mem change⟩
  · rintro ⟨zone, some⟩
    obtain ⟨x, change⟩ := List.exists_mem_of_ne_nil _ some
    exact ⟨z, List.mem_range.mpr zone, List.mem_map.mpr ⟨x, change, rfl⟩⟩

theorem State.prepared_handed_bed (t : State) (pubs : List PubEntry) (l : List Nat) (b : Nat) :
    (l.foldl State.handStage (t.prepareFrame pubs)).bed b =
      if ∃ z ∈ l, (t.zoneLayout z).bed = some b then { t.bed b with state := t.evaluatedBed b } else t.bed b := by
  obtain ⟨a, c, e⟩ := t.prepareFrame_after pubs
  rw [State.handStages_bed, e]
  rfl

/-- The beds after a zone step. -/
theorem State.zoneStep_bed (s : State) (b : Nat) : s.zoneStep.bed b =
    if ∃ z ∈ s.stageChanges, (s.zoneLayout z).bed = some b then { s.bed b with state := s.zonesStepped.evaluatedBed b } else s.bed b := by
  have handed := State.prepared_handed_bed s.zonesStepped s.zonesStepped.publication s.stageChanges b
  rw [s.zoneStep_eq, handed]
  obtain ⟨z, stepped⟩ := s.zonesStepped_zones
  have layout : ∀ i, s.zonesStepped.zoneLayout i = s.zoneLayout i := fun i => by rw [stepped]; rfl
  have bed : s.zonesStepped.bed b = s.bed b := by rw [stepped]; rfl
  simp only [layout, bed]

end Sys2Proof.Machine
end

section
/-! SUPPORT. Proofs/Cycled.lean: what the completion of a scan does to zones and beds (R26, R27, R71 to R81). -/

namespace Sys2Proof.Machine

/-! ## The completion, in parts -/

/-- The end of the reference conversion: the converter's own work, in which nothing of the heating is posted, and then what the
publication sets going. -/
theorem exec_referenceCheck_handed {s : State} (raw : Nat) (free : s.held = false) (atRef : s.pcv.scan = .scanning 18) :
    ∃ v, s.probesOnly v ∧ State.spares .heatTrimmed s v ∧ exec (.referenceCheck raw) s = .next v.evaluated.zoneStep := by
  obtain ⟨c, hands, probed⟩ := ((s.checkReference raw).entered (judgeRef raw)).completeScan_hands
  have checked := (s.checkReference_posts raw).2.2.2.2 .heatTrimmed nofun
  obtain ⟨p, c', only⟩ := s.checkReference_only raw
  have runs := exec_referenceCheck_atRef raw free atRef
  have last : (s.checkReference raw).enterConversion Config.refChannel (judgeRef raw)
      = ((s.checkReference raw).entered (judgeRef raw)).completeScan := State.enterConversion_last _ _
  rw [last, hands] at runs
  refine ⟨_, ?_, ?_, runs⟩
  · rw [only]
    exact ⟨_, _, rfl⟩
  · exact checked.trans ((probed.spares .heatTrimmed nofun).trans (.of_cnd rfl))

/-- What a zone step leaves, read by read. -/
structure State.stepped (w t : State) : Prop where
  zone : ∀ z, z < 16 → t.zone z
    = { w.workedZone z with computed := w.stageworked.computedOf z, request := w.computedAll.requestOf z }
  computed : ∀ z, (t.zone z).computed = (w.computedAll.zone z).computed
  pcv : t.pcv = w.pcv
  lyt : t.lyt = w.lyt
  pct : t.pct = w.pct
  bed : ∀ b, t.bed b = if ∃ z ∈ w.stageChanges, (w.zoneLayout z).bed = some b
    then { w.bed b with state := w.zonesStepped.evaluatedBed b } else w.bed b
  heats : t.heats

theorem State.zoneStep_stepped (w : State) : w.stepped w.zoneStep := by
  obtain ⟨e, a, c, after⟩ := w.zoneStep_after
  obtain ⟨zones, only⟩ := w.zonesStepped_zones
  have zone : ∀ z, w.zoneStep.zone z = w.zonesStepped.zone z := fun z => by rw [after]; rfl
  have fields : w.zoneStep.pcv = w.zonesStepped.pcv ∧ w.zoneStep.lyt = w.zonesStepped.lyt ∧ w.zoneStep.pct = w.zonesStepped.pct := by
    rw [after]
    exact ⟨rfl, rfl, rfl⟩
  obtain ⟨pcv, lyt, pct⟩ := fields
  refine ⟨fun z less => (zone z).trans (w.zonesStepped_zone less), fun z => ?_, pcv.trans (by rw [only]), lyt.trans (by rw [only]),
    pct.trans (by rw [only]), w.zoneStep_bed, w.zoneStep_heats⟩
  rw [zone, State.zonesStepped_eq, State.zone_mapZones]
  split
  · rfl
  · next more =>
    unfold State.computedAll
    rw [State.zone_mapZones, if_neg more]

theorem evaluatedState_cures {z c d r : Bool} {st : BedState} (cures : evaluatedState z c d r st = .curing ∨ evaluatedState z c d r st = .cooling) :
    st = .curing ∨ st = .cooling := by
  cases st with
  | curing => exact .inl rfl
  | cooling => exact .inr rfl
  | _ => exact cures

namespace State.stepped

variable {w t : State} (h : w.stepped t)
include h

theorem bed_state (b : Nat) : ∃ st, t.bed b = { w.bed b with state := st } := by
  rw [h.bed b]
  split <;> exact ⟨_, rfl⟩

/-- No zone step makes a bed cure. -/
theorem cures {b : Nat} (cures : (t.bed b).cures) : (w.bed b).cures := by
  rw [h.bed b] at cures
  split at cures
  · obtain ⟨zones, only⟩ := w.zonesStepped_zones
    have bed : w.zonesStepped.bed b = w.bed b := by rw [only]; rfl
    have judged : w.zonesStepped.evaluatedBed b = evaluatedState (!(w.zonesStepped.bedZones b).isEmpty) (w.zonesStepped.zonesCooling b)
        (w.zonesStepped.zonesDone b) (w.zonesStepped.piecesReady b) (w.bed b).state := by
      unfold State.evaluatedBed
      rw [bed]
    unfold Bed.cures at cures
    rw [judged] at cures
    exact evaluatedState_cures cures
  · exact cures

theorem published (z : Nat) : t.published z = w.published z := by
  unfold State.published
  rw [h.pcv]

theorem usable (z : Nat) : t.usable z = w.usable z := by
  unfold State.usable
  rw [h.published]

theorem zoneLayout (z : Nat) : t.zoneLayout z = w.zoneLayout z := by
  unfold State.zoneLayout
  rw [h.lyt]

theorem piece (n : Nat) : t.piece n = w.piece n := by
  unfold State.piece
  rw [h.pct]

theorem zonePiece (z n : Nat) : t.zonePiece z n ↔ w.zonePiece z n := by
  unfold State.zonePiece
  have pieces : ∀ b, (t.bed b).pieces = (w.bed b).pieces := fun b => by
    obtain ⟨st, e⟩ := h.bed_state b
    rw [e]
  simp only [h.zoneLayout, h.piece, pieces]

/-- The hold-exit test, by the pieces as they stand after the step. -/
theorem holdReady (p : Profile) (z : Nat) : w.holdReady p z = true
    ↔ (∃ k, t.zonePiece z k) ∧ ∀ k, t.zonePiece z k → p.holdExit * 600 ≤ (t.piece k).accumulator := by
  simp only [State.holdReady_iff, h.zonePiece, h.piece]

/-- A zone after the step, its computed request and its request apart. -/
theorem worked {z : Nat} (zone : z < 16) :
    ∃ c r, t.zone z = { w.workedZone z with computed := c, request := r } := ⟨_, _, h.zone z zone⟩

end State.stepped

/-! ## Requests (R79 to R81) -/

theorem State.stageworked_zone {w : State} {z : Nat} (zone : z < 16) : w.stageworked.zone z = w.workedZone z :=
  State.mapZones_zone zone

theorem State.computedAll_zone {w : State} {z : Nat} (zone : z < 16) :
    w.computedAll.zone z = { w.workedZone z with computed := w.stageworked.computedOf z } :=
  (State.mapZones_zone zone).trans (by rw [State.stageworked_zone zone])

theorem State.workedZone_profile {w : State} {z : Nat} (zone : z < 16) : (w.workedZone z).profile = (w.zone z).profile := by
  obtain ⟨_, _, _, _, e⟩ := State.workedZone_worked zone
  rw [e]
  rfl

theorem State.stageworked_computedOf {w : State} {z n : Nat} (zone : z < 16) (profile : (w.zone z).profile = some n) :
    w.stageworked.computedOf z = computedRequest (w.profile n) (w.usable z) (w.workedZone z) := by
  unfold State.computedOf
  rw [State.stageworked_zone zone, State.workedZone_profile zone, profile]
  rfl

theorem State.stageworked_computedOf_cold {w : State} {z : Nat} (zone : z < 16) (cold : (w.workedZone z).stage.heats = false) :
    w.stageworked.computedOf z = 0 := by
  cases profile : (w.zone z).profile with
  | none =>
    unfold State.computedOf
    rw [State.stageworked_zone zone, State.workedZone_profile zone, profile]
  | some n => exact (State.stageworked_computedOf zone profile).trans (computedRequest_cold cold)

theorem State.requestOf_cold {s : State} {z : Nat} (cold : (s.zone z).stage.heats = false) : s.requestOf z = 0 := by
  simp [State.requestOf, cold]

/-- R81, its last rows. -/
theorem State.requestOf_hot {s : State} {z b : Nat} (bed : (s.zoneLayout z).bed = some b) (cures : (s.bed b).cures)
    (priority : (s.zone z).priority ≠ 0) (hot : (s.zone z).stage.heats = true) :
    s.requestOf z = match (s.zone z).follow with
      | some l => (s.zone l).computed
      | none => (s.zone z).computed := by
  have heats : s.bedHeats z = true := by
    unfold State.bedHeats
    rw [bed]
    dsimp only
    rcases cures with c | c <;> rw [c] <;> rfl
  unfold State.requestOf
  rw [if_neg (by simp [heats]), if_neg priority, if_neg (by simp [hot])] <;> rfl

theorem Stage.heats_cold {x : Stage} (cold : x = .idle ∨ x = .startPending ∨ x = .done) : x.heats = false := by
  rcases cold with rfl | rfl | rfl <;> rfl

namespace State.stepped

variable {w t : State} (h : w.stepped t)
include h

/-- What the step keeps of a zone, and the pending priority it takes. -/
theorem kept {z : Nat} (zone : z < 16) :
    (t.zone z).priority = (w.zone z).pendingPriority.getD (w.zone z).priority ∧ (t.zone z).pendingPriority = none
    ∧ (t.zone z).profile = (w.zone z).profile ∧ (t.zone z).follow = (w.zone z).follow := by
  obtain ⟨_, _, _, _, work⟩ := State.workedZone_worked (s := w) zone
  obtain ⟨_, _, e⟩ := h.worked zone
  rw [e, work]
  exact ⟨rfl, rfl, rfl, rfl⟩

theorem stands {z : Nat} (zone : z < 16) (still : (w.zone z).stage = .idle ∨ (w.zone z).stage = .done) :
    (t.zone z).stage = (w.zone z).stage ∧ (t.zone z).setpoint = (w.zone z).setpoint ∧ (t.zone z).timer = (w.zone z).timer := by
  have stays : w.workedZone z = (w.zone z).takePriority := by
    unfold State.workedZone
    cases profile : (w.zone z).profile with
    | none => rw [State.workedZone_none zone profile]
    | some n =>
      rw [State.workedZone_eq zone profile]
      have stage : (w.zone z).takePriority.stage = (w.zone z).stage := rfl
      unfold stageWork
      rcases still with e | e <;> rw [stage, e]
  obtain ⟨_, _, e⟩ := h.worked zone
  rw [e, stays]
  exact ⟨rfl, rfl, rfl⟩

theorem computed_of {z : Nat} (zone : z < 16) : (t.zone z).computed = w.stageworked.computedOf z := by
  rw [h.zone z zone]

theorem stage_of {z : Nat} (zone : z < 16) : (t.zone z).stage = (w.workedZone z).stage := by
  rw [h.zone z zone]

theorem setpoint_of {z : Nat} (zone : z < 16) : (t.zone z).setpoint = (w.workedZone z).setpoint := by
  rw [h.zone z zone]

theorem computedAll_stage {z : Nat} (zone : z < 16) : (w.computedAll.zone z).stage = (t.zone z).stage := by
  rw [State.computedAll_zone zone, h.stage_of zone]

/-- A stage that does not heat asks for nothing. -/
theorem cold {z : Nat} (zone : z < 16) (cold : (t.zone z).stage.heats = false) : (t.zone z).computed = 0 ∧ (t.zone z).request = 0 := by
  refine ⟨(h.computed_of zone).trans (State.stageworked_computedOf_cold zone (by rw [← h.stage_of zone]; exact cold)), ?_⟩
  have none : w.computedAll.requestOf z = 0 := State.requestOf_cold (by rw [h.computedAll_stage zone]; exact cold)
  rw [h.zone z zone, none]

theorem computed_heats {z n : Nat} (zone : z < 16) (profile : (w.zone z).profile = some n) (hot : (t.zone z).stage.heats = true) :
    (∀ own sp, t.usable z = some own → (t.zone z).setpoint = some sp →
      ((t.zone z).stage = .hold → ((t.zone z).computed : Int)
        = max 0 (min 60 ((w.profile n).holdBias + (sp - own) * (w.profile n).gain / 10)))
      ∧ ((t.zone z).stage ≠ .hold → ((t.zone z).computed : Int)
        = if 0 < sp - own then max 0 (min 60 ((sp - own) * (w.profile n).gain / 10)) else 0))
    ∧ ((t.usable z = none ∨ (t.zone z).setpoint = none) → (t.zone z).computed = (w.profile n).fallback) := by
  have computed := (h.computed_of zone).trans (State.stageworked_computedOf zone profile)
  obtain ⟨duty, fallback⟩ := computedRequest_heats (p := w.profile n) (own := w.usable z) (z := w.workedZone z)
    (by rw [← h.stage_of zone]; exact hot)
  rw [computed, h.usable, h.setpoint_of zone, h.stage_of zone]
  refine ⟨fun own sp temp held => ?_, fallback⟩
  rw [duty own sp temp held]
  exact ⟨fun hold => by rw [hold]; exact dutyOf_hold _ _, fun other => dutyOf_other _ other _⟩

theorem request_heats {z b : Nat} (zone : z < 16) (bed : (w.zoneLayout z).bed = some b) (cures : (t.bed b).cures)
    (priority : (t.zone z).priority ≠ 0) (hot : (t.zone z).stage.heats = true) :
    (t.zone z).request = (match (w.zone z).follow with
      | some l => (t.zone l).computed
      | none => (t.zone z).computed) := by
  obtain ⟨_, _, _, follow⟩ := h.kept zone
  have fields : (w.computedAll.zone z).priority = (t.zone z).priority ∧ (w.computedAll.zone z).follow = (w.zone z).follow := by
    rw [← follow, State.computedAll_zone zone, h.zone z zone]
    exact ⟨rfl, rfl⟩
  have hot' := h.computedAll_stage zone
  have request : (t.zone z).request = w.computedAll.requestOf z := by rw [h.zone z zone]
  rw [request, State.requestOf_hot (s := w.computedAll) bed (h.cures cures) (by rw [fields.1]; exact priority)
    (by rw [hot']; exact hot), fields.2]
  simp only [h.computed]

end State.stepped

end Sys2Proof.Machine
end

section
/-! SUPPORT. Proofs/Fired.lean: the zone step at the end of the reference conversion (R71 to R81). -/

namespace Sys2Proof.Machine

namespace State.stepped

variable {w t : State} (h : w.stepped t)
include h

/-- A zone with a profile after its stage work. -/
theorem staged {z n : Nat} (zone : z < 16) (profile : (w.zone z).profile = some n) :
    ∃ c r, t.zone z = { (stageWork (w.profile n) (t.usable z) (t.published z).state (t.usable 16) (w.holdReady (w.profile n) z)
      (w.zone z).takePriority).1 with computed := c, request := r } := by
  obtain ⟨c, r, e⟩ := h.worked zone
  refine ⟨c, r, ?_⟩
  rw [e, h.usable, h.usable, h.published, ← State.workedZone_eq zone profile]
  rfl

end State.stepped

/-- What a completion leaves as it finds it, for the zone step: the zones, profiles and layout. -/
theorem State.probesOnly.evaluated {s v : State} (h : s.probesOnly v) : ∃ m e c p,
    v.evaluated = { s with pcv := p, pct := m, beds := e, cnd := c } := by
  obtain ⟨p, c, rfl⟩ := h
  obtain ⟨e, c', evaluated⟩ := State.evaluated_only { s with pcv := p, cnd := c }
  exact ⟨_, e, c', p, evaluated⟩

/-- An unusable channel, by its published state. -/
theorem State.usable_none {t : State} {c : Nat} (state : (t.published c).state = .unsettled ∨ (t.published c).state = .lost) :
    t.usable c = none := Published.usable_of_unsettled_or_lost state

/-- Settles O27: the zone step of the completion, a zone's stage work by its stage, then R79 to R81. -/
theorem zoneStep : Obligations.ZoneStep := by
  intro s raw z free atRef zone
  obtain ⟨v, probes, _, runs⟩ := exec_referenceCheck_handed raw free atRef
  obtain ⟨m, e, c, p, evaluated⟩ := probes.evaluated
  have h := v.evaluated.zoneStep_stepped
  have zones : ∀ i, v.evaluated.zone i = s.zone i := fun i => by rw [evaluated]; rfl
  have layouts : ∀ i, v.evaluated.zoneLayout i = s.zoneLayout i := fun i => by rw [evaluated]; rfl
  have profiles : ∀ i, v.evaluated.profile i = s.profile i := fun i => by rw [evaluated]; rfl
  rw [runs]
  generalize v.evaluated.zoneStep = t at h
  generalize v.evaluated = w at h zones layouts profiles
  have kept := h.kept zone
  have stands := h.stands zone
  rw [zones] at kept stands
  refine ⟨t, rfl, kept, stands, fun n profile => ?_, fun still => h.cold zone (Stage.heats_cold still), fun uncured => ?_,
    fun unranked => ?_, fun b bed cures priority hot => ?_⟩
  · have stage : (s.zone z).takePriority.stage = (s.zone z).stage := rfl
    obtain ⟨c, r, staged⟩ := h.staged zone ((congrArg Zone.profile (zones z)).trans profile)
    have heats := fun hot => h.computed_heats zone ((congrArg Zone.profile (zones z)).trans profile) (n := n) hot
    have ready := h.holdReady (s.profile n) z
    rw [profiles, zones] at staged
    rw [profiles] at heats
    refine ⟨fun pending => ?_, fun delay => ?_, fun ramp => ?_, fun hold => ?_, fun cool => ?_,
      fun hot => heats ((Stage.heats_iff _).mpr hot)⟩
    · rw [staged]
      exact stageWork_startPending (stage.trans pending)
    · rw [staged]
      exact stageWork_delay (stage.trans delay)
    · rw [staged]
      obtain ⟨advances, goes⟩ := stageWork_ramp (p := s.profile n) (own := t.usable z) (st := (t.published z).state)
        (hall := t.usable 16) (ready := w.holdReady (s.profile n) z) (stage.trans ramp)
      refine ⟨advances, fun stays => ?_⟩
      obtain ⟨moves, lost, other⟩ := goes stays
      exact ⟨moves, fun none gone => lost none (State.usable_none (.inr gone)) gone,
        fun none unsettled => other none (State.usable_none (.inl unsettled)) (by rw [unsettled]; decide)⟩
    · rw [staged, ← ready]
      exact stageWork_hold (stage.trans hold)
    · rw [staged]
      obtain ⟨moves, lost, other⟩ := stageWork_cool (p := s.profile n) (own := t.usable z) (st := (t.published z).state)
        (hall := t.usable 16) (ready := w.holdReady (s.profile n) z) (stage.trans cool)
      exact ⟨moves, fun none gone => lost none (State.usable_none (.inr gone)) gone,
        fun none unsettled => other none (State.usable_none (.inl unsettled)) (by rw [unsettled]; decide)⟩
  · by_contra asks
    obtain ⟨_, b, bed, cures⟩ := h.heats z zone (Nat.pos_of_ne_zero asks)
    obtain ⟨not_curing, not_cooling⟩ := uncured b (by rw [← layouts, ← h.zoneLayout]; exact bed)
    exact cures.elim not_curing not_cooling
  · by_contra asks
    exact (h.heats z zone (Nat.pos_of_ne_zero asks)).1 unranked
  · have request := h.request_heats zone (by rw [layouts]; exact bed) cures priority ((Stage.heats_iff _).mpr hot)
    rw [zones] at request
    exact request

end Sys2Proof.Machine
end

section
/-! SUPPORT. Proofs/Curing.lean: the beds at a scan's completion, and their BED-READY (R26, R27). -/

namespace Sys2Proof.Machine

/-! ## What every evaluation of a bed keeps -/

/-- Evaluating beds takes steps of two kinds: a bed becomes COOLING, or READY with its posting (R26, R27). -/
theorem State.evaluateBed_keeps {R : State → State → Prop} (refl : ∀ s, R s s) (trans : ∀ {s t u}, R s t → R t u → R s u)
    (cools : ∀ s b, R s (s.setBed b { s.bed b with state := .cooling })) (ready : ∀ s b, R s (s.becomeReady b)) (s : State) (b : Nat) :
    R s (s.evaluateBed b) := by
  have done : ∀ t : State, R t (t.evaluateCooling b) := fun t => by
    unfold State.evaluateCooling
    split
    · exact ready t b
    · exact refl t
  unfold State.evaluateBed
  split
  case h_1 =>
    split
    · split
      · exact ready s b
      · exact refl s
    · split
      · exact trans (cools s b) (done _)
      · exact refl s
  case h_2 =>
    split
    · exact refl s
    · exact done s
  case h_3 => exact refl s

theorem evaluations_keep {R : State → State → Prop} (refl : ∀ s, R s s) (trans : ∀ {s t u}, R s t → R t u → R s u)
    (cools : ∀ s b, R s (s.setBed b { s.bed b with state := .cooling })) (ready : ∀ s b, R s (s.becomeReady b)) :
    (∀ s : State, R s s.evaluateBeds) ∧ ∀ (l : List Nat) (s : State), R s (l.foldl State.handStage s) := by
  have one := State.evaluateBed_keeps refl trans cools ready
  refine ⟨fun s => foldl_keeps refl trans one _ s, fun l s => foldl_keeps refl trans (fun t z => ?_) l s⟩
  unfold State.handStage
  split
  · exact one t _
  · exact refl t

/-! ## BED-READY (R27) -/

/-- Bed `b`, where it is READY, has said so to its flags and, unless a full set dropped a posting, to PL. -/
def State.announced (b : Nat) (s : State) : Prop := (s.bed b).state = .ready →
  (s.flags b).ready.isSome = true ∧ ((s.condSet .PL).overflow = false → (s.condSet .PL).holds .bedReady (.bed b))

/-- What is announced in `s` is announced in `t`. -/
def State.announces (b : Nat) (s t : State) : Prop := s.announced b → t.announced b

theorem State.announces.refl (b : Nat) (s : State) : State.announces b s s := id

theorem State.announces.trans {b : Nat} {s t u : State} (h : State.announces b s t) (g : State.announces b t u) : State.announces b s u :=
  g ∘ h

theorem State.announces.of_grows {b : Nat} {s t : State} (bed : (t.bed b).state = .ready → (s.bed b).state = .ready) (flags : t.flags b = s.flags b)
    (grows : s.grows t) : State.announces b s t := fun before ready => by
  obtain ⟨flagged, posted⟩ := before (bed ready)
  rw [flags]
  exact ⟨flagged, fun kept => (grows .PL).2 _ _ (posted ((grows .PL).1 kept))⟩

theorem State.becomeReady_announces (s : State) (a b : Nat) : State.announces b s (s.becomeReady a) := by
  intro before ready
  have posted : ((s.setBed a { s.bed a with state := .ready }).postEvent .PL .bedReady (.bed a)).grows (s.becomeReady a) :=
    (State.flagReady_readies _ a).grows
  have flags : (s.becomeReady a).flags b = if a = b then
      { s.flags a with ready := some (Flag.post s.clk.minute false (s.flags a).ready) } else s.flags b := by
    unfold State.becomeReady State.flagReady
    obtain ⟨_, _, _, e⟩ := State.postEvent_only (s.setBed a { s.bed a with state := .ready }) .PL .bedReady (.bed a)
    rw [State.flags_setFlags, State.setsOnly.flags ⟨_, _, _, e⟩, State.setsOnly.flags ⟨_, _, _, e⟩, e]
    rfl
  rw [State.becomeReady_bed] at ready
  by_cases same : a = b
  · subst same
    rw [flags, if_pos rfl]
    exact ⟨rfl, fun kept => posted.holds kept⟩
  · rw [if_neg same] at ready
    exact State.announces.of_grows (s := s) (t := s.becomeReady a) (fun _ => ready) (by rw [flags, if_neg same]) (s.becomeReady_readies a).grows
      before (by rw [State.becomeReady_bed, if_neg same]; exact ready)

theorem State.cooled_announces (s : State) (a b : Nat) : State.announces b s (s.setBed a { s.bed a with state := .cooling }) := by
  refine .of_grows (fun ready => ?_) rfl (.of_cnd rfl)
  rw [State.bed_setBed] at ready
  split at ready
  · exact nomatch ready
  · exact ready

theorem State.evaluateBeds_announces (s : State) (b : Nat) : State.announces b s s.evaluateBeds :=
  (evaluations_keep (State.announces.refl b) State.announces.trans (fun s a => s.cooled_announces a b)
    (fun s a => s.becomeReady_announces a b)).1 s

theorem State.handStages_announces (l : List Nat) (s : State) (b : Nat) : State.announces b s (l.foldl State.handStage s) :=
  (evaluations_keep (State.announces.refl b) State.announces.trans (fun s a => s.cooled_announces a b)
    (fun s a => s.becomeReady_announces a b)).2 l s

theorem State.prepareFrame_announces (s : State) (pubs : List PubEntry) (b : Nat) : State.announces b s (s.prepareFrame pubs) := by
  have grows := (s.prepareFrame_readies pubs).grows
  obtain ⟨a, c, e⟩ := s.prepareFrame_after pubs
  refine .of_grows (fun ready => ?_) ?_ grows
  · rw [e] at ready
    exact ready
  · unfold State.prepareFrame
    dsimp only
    split
    · exact (State.postEvent_only _ _ _ _).flags b
    · rfl

theorem State.zoneStep_announces (s : State) (b : Nat) : State.announces b s s.zoneStep := by
  have stepped : State.announces b s s.zonesStepped := by
    obtain ⟨z, e⟩ := s.zonesStepped_zones
    rw [e]
    exact .of_grows id rfl (.of_cnd rfl)
  rw [s.zoneStep_eq]
  exact (stepped.trans (s.zonesStepped.prepareFrame_announces _ b)).trans (State.handStages_announces _ _ b)

theorem State.evaluated_announces (v : State) (b : Nat) : State.announces b v v.evaluated.zoneStep := by
  have credited : State.announces b v v.maturityUpdate := .of_grows id rfl (.of_cnd rfl)
  exact (credited.trans (v.maturityUpdate.evaluateBeds_announces b)).trans (v.evaluated.zoneStep_announces b)

/-! ## The beds' states -/

namespace State.stepped

variable {w t : State} (h : w.stepped t)
include h

/-- The stage of a zone through the step: it changes only where a change is handed on, and COOL and DONE go on to DONE alone. -/
theorem stage_goes {z : Nat} (zone : z < 16) :
    (z ∉ w.stageChanges → (t.zone z).stage = (w.zone z).stage)
    ∧ ((w.zone z).stage = .done → (t.zone z).stage = .done)
    ∧ ((w.zone z).stage = .cool → (t.zone z).stage = .cool ∨ (t.zone z).stage = .done) := by
  rw [h.stage_of zone, State.mem_stageChanges]
  unfold State.workedZone
  cases profile : (w.zone z).profile with
  | none =>
    rw [State.workedZone_none zone profile]
    exact ⟨fun _ => rfl, id, .inl⟩
  | some n =>
    rw [State.workedZone_eq zone profile]
    obtain ⟨stays, done, cool⟩ := stageWork_changes (w.profile n) (w.usable z) (w.published z).state (w.usable 16)
      (w.holdReady (w.profile n) z) (w.zone z).takePriority
    exact ⟨fun still => stays (by simpa [zone] using still), done, cool⟩

end State.stepped

theorem State.mem_bedZones {s : State} {z b : Nat} : z ∈ s.bedZones b ↔ s.zoneOf z b := by
  unfold State.bedZones State.zoneOf
  simp [Config.zones]

theorem State.zonesDone_iff {s : State} {b : Nat} : s.zonesDone b = true ↔ ∀ z, s.zoneOf z b → (s.zone z).stage = .done := by
  unfold State.zonesDone
  simp only [List.all_eq_true, State.mem_bedZones, decide_eq_true_eq]

theorem State.zonesCooling_iff {s : State} {b : Nat} :
    s.zonesCooling b = true ↔ ∀ z, s.zoneOf z b → (s.zone z).stage = .cool ∨ (s.zone z).stage = .done := by
  unfold State.zonesCooling
  simp only [List.all_eq_true, State.mem_bedZones, Bool.or_eq_true, decide_eq_true_eq]

theorem State.bedZones_some {s : State} {b : Nat} : (!(s.bedZones b).isEmpty) = true ↔ ∃ z, s.zoneOf z b := by
  simp only [Bool.not_eq_true', List.isEmpty_eq_false_iff_exists_mem, State.mem_bedZones]

/-- An evaluation in `u`, by the stages and the pieces of `t`, whose zones are those of `v`. -/
theorem State.evaluatedBed_congr {u t v : State} {b : Nat} (found : ∀ z, u.zoneOf z b ↔ v.zoneOf z b) (left : ∀ z, t.zoneOf z b ↔ v.zoneOf z b)
    (stage : ∀ z, v.zoneOf z b → (u.zone z).stage = (t.zone z).stage) (pieces : u.piecesReady b = t.piecesReady b) : u.evaluatedBed b
      = evaluatedState (!(v.bedZones b).isEmpty) (t.zonesCooling b) (t.zonesDone b) (t.piecesReady b) (u.bed b).state := by
  have zones : (!(u.bedZones b).isEmpty) = !(v.bedZones b).isEmpty := by
    rw [Bool.eq_iff_iff, State.bedZones_some, State.bedZones_some]
    exact exists_congr found
  have cooling : u.zonesCooling b = t.zonesCooling b := by
    rw [Bool.eq_iff_iff, State.zonesCooling_iff, State.zonesCooling_iff]
    exact forall_congr' fun z => by
      rw [found, left]
      exact forall_congr' fun of => by rw [stage z of]
  have done : u.zonesDone b = t.zonesDone b := by
    rw [Bool.eq_iff_iff, State.zonesDone_iff, State.zonesDone_iff]
    exact forall_congr' fun z => by
      rw [found, left]
      exact forall_congr' fun of => by rw [stage z of]
  unfold State.evaluatedBed
  rw [zones, cooling, done, pieces]

theorem State.zonesOnly.reads {s t : State} (h : s.zonesOnly t) :
    (∀ b, t.bed b = s.bed b) ∧ (∀ n, t.piece n = s.piece n) ∧ ∀ z, t.zoneLayout z = s.zoneLayout z := by
  obtain ⟨_, rfl⟩ := h
  exact ⟨fun _ => rfl, fun _ => rfl, fun _ => rfl⟩

theorem State.evaluatedBed_credited (v : State) (m : Tab Piece) (b : Nat) : ({ v with pct := m } : State).evaluatedBed b
    = evaluatedState (!(v.bedZones b).isEmpty) (v.zonesCooling b) (v.zonesDone b) (({ v with pct := m } : State).piecesReady b) (v.bed b).state :=
  rfl

/-- What an evaluation makes of the state of bed `b` of `v` by the stages and the pieces of `t`. -/
def State.judgedBy (v t : State) (b : Nat) : BedState :=
  evaluatedState (!(v.bedZones b).isEmpty) (t.zonesCooling b) (t.zonesDone b) (t.piecesReady b) (v.bed b).state

/-- The state of a bed after a completion: one evaluation by the stages and accumulators that the completion leaves. -/
theorem State.evaluated_bed (v : State) {b : Nat} (bed : b ≤ 12) {t : State} (h : v.evaluated.stepped t) :
    t.bed b = { v.bed b with state := v.judgedBy t b } := by
  have before : v.evaluated.bed b = { v.bed b with state := v.maturityUpdate.evaluatedBed b } := v.maturityUpdate.evaluateBeds_bed bed
  obtain ⟨e, c, evaluated⟩ := v.evaluated_only
  obtain ⟨m, credited⟩ : ∃ m, v.maturityUpdate = { v with pct := m } := ⟨_, rfl⟩
  have layout : ∀ z, t.zoneLayout z = v.zoneLayout z := fun z => by
    rw [h.zoneLayout, evaluated]
    rfl
  have zones : ∀ z, v.evaluated.zone z = v.zone z := fun z => by
    rw [evaluated]
    rfl
  have left : ∀ z, t.zoneOf z b ↔ v.zoneOf z b := fun z => by
    unfold State.zoneOf
    rw [layout]
  have listed : (t.bed b).pieces = (v.bed b).pieces := by
    obtain ⟨st, same⟩ := h.bed_state b
    rw [same, before]
  have piece : ∀ n, t.piece n = v.maturityUpdate.piece n := fun n => by
    rw [h.piece, evaluated]
    rfl
  have pieces : v.maturityUpdate.piecesReady b = t.piecesReady b := by
    unfold State.piecesReady
    rw [listed]
    simp only [piece]
    rfl
  have after := h.bed b
  rw [after]
  split
  · next changed =>
    have stage : ∀ z, v.zoneOf z b → (v.evaluated.zonesStepped.zone z).stage = (t.zone z).stage := fun z of => by
      rw [State.zonesStepped_zone _ of.1, h.zone z of.1]
    obtain ⟨same, found_piece, found_layout⟩ := v.evaluated.zonesStepped_zones.reads
    have found : ∀ z, v.evaluated.zonesStepped.zoneOf z b ↔ v.zoneOf z b := fun z => by
      unfold State.zoneOf
      rw [found_layout, ← h.zoneLayout, layout]
    have ready : v.evaluated.zonesStepped.piecesReady b = t.piecesReady b := by
      unfold State.piecesReady
      simp only [same, before, listed, h.piece, found_piece]
    have cools : v.zonesCooling b = true → t.zonesCooling b = true := fun all => State.zonesCooling_iff.mpr fun z of => by
      obtain ⟨_, done, cool⟩ := h.stage_goes ((left z).mp of).1
      rw [zones] at done cool
      exact (State.zonesCooling_iff.mp all z ((left z).mp of)).elim cool (.inr ∘ done)
    have ends : v.zonesDone b = true → t.zonesDone b = true := fun all => State.zonesDone_iff.mpr fun z of => by
      obtain ⟨_, done, _⟩ := h.stage_goes ((left z).mp of).1
      rw [zones] at done
      exact done (State.zonesDone_iff.mp all z ((left z).mp of))
    have first : (v.evaluated.bed b).state = evaluatedState (!(v.bedZones b).isEmpty) (v.zonesCooling b) (v.zonesDone b)
        (t.piecesReady b) (v.bed b).state := by
      have found : (v.evaluated.bed b).state = v.maturityUpdate.evaluatedBed b := congrArg Bed.state before
      rw [found, ← pieces, credited]
      exact v.evaluatedBed_credited m b
    rw [State.evaluatedBed_congr found left stage ready, same, first, evaluatedState_again cools ends, before]
    rfl
  · next still =>
    have stage : ∀ z, v.zoneOf z b → (v.maturityUpdate.zone z).stage = (t.zone z).stage := fun z of => by
      have stays := (h.stage_goes of.1).1 fun changed => still ⟨z, changed, by rw [← h.zoneLayout, layout]; exact of.2⟩
      rw [stays, zones]
      rfl
    have found : ∀ z, v.maturityUpdate.zoneOf z b ↔ v.zoneOf z b := fun z => by
      rw [credited]
      exact Iff.rfl
    rw [before, State.evaluatedBed_congr found left stage pieces, credited]
    rfl

/-- The rows of R26, for a bed with zones and for one with none. -/
theorem evaluatedState_rows {z c d r : Bool} (cools : d = true → c = true) (st : BedState) :
    (z = true →
      (st = .curing → (evaluatedState z c d r st = .curing ↔ ¬c = true))
      ∧ ((st = .curing ∨ st = .cooling) → (evaluatedState z c d r st = .ready ↔ d = true ∧ r = true))
      ∧ ((st = .curing ∨ st = .cooling) → evaluatedState z c d r st = .curing ∨ evaluatedState z c d r st = .cooling
        ∨ evaluatedState z c d r st = .ready)
      ∧ (st = .cooling → evaluatedState z c d r st ≠ .curing))
    ∧ (z = false → (st = .curing → evaluatedState z c d r st = if r = true then .ready else .curing)
      ∧ (st = .cooling → evaluatedState z c d r st = .cooling))
    ∧ (st ≠ .curing → st ≠ .cooling → evaluatedState z c d r st = st) := by
  cases st with
  | curing | cooling => unfold evaluatedState; grind
  | _ => exact ⟨fun _ => ⟨nofun, by simp, by simp, nofun⟩, fun _ => ⟨nofun, nofun⟩, fun _ _ => rfl⟩

/-- Settles O29: one evaluation by the stages and the accumulators that stand, and the announcement of every bed that enters READY. -/
theorem bedsEvaluated : Obligations.BedsEvaluated := by
  intro s raw b free atRef bed
  obtain ⟨v, probes, _, runs⟩ := exec_referenceCheck_handed raw free atRef
  have h := v.evaluated.zoneStep_stepped
  have judged := v.evaluated_bed bed h
  have announced := v.evaluated_announces b
  obtain ⟨p, c, rfl⟩ := probes
  obtain ⟨e, c', evaluated⟩ := State.evaluated_only { s with pcv := p, cnd := c }
  have layout : ∀ z, ({ s with pcv := p, cnd := c } : State).evaluated.zoneStep.zoneLayout z = s.zoneLayout z := fun z => by
    rw [h.zoneLayout, evaluated]
    rfl
  rw [runs]
  generalize State.zoneStep _ = t at *
  have zoneOf : ∀ z, t.zoneOf z b ↔ s.zoneOf z b := fun z => by
    unfold State.zoneOf
    rw [layout]
  have judged : t.bed b = { s.bed b with state := s.judgedBy t b } := judged
  have state : (t.bed b).state = s.judgedBy t b := congrArg Bed.state judged
  have pieces : t.piecesReady b = true ↔ ∀ n ∈ (s.bed b).pieces, (t.piece n).releaseOk = true := by
    unfold State.piecesReady
    rw [judged, List.all_eq_true]
  have cooling : t.zonesCooling b = true ↔ ∀ z, s.zoneOf z b → (t.zone z).stage = .cool ∨ (t.zone z).stage = .done := by
    simp only [State.zonesCooling_iff, zoneOf]
  have done : t.zonesDone b = true ↔ ∀ z, s.zoneOf z b → (t.zone z).stage = .done := by
    simp only [State.zonesDone_iff, zoneOf]
  obtain ⟨zoned, unzoned, other⟩ := evaluatedState_rows (z := !(s.bedZones b).isEmpty) (c := t.zonesCooling b) (d := t.zonesDone b)
    (r := t.piecesReady b) (fun all => cooling.mpr fun z of => .inr (done.mp all z of)) (s.bed b).state
  refine ⟨t, rfl, fun uncured uncooled => ?_, ⟨_, judged⟩, fun some => ?_, fun none => ?_, fun cured ready => ?_⟩
  · rw [judged, State.judgedBy, other uncured uncooled]
  · rw [state, ← cooling, ← done, ← pieces]
    exact zoned (State.bedZones_some.mpr some)
  · have empty := Bool.eq_false_iff.mpr (mt State.bedZones_some.mp none)
    rw [state]
    simp only [← pieces]
    exact unzoned empty
  · exact announced (fun ready => by rcases cured with e | e <;> exact nomatch e.symm.trans ready) ready

end Sys2Proof.Machine
end

section
/-! SUPPORT. Proofs/Prepared.lean: the frame that a scan's completion prepares (R82, R89, R91 to R94). -/

namespace Sys2Proof.Machine

/-! ## The entries of a frame -/

/-- The entry of a zone in a frame made under inhibit (R89). -/
def withheld (e : PubEntry) : FrameEntry :=
  { zone := e.zone, priority := e.priority, request := e.request, allocation := 0, trimmed := false, placement := none }

/-- The entry of a zone in a frame. -/
def frameEntry (k m : Nat) (inhibit : Bool) (pubs : List PubEntry) (e : PubEntry) : FrameEntry :=
  if inhibit then withheld e else placed k m pubs e

theorem makeFrame_map (k m : Nat) (inhibit : Bool) (pubs : List PubEntry) :
    (makeFrame k m inhibit pubs).entries = pubs.map (frameEntry k m inhibit pubs) := by
  cases inhibit with
  | true => rfl
  | false =>
    rw [makeFrame_entries]
    exact List.map_map

theorem frameEntry_zone (k m : Nat) (inhibit : Bool) (pubs : List PubEntry) (e : PubEntry) : (frameEntry k m inhibit pubs e).zone = e.zone := by
  cases inhibit <;> rfl

theorem makeFrame_find (k m : Nat) (inhibit : Bool) (pubs : List PubEntry) (z : Nat) :
    (makeFrame k m inhibit pubs).entry z = (pubs.find? (fun e => e.zone = z)).map (frameEntry k m inhibit pubs) := by
  unfold Frame.entry
  rw [makeFrame_map, List.find?_map]
  congr 2
  funext e
  simp [frameEntry_zone]

/-- A zone with no allocation has no place. -/
theorem placed_nowhere {k m : Nat} {pubs : List PubEntry} {e : PubEntry} (nothing : allocation k m pubs e.zone = 0) :
    (placed k m pubs e).placement = none := by
  have absent : (packing k m pubs).find? (fun p => p.1 = e.zone) = none := by
    refine List.find?_eq_none.mpr fun p held named => ?_
    have key : p.1 ∈ (packing k m pubs).map Prod.fst := List.mem_map_of_mem held
    unfold packing at key
    rw [packFrom_fst] at key
    obtain ⟨x, listed, zone⟩ := List.mem_map.mp key
    obtain ⟨mem, given, _⟩ := mem_packOrder.mp listed
    obtain ⟨d, _, rfl⟩ := List.mem_map.mp mem
    have same : d.zone = e.zone := zone.trans (by simpa using named)
    have none : allocation k m pubs d.zone = 0 := same ▸ nothing
    exact absurd given (by show ¬0 < allocation k m pubs d.zone; omega)
  unfold placed
  rw [absent]
  rfl

/-- The entry of a zone in the frame of the sixteen zones. -/
theorem State.publication_find {t : State} {z : Nat} (zone : z < 16) :
    t.publication.find? (fun e => e.zone = z) = some ⟨z, (t.zone z).priority, (t.zone z).request⟩ := by
  have least : (List.range Config.zones).find? (fun i => decide (i = z)) = some z :=
    List.find?_range_eq_some.mpr ⟨by simp, List.mem_range.mpr zone, fun j less => by simp [Nat.ne_of_lt less]⟩
  unfold State.publication
  rw [List.find?_map]
  exact congrArg (Option.map _) least

/-! ## HEAT-TRIMMED (R93) -/

theorem State.becomeReady_spares (s : State) (b : Nat) {k : CondKind} (other : CondKind.bedReady ≠ k) : State.spares k s (s.becomeReady b) :=
  ((State.spares.of_cnd rfl).trans ((s.setBed b { s.bed b with state := .ready }).postAt_spares .PL other (.bed b) _ _)).trans
    (.of_same fun p => State.condSet_setFlags _ _ _ p)

theorem State.evaluations_spare : (∀ s, State.spares .heatTrimmed s s.evaluateBeds)
    ∧ ∀ (l : List Nat) s, State.spares .heatTrimmed s (l.foldl State.handStage s) :=
  evaluations_keep (State.spares.refl _) State.spares.trans (fun _ _ => .of_cnd rfl) fun s b => s.becomeReady_spares b (by decide)

/-- The frame that a preparation makes (R89). -/
def State.madeFrame (s : State) (pubs : List PubEntry) : Frame :=
  makeFrame s.sha.applyPending.k s.sha.applyPending.minOpen s.sha.applyPending.inhibit pubs

/-- The state with the frame prepared, before its posting. -/
def State.framed (s : State) (pubs : List PubEntry) : State :=
  { s with sha := { s.sha.applyPending with prepared := some (s.madeFrame pubs) } }

theorem State.prepareFrame_eq (s : State) (pubs : List PubEntry) : s.prepareFrame pubs
    = if (s.madeFrame pubs).entries.any FrameEntry.trimmed then (s.framed pubs).postEvent .PL .heatTrimmed .none else s.framed pubs := rfl

/-- What a zone step prepares and posts of it. -/
theorem State.zoneStep_prepares (w : State) : w.zoneStep.sha = (w.zonesStepped.framed w.zonesStepped.publication).sha
    ∧ ((∃ e ∈ (w.zonesStepped.madeFrame w.zonesStepped.publication).entries, e.trimmed = true) →
      (w.zoneStep.condSet .PL).overflow = false → (w.zoneStep.condSet .PL).holds .heatTrimmed .none)
    ∧ ((∀ e ∈ (w.zonesStepped.madeFrame w.zonesStepped.publication).entries, e.trimmed = false) → State.spares .heatTrimmed w w.zoneStep) := by
  obtain ⟨z, stepped⟩ := w.zonesStepped_zones
  have same : w.zonesStepped.cnd = w.cnd := by rw [stepped]
  rw [w.zoneStep_eq]
  generalize w.zonesStepped = t at same
  have prepared := t.prepareFrame_eq t.publication
  generalize w.stageChanges = l
  have handed := (State.handStages_readies l (t.prepareFrame t.publication)).grows
  have spared := State.evaluations_spare.2 l (t.prepareFrame t.publication)
  obtain ⟨_, _, e⟩ := State.handStages_beds l (t.prepareFrame t.publication)
  refine ⟨?_, fun trimmed kept => ?_, fun untrimmed => ?_⟩
  · rw [e, prepared]
    split
    · obtain ⟨_, _, _, e⟩ := State.postEvent_only (t.framed t.publication) .PL .heatTrimmed .none
      rw [e]
    · rfl
  · rw [prepared, if_pos (List.any_eq_true.mpr trimmed)] at handed kept ⊢
    exact handed.holds kept
  · have none : (t.madeFrame t.publication).entries.any FrameEntry.trimmed = false := List.any_eq_false.mpr fun e mem => by simp [untrimmed e mem]
    rw [prepared, if_neg (by simp [none])] at spared ⊢
    exact State.spares.trans (.of_cnd same) spared

/-- Settles O28: the frame made of the requests as the zone step left them, and its HEAT-TRIMMED. -/
theorem framesPrepared : Obligations.FramesPrepared := by
  intro s raw free atRef
  obtain ⟨v, probes, quiet, runs⟩ := exec_referenceCheck_handed raw free atRef
  obtain ⟨m, e, c, p, evaluated⟩ := probes.evaluated
  have spared : State.spares .heatTrimmed s v.evaluated :=
    quiet.trans ((State.spares.of_cnd (t := v.maturityUpdate) rfl).trans (State.evaluations_spare.1 v.maturityUpdate))
  have sha : v.evaluated.sha = s.sha := by rw [evaluated]
  have valves : v.evaluated.valves = s.valves := by rw [evaluated]
  rw [runs]
  generalize v.evaluated = w at sha valves spared
  obtain ⟨shaped, posted, unposted⟩ := w.zoneStep_prepares
  obtain ⟨z, stepped⟩ := w.zonesStepped_zones
  obtain ⟨b, a, d, after⟩ := w.zoneStep_after
  have steppedSha : w.zonesStepped.sha = s.sha := by rw [stepped]; exact sha
  have closed : w.zoneStep.valves = s.valves := by rw [after, stepped]; exact valves
  have zones : ∀ z, w.zoneStep.zone z = w.zonesStepped.zone z := fun z => by rw [after]; rfl
  generalize w.zonesStepped = u at *
  generalize w.zoneStep = t at *
  have made : u.madeFrame u.publication = makeFrame (s.sha.pendingK.getD s.sha.k) (s.sha.pendingMinOpen.getD s.sha.minOpen) s.sha.inhibit
      u.publication := by
    unfold State.madeFrame
    rw [steppedSha]
    rfl
  have listed : u.publication = (List.range 16).map (fun i => ⟨i, (t.zone i).priority, (t.zone i).request⟩) := by
    simp only [zones]
    rfl
  refine ⟨t, u.madeFrame u.publication, rfl, ?_, by rw [made]; rfl, by rw [made]; rfl, by rw [made]; rfl, closed, ?_, fun z zone => ?_,
    posted, fun untrimmed => ?_⟩
  · rw [shaped]
    unfold State.framed
    rw [steppedSha]
    rfl
  · rw [made, makeFrame_map, List.map_map]
    have keys : FrameEntry.zone ∘ frameEntry (s.sha.pendingK.getD s.sha.k) (s.sha.pendingMinOpen.getD s.sha.minOpen) s.sha.inhibit u.publication
        = PubEntry.zone := funext fun e => frameEntry_zone _ _ _ _ e
    rw [keys]
    exact u.publication_zones
  · have found := u.publication_find zone
    rw [← zones] at found
    rw [made, makeFrame_find, found, ← listed]
    refine ⟨_, rfl, frameEntry_zone _ _ _ _ _, ?_⟩
    cases inhibited : s.sha.inhibit with
    | true => exact ⟨rfl, rfl, fun _ => ⟨rfl, rfl, rfl⟩, nofun⟩
    | false => exact ⟨rfl, rfl, nofun, fun _ => ⟨rfl, decide_eq_true_iff, fun nothing => placed_nowhere nothing⟩⟩
  · exact fun r mem kind => (spared.trans (unposted untrimmed)) .PL r mem kind

end Sys2Proof.Machine
end

section
/-! SUPPORT. Proofs/Heated.lean: the planner's settings of zones and steam (R78, R83, R84, R96 to R98). -/

namespace Sys2Proof.Machine

/-- A planner's request in RUN that its block answers, the body of one length. -/
theorem exec_planner {s t : State} {h : Header} {k : Kind} {body : List Nat} {owner : List Nat → State → Answer} {r : Reply} {c : Instr}
    (runs : exec c s = .next (s.request h k body owner)) (a : s.planner h) (link : t.lnk = s.lnk)
    (acts : ∀ l, owner body { s with lnk := l } = ({ t with lnk := l }, r)) (hp : permitted k .PL = true) (hl : lockedInRun k = false)
    (hf : bodyFits k body.length = true) : exec c s = .next (t.answered h k r) :=
  runs.trans (congrArg Host.Outcome.next (State.planner_answers a (.intro link acts) hp hl hf))

theorem zonePriority_fields {z p : Nat} (zone : z < 16) (priority : p ≤ 3) :
    firstBad [decide (z < Config.zones), decide (p ≤ 3)] = none :=
  (firstBad_eq_none _).mpr (by simp [Config.zones, zone, priority])

/-- A zone that stands alone takes no lead (R84). -/
theorem State.setFollow_none {s : State} {z : Nat} (zone : z < 16) (assigned : (s.zoneLayout z).bed.isSome = true) :
    s.setFollow z none = Answer.done (s.setZone z { s.zone z with follow := none }) := by
  have fields : firstBad [decide (z < Config.zones), true] = none := (firstBad_eq_none _).mpr (by simp [Config.zones, zone])
  unfold State.setFollow
  simp only [Option.map_none, Option.getD_none, fields]
  rw [if_neg (by simp [Option.isNone_iff_eq_none, Option.isSome_iff_ne_none.mp assigned])]

/-- A zone takes up a lead of its bed (R84). -/
theorem State.setFollow_some {s : State} {z l : Nat} (zone : z < 16) (lead : l < 16) (other : l ≠ z) (assigned : (s.zoneLayout z).bed.isSome = true)
    (bed : (s.zoneLayout l).bed = (s.zoneLayout z).bed) (free : (s.zone l).follow = none) (unled : ∀ i, i < 16 → (s.zone i).follow ≠ some z) :
    s.setFollow z (some l) = Answer.done (s.setZone z { s.zone z with follow := some l }) := by
  have fields : firstBad [decide (z < Config.zones), decide (l < Config.zones)] = none :=
    (firstBad_eq_none _).mpr (by simp [Config.zones, zone, lead])
  have none : s.firstFollower z = none := by
    unfold State.firstFollower
    exact List.find?_eq_none.mpr fun i mem => by simpa using unled i (List.mem_range.mp mem)
  unfold State.setFollow
  simp only [Option.map_some, Option.getD_some, fields]
  rw [if_neg (by simp [Option.isNone_iff_eq_none, Option.isSome_iff_ne_none.mp assigned]), if_neg (by simp [other, bed]), free, none]

/-- Settles O25: each setting at its block. -/
theorem heatSettings : Obligations.HeatSettings := by
  refine ⟨fun s h z a zone => ⟨fun p priority => ?_, fun assigned => ?_, fun l lead other assigned bed free unled => ?_, fun heats => ?_,
    fun delay ramp hold => ?_⟩, fun s h a => ⟨fun k low high => ?_, fun n low high => ?_, ⟨s.heatOff, ?_, rfl, fun z zone => ?_, rfl⟩, ?_⟩⟩
  · refine exec_planner (c := .zonePriority h [z, p]) rfl a rfl (fun l => ?_) rfl rfl rfl
    simp only [fields2, zonePriority_fields zone priority]
    rfl
  · exact exec_planner (c := .zoneFollow h [z, 255]) rfl a rfl (fun l => State.setFollow_none (s := { s with lnk := l }) zone assigned) rfl rfl rfl
  · refine exec_planner (c := .zoneFollow h [z, l]) rfl a rfl (fun n => ?_) rfl rfl rfl
    have byte : optByte l = some l := if_neg (by omega)
    simp only [fields2, byte]
    exact State.setFollow_some (s := { s with lnk := n }) zone lead other assigned bed free unled
  · refine exec_planner (c := .advance h [z]) rfl a rfl (fun l => ?_) rfl rfl rfl
    have stage : ({ s with lnk := l } : State).zone z = s.zone z := rfl
    simp only [fields1]
    rw [if_pos (show z < Config.zones from zone), stage]
    rcases heats with e | e | e <;> rw [e] <;> rfl
  · refine exec_planner (c := .advance h [z]) rfl a rfl (fun l => ?_) rfl rfl rfl
    have stage : ({ s with lnk := l } : State).zone z = s.zone z := rfl
    simp only [fields1]
    rw [if_pos (show z < Config.zones from zone), stage]
    cases e : (s.zone z).stage with
    | delay => exact absurd e delay
    | ramp => exact absurd e ramp
    | hold => exact absurd e hold
    | _ => rfl
  · refine exec_planner (c := .setK h [k]) rfl a rfl (fun l => ?_) rfl rfl rfl
    exact if_pos (by simp [low, high])
  · refine exec_planner (c := .setMinopen h [n]) rfl a rfl (fun l => ?_) rfl rfl rfl
    exact if_pos (by simp [low, high])
  · exact exec_planner (c := .heatOff h [0]) rfl a rfl (fun l => rfl) rfl rfl rfl
  · have closed : ∀ v : Sense, senseClosed v = (match v with | .openHigh => Level.low | .openLow => Level.high) := fun v => by cases v <;> rfl
    exact (State.valve_closeValves _ z zone).trans (closed _)
  · exact exec_planner (c := .heatOn h [0]) rfl a rfl (fun l => rfl) rfl rfl rfl

end Sys2Proof.Machine
end

section
/-! SUPPORT. Proofs/Stored.lean: bays and inventory writes (R112, R114 to R116). -/

namespace Sys2Proof.Machine

/-! ## Bays (R112, R114) -/

theorem State.openBay_opens {s : State} {b limit : Nat} (bay : s.bayConfigured b = true) (low : 1 ≤ limit) (high : limit ≤ 60)
    (closed : (s.bay b).opened = false) :
    s.openBay b limit = Answer.done (s.setBay b { s.bay b with opened := true, limit := some limit, load := 0, shipped := [] }) := by
  unfold State.openBay
  rw [if_neg (by simp [bay]), if_neg (by simp; omega), if_neg (by simp [closed])]

/-- The part of a shipped list that a BAY-CLOSE answers, from an entry on. -/
def Bay.part (r : Bay) (first : Nat) : List Shipped := (r.shipped.drop (first - 1)).take 5

theorem State.closeBay_eq {s : State} {b first : Nat} (bay : s.bayConfigured b = true) (opened : (s.bay b).opened = true)
    (idle : (s.bay b).pendingCount = 0) (low : 1 ≤ first)
    (entry : first ≤ (s.bay b).shipped.length ∨ ((s.bay b).shipped = [] ∧ first = 1)) : s.closeBay b first =
      if (s.bay b).shipped.length ≤ first - 1 + ((s.bay b).part first).length then
        Answer.done ((s.setBay b { s.bay b with opened := false, limit := none, load := 0, shipped := [] }).bumpGeneration)
          (.bayEntries (s.bay b).shipped.length ((s.bay b).part first) true)
      else Answer.done s (.bayEntries (s.bay b).shipped.length ((s.bay b).part first) false) := by
  unfold State.closeBay
  dsimp only
  rw [if_neg (by simp [bay]), if_neg (by simp [opened]), if_neg (by omega), if_pos (by simpa [low] using entry)]
  rfl

theorem Bay.part_last {r : Bay} {first : Nat} (last : r.shipped.length ≤ first + 4) : r.part first = r.shipped.drop (first - 1) :=
  List.take_of_length_le (by rw [List.length_drop]; omega)

theorem Bay.part_length (r : Bay) (first : Nat) : (r.part first).length = min 5 (r.shipped.length - (first - 1)) := by
  unfold Bay.part
  rw [List.length_take, List.length_drop]

/-- The last entries: the bay closes (R114). -/
theorem State.closeBay_last {s : State} {b first : Nat} (bay : s.bayConfigured b = true) (opened : (s.bay b).opened = true)
    (idle : (s.bay b).pendingCount = 0) (low : 1 ≤ first)
    (entry : first ≤ (s.bay b).shipped.length ∨ ((s.bay b).shipped = [] ∧ first = 1)) (last : (s.bay b).shipped.length ≤ first + 4) :
    s.closeBay b first
      = Answer.done ((s.setBay b { s.bay b with opened := false, limit := none, load := 0, shipped := [] }).bumpGeneration)
        (.bayEntries (s.bay b).shipped.length ((s.bay b).shipped.drop (first - 1)) true) := by
  rw [State.closeBay_eq bay opened idle low entry, if_pos (by rw [Bay.part_length]; omega), Bay.part_last last]

/-- More entries to come: nothing changes (R114). -/
theorem State.closeBay_more {s : State} {b first : Nat} (bay : s.bayConfigured b = true) (opened : (s.bay b).opened = true)
    (idle : (s.bay b).pendingCount = 0) (low : 1 ≤ first)
    (entry : first ≤ (s.bay b).shipped.length ∨ ((s.bay b).shipped = [] ∧ first = 1)) (more : first + 4 < (s.bay b).shipped.length) :
    s.closeBay b first
      = Answer.done s (.bayEntries (s.bay b).shipped.length (((s.bay b).shipped.drop (first - 1)).take 5) false) := by
  rw [State.closeBay_eq bay opened idle low entry, if_neg (by rw [Bay.part_length]; omega)]
  rfl

/-- Settles O31: the last entries close the bay. -/
theorem baysOpenAndClose : Obligations.BaysOpenAndClose := by
  intro s h b a bay
  refine ⟨fun limit low high closed => ?_, fun first opened idle low entry => ⟨fun last => ?_, fun more => ?_⟩⟩
  · exact exec_planner (c := .bayOpen h [b, limit]) rfl a rfl
      (fun l => State.openBay_opens (s := { s with lnk := l }) bay low high closed) rfl rfl rfl
  · exact exec_planner (c := .bayClose h [b, first]) rfl a rfl
      (fun l => State.closeBay_last (s := { s with lnk := l }) bay opened idle low entry last) rfl rfl rfl
  · exact exec_planner (c := .bayClose h [b, first]) rfl a rfl
      (fun l => State.closeBay_more (s := { s with lnk := l }) bay opened idle low entry more) rfl rfl rfl

/-! ## Inventory writes (R115, R116) -/

theorem Cell.direction_none {c : Cell} (arrivals : c.arrivals = []) (departures : c.pendingOut = 0) : c.direction = .none := by
  unfold Cell.direction
  rw [arrivals, departures]
  rfl

/-- The record that a PLACE-RECORD writes (R115). -/
def State.recorded (s : State) (c : Nat) (d : Desc) (acc : Nat) (m : Option Nat) : Piece :=
  { state := .stock, desc := some d, accumulator := acc, suspect := 0, castMinute := m,
    location := some (.cell c (s.cell c).stack.length), claim := none }

theorem State.lowestFree_eq {s : State} {n : Nat} (slot : n < 192) (free : (s.piece n).state = .free)
    (taken : ∀ i, i < n → (s.piece i).state ≠ .free) : s.lowestFree = some n := by
  unfold State.lowestFree
  exact List.find?_range_eq_some.mpr ⟨by simpa using free, List.mem_range.mpr slot, fun i less => by simpa using taken i less⟩

/-- The state after a PLACE-RECORD. -/
def State.placedRecord (s : State) (c n : Nat) (d : Desc) (acc : Nat) (m : Option Nat) : State :=
  ((s.setCell c { s.cell c with stack := (s.cell c).stack ++ [n] }).setPiece n (s.recorded c d acc m)).bumpGeneration

theorem State.piece_placedRecord (s : State) (c n : Nat) (d : Desc) (acc : Nat) (m : Option Nat) (i : Nat) :
    (s.placedRecord c n d acc m).piece i = if n = i then s.recorded c d acc m else s.piece i :=
  State.piece_setPiece (s.setCell c { s.cell c with stack := (s.cell c).stack ++ [n] }) n (s.recorded c d acc m) i

theorem State.cell_placedRecord (s : State) (c n : Nat) (d : Desc) (acc : Nat) (m : Option Nat) (i : Nat) :
    (s.placedRecord c n d acc m).cell i = if c = i then { s.cell c with stack := (s.cell c).stack ++ [n] } else s.cell i :=
  State.cell_setCell s c _ i

theorem State.placeRecord_eq {s : State} {c n acc : Nat} {d : Desc} {m : Option Nat}
    (fields : firstBad (placeChecks c d acc true) = none) (used : s.cellInUse c = true) (enough : d.release * 600 ≤ acc)
    (arrivals : (s.cell c).arrivals = []) (departures : (s.cell c).pendingOut = 0)
    (room : (s.cell c).stack.length < (s.cellLayout c).limit)
    (carries : ∀ k, (s.cell c).stack.getLast? = some k → d.weight ≤ (s.piece k).weight) (found : s.lowestFree = some n) :
    s.placeRecord c d acc true m = Answer.done (s.placedRecord c n d acc m) (.slot n) := by
  have bears : s.carries c d.weight = true := by
    unfold State.carries
    cases top : (s.cell c).stack.getLast? with
    | none => rfl
    | some k => exact decide_eq_true (carries k top)
  unfold State.placeRecord
  rw [fields]
  dsimp only
  rw [if_neg (by simp [used]), if_neg (by simp only [Config.unitsPerHour]; omega), if_neg (by simp [Cell.direction_none arrivals departures]),
    if_neg (by omega), if_neg (by simp [bears]), found]
  rfl

/-- The state after a REMOVE-RECORD. -/
def State.removedRecord (s : State) (c n : Nat) : State :=
  ((s.setCell c { s.cell c with stack := (s.cell c).stack.dropLast }).freePiece n).bumpGeneration

theorem State.piece_removedRecord (s : State) (c n i : Nat) : (s.removedRecord c n).piece i = if n = i then {} else s.piece i :=
  State.piece_setPiece (s.setCell c { s.cell c with stack := (s.cell c).stack.dropLast }) n {} i

theorem State.cell_removedRecord (s : State) (c n i : Nat) :
    (s.removedRecord c n).cell i = if c = i then { s.cell c with stack := (s.cell c).stack.dropLast } else s.cell i :=
  State.cell_setCell s c _ i

theorem State.removeRecord_eq {s : State} {c n : Nat} (used : s.cellInUse c = true) (slot : n < 192) (arrivals : (s.cell c).arrivals = [])
    (departures : (s.cell c).pendingOut = 0) (top : (s.cell c).stack.getLast? = some n) (unclaimed : (s.piece n).claim = none) :
    s.removeRecord c n = Answer.done (s.removedRecord c n)
      (.removed (s.piece n).mark (s.piece n).pour (s.piece n).weight (s.piece n).accumulator) := by
  unfold State.removeRecord
  rw [if_neg (by simp [used]), if_neg (by simp only [Config.slots]; omega), if_neg (by simp [Cell.direction_none arrivals departures]), top]
  dsimp only
  rw [if_neg (by simp), if_neg (by simp [unclaimed])]
  rfl

theorem nextGeneration_eq (n : Nat) : nextGeneration n = if n = 4294967295 then 0 else n + 1 := rfl

/-- Settles O32: the records written and freed, and the rest of the stock. -/
theorem inventoryWrites : Obligations.InventoryWrites := by
  refine ⟨fun s h c n acc d m a mark pour origin segment weight release ship most minute used enough arrivals departures room carries slot free
    taken => ?_, fun s h c n rest a used slot arrivals departures stack unclaimed => ?_⟩
  · obtain ⟨mark1, mark12, codes, first⟩ := mark
    have marked : recordMarkOk d.mark = true := by
      simp only [recordMarkOk, Bool.and_eq_true, decide_eq_true_eq, List.all_eq_true]
      exact ⟨⟨⟨mark1, mark12⟩, codes⟩, first⟩
    have cell : c < 48 := by
      unfold State.cellInUse at used
      simp only [Bool.and_eq_true, decide_eq_true_eq] at used
      exact used.1
    have fields : firstBad (placeChecks c d acc true) = none := (firstBad_eq_none _).mpr (by
      simp [placeChecks, Config.cells, Config.beds, Config.segments, Config.targetMax, Config.accumulatorMax, *])
    refine ⟨s.placedRecord c n d acc m, ?_, ?_, fun i other => ?_, ?_, fun i other => ?_, ?_, rfl, fun p => ?_, rfl⟩
    · refine exec_planner (c := .placeRecord h (placeWritten c d acc m)) rfl a rfl (fun l => ?_) rfl rfl ?_
      · rw [placeBody_written _ _ _ _ _ _ mark12]
        exact State.placeRecord_eq (s := { s with lnk := l }) fields used enough arrivals departures room carries
          (State.lowestFree_eq (s := { s with lnk := l }) slot free taken)
      · rw [placeWritten_length _ _ _ _ mark12]
        rfl
    · exact (State.piece_placedRecord _ _ _ _ _ _ _).trans (if_pos rfl)
    · exact (State.piece_placedRecord _ _ _ _ _ _ _).trans (if_neg (Ne.symm other))
    · exact (State.cell_placedRecord _ _ _ _ _ _ _).trans (if_pos rfl)
    · exact (State.cell_placedRecord _ _ _ _ _ _ _).trans (if_neg (Ne.symm other))
    · exact nextGeneration_eq _
    · cases p <;> rfl
  · have top : (s.cell c).stack.getLast? = some n := by rw [stack]; simp
    refine ⟨s.removedRecord c n, ?_, ?_, fun i other => ?_, ?_, fun i other => ?_, ?_, rfl, fun p => ?_, rfl⟩
    · exact exec_planner (c := .removeRecord h [c, n]) rfl a rfl
        (fun l => State.removeRecord_eq (s := { s with lnk := l }) used slot arrivals departures top unclaimed) rfl rfl rfl
    · exact (State.piece_removedRecord _ _ _ _).trans (if_pos rfl)
    · exact (State.piece_removedRecord _ _ _ _).trans (if_neg (Ne.symm other))
    · refine ((State.cell_removedRecord _ _ _ _).trans (if_pos rfl)).trans ?_
      rw [stack, List.dropLast_concat]
    · exact (State.cell_removedRecord _ _ _ _).trans (if_neg (Ne.symm other))
    · exact nextGeneration_eq _
    · cases p <;> rfl

end Sys2Proof.Machine
end

section
/-! SUPPORT. Proofs/Queried.lean: the walk of the stock and the queries (R33, R48, R86, R99, R104, R117, R138, R162, R179). -/

namespace Sys2Proof.Machine

theorem permitted_points {s : State} {h : Header} {k : Kind} (a : s.master h) (points : permitted k h.port = decide (h.port ≠ .BL)) :
    permitted k h.port = true := points.trans (decide_eq_true a.1.2.1)

/-- A request of PL, CW or CE in RUN that its block answers. -/
theorem exec_master {s t : State} {h : Header} {k : Kind} {body : List Nat} {owner : List Nat → State → Answer} {r : Reply} {c : Instr}
    (runs : exec c s = .next (s.request h k body owner)) (a : s.master h) (link : t.lnk = s.lnk)
    (acts : ∀ l, owner body { s with lnk := l } = ({ t with lnk := l }, r)) (points : permitted k h.port = decide (h.port ≠ .BL))
    (hl : lockedInRun k = false) (hf : bodyFits k body.length = true) : exec c s = .next (t.answered h k r) :=
  runs.trans (congrArg Host.Outcome.next (State.master_answers a (.intro link acts) (permitted_points a points) hl hf))

theorem State.setCursor_relinked (s : State) (p : Point) (c : Nat) (l : Lnk) :
    ({ s with lnk := l } : State).setCursor p c = { s.setCursor p c with lnk := l } := by cases p <;> rfl

theorem State.cursor_relinked (s : State) (p : Point) (l : Lnk) : ({ s with lnk := l } : State).cursor p = s.cursor p := by cases p <;> rfl

theorem stockSeek_answered {s : State} {h : Header} {c : Nat} (a : s.master h) (cell : c < 48) :
    exec (.stockSeek h [c]) s = .next ((s.setCursor (portPoint h.port) c).answered h .stockSeek ok) := by
  refine exec_master (c := .stockSeek h [c]) rfl a (by simp) (fun l => ?_) rfl rfl rfl
  refine (if_pos (show c < Config.cells from cell)).trans ?_
  rw [State.setCursor_relinked]
  rfl

theorem stockRead_answered {s : State} {h : Header} (a : s.master h) : exec (.stockRead h [0]) s = .next
    ((s.setCursor (portPoint h.port) (nextCursor (s.cursor (portPoint h.port)))).answered h .stockRead
      { result := .done, data := .stock (s.stockReply (s.cursor (portPoint h.port))) }) := by
  refine exec_master (c := .stockRead h [0]) rfl a (by simp) (fun l => ?_) rfl rfl rfl
  show (_, _) = _
  rw [State.setCursor_relinked, State.cursor_relinked]
  rfl

/-- The slot of a move whose serial no other has. -/
theorem State.slotOf_eq {s : State} {i : Nat} {m : Move} (slot : i < 18) (held : s.move i = some m)
    (alone : ∀ j m', j < 18 → s.move j = some m' → m'.serial = m.serial → j = i) : s.slotOf m.serial = some i := by
  unfold State.slotOf State.findSlot
  refine List.find?_range_eq_some.mpr ⟨by simp [held], List.mem_range.mpr slot, fun j less => ?_⟩
  cases other : s.move j with
  | none => rfl
  | some o =>
    have differs : o.serial ≠ m.serial := fun same => by
      have := alone j o (by omega) other same
      omega
    simp [differs]

theorem mem_vacates {s : State} {x : Crane} {n : Nat} {v : Vacate} : (n, v) ∈ (s.craneReply x).vacates ↔ n < 32 ∧ s.vacate n = some v := by
  unfold State.craneReply
  simp only [List.mem_filterMap, List.mem_range, Option.map_eq_some_iff, Prod.mk.injEq, Config.segments]
  constructor
  · rintro ⟨i, segment, w, held, rfl, rfl⟩
    exact ⟨segment, held⟩
  · rintro ⟨segment, held⟩
    exact ⟨n, segment, v, held, rfl, rfl⟩

/-- A COND-READ reads the counts of the ports, which taking it in hand leaves (R173, R179). -/
theorem State.handled_condReply (s : State) (h : Header) (k : Kind) (p : Port) : (s.handled h k).condReply p = s.condReply p := by
  obtain ⟨port, seq⟩ := h
  cases port <;> cases p <;> rfl

theorem condRead_answered {s : State} {h : Header} (a : s.master h) : exec (.condRead h [0]) s = .next
    (s.answered h .condRead { result := .done, data := .conditions (s.condReply h.port) }) := by
  have answered := State.request_master_answered (k := .condRead) (body := [0])
    (owner := noFields (fun t => Answer.done t (.conditions (t.condReply h.port)))) a (permitted_points a rfl) rfl rfl rfl
  refine (congrArg Host.Outcome.next answered).trans ?_
  have reply : (noFields (fun t => Answer.done t (.conditions (t.condReply h.port))) [0] (s.handled h .condRead)).2
      = { result := .done, data := .conditions (s.condReply h.port) } :=
    congrArg (fun r => ({ result := .done, data := .conditions r } : Reply)) (s.handled_condReply h .condRead h.port)
  have kept : ({ (noFields (fun t => Answer.done t (.conditions (t.condReply h.port))) [0] (s.handled h .condRead)).1 with lnk := s.lnk }
      : State) = s := by
    show ({ s.handled h .condRead with lnk := s.lnk } : State) = s
    obtain ⟨l, e⟩ := s.handled_eq h .condRead
    rw [e]
  rw [reply, kept]

/-- Settles O33: each query answers from the records, and the walk moves one cursor. -/
theorem queriesAndWalk : Obligations.QueriesAndWalk := by
  refine ⟨fun s h a c cell => stockSeek_answered a cell, fun s h a => ⟨_, stockRead_answered a, rfl, rfl, rfl, rfl, ?_, rfl⟩,
    fun s h n a slot => ⟨fun free => ?_, fun used => ⟨s.pieceReply n, ?_, rfl, rfl⟩⟩, fun s h b a low high => ⟨s.bedReply b, ?_, rfl, rfl, rfl, rfl, rfl⟩,
    fun s h n a channel => ⟨s.zoneReply n, ?_, rfl, rfl, rfl, rfl, rfl, rfl, ?_, ?_, ?_⟩,
    fun s h i m a slot held serial alone => ⟨s.moveReply i m, ?_, rfl, rfl⟩,
    fun s h x a => ⟨s.craneReply x, ?_, rfl, rfl, rfl, rfl, rfl, List.length_map _, rfl, rfl, rfl, rfl, rfl, fun n v => mem_vacates⟩,
    fun s h a => ⟨_, condRead_answered a, rfl, rfl, rfl, ?_⟩⟩
  · exact List.map_map.trans (List.map_id _)
  · refine exec_master (c := .pieceQuery h [n]) rfl a rfl (fun l => ?_) rfl rfl rfl
    exact (if_neg (Nat.not_le.mpr slot)).trans (if_pos free)
  · refine exec_master (c := .pieceQuery h [n]) rfl a rfl (fun l => ?_) rfl rfl rfl
    exact (if_neg (Nat.not_le.mpr slot)).trans (if_neg used)
  · refine exec_planner (c := .bedQuery h [b]) rfl a rfl (fun l => ?_) rfl rfl rfl
    exact if_pos (by simp [Config.beds, low, high])
  · refine exec_planner (c := .zoneQuery h [n]) rfl a rfl (fun l => ?_) rfl rfl rfl
    exact if_pos (by simp only [Config.channels]; omega)
  · show (if n < Config.zones then some (s.zonePart n) else none).isSome = true ↔ n < 16
    split
    · next zone => exact ⟨fun _ => zone, fun _ => rfl⟩
    · next other => exact ⟨nofun, fun zone => absurd zone other⟩
  · show (if n = Config.refChannel then some (_ : ConverterPart) else none).isSome = true ↔ n = 18
    split
    · next ref => exact ⟨fun _ => ref, fun _ => rfl⟩
    · next other => exact ⟨nofun, fun ref => absurd ref other⟩
  · intro z part
    have given : (if n < Config.zones then some (s.zonePart n) else none) = some z := part
    split at given
    · obtain rfl := Option.some.inj given
      exact ⟨rfl, rfl⟩
    · exact nomatch given
  · refine exec_planner (c := .moveQuery h (four m.serial)) rfl a rfl (fun l => ?_) rfl rfl rfl
    rw [fieldWord4_written, State.slotOf_eq (s := { s with lnk := l }) slot held alone]
    dsimp only
    have found : ({ s with lnk := l } : State).move i = some m := held
    rw [found]
    rfl
  · refine exec_planner (c := .craneQuery h [craneCode x]) rfl a rfl (fun l => ?_) rfl rfl rfl
    rw [fieldCrane_written]
    cases x <;> rfl
  · show (if h.port = .PL then _ else _) ≠ [] ↔ _
    split
    · next port => exact ⟨fun _ => port, fun _ => nofun⟩
    · next port => exact ⟨fun none => absurd rfl none, fun is => absurd is port⟩

end Sys2Proof.Machine
end

section
/-! SUPPORT. Proofs/Acked.lean: postings, report modes and acknowledgements (R176 to R180). -/

namespace Sys2Proof.Machine

/-! ## Postings and causes (R176, R177) -/

/-- A record that alone has its kind and subject, and the others. -/
theorem names_split {before after : List Cond} {r : Cond} {k : CondKind} {subj : Subject} (kind : r.kind = k) (subject : r.subject = subj)
    (others : ∀ q ∈ before ++ after, ¬(q.kind = k ∧ q.subject = subj)) :
    r.names k subj = true ∧ (∀ q ∈ before, q.names k subj = false) ∧ ∀ q ∈ after, q.names k subj = false := by
  have out : ∀ q ∈ before ++ after, q.names k subj = false := fun q mem => Bool.eq_false_iff.mpr fun named => others q mem (Cond.names_true.mp named)
  exact ⟨Cond.names_true.mpr ⟨kind, subject⟩, fun q mem => out q (List.mem_append_left _ mem), fun q mem => out q (List.mem_append_right _ mem)⟩

theorem map_gathered {before after : List Cond} {r : Cond} {k : CondKind} {subj : Subject} (raise : Bool) (named : r.names k subj = true)
    (first : ∀ q ∈ before, q.names k subj = false) (rest : ∀ q ∈ after, q.names k subj = false) :
    (before ++ r :: after).map (fun q => if q.names k subj then q.gathered raise else q) = before ++ r.gathered raise :: after := by
  have still : ∀ l : List Cond, (∀ q ∈ l, q.names k subj = false) → l.map (fun q => if q.names k subj then q.gathered raise else q) = l :=
    fun l out => (List.map_congr_left fun q mem => if_neg (by simp [out q mem])).trans (List.map_id' l)
  rw [List.map_append, List.map_cons, still _ first, still _ rest, if_pos named]

/-- The posting at a port, by what stands in its set (R176). -/
theorem State.postAt_fates (s : State) (p : Point) (k : CondKind) (subj : Subject) (st : CondStatus) (raise : Bool) :
    (∀ before r after, (s.condSet p).records = before ++ r :: after → r.kind = k → r.subject = subj →
      (∀ q ∈ before ++ after, ¬(q.kind = k ∧ q.subject = subj)) →
      s.postAt p k subj st raise = s.setCondSet p { s.condSet p with records := before ++ r.gathered raise :: after })
    ∧ ((∀ r ∈ (s.condSet p).records, ¬(r.kind = k ∧ r.subject = subj)) →
      ((s.condSet p).records.length < setCapacity p → s.postAt p k subj st raise
          = s.setCondSet p { s.condSet p with records := (s.condSet p).records ++ [⟨k, subj, s.clk.minute, 1, st⟩], line := .high })
      ∧ (setCapacity p ≤ (s.condSet p).records.length →
        s.postAt p k subj st raise = s.setCondSet p { s.condSet p with overflow := true })) := by
  unfold State.postAt
  refine ⟨fun before r after records kind subject others => ?_, fun none => ?_⟩
  · obtain ⟨named, first, rest⟩ := names_split kind subject others
    rw [CondSet.post_gathered _ _ _ _ ⟨r, by rw [records]; simp, kind, subject⟩, records, map_gathered raise named first rest]
  · have absent : ¬(s.condSet p).holds k subj := fun ⟨r, mem, named⟩ => none r mem named
    exact ⟨fun room => by rw [CondSet.post_appended _ _ _ absent room],
      fun full => by rw [CondSet.post_dropped _ _ _ absent (Nat.not_lt.mpr full)]⟩

theorem State.modeOf_settled (s : State) (k : CondKind) (subj : Subject) (p : Point) : (s.settled k subj).modeOf p k = s.modeOf p k := by
  cases p <;> rfl

theorem State.endCause_one (s : State) (p : Point) (k : CondKind) (subj : Subject) :
    s.endCause [p] k subj = (s.settled k subj).postCleared p k subj := rfl

/-- The end of a cause in a mode other than CLEAR (R177). -/
theorem State.endCause_settles {s : State} {p : Point} {k : CondKind} (subj : Subject) (mode : s.modeOf p k ≠ .clear) :
    s.endCause [p] k subj = s.settled k subj := by
  rw [State.endCause_one]
  unfold State.postCleared
  rw [State.modeOf_settled]
  split
  · next clear => exact absurd clear mode
  all_goals rfl

/-- In CLEAR mode the end is posted (R177). -/
theorem State.endCause_posts {s : State} {p : Point} {k : CondKind} {subj : Subject} (mode : s.modeOf p k = .clear)
    (kept : ((s.endCause [p] k subj).condSet p).overflow = false) : ((s.endCause [p] k subj).condSet p).holds k subj := by
  have posted : s.endCause [p] k subj = (s.settled k subj).postAt p k subj .cleared false := by
    rw [State.endCause_one]
    unfold State.postCleared
    rw [State.modeOf_settled, mode]
  rw [posted, State.condSet_postAt, if_pos rfl] at kept ⊢
  obtain ⟨r, mem, kind, subject, -⟩ := CondSet.post_holds (.inl kept)
  exact ⟨r, mem, kind, subject⟩

theorem CondSet.clearStanding_records (c : CondSet) (k : CondKind) (subj : Subject) : (c.clearStanding k subj).records
    = c.records.map (fun r => if r.kind = k ∧ r.subject = subj ∧ r.status = .standing then { r with status := .cleared } else r) := by
  refine List.map_congr_left fun r _ => ?_
  have same : (r.names k subj && decide (r.status = .standing)) = true ↔ r.kind = k ∧ r.subject = subj ∧ r.status = .standing := by
    rw [Bool.and_eq_true, Cond.names_true, decide_eq_true_eq, and_assoc]
  by_cases named : r.kind = k ∧ r.subject = subj ∧ r.status = .standing
  · rw [if_pos named, if_pos (same.mpr named)]
  · rw [if_neg named, if_neg (mt same.mp named)]

/-! ## COND-ACK (R179) -/

theorem State.setCondSet_relinked (s : State) (p : Point) (r : CondSet) (l : Lnk) :
    ({ s with lnk := l } : State).setCondSet p r = { s.setCondSet p r with lnk := l } := by cases p <;> rfl

theorem State.condSet_relinked (s : State) (p : Point) (l : Lnk) : ({ s with lnk := l } : State).condSet p = s.condSet p := by cases p <;> rfl

theorem State.acknowledge_absent {s : State} {p : Point} {k : CondKind} {subj : Subject}
    (none : ∀ r ∈ (s.condSet p).records, ¬(r.kind = k ∧ r.subject = subj)) : s.acknowledge p k (some subj) = Answer.refuse s .notFound := by
  have absent : (s.condSet p).records.find? (fun r => (some subj).any (r.names k)) = .none :=
    List.find?_eq_none.mpr fun r mem named => none r mem (Cond.names_true.mp named)
  unfold State.acknowledge
  rw [absent]

theorem State.acknowledge_present {s : State} {p : Point} {k : CondKind} {subj : Subject} {before after : List Cond} {r : Cond}
    (records : (s.condSet p).records = before ++ r :: after) (kind : r.kind = k) (subject : r.subject = subj)
    (others : ∀ q ∈ before ++ after, ¬(q.kind = k ∧ q.subject = subj)) :
    (r.status = .standing → s.acknowledge p k (some subj) = Answer.refuse s .active)
    ∧ (r.status ≠ .standing → s.acknowledge p k (some subj) = Answer.done (s.setCondSet p { s.condSet p with
        records := before ++ after, overflow := false, line := if before ++ after = [] then .low else .high })) := by
  obtain ⟨named, first, rest⟩ := names_split kind subject others
  have found : (s.condSet p).records.find? (fun q => (some subj).any (q.names k)) = some r := by
    rw [records]
    exact List.find?_append.trans (by
      rw [List.find?_eq_none.mpr fun q mem => by simp [first q mem], List.find?_cons_of_pos (by simpa using named)]
      rfl)
  have left : (s.condSet p).records.filter (fun q => !q.names k subj) = before ++ after := by
    rw [records, List.filter_append, List.filter_cons_of_neg (by simp [named]),
      List.filter_eq_self.mpr fun q mem => by simp [first q mem], List.filter_eq_self.mpr fun q mem => by simp [rest q mem]]
  have acked : (s.condSet p).acked k r.subject = { s.condSet p with
      records := before ++ after, overflow := false, line := if before ++ after = [] then .low else .high } := by
    unfold CondSet.acked
    rw [subject, left]
    cases before ++ after <;> rfl
  unfold State.acknowledge
  rw [found]
  dsimp only
  exact ⟨fun standing => if_pos standing, fun other => by rw [if_neg other, acked]⟩

theorem condAck_answered {s t : State} {h : Header} {k : CondKind} {subj : Subject} {r : Reply} (a : s.master h)
    (fits : subjectFits k subj = true) (link : t.lnk = s.lnk)
    (acts : ∀ l, ({ s with lnk := l } : State).acknowledge (portPoint h.port) k (some subj) = ({ t with lnk := l }, r)) :
    exec (.condAck h (ackWritten k subj)) s = .next (t.answered h .condAck r) := by
  refine exec_master (c := .condAck h (ackWritten k subj)) rfl a link (fun l => ?_) rfl rfl (by cases subj <;> rfl)
  rw [ackBody_written, condKindOf_code]
  dsimp only
  rw [if_pos (by cases subj <;> rfl), subjectOf_written k subj fits]
  exact acts l

/-! ## REPORT-MODE (R178) -/

/-- The standing kinds stand in the table of modes first, then the events. -/
def modeOrder : List CondKind :=
  [.breach, .craneStale, .hookMismatch, .deadlock, .probeLost, .converterFault, .panelLost, .restarted, .moveDone, .moveFailed,
   .moveCancelled, .eventMismatch, .heatTrimmed, .bedReady, .permitExpired, .laneActive]

theorem condIndex_inj {k k' : CondKind} (same : condIndex k = condIndex k') : k = k' := by
  have placed : ∀ k, modeOrder[condIndex k]? = some k := fun k => by cases k <;> rfl
  have := (placed k).symm.trans ((congrArg (modeOrder[·]?) same).trans (placed k'))
  exact Option.some.inj this

theorem condStanding_iff (k : CondKind) : condStanding k = true
    ↔ k ∈ ([.breach, .craneStale, .hookMismatch, .deadlock, .probeLost, .converterFault, .panelLost] : List CondKind) := by
  cases k <;> decide

theorem pointOf_some {p : Nat} (known : p < 3) : ∃ q, pointOf p = some q := by
  match p, known with
  | 0, _ | 1, _ | 2, _ => exact ⟨_, rfl⟩

theorem condKindOf_some {c : Nat} (known : c < 16) : ∃ k, condKindOf c = some k :=
  Option.isSome_iff_exists.mp ((by decide : ∀ c < 16, (condKindOf c).isSome = true) c known)

section
variable {s : State} {p m : Nat}

theorem State.setMode_port (k : Nat) (unknown : 3 ≤ p) : s.setMode p k m = Answer.badField s 1 := by
  unfold State.setMode
  rw [pointOf_none p unknown]

theorem State.setMode_kind {k : Nat} (port : p < 3) (unknown : ∀ c, condKindOf k = some c → condStanding c = false) :
    s.setMode p k m = Answer.badField s 2 := by
  obtain ⟨q, known⟩ := pointOf_some port
  unfold State.setMode
  rw [known]
  cases kind : condKindOf k with
  | none => rfl
  | some c => exact if_pos (unknown c kind)

theorem State.setMode_mode {k : CondKind} (port : p < 3) (standing : condStanding k = true) (unknown : 4 ≤ m) :
    s.setMode p (condKindCode k) m = Answer.badField s 3 := by
  obtain ⟨q, known⟩ := pointOf_some port
  unfold State.setMode
  rw [known, condKindOf_code, modeCoded_none m unknown]
  exact if_neg (by simp [standing])

/-- The state with a report mode stored. -/
def State.withMode (s : State) (p : Point) (k : CondKind) (m : ReportMode) : State :=
  s.setCondSet p { s.condSet p with modes := (s.condSet p).modes.write .both (condIndex k) m }

theorem State.setMode_stores {p : Point} {k : CondKind} {m : ReportMode} (standing : condStanding k = true) :
    s.setMode (pointCode p) (condKindCode k) (modeCode m) = Answer.done (s.withMode p k m) := by
  unfold State.setMode
  rw [pointOf_code, condKindOf_code, modeCoded_code]
  exact if_neg (by simp [standing])

theorem State.modeOf_withMode (s : State) (p q : Point) (k k' : CondKind) (m : ReportMode) :
    (s.withMode p k m).modeOf q k' = if p = q ∧ k = k' then m else s.modeOf q k' := by
  unfold State.withMode State.modeOf
  rw [State.condSet_setCondSet]
  by_cases port : p = q
  · subst port
    rw [if_pos rfl]
    dsimp only
    rw [Tab.read_write]
    by_cases kind : k = k'
    · simp [kind]
    · rw [if_neg (mt condIndex_inj kind), if_neg fun both => kind both.2]
  · rw [if_neg port, if_neg fun both => port both.1]

end

/-- Settles O34: the fates of a posting, the modes of a cause, the acknowledgement and the mode stored. -/
theorem conditionSets : Obligations.ConditionSets := by
  refine ⟨fun s p k subj st raise => ?_, fun s p k subj => ⟨rfl, ?_, fun mode q => ?_, fun _ q r mem kind subject => ?_,
      fun mode kept => State.endCause_posts mode kept⟩,
    fun s h k subj a fits _ => ⟨fun none => ?_, fun before after r records kind subject others => ?_⟩,
    fun s h code presence b3 b2 b1 b0 a => ⟨fun unknown => ?_, fun known neither => ?_⟩,
    fun s h a => ⟨fun p k m unknown => ?_, fun p k m port unknown => ?_, fun p k m port event => ?_, fun k standing => ⟨fun p m port unknown => ?_,
      fun p m => ⟨s.withMode p k m, ?_, ?_, fun q k' other => ?_, fun q => ?_, ?_, ?_⟩⟩⟩⟩
  · have fates := s.postAt_fates p k subj st raise
    cases p <;> exact fates
  · unfold State.raiseCause
    simp only [List.foldl_cons, List.foldl_nil]
    unfold State.postStanding
    cases s.modeOf p k <;> rfl
  · rw [State.endCause_settles subj mode, State.condSet_settled, CondSet.clearStanding_records]
  · exact CondSet.none_stands (s.endCause_stands [p] k subj q) mem kind subject
  · exact condAck_answered a fits rfl fun l => State.acknowledge_absent (by rw [State.condSet_relinked]; exact none)
  · have present := fun l : Lnk => State.acknowledge_present (s := { s with lnk := l }) (p := portPoint h.port)
      (by rw [State.condSet_relinked]; exact records) kind subject others
    refine ⟨fun stands => condAck_answered a fits rfl fun l => (present l).1 stands, fun ended => condAck_answered a fits (by simp) fun l => ?_⟩
    rw [(present l).2 ended, State.setCondSet_relinked, State.condSet_relinked]
    rfl
  · refine exec_master (c := .condAck h [code, presence, b3, b2, b1, b0]) rfl a rfl (fun l => ?_) rfl rfl rfl
    simp only [ackBody, condKindOf_none code unknown]
    rfl
  · refine exec_master (c := .condAck h [code, presence, b3, b2, b1, b0]) rfl a rfl (fun l => ?_) rfl rfl rfl
    obtain ⟨k, kind⟩ := condKindOf_some known
    simp only [ackBody, kind]
    exact if_neg (by simp only [presenceOk, decide_eq_true_eq]; omega)
  · exact exec_planner (c := .reportMode h [p, k, m]) rfl a rfl (fun l => State.setMode_port (s := { s with lnk := l }) k unknown) rfl rfl rfl
  · exact exec_planner (c := .reportMode h [p, k, m]) rfl a rfl (fun l => State.setMode_kind (s := { s with lnk := l }) port
      fun c kind => absurd (condKindOf_none k unknown) (by simp [kind])) rfl rfl rfl
  · refine exec_planner (c := .reportMode h [p, condKindCode k, m]) rfl a rfl (fun l => State.setMode_kind (s := { s with lnk := l }) port
      fun c kind => ?_) rfl rfl rfl
    rw [condKindOf_code] at kind
    obtain rfl := Option.some.inj kind
    exact Bool.eq_false_iff.mpr (mt (condStanding_iff k).mp event)
  · exact exec_planner (c := .reportMode h [p, condKindCode k, m]) rfl a rfl
      (fun l => State.setMode_mode (s := { s with lnk := l }) port ((condStanding_iff k).mpr standing) unknown) rfl rfl rfl
  · refine exec_planner (c := .reportMode h [pointCode p, condKindCode k, modeCode m]) rfl a (by simp [State.withMode]) (fun l => ?_) rfl rfl rfl
    refine (State.setMode_stores (s := { s with lnk := l }) ((condStanding_iff k).mpr standing)).trans ?_
    unfold State.withMode
    rw [State.setCondSet_relinked, State.condSet_relinked]
    rfl
  · exact (s.modeOf_withMode p p k k m).trans (if_pos ⟨rfl, rfl⟩)
  · exact (s.modeOf_withMode p q k k' m).trans (if_neg fun both => other (by rw [both.1, both.2]))
  · unfold State.withMode
    rw [State.condSet_setCondSet]
    split
    · next same =>
      subst same
      exact ⟨rfl, rfl, rfl⟩
    · exact ⟨rfl, rfl, rfl⟩
  · cases p <;> rfl
  · cases p <;> rfl

end Sys2Proof.Machine
end

section
/-! SUPPORT. Proofs/Paneled.lean: the panel's answer and the events of a bed's panel (R20 to R25, R28 to R32, R171, R172, R181). -/

namespace Sys2Proof.Machine

/-! ## Records written one by one -/

/-- A list of records each written by `g`, which written twice is as written once. -/
theorem foldl_read {α : Type} {read : State → Nat → α} {f : State → Nat → State} {g : Nat → α → α}
    (one : ∀ s n m, read (f s n) m = if n = m then g m (read s m) else read s m) (again : ∀ m r, g m (g m r) = g m r) (l : List Nat) (s : State)
    (m : Nat) : read (l.foldl f s) m = if m ∈ l then g m (read s m) else read s m := by
  induction l generalizing s with
  | nil => rfl
  | cons n l ih =>
    rw [List.foldl_cons, ih, one]
    by_cases here : n = m
    · subst here
      simp [again]
    · simp [here, Ne.symm here]

theorem State.piece_freePieces (s : State) (l : List Nat) (n : Nat) : (s.freePieces l).piece n = if n ∈ l then {} else s.piece n :=
  foldl_read (read := State.piece) (f := State.freePiece) (g := fun _ _ => {}) (fun s i m => State.piece_setPiece s i {} m) (fun _ _ => rfl) l s n

/-- A piece as CAST-START leaves it (R23). -/
def Piece.casting (b minute : Nat) (p : Piece) : Piece :=
  { p with state := .cast, accumulator := 0, suspect := 0, castMinute := some minute, location := some (.bed b p.segment) }

theorem State.piece_castPieces (s : State) (b minute : Nat) (l : List Nat) (n : Nat) :
    (l.foldl (State.castPiece b minute) s).piece n = if n ∈ l then (s.piece n).casting b minute else s.piece n :=
  foldl_read (read := State.piece) (f := State.castPiece b minute) (g := fun _ => Piece.casting b minute)
    (fun s i m => (State.piece_setPiece s i _ m).trans (by split <;> simp_all [Piece.casting])) (fun _ _ => rfl) l s n

theorem State.castPieces_only (b minute : Nat) (l : List Nat) (s : State) : s.piecesOnly (l.foldl (State.castPiece b minute) s) :=
  foldl_keeps State.piecesOnly.refl State.piecesOnly.trans (fun _ _ => ⟨_, rfl⟩) l s

/-- A zone as a start, and as a return, leaves it (R70). -/
def Zone.starting (profile : Option Nat) (z : Zone) : Zone :=
  { z with stage := .startPending, profile := profile, setpoint := none, timer := 0, advance := false }
def Zone.returned (z : Zone) : Zone := { z with stage := .idle, profile := none, setpoint := none, timer := 0, advance := false }

theorem State.zone_startZones (s : State) (profile : Option Nat) (l : List Nat) (z : Nat) :
    (l.foldl (State.startZone profile) s).zone z = if z ∈ l then (s.zone z).starting profile else s.zone z :=
  foldl_read (read := State.zone) (f := State.startZone profile) (g := fun _ => Zone.starting profile)
    (fun s i m => (State.zone_setZone s i _ m).trans (by split <;> simp_all [Zone.starting])) (fun _ _ => rfl) l s z

theorem State.zone_returnZones (s : State) (l : List Nat) (z : Nat) :
    (l.foldl State.returnZone s).zone z = if z ∈ l then (s.zone z).returned else s.zone z :=
  foldl_read (read := State.zone) (f := State.returnZone) (g := fun _ => Zone.returned)
    (fun s i m => (State.zone_setZone s i _ m).trans (by split <;> simp_all [Zone.returned])) (fun _ _ => rfl) l s z

theorem State.zonesOnly.refl (s : State) : s.zonesOnly s := ⟨_, rfl⟩

theorem State.startZones_only (profile : Option Nat) (l : List Nat) (s : State) : s.zonesOnly (l.foldl (State.startZone profile) s) :=
  foldl_keeps State.zonesOnly.refl State.zonesOnly.trans (fun _ _ => ⟨_, rfl⟩) l s

theorem State.returnZones_only (l : List Nat) (s : State) : s.zonesOnly (l.foldl State.returnZone s) :=
  foldl_keeps State.zonesOnly.refl State.zonesOnly.trans (fun _ _ => ⟨_, rfl⟩) l s

/-! ## The panel's answer -/

/-- Beds other than the one that answers stand. -/
theorem State.heard_other (s : State) {b b' : Nat} (other : b' ≠ b) : (s.heard b).bed b' = s.bed b' := by
  unfold State.heard State.panelAnswered
  dsimp only
  have written : (s.closeWindow.setBed b { s.closeWindow.bed b with missed := 0, panelLost := false }).bed b' = s.bed b' :=
    (State.bed_setBed _ _ _ _).trans (if_neg (Ne.symm other))
  split
  · obtain ⟨_, _, _, e⟩ := State.endCause_only
      ((s.closeWindow.setBed b { s.closeWindow.bed b with missed := 0, panelLost := false }).unflagPanelLost b) [.PL] .panelLost (.bed b)
    rw [e]
    exact written
  · exact written

theorem State.heard_lnk (s : State) (b : Nat) : (s.heard b).lnk = { s.lnk with window := false } := by
  unfold State.heard State.panelAnswered
  dsimp only
  split
  · obtain ⟨_, _, _, e⟩ := State.endCause_only
      ((s.closeWindow.setBed b { s.closeWindow.bed b with missed := 0, panelLost := false }).unflagPanelLost b) [.PL] .panelLost (.bed b)
    rw [e]
    rfl
  · rfl

/-- The cause of PANEL-LOST, of a panel that was LOST (R172). -/
theorem State.heard_found {s : State} {b : Nat} (lost : (s.bed b).panelLost = true) :
    s.heard b = ((s.closeWindow.setBed b { s.bed b with missed := 0, panelLost := false }).unflagPanelLost b).endCause [.PL] .panelLost (.bed b) :=
  if_pos lost

/-- The answer of a PRESENT panel. -/
theorem State.heard_present {s : State} {b : Nat} (present : (s.bed b).panelLost = false) :
    s.heard b = s.closeWindow.setBed b { s.bed b with missed := 0, panelLost := false } :=
  if_neg (by show ¬(s.bed b).panelLost = true; simp [present])

/-! ## A panel's request, answered by the bed table -/

section
variable {s t : State} {h : Header} {b : Nat} {k : Kind} {at_ : BedState} {f : Nat → State → Answer} {c : Instr} {r : Reply}

/-- A panel's request with no fields. -/
theorem exec_panel_plain {owner : List Nat → State → Answer} (runs : exec c s = .next (s.request h k [0] owner)) (a : s.panel h b)
    (link : t.lnk = (s.heard b).lnk)
    (acts : owner [0] ((s.heard b).handled h k) = ({ t with lnk := ((s.heard b).handled h k).lnk }, r)) (hp : permitted k .BL = true)
    (hf : bodyFits k 1 = true) : exec c s = .next (t.answered h k r) := by
  have answered := State.request_panel_answered (body := [0]) (owner := owner) a hp hf (by rw [acts])
  have kept : ({ ({ t with lnk := ((s.heard b).handled h k).lnk } : State) with lnk := (s.heard b).lnk } : State) = t := by rw [← link]
  rw [runs, answered, acts]
  exact congrArg (fun u => Host.Outcome.next (State.answered u h k r)) kept

/-- A panel event that its bed's state lists (R21). -/
theorem exec_panel_listed (runs : exec c s = .next (s.request h k [0] (panelEvent at_ f))) (a : s.panel h b) (stands : (s.bed b).state = at_)
    (link : t.lnk = (s.heard b).lnk) (acts : ∀ l, f b { s.heard b with lnk := l } = ({ t with lnk := l }, r)) (hp : permitted k .BL = true)
    (hf : bodyFits k 1 = true) : exec c s = .next (t.answered h k r) := by
  refine exec_panel_plain runs a link ?_ hp hf
  obtain ⟨port, seq⟩ := h
  obtain rfl : port = .BL := a.1.1
  have same : (s.heard b).handled ⟨.BL, seq⟩ k = { s.heard b with lnk := ((s.heard b).handled ⟨.BL, seq⟩ k).lnk } := by
    obtain ⟨l, e⟩ := (s.heard b).handled_eq ⟨.BL, seq⟩ k
    rw [e]
  rw [panelEvent_listed a stands]
  exact (congrArg (f b) same).trans (acts _)

/-- A panel event that its bed's state does not list (R21). -/
theorem exec_panel_unlisted (runs : exec c s = .next (s.request h k [0] (panelEvent at_ f))) (a : s.panel h b) (other : (s.bed b).state ≠ at_)
    (hp : permitted k .BL = true) (hf : bodyFits k 1 = true) :
    exec c s = .next ((s.heard b).answered h k { result := .state, data := .bedState (s.bed b).state }) := by
  refine exec_panel_plain (t := s.heard b) runs a rfl ?_ hp hf
  obtain ⟨port, seq⟩ := h
  obtain rfl : port = .BL := a.1.1
  have bed : (((s.heard b).toHandling .BL seq k).lnk.poll.map Poll.bed).getD 0 = b :=
    congrArg (Option.getD · 0) ((congrArg (Option.map Poll.bed) (s.heard_poll b)).trans a.1.2.2.2)
  have found : (((s.heard b).toHandling .BL seq k).bed b).state = (s.bed b).state := by
    show ((s.heard b).bed b).state = _
    rw [(s.heard_effect b).1]
  simp only [panelEvent, noFields, fields1, if_true, bed, found, if_neg other]
  rfl

end

/-! ## BED-CLEAR (R32) -/

/-- Writing a list of records, whatever stands in the link. -/
theorem foldl_relinked {f : State → Nat → State} (one : ∀ (s : State) n l, f { s with lnk := l } n = { f s n with lnk := l }) (ns : List Nat)
    (s : State) (l : Lnk) : ns.foldl f { s with lnk := l } = { ns.foldl f s with lnk := l } := by
  induction ns generalizing s with
  | nil => rfl
  | cons n ns ih => rw [List.foldl_cons, one, ih, List.foldl_cons]

/-- The state after a BED-CLEAR that finds the bed bare. -/
def State.bedCleared (s : State) (b : Nat) : State :=
  (s.bedZones b).foldl State.returnZone (s.setBed b { s.bed b with state := .empty, plan := none, castMinute := none })

theorem State.bedCleared_only (s : State) (b : Nat) :
    (s.setBed b { s.bed b with state := .empty, plan := none, castMinute := none }).zonesOnly (s.bedCleared b) := State.returnZones_only _ _

theorem State.clearBed_bare {s : State} {b : Nat} (bare : (s.bed b).pieces = []) (l : Lnk) :
    State.clearBed b { s with lnk := l } = ({ s.bedCleared b with lnk := l }, ok) := by
  have acts : State.clearBed b { s with lnk := l } = Answer.done (({ s with lnk := l } : State).bedCleared b) :=
    if_pos (by show (s.bed b).pieces.isEmpty = true; rw [bare]; rfl)
  rw [acts]
  exact congrArg Answer.done (foldl_relinked (f := State.returnZone) (fun _ _ _ => rfl) (s.bedZones b)
    (s.setBed b { s.bed b with state := .empty, plan := none, castMinute := none }) l)

/-- What the panel's answer leaves for the bed table to look at. -/
theorem State.heard_reads (s : State) (b : Nat) : (∀ z, (s.heard b).zoneLayout z = s.zoneLayout z) ∧ (∀ z, (s.heard b).zone z = s.zone z)
    ∧ (∀ n, (s.heard b).piece n = s.piece n) ∧ (∀ c, (s.heard b).usable c = s.usable c) ∧ (s.heard b).clk = s.clk ∧ (s.heard b).lyt = s.lyt
    ∧ (s.heard b).zcu = s.zcu ∧ (s.heard b).pct = s.pct := by
  obtain ⟨_, _, _, e⟩ := (s.heard_effect b).2
  rw [e]
  exact ⟨fun _ => rfl, fun _ => rfl, fun _ => rfl, fun _ => rfl, rfl, rfl, rfl, rfl⟩

/-- Settles O23: what each event does in its state, and its refusal in another. -/
theorem panelEventsByState : Obligations.PanelEventsByState := by
  refine ⟨fun s h b a permitted => ?_, fun s h b a stripping bare => ?_, fun s h b a stripping left => ?_, fun s h b a =>
    ⟨fun other => ?_, fun other => ?_, fun other => ⟨?_, ?_⟩, fun other => ?_, fun other => ?_, fun other => ?_⟩⟩
  · exact exec_panel_listed (c := .strandsCut h [0]) rfl a permitted rfl (fun l => rfl) rfl rfl
  · have bed := (s.heard_effect b).1
    obtain ⟨layout, zone, -⟩ := s.heard_reads b
    obtain ⟨z, only⟩ := (s.heard b).bedCleared_only b
    refine ⟨(s.heard b).bedCleared b, ?_, ?_, fun b' other => ?_, fun i number of => ?_, fun i other => ?_, ?_, ?_⟩
    · exact exec_panel_listed (c := .bedClear h [0]) rfl a stripping (by rw [only]; rfl)
        (fun l => State.clearBed_bare (by rw [bed]; exact bare) l) rfl rfl
    · rw [only, bed]
      exact (State.bed_setBed _ _ _ _).trans (if_pos rfl)
    · rw [only]
      exact ((State.bed_setBed _ _ _ _).trans (if_neg (Ne.symm other))).trans (s.heard_other other)
    · have mem : i ∈ (s.heard b).bedZones b := State.mem_bedZones.mpr ⟨number, by rw [layout]; exact of⟩
      refine ((State.zone_returnZones _ _ i).trans (if_pos mem)).trans ?_
      exact congrArg Zone.returned (zone i)
    · have mem : i ∉ (s.heard b).bedZones b := fun mem => other (by rw [← layout]; exact (State.mem_bedZones.mp mem).2)
      exact ((State.zone_returnZones _ _ i).trans (if_neg mem)).trans (zone i)
    · obtain ⟨_, _, _, heard⟩ := (s.heard_effect b).2
      rw [only, heard]
      rfl
    · obtain ⟨_, _, _, heard⟩ := (s.heard_effect b).2
      rw [only, heard]
      rfl
  · have pieces : ((s.heard b).bed b).pieces = (s.bed b).pieces := by rw [(s.heard_effect b).1]
    rw [← pieces] at left ⊢
    exact exec_panel_listed (c := .bedClear h [0]) (t := s.heard b) rfl a stripping rfl
      (fun l => if_neg (mt List.isEmpty_iff.mp left)) rfl rfl
  all_goals exact exec_panel_unlisted rfl a other rfl rfl

end Sys2Proof.Machine
end

section
/-! SUPPORT. Proofs/Cast.lean: plans freed, casts started and ended, and the release of a bed (R20, R23 to R25, R28, R29). -/

namespace Sys2Proof.Machine

/-! ## Plans freed (R20, R25) -/

theorem State.freePieces_relinked (s : State) (ns : List Nat) (l : Lnk) :
    ({ s with lnk := l } : State).freePieces ns = { s.freePieces ns with lnk := l } :=
  foldl_relinked (f := State.freePiece) (fun _ _ _ => rfl) ns s l

/-- A bed written after the records of its plan are freed. -/
def State.planFreed (s : State) (b : Nat) (ns : List Nat) (r : Bed) : State := (s.freePieces ns).setBed b r

theorem State.planFreed_relinked (s : State) (b : Nat) (ns : List Nat) (r : Bed) (l : Lnk) :
    ({ s with lnk := l } : State).planFreed b ns r = { s.planFreed b ns r with lnk := l } := by
  unfold State.planFreed
  rw [State.freePieces_relinked]
  rfl

theorem State.planFreed_only (s : State) (b : Nat) (ns : List Nat) (r : Bed) :
    ∃ p, s.planFreed b ns r = { s.setBed b r with pct := p } := by
  obtain ⟨p, e⟩ := s.freePieces_only ns
  unfold State.planFreed
  rw [e]
  exact ⟨p, rfl⟩

theorem State.piece_planFreed (s : State) (b : Nat) (ns : List Nat) (r : Bed) (n : Nat) :
    (s.planFreed b ns r).piece n = if n ∈ ns then {} else s.piece n := s.piece_freePieces ns n

theorem State.bed_planFreed (s : State) (b : Nat) (ns : List Nat) (r : Bed) (a : Nat) :
    (s.planFreed b ns r).bed a = if b = a then r else s.bed a := by
  obtain ⟨p, e⟩ := s.planFreed_only b ns r
  rw [e]
  exact State.bed_setBed s b r a

/-- PLAN-CLEAR of a bed with a plan (R20). -/
theorem State.clearPlan_frees {s : State} {b : Nat} {p : Plan} (bed : s.bedConfigured b = true)
    (stands : (s.bed b).state = .empty ∨ (s.bed b).state = .setup) (plan : (s.bed b).plan = some p) :
    s.clearPlan b = Answer.done (s.planFreed b p.slots { s.bed b with plan := none, pieces := [] }) := by
  unfold State.clearPlan
  dsimp only
  rw [if_neg (by simp [bed]), if_neg (by rcases stands with e | e <;> simp [e]), plan]
  rfl

/-- POUR-ABORT at the bed table (R25). -/
def State.aborted (s : State) (b : Nat) : State :=
  s.planFreed b (s.bed b).planSlots { s.bed b with state := .setup, plan := none, castMinute := none, pieces := [] }

/-- Settles O19: the plan's records are freed, and the bed's record is written. -/
theorem plansFreed : Obligations.PlansFreed := by
  refine ⟨fun s h b p a bed stands plan => ⟨s.planFreed b p.slots { s.bed b with plan := none, pieces := [] }, ?_, fun n mem => ?_, fun n out => ?_,
    ?_, fun b' other => ?_, ?_⟩, fun s h b p a casting plan => ⟨(s.heard b).aborted b, ?_, ?_, fun b' other => ?_, ?_⟩⟩
  · obtain ⟨q, only⟩ := s.planFreed_only b p.slots { s.bed b with plan := none, pieces := [] }
    refine exec_planner (c := .planClear h [b]) rfl a (by rw [only]; rfl) (fun l => ?_) rfl rfl rfl
    refine (State.clearPlan_frees (s := { s with lnk := l }) bed stands plan).trans ?_
    exact congrArg Answer.done (s.planFreed_relinked b p.slots { s.bed b with plan := none, pieces := [] } l)
  · rw [State.piece_planFreed, if_pos mem]
  · rw [State.piece_planFreed, if_neg out]
  · rw [State.bed_planFreed, if_pos rfl]
  · rw [State.bed_planFreed, if_neg (Ne.symm other)]
  · obtain ⟨q, only⟩ := s.planFreed_only b p.slots { s.bed b with plan := none, pieces := [] }
    rw [only]
    rfl
  · obtain ⟨q, only⟩ := (s.heard b).planFreed_only b ((s.heard b).bed b).planSlots
      { (s.heard b).bed b with state := .setup, plan := none, castMinute := none, pieces := [] }
    refine exec_panel_listed (c := .pourAbort h [0]) rfl a casting (by unfold State.aborted; rw [only]; rfl) (fun l => ?_) rfl rfl
    exact congrArg Answer.done ((s.heard b).planFreed_relinked b ((s.heard b).bed b).planSlots
      { (s.heard b).bed b with state := .setup, plan := none, castMinute := none, pieces := [] } l)
  · unfold State.aborted
    rw [State.bed_planFreed, if_pos rfl, (s.heard_effect b).1]
  · unfold State.aborted
    rw [State.bed_planFreed, if_neg (Ne.symm other), s.heard_other other]
  · have slots : ((s.heard b).bed b).planSlots = p.slots := by
      rw [(s.heard_effect b).1]
      unfold Bed.planSlots
      dsimp only
      rw [plan]
      rfl
    obtain ⟨-, -, piece, -, -, -, -, pct⟩ := s.heard_reads b
    unfold State.aborted
    rw [slots]
    refine ⟨fun n mem => ?_, fun n out => ?_, ?_⟩
    · rw [State.piece_planFreed, if_pos mem]
    · rw [State.piece_planFreed, if_neg out, piece]
    · obtain ⟨q, only⟩ := (s.heard b).planFreed_only b p.slots
        { (s.heard b).bed b with state := .setup, plan := none, castMinute := none, pieces := [] }
      rw [only, ← pct]
      rfl

/-! ## Casts (R23, R24) -/

/-- CAST-START at the bed table, of a bed with the plan's slots `ns` (R23). -/
def State.castStarted (s : State) (b : Nat) (ns : List Nat) : State :=
  (ns.foldl (State.castPiece b s.clk.minute) s).setBed b { s.bed b with state := .casting, castMinute := some s.clk.minute }

theorem State.castStarted_only (s : State) (b : Nat) (ns : List Nat) :
    ∃ p, s.castStarted b ns = { s.setBed b { s.bed b with state := .casting, castMinute := some s.clk.minute } with pct := p } := by
  obtain ⟨p, e⟩ := State.castPieces_only b s.clk.minute ns s
  unfold State.castStarted
  rw [e]
  exact ⟨p, rfl⟩

theorem State.bed_castStarted (s : State) (b : Nat) (ns : List Nat) (a : Nat) : (s.castStarted b ns).bed a
    = if b = a then { s.bed b with state := .casting, castMinute := some s.clk.minute } else s.bed a := by
  obtain ⟨p, e⟩ := s.castStarted_only b ns
  rw [e]
  exact State.bed_setBed s b { s.bed b with state := .casting, castMinute := some s.clk.minute } a

theorem State.castStart_planned {s : State} {b : Nat} {p : Plan} (plan : (s.bed b).plan = some p) (l : Lnk) :
    State.castStart b { s with lnk := l } = ({ s.castStarted b p.slots with lnk := l }, ok) := by
  have planned : (({ s with lnk := l } : State).bed b).plan = some p := plan
  have cast := foldl_relinked (f := State.castPiece b s.clk.minute) (fun _ _ _ => rfl) p.slots s l
  obtain ⟨q, only⟩ := State.castPieces_only b s.clk.minute p.slots s
  unfold State.castStart State.castStarted
  rw [planned]
  dsimp only
  rw [cast, only]
  rfl

/-- CAST-END at the bed table (R24). -/
def State.castEnded (s : State) (b : Nat) : State :=
  (s.bedZones b).foldl (State.startZone ((s.bed b).plan.map Plan.profile)) (s.setBed b { s.bed b with state := .curing })

theorem State.castEnded_relinked (s : State) (b : Nat) (l : Lnk) : ({ s with lnk := l } : State).castEnded b = { s.castEnded b with lnk := l } :=
  foldl_relinked (f := State.startZone ((s.bed b).plan.map Plan.profile)) (fun _ _ _ => rfl) (s.bedZones b)
    (s.setBed b { s.bed b with state := .curing }) l

theorem State.castEnded_only (s : State) (b : Nat) : (s.setBed b { s.bed b with state := .curing }).zonesOnly (s.castEnded b) :=
  State.startZones_only _ _ _

theorem State.bed_castEnded (s : State) (b a : Nat) : (s.castEnded b).bed a = if b = a then { s.bed b with state := .curing } else s.bed a := by
  obtain ⟨z, e⟩ := s.castEnded_only b
  rw [e]
  exact State.bed_setBed s b { s.bed b with state := .curing } a

/-- Settles O21: the bed, its pieces and its zones. -/
theorem castsStartAndEnd : Obligations.CastsStartAndEnd := by
  refine ⟨fun s h b p a setup plan => ⟨(s.heard b).castStarted b p.slots, ?_, ?_, fun b' other => ?_, fun n mem => ?_, fun n out => ?_, ?_⟩,
    fun s h b a setup none => ?_,
    fun s h b p a casting plan => ⟨(s.heard b).castEnded b, ?_, ?_, fun b' other => ?_, fun z number of => ?_, fun z other => ?_, ?_, ?_⟩⟩
  all_goals
    have bed := (s.heard_effect b).1
    obtain ⟨layout, zone, piece, -, clk, -, zcu, pct⟩ := s.heard_reads b
  · obtain ⟨q, only⟩ := (s.heard b).castStarted_only b p.slots
    exact exec_panel_listed (c := .castStart h [0]) rfl a setup (by rw [only]; rfl)
      (fun l => State.castStart_planned (by rw [bed]; exact plan) l) rfl rfl
  · rw [State.bed_castStarted, if_pos rfl, bed, clk]
  · rw [State.bed_castStarted, if_neg (Ne.symm other), s.heard_other other]
  · refine ((State.piece_castPieces (s.heard b) b _ p.slots n).trans (if_pos mem)).trans ?_
    rw [piece, clk]
    rfl
  · exact ((State.piece_castPieces (s.heard b) b _ p.slots n).trans (if_neg out)).trans (piece n)
  · obtain ⟨q, only⟩ := (s.heard b).castStarted_only b p.slots
    rw [only, ← pct]
    rfl
  · have unplanned : ∀ u : State, (u.bed b).plan = .none → State.castStart b u = (u, { result := .notFound }) := fun u none => by
      unfold State.castStart
      rw [none]
      rfl
    exact exec_panel_listed (c := .castStart h [0]) (t := s.heard b) rfl a setup rfl
      (fun l => unplanned { s.heard b with lnk := l } (by show ((s.heard b).bed b).plan = .none; rw [bed]; exact none)) rfl rfl
  · obtain ⟨q, only⟩ := (s.heard b).castEnded_only b
    exact exec_panel_listed (c := .castEnd h [0]) rfl a casting (by rw [only]; rfl)
      (fun l => congrArg Answer.done ((s.heard b).castEnded_relinked b l)) rfl rfl
  · rw [State.bed_castEnded, if_pos rfl, bed]
  · rw [State.bed_castEnded, if_neg (Ne.symm other), s.heard_other other]
  · have mem : z ∈ (s.heard b).bedZones b := State.mem_bedZones.mpr ⟨number, by rw [layout]; exact of⟩
    have profile : ((s.heard b).bed b).plan.map Plan.profile = some p.profile := by
      rw [bed]
      dsimp only
      rw [plan]
      rfl
    refine ((State.zone_startZones _ _ _ z).trans (if_pos mem)).trans ?_
    rw [profile]
    exact congrArg (Zone.starting (some p.profile)) (zone z)
  · have mem : z ∉ (s.heard b).bedZones b := fun mem => other (by rw [← layout]; exact (State.mem_bedZones.mp mem).2)
    exact ((State.zone_startZones _ _ _ z).trans (if_neg mem)).trans (zone z)
  · obtain ⟨q, only⟩ := (s.heard b).castEnded_only b
    rw [only, ← zcu]
    rfl
  · obtain ⟨q, only⟩ := (s.heard b).castEnded_only b
    rw [only, ← zcu]
    rfl

/-! ## The release of a bed (R28, R29) -/

/-- The first element of a list that a test names. -/
theorem find_first {α : Type} {p : α → Bool} {before rest : List α} {x : α} (none : ∀ y ∈ before, p y = false) (found : p x = true) :
    (before ++ x :: rest).find? p = some x := by
  rw [List.find?_append, List.find?_eq_none.mpr fun y mem => by simp [none y mem], List.find?_cons_of_pos found]
  rfl

/-- The lowest zone of a bed that a test names. -/
theorem State.find_bedZone {s : State} {b z : Nat} {p : Nat → Bool} (of : s.zoneOf z b) (found : p z = true)
    (lower : ∀ y, y < z → (s.zoneLayout y).bed = some b → p y = false) : (s.bedZones b).find? p = some z := by
  unfold State.bedZones
  rw [List.find?_filter]
  exact List.find?_range_eq_some.mpr ⟨by simp [of.2, found], List.mem_range.mpr of.1, fun y less => by
    simp only [Bool.not_eq_true', Bool.decide_and, Bool.and_eq_false_imp, decide_eq_true_eq]
    exact fun bed => by simp [lower y less bed]⟩

theorem State.zoneCool_iff {s : State} {hall delta : Int} {z : Nat} :
    s.zoneCool hall delta z = true ↔ ∃ t, s.usable z = some t ∧ t - hall ≤ delta := by
  unfold State.zoneCool
  cases s.usable z <;> simp

theorem State.zoneCool_not {s : State} {hall delta : Int} {z : Nat}
    (warm : s.usable z = none ∨ ∃ t, s.usable z = some t ∧ delta < t - hall) : s.zoneCool hall delta z = false := by
  unfold State.zoneCool
  rcases warm with e | ⟨t, e, above⟩ <;> rw [e]
  exact decide_eq_false (by omega)

section
variable {s : State} {b : Nat} {p : Plan} {hall : Int}

theorem State.requestRelease_refused {r : ReleaseFail} (fails : s.releaseRefusal b = some r) :
    State.requestRelease b s = (s, { result := .state, data := .release r }) := by
  unfold State.requestRelease
  rw [fails]
  rfl

theorem State.releaseRefusal_ambient (none : s.usable 16 = .none) : s.releaseRefusal b = some .ambient := by
  unfold State.releaseRefusal
  have hall : s.usable Config.hallChannel = .none := none
  rw [hall]

theorem State.releaseRefusal_usable (plan : (s.bed b).plan = some p) (usable : s.usable 16 = some hall) : s.releaseRefusal b =
    (((s.bedZones b).find? (fun z => s.zoneCool hall (s.profile p.profile).releaseDelta z = false)).map ReleaseFail.warm).or
      (((s.bed b).pieces.find? (fun n => (s.piece n).releaseOk = false)).map ReleaseFail.strength) := by
  have known : s.usable Config.hallChannel = some hall := usable
  unfold State.releaseRefusal
  rw [known, plan]
  dsimp only [Option.map_some, Option.getD_some]
  cases (s.bedZones b).find? (fun z => s.zoneCool hall (s.profile p.profile).releaseDelta z = false) with
  | some z => rfl
  | none => cases (s.bed b).pieces.find? (fun n => (s.piece n).releaseOk = false) <;> rfl

theorem State.releaseRefusal_warm {z : Nat} (plan : (s.bed b).plan = some p) (usable : s.usable 16 = some hall) (of : s.zoneOf z b)
    (warm : s.usable z = none ∨ ∃ t, s.usable z = some t ∧ (s.profile p.profile).releaseDelta < t - hall)
    (lower : ∀ y, y < z → (s.zoneLayout y).bed = some b → ∃ t, s.usable y = some t ∧ t - hall ≤ (s.profile p.profile).releaseDelta) :
    s.releaseRefusal b = some (.warm z) := by
  rw [State.releaseRefusal_usable plan usable, State.find_bedZone of (by simp [State.zoneCool_not warm])
    fun y less bed => by simp [State.zoneCool_iff.mpr (lower y less bed)]]
  rfl

theorem State.releaseRefusal_cool (plan : (s.bed b).plan = some p) (usable : s.usable 16 = some hall)
    (cool : ∀ z, z < 16 → (s.zoneLayout z).bed = some b → ∃ t, s.usable z = some t ∧ t - hall ≤ (s.profile p.profile).releaseDelta) :
    s.releaseRefusal b = ((s.bed b).pieces.find? (fun n => (s.piece n).releaseOk = false)).map ReleaseFail.strength := by
  have none : (s.bedZones b).find? (fun z => s.zoneCool hall (s.profile p.profile).releaseDelta z = false) = .none :=
    List.find?_eq_none.mpr fun z mem => by
      obtain ⟨zone, bed⟩ := State.mem_bedZones.mp mem
      simp [State.zoneCool_iff.mpr (cool z zone bed)]
  rw [State.releaseRefusal_usable plan usable, none]
  rfl

theorem State.requestRelease_granted (passes : s.releaseRefusal b = none) : State.requestRelease b s
    = (s.setBed b { s.bed b with state := .permitted, deadline := some ((s.clk.minute + s.lyt.yard.window) % 4294967296) },
        { result := .done, data := .deadline ((s.clk.minute + s.lyt.yard.window) % 4294967296) }) := by
  unfold State.requestRelease
  rw [passes]
  rfl

end

/-- Settles O22: the first check of R28 that fails, and the permit where none does. -/
theorem releaseDecided : Obligations.ReleaseDecided := by
  have refused : ∀ {s : State} {h : Header} {b : Nat} {r : ReleaseFail}, s.panel h b → (s.bed b).state = .ready →
      (∀ l, ({ s.heard b with lnk := l } : State).releaseRefusal b = some r) →
      exec (.releaseRequest h [0]) s = .next ((s.heard b).answered h .releaseRequest { result := .state, data := .release r }) :=
    fun a ready fails => exec_panel_listed (c := .releaseRequest _ [0]) (t := State.heard _ _) rfl a ready rfl
      (fun l => State.requestRelease_refused (fails l)) rfl rfl
  refine ⟨fun s h b p hall a ready plan usable => ?_, fun s h b a ready none => ?_⟩
  · have bed := (s.heard_effect b).1
    obtain ⟨layout, -, piece, temps, clk, lyt, zcu, -⟩ := s.heard_reads b
    have planned : ((s.heard b).bed b).plan = some p := by rw [bed]; exact plan
    have known : (s.heard b).usable 16 = some hall := (temps 16).trans usable
    have profile : (s.heard b).profile p.profile = s.profile p.profile := by
      unfold State.profile
      rw [zcu]
    have listed : ((s.heard b).bed b).pieces = (s.bed b).pieces := by rw [bed]
    refine ⟨fun cool => ?_, fun z zone of warm lower => ?_⟩
    · have checked : ∀ l, ({ s.heard b with lnk := l } : State).releaseRefusal b
          = ((s.bed b).pieces.find? (fun n => (s.piece n).releaseOk = false)).map ReleaseFail.strength := fun l => by
        refine (State.releaseRefusal_cool (s := { s.heard b with lnk := l }) planned known fun z zone of => ?_).trans ?_
        · obtain ⟨t, temp, less⟩ := cool z zone ((layout z).symm ▸ of)
          exact ⟨t, (temps z).trans temp, profile.symm ▸ less⟩
        · have pieces : ∀ n, ({ s.heard b with lnk := l } : State).piece n = s.piece n := piece
          have same : (({ s.heard b with lnk := l } : State).bed b).pieces = (s.bed b).pieces := listed
          simp only [pieces, same]
      refine ⟨fun strong => ?_, fun before n rest pieces short strong => ?_⟩
      · have passes : (s.bed b).pieces.find? (fun n => (s.piece n).releaseOk = false) = none :=
          List.find?_eq_none.mpr fun n mem => by simp [strong n mem]
        refine exec_panel_listed (c := .releaseRequest h [0]) rfl a ready rfl
          (fun l => (State.requestRelease_granted ((checked l).trans (by rw [passes]; rfl))).trans ?_) rfl rfl
        rw [← clk, ← lyt]
        rfl
      · refine refused a ready fun l => (checked l).trans ?_
        rw [pieces, find_first (fun k mem => by simp [strong k mem]) (by simp [short])]
        rfl
    · refine refused a ready fun l => State.releaseRefusal_warm (s := { s.heard b with lnk := l }) planned known
        ⟨zone, (congrArg ZoneLayout.bed (layout z)).trans of⟩ ?_ ?_
      · rw [← temps z, ← profile] at warm
        exact warm
      · intro y less bed
        have cool := lower y less ((congrArg ZoneLayout.bed (layout y)).symm.trans bed)
        rw [← temps y, ← profile] at cool
        exact cool
  · obtain ⟨e, c, w, heard⟩ := (s.heard_effect b).2
    refine refused a ready fun l => ?_
    rw [heard]
    exact State.releaseRefusal_ambient none

end Sys2Proof.Machine
end

section
/-! SUPPORT. Proofs/Flagged.lean: what a panel's answer leaves, and its reply, its flags (R171, R172, R181). -/

namespace Sys2Proof.Machine

/-! ## The cause of PANEL-LOST ended (R172) -/

theorem State.heard_flags {s : State} {b : Nat} {f : Flag} (lost : (s.bed b).panelLost = true) (flag : (s.flags b).panelLost = some f)
    (standing : f.status = .standing) : ((s.heard b).flags b).panelLost = some { f with status := .cleared } := by
  rw [State.heard_found lost, (State.endCause_only _ _ _ _).flags]
  unfold State.unflagPanelLost
  rw [State.flags_setFlags, if_pos rfl]
  have before : ((s.closeWindow.setBed b { s.bed b with missed := 0, panelLost := false }).flags b).panelLost = some f := flag
  dsimp only
  rw [before, Option.map_some]
  exact congrArg some (if_pos standing)

/-! ## The reply (section 10.1) -/

theorem answered_replies {t : State} {h : Header} {b : Nat} (k : Kind) (r : Reply) (port : h.port = .BL) (poll : t.lnk.poll.map Poll.bed = some b) :
    ((t.answered h k r).port .BL).rx = .replying ∧ ((t.answered h k r).port .BL).reply = some ⟨some ⟨b, true⟩, r⟩ := by
  obtain ⟨q, held, rfl⟩ := Option.map_eq_some_iff.mp poll
  have address : t.addressBefore .BL = some ⟨q.bed, true⟩ := by
    unfold State.addressBefore
    rw [if_pos rfl, held]
    rfl
  unfold State.answered
  rw [port, State.port_setPort, if_pos rfl, address]
  exact ⟨rfl, rfl⟩

/-- A block whose answer leaves the link. -/
def linkKept (owner : List Nat → State → Answer) : Prop := ∀ body s, (owner body s).1.lnk = s.lnk

theorem linkKept_noFields {f : State → Answer} (keeps : ∀ s, (f s).1.lnk = s.lnk) : linkKept (noFields f) := fun body s => by
  unfold noFields fields1
  split
  · dsimp only
    split
    · exact keeps _
    · rfl
  · rfl

theorem linkKept_panelEvent {at_ : BedState} {f : Nat → State → Answer} (keeps : ∀ b s, (f b s).1.lnk = s.lnk) : linkKept (panelEvent at_ f) :=
  linkKept_noFields fun s => by
    dsimp only
    split
    · exact keeps _ s
    · rfl

theorem State.tablesOnly.lnk {s t : State} (h : s.tablesOnly t) : t.lnk = s.lnk := by
  obtain ⟨_, _, _, _, rfl⟩ := h
  rfl

/-- A panel's kind at its block leaves the link. -/
theorem panel_owner {h : Header} {k : Kind} (hp : permitted k .BL = true) : ∃ owner : List Nat → State → Answer, linkKept owner
    ∧ ∀ body s, exec (requestCommand h k body) s = .next (s.request h k body owner) := by
  cases k with
  | setupDone => exact ⟨_, linkKept_panelEvent fun b s => rfl, fun _ _ => rfl⟩
  | castStart => exact ⟨_, linkKept_panelEvent fun b s => (s.castStart_only b).lnk, fun _ _ => rfl⟩
  | castEnd =>
    refine ⟨_, linkKept_panelEvent fun b s => ?_, fun _ _ => rfl⟩
    obtain ⟨z, e⟩ := s.castEnded_only b
    show (s.castEnded b).lnk = s.lnk
    rw [e]
    rfl
  | pourAbort =>
    refine ⟨_, linkKept_panelEvent fun b s => ?_, fun _ _ => rfl⟩
    obtain ⟨p, e⟩ := s.freePieces_only (s.bed b).planSlots
    show (s.freePieces (s.bed b).planSlots).lnk = s.lnk
    rw [e]
  | releaseRequest =>
    refine ⟨_, linkKept_panelEvent fun b s => ?_, fun _ _ => rfl⟩
    unfold State.requestRelease
    split <;> rfl
  | strandsCut => exact ⟨_, linkKept_panelEvent fun b s => rfl, fun _ _ => rfl⟩
  | bedClear => exact ⟨_, linkKept_panelEvent fun b s => (s.clearBed_only b).lnk, fun _ _ => rfl⟩
  | flagsAck =>
    refine ⟨_, linkKept_noFields fun s => ?_, fun _ _ => rfl⟩
    dsimp only
    split <;> rfl
  | nothing => exact ⟨_, linkKept_noFields fun s => rfl, fun _ _ => rfl⟩
  | _ => exact absurd hp (by simp [permitted])

/-- What the link hands on is permitted, and its body fits (R168, R169). -/
theorem linkAnswer_taken {run : Bool} {p : Port} {k : Kind} {n : Nat} (taken : linkAnswer run p k n = none) :
    permitted k p = true ∧ bodyFits k n = true := by
  unfold linkAnswer at taken
  split at taken
  · cases taken
  · split_ifs at taken with denied _ _ misfit
    exact ⟨Bool.not_eq_false _ ▸ denied, Bool.not_eq_false _ ▸ misfit⟩

/-- The answer to a panel's request follows its address character, whoever answers it. -/
theorem panel_replied {s : State} {h : Header} {b : Nat} (a : s.panel h b) (k : Kind) (body : List Nat) :
    ∃ t r, exec (requestCommand h k body) s = .next t ∧ (t.port .BL).rx = .replying ∧ (t.port .BL).reply = some ⟨some ⟨b, true⟩, r⟩ := by
  have poll : (s.heard b).lnk.poll.map Poll.bed = some b := by rw [s.heard_poll]; exact a.1.2.2.2
  cases linked : linkAnswer s.run .BL k body.length with
  | some r =>
    obtain ⟨owner, runs⟩ := exec_request h k
    exact ⟨_, r, (runs body s).trans (congrArg Host.Outcome.next (State.request_panel_linked owner a.1 linked)),
      answered_replies k r a.1.1 poll⟩
  | none =>
    obtain ⟨known, fits⟩ := linkAnswer_taken linked
    obtain ⟨owner, keeps, runs⟩ := panel_owner (h := h) known
    exact ⟨_, _, (runs body s).trans (congrArg Host.Outcome.next (State.request_panel_answered a known fits (keeps _ _))),
      answered_replies k _ a.1.1 poll⟩

/-! ## The flags (R181) -/

theorem PanelFlags.kinds_empty (f : PanelFlags) : f.kinds.isEmpty = true ↔ f = {} := by
  obtain ⟨ready, expired, probeLost, panelLost⟩ := f
  cases ready <;> cases expired <;> cases probeLost <;> cases panelLost <;> simp [PanelFlags.kinds]

/-- The answer to a FLAGS-ACK that leaves `f`. -/
def ackReply (f : PanelFlags) : Reply :=
  if f.kinds.isEmpty then ok else { result := .active, data := .kinds f.kinds }

theorem ackReply_done (f : PanelFlags) : ((ackReply f).result = .done ↔ f = {}) ∧ ((ackReply f).result = .done ∨ (ackReply f).result = .active) := by
  rw [← f.kinds_empty]
  unfold ackReply
  split
  · next e => exact ⟨⟨fun _ => e, fun _ => rfl⟩, .inl rfl⟩
  · next e => exact ⟨⟨nofun, fun all => absurd all e⟩, .inr rfl⟩

theorem State.ackFlags_eq (u : State) (b : Nat) :
    (if (u.flags b).acked.kinds.isEmpty then Answer.done (u.setFlags b (u.flags b).acked)
      else (u.setFlags b (u.flags b).acked, { result := .active, data := .kinds (u.flags b).acked.kinds }))
    = (u.setFlags b (u.flags b).acked, ackReply (u.flags b).acked) := by
  unfold ackReply
  split <;> rfl

theorem State.handled_same (s : State) (h : Header) (k : Kind) : s.handled h k = { s with lnk := (s.handled h k).lnk } := by
  obtain ⟨l, e⟩ := s.handled_eq h k
  rw [e]

theorem flagsAck_answered {s : State} {h : Header} {b : Nat} (a : s.panel h b) : exec (.flagsAck h [0]) s = .next
    (((s.heard b).setFlags b ((s.heard b).flags b).acked).answered h .flagsAck (ackReply ((s.heard b).flags b).acked)) := by
  refine exec_panel_plain (c := .flagsAck h [0]) rfl a rfl ?_ rfl rfl
  have bed : (((s.heard b).handled h .flagsAck).lnk.poll.map Poll.bed).getD 0 = b := by
    obtain ⟨port, seq⟩ := h
    obtain rfl : port = .BL := a.1.1
    exact congrArg (Option.getD · 0) ((congrArg (Option.map Poll.bed) (s.heard_poll b)).trans a.1.2.2.2)
  simp only [noFields, fields1, if_true, bed]
  refine (State.ackFlags_eq _ b).trans ?_
  have same := (s.heard b).handled_same h .flagsAck
  generalize (s.heard b).handled h .flagsAck = u at same
  generalize u.lnk = l at same
  subst same
  rfl

/-- Settles O24: the panel's answer, and the two requests that go with it. -/
theorem panelHeard : Obligations.PanelHeard := by
  intro s h b a
  obtain ⟨-, -, -, -, clk, lyt, zcu, pct⟩ := s.heard_reads b
  obtain ⟨acked, result⟩ := ackReply_done ((s.heard b).flags b).acked
  have flags : ∀ a, ((s.heard b).setFlags b ((s.heard b).flags b).acked).flags a
      = if b = a then ((s.heard b).flags b).acked else (s.heard b).flags a := fun a => State.flags_setFlags _ _ _ _
  refine ⟨⟨(s.heard_effect b).1, fun b' other => s.heard_other other, s.heard_lnk b, fun present => ?_, fun f lost flag standing =>
      State.heard_flags lost flag standing, fun lost p => ?_, lyt, clk, zcu, pct⟩, fun k body => panel_replied a k body, ?_,
    (s.heard b).setFlags b ((s.heard b).flags b).acked, _, flagsAck_answered a, (flags b).trans (if_pos rfl),
    fun b' other => (flags b').trans (if_neg (Ne.symm other)), fun p => State.condSet_setFlags _ _ _ _, rfl, ?_, result, rfl⟩
  · rw [State.heard_present present]
    rfl
  · rw [State.heard_found lost]
    exact fun r mem => CondSet.none_stands (State.endCause_stands _ [.PL] .panelLost (.bed b) p) mem
  · exact exec_panel_plain (c := .nothing h [0]) (t := s.heard b) rfl a rfl
      (congrArg Answer.done ((s.heard b).handled_same h .nothing)) rfl rfl
  · rw [flags, if_pos rfl]
    exact acked

end Sys2Proof.Machine
end

section
/-! SUPPORT. Proofs/Written.lean: what the layout writes, SET-CLOCK and PROFILE-WRITE store (R1 to R3, R11, R68). -/

namespace Sys2Proof.Machine

/-- A planner's request in CONFIG that its block answers. -/
theorem exec_loading {s t : State} {h : Header} {k : Kind} {body : List Nat} {owner : List Nat → State → Answer} {r : Reply} {c : Instr}
    (runs : exec c s = .next (s.request h k body owner)) (a : s.loading h) (link : t.lnk = s.lnk)
    (acts : ∀ l, owner body { s with lnk := l } = ({ t with lnk := l }, r)) (hl : admittedInConfig k = true)
    (hf : bodyFits k body.length = true) : exec c s = .next (t.answered h k r) :=
  runs.trans (congrArg Host.Outcome.next (State.loading_answers a (.intro link acts) hl hf))

/-! ## The writes at the layout table (R2, R3) -/

theorem optByte_bounded {n : Option Nat} {m : Nat} (bound : ∀ v, n = some v → v < m) (byte : m ≤ 255) : optByte (n.getD 255) = n :=
  optByte_getD n fun e => absurd (bound 255 e) (by omega)

theorem optSegmentOk_of {n : Option Nat} (bound : ∀ v, n = some v → v < 32) : optSegmentOk n = true := by
  cases n with
  | none => rfl
  | some v => exact decide_eq_true (bound v rfl)

theorem rangePresentOk_of {r : Range} (lo : r.lo < 32) (hi : r.hi < 32) : rangePresentOk (some r) = true := by
  simp [rangePresentOk, Config.segments, lo, hi]

section
variable {s : State}

theorem State.writeSegment_eq {n : Nat} (a : Area) (v : Nat) (segment : n < 32) : s.writeSegment n (some a) v
    = Answer.done { s with lyt := { s.lyt with segments := s.lyt.segments.write {} n ⟨a, min v 30⟩ } } := by
  have fields : firstBad [decide (n < Config.segments), (some a).isSome] = none := (firstBad_eq_none _).mpr (by simp [Config.segments, segment])
  unfold State.writeSegment
  rw [fields]

theorem State.writeBed_eq {b : Nat} {configured : Bool} {r : Option Range} (low : 1 ≤ b) (high : b ≤ 12)
    (range : (!configured || rangePresentOk r) = true) : s.writeBed b (some configured) r
      = Answer.done { s with lyt := { s.lyt with beds := s.lyt.beds.write {} b (bedLayoutOf configured r) } } := by
  have fields : firstBad [decide (1 ≤ b) && decide (b ≤ Config.beds), (some configured).isSome,
      !(some configured).getD false || rangePresentOk r] = none :=
    (firstBad_eq_none _).mpr (by simpa [Config.beds, low, high] using range)
  unfold State.writeBed
  rw [fields]

theorem State.writeZone_eq {z : Nat} {b : Option Nat} {r : Option Range} {v : Sense} {f : Option Nat} (zone : z < 16)
    (bed : ∀ n, b = some n → 1 ≤ n ∧ n ≤ 12) (range : (b.isNone || rangePresentOk r) = true) (follow : ∀ l, f = some l → l < 16) :
    s.writeZone z b r (some v) f = Answer.done { s with
      lyt := { s.lyt with zones := s.lyt.zones.write {} z ⟨b, if b.isSome then r else none, v, f⟩ }
      valves := s.valves.write .low z (senseClosed v) } := by
  have fields : firstBad (zoneChecks z b r (some v).isSome f) = none := by
    refine (firstBad_eq_none _).mpr ?_
    simp only [zoneChecks, List.mem_cons, List.not_mem_nil, or_false, forall_eq_or_imp, forall_eq]
    refine ⟨decide_eq_true zone, ?_, range, rfl, ?_⟩
    · cases b with
      | none => rfl
      | some n => simp [bed n rfl, Config.beds]
    · cases f with
      | none => rfl
      | some l => exact decide_eq_true (follow l rfl)
  unfold State.writeZone
  rw [fields]

theorem State.writeCell_eq {c : Nat} {n : Option Nat} {row limit : Nat} (cell : c < 48) (segment : ∀ v, n = some v → v < 32) (side : row ≤ 1)
    (low : 1 ≤ limit) (high : limit ≤ 5) : s.writeCell c n row limit
      = Answer.done { s with lyt := { s.lyt with cells := s.lyt.cells.write {} c ⟨n, row, limit⟩ } } := by
  have fields : firstBad [decide (c < Config.cells), optSegmentOk n, decide (row ≤ 1), decide (1 ≤ limit) && decide (limit ≤ 5)] = none :=
    (firstBad_eq_none _).mpr (by simp [Config.cells, cell, optSegmentOk_of segment, side, low, high])
  unfold State.writeCell
  rw [fields]

theorem State.writeBay_eq {b : Nat} {n : Option Nat} (bay : b = 1 ∨ b = 2) (segment : ∀ v, n = some v → v < 32) :
    s.writeBay b n = Answer.done { s with lyt := { s.lyt with bays := s.lyt.bays.write {} b ⟨n⟩ } } := by
  have fields : firstBad [decide (b = 1) || decide (b = 2), optSegmentOk n] = none :=
    (firstBad_eq_none _).mpr (by simpa [optSegmentOk_of segment] using bay)
  unfold State.writeBay
  rw [fields]

theorem State.writeYard_eq {y : Yard} (gap : 1 ≤ y.gap ∧ y.gap ≤ 3) (datum : -150 ≤ y.datum ∧ y.datum ≤ 0) (cap : 400 ≤ y.cap ∧ y.cap ≤ 950)
    (window : 5 ≤ y.window ∧ y.window ≤ 120) : s.writeYard y = Answer.done { s with lyt := { s.lyt with
      yard := { y with presenceW := clampPresence y.presenceW, presenceE := clampPresence y.presenceE } } } := by
  have fields : firstBad [decide (1 ≤ y.gap) && decide (y.gap ≤ 3), decide (-150 ≤ y.datum) && decide (y.datum ≤ 0),
      decide (400 ≤ y.cap) && decide (y.cap ≤ 950), decide (5 ≤ y.window) && decide (y.window ≤ 120)] = none :=
    (firstBad_eq_none _).mpr (by simp [gap, datum, cap, window])
  unfold State.writeYard
  rw [fields]

/-- A profile with every field in its range is stored where no zone cures by it (R68). -/
theorem State.writeProfile_eq {n : Nat} {p : Profile} (fields : firstBad (profileChecks n p) = none)
    (free : s.run = true → s.curingBy n = none) : s.writeProfile n p = Answer.done (s.setProfile n p) := by
  have none : (if s.run then s.curingBy n else none) = .none := by
    split
    · next run => exact free run
    · rfl
  unfold State.writeProfile
  rw [fields]
  dsimp only
  rw [none]

end

theorem zoneBody_written {f : Nat → Option Nat → Option Range → Option Sense → Option Nat → State → Answer} {z : Nat} {b : Option Nat}
    {r : Option Range} {v : Sense} {follow : Option Nat} (s : State) (bed : ∀ n, b = some n → n ≤ 12) (lead : ∀ l, follow = some l → l < 16) :
    zoneBody f (zoneWritten z b r v follow) s
      = f z b (optRange ((r.map Range.lo).getD 255) ((r.map Range.hi).getD 255)) (some v) follow s := by
  have b' := optByte_bounded (n := b) (m := 13) (fun n e => Nat.lt_succ_of_le (bed n e)) (by omega)
  have f' := optByte_bounded lead (by omega)
  simp [zoneBody, zoneWritten, byteOr, rangeOr, b', f']

theorem optRange_written {r : Range} (lo : r.lo < 32) : optRange (((some r).map Range.lo).getD 255) (((some r).map Range.hi).getD 255) = some r :=
  optRange_some r (by omega)

/-- Settles O16: the fields read back, and the records written. -/
theorem layoutStored : Obligations.LayoutStored := by
  refine ⟨fun s h a => ⟨fun n area v segment => ?_, fun b r low high lo hi => ?_, fun b r low high => ?_, fun z b r v zone low high lo hi f follow => ?_,
    fun z r v zone f follow => ?_, fun c n row limit cell segment side low high => ?_, fun b n bay segment => ?_,
    fun gap datum cap window pw pe g1 g3 d1 d0 c1 c2 w1 w2 => ?_, fun m minute => ?_⟩,
    fun s h n p slot f0 f1 d r0 r1 h0 h1 b0 b1 g0 g1 e m0 m1 c0 c1 t0 t1 fall mode => ?_⟩
  · refine exec_loading (c := .layoutSegment h [n, areaCode area, v]) rfl a rfl (fun l => ?_) rfl rfl
    simp only [fields3, areaOf_code]
    exact State.writeSegment_eq (s := { s with lnk := l }) area v segment
  · refine exec_loading (c := .layoutBed h (bedWritten b true (some r))) rfl a rfl (fun l => ?_) rfl rfl
    refine Eq.trans ?_ (State.writeBed_eq (s := { s with lnk := l }) (configured := true) low high (rangePresentOk_of lo hi))
    exact congrArg (fun q => State.writeBed { s with lnk := l } b (some true) q) (optRange_written lo)
  · exact exec_loading (c := .layoutBed h (bedWritten b false r)) rfl a rfl
      (fun l => State.writeBed_eq (s := { s with lnk := l }) (configured := false) low high rfl) rfl rfl
  · have closed : senseClosed v = (match v with | .openHigh => Level.low | .openLow => Level.high) := by cases v <;> rfl
    refine exec_loading (c := .layoutZone h (zoneWritten z (some b) (some r) v f)) rfl a rfl (fun l => ?_) rfl rfl
    rw [zoneBody_written _ (fun n e => Option.some.inj e ▸ high) follow, optRange_written lo]
    refine (State.writeZone_eq (s := { s with lnk := l }) zone (fun n e => Option.some.inj e ▸ ⟨low, high⟩) (rangePresentOk_of lo hi) follow).trans ?_
    rw [closed]
    rfl
  · have closed : senseClosed v = (match v with | .openHigh => Level.low | .openLow => Level.high) := by cases v <;> rfl
    refine exec_loading (c := .layoutZone h (zoneWritten z none r v f)) rfl a rfl (fun l => ?_) rfl rfl
    rw [zoneBody_written (b := none) _ nofun follow]
    refine (State.writeZone_eq (s := { s with lnk := l }) (b := none) zone nofun rfl follow).trans ?_
    rw [closed]
    rfl
  · refine exec_loading (c := .layoutCell h ([c] ++ byteOr n ++ [row, limit])) rfl a rfl (fun l => ?_) rfl rfl
    refine Eq.trans ?_ (State.writeCell_eq (s := { s with lnk := l }) cell segment side low high)
    exact congrArg (fun q => State.writeCell { s with lnk := l } c q row limit) (optByte_bounded segment (by omega))
  · refine exec_loading (c := .layoutBay h ([b] ++ byteOr n)) rfl a rfl (fun l => ?_) rfl rfl
    refine Eq.trans ?_ (State.writeBay_eq (s := { s with lnk := l }) bay segment)
    exact congrArg (fun q => State.writeBay { s with lnk := l } b q) (optByte_bounded segment (by omega))
  · refine exec_loading (c := .layoutYard h (yardWritten ⟨gap, datum, cap, window, pw, pe⟩)) rfl a rfl (fun l => ?_) rfl rfl
    rw [yardBody_written _ _ _ (by show _ ≤ datum; omega) (by show datum ≤ _; omega) (by show _ ≤ cap; omega) (by show cap ≤ _; omega)]
    exact State.writeYard_eq (s := { s with lnk := l }) ⟨g1, g3⟩ ⟨d1, d0⟩ ⟨c1, c2⟩ ⟨w1, w2⟩
  · refine exec_loading (c := .setClock h (four m)) rfl a rfl (fun l => ?_) rfl rfl
    rw [fieldWord4_written]
    exact if_pos minute
  · have fields : firstBad (profileChecks n p) = none := (firstBad_eq_none _).mpr (by
      simp [profileChecks, Config.profiles, Config.targetMax, *])
    have read : ∀ u, profileBody (fun n p t => t.writeProfile n p) (profileWritten n p) u = u.writeProfile n p := fun u =>
      profileBody_written _ n p u f0 (by omega) (by omega) (by omega) (by omega) (by omega) (by omega) b0 (by omega) (by omega)
    rcases mode with a | ⟨a, free⟩
    · exact exec_loading (c := .profileWrite h (profileWritten n p)) rfl a rfl (fun l => (read _).trans
        (State.writeProfile_eq (s := { s with lnk := l }) fields fun run => absurd (a.2.2.symm.trans run) (by decide))) rfl rfl
    · refine exec_planner (c := .profileWrite h (profileWritten n p)) rfl a rfl (fun l => (read _).trans
        (State.writeProfile_eq (s := { s with lnk := l }) fields fun _ => ?_)) rfl rfl rfl
      refine List.find?_eq_none.mpr fun z mem => ?_
      have still := free z (List.mem_range.mp mem)
      simp only [Bool.and_eq_true, decide_eq_true_eq]
      rintro ⟨⟨named, idle⟩, done⟩
      exact (still named).elim idle done

end Sys2Proof.Machine
end

section
/-! SUPPORT. Proofs/Locked.lean: the twelve checks of a lock, and the mode it enters (R5 to R7). -/

namespace Sys2Proof.Machine

/-! ## The lowest record that fails a check -/

/-- `o` names the lowest number with a property, if there is one. -/
def leastOf (P : Nat → Prop) (o : Option Nat) : Prop := (∀ i, o = some i → P i ∧ ∀ j, j < i → ¬P j) ∧ (o = none → ∀ i, ¬P i)

theorem leastOf.congr {P Q : Nat → Prop} {o : Option Nat} (h : leastOf P o) (same : ∀ i, P i ↔ Q i) : leastOf Q o := by
  obtain rfl : P = Q := funext fun i => propext (same i)
  exact h

/-- The first of a rising list that passes a test is the lowest. -/
theorem leastOf_find {l : List Nat} (rising : l.Pairwise (· < ·)) (p : Nat → Bool) : leastOf (fun i => i ∈ l ∧ p i = true) (l.find? p) := by
  induction l with
  | nil => exact ⟨nofun, fun _ i h => nomatch h.1⟩
  | cons a l ih =>
    obtain ⟨least, tail⟩ := List.pairwise_cons.mp rising
    obtain ⟨found, none⟩ := ih tail
    by_cases passes : p a = true
    · rw [List.find?_cons_of_pos passes]
      refine ⟨fun i e => ?_, nofun⟩
      obtain rfl := Option.some.inj e
      refine ⟨⟨List.mem_cons_self, passes⟩, fun j less both => ?_⟩
      rcases List.mem_cons.mp both.1 with rfl | mem
      · exact Nat.lt_irrefl _ less
      · exact Nat.lt_asymm less (least j mem)
    · rw [List.find?_cons_of_neg passes]
      refine ⟨fun i e => ?_, fun e i both => ?_⟩
      · obtain ⟨⟨mem, passing⟩, lower⟩ := found i e
        refine ⟨⟨List.mem_cons_of_mem _ mem, passing⟩, fun j less both => ?_⟩
        rcases List.mem_cons.mp both.1 with rfl | held
        · exact passes both.2
        · exact lower j less ⟨held, both.2⟩
      · rcases List.mem_cons.mp both.1 with rfl | held
        · exact passes both.2
        · exact none e i ⟨held, both.2⟩

/-- The lower number of the first pair that clashes is the lowest with a clash above it. -/
theorem leastOf_pair {l : List Nat} (rising : l.Pairwise (· < ·)) (clash : Nat → Nat → Bool) :
    leastOf (fun i => i ∈ l ∧ ∃ j, i < j ∧ j ∈ l ∧ clash i j = true) (firstPair clash l) := by
  induction l with
  | nil => exact ⟨nofun, fun _ i h => nomatch h.1⟩
  | cons a l ih =>
    obtain ⟨least, tail⟩ := List.pairwise_cons.mp rising
    obtain ⟨found, none⟩ := ih tail
    have above : ∀ {i : Nat}, i ∈ l → (∃ j, i < j ∧ j ∈ a :: l ∧ clash i j = true) → ∃ j, i < j ∧ j ∈ l ∧ clash i j = true := by
      rintro i mem ⟨j, less, held, clashes⟩
      rcases List.mem_cons.mp held with rfl | held
      · exact absurd less (Nat.lt_asymm (least i mem))
      · exact ⟨j, less, held, clashes⟩
    unfold firstPair
    split
    · next some =>
      obtain ⟨j, mem, clashes⟩ := List.any_eq_true.mp some
      refine ⟨fun i e => ?_, nofun⟩
      obtain rfl := Option.some.inj e
      refine ⟨⟨List.mem_cons_self, j, least j mem, List.mem_cons_of_mem _ mem, clashes⟩, fun k less both => ?_⟩
      rcases List.mem_cons.mp both.1 with rfl | held
      · exact Nat.lt_irrefl _ less
      · exact Nat.lt_asymm less (least k held)
    · next alone =>
      have clear : ¬∃ j, a < j ∧ j ∈ a :: l ∧ clash a j = true := by
        rintro ⟨j, less, held, clashes⟩
        rcases List.mem_cons.mp held with rfl | held
        · exact Nat.lt_irrefl _ less
        · exact alone (List.any_eq_true.mpr ⟨j, held, clashes⟩)
      refine ⟨fun i e => ?_, fun e i both => ?_⟩
      · obtain ⟨⟨mem, j, less, held, clashes⟩, lower⟩ := found i e
        refine ⟨⟨List.mem_cons_of_mem _ mem, j, less, List.mem_cons_of_mem _ held, clashes⟩, fun k below both => ?_⟩
        rcases List.mem_cons.mp both.1 with rfl | held
        · exact clear both.2
        · exact lower k below ⟨held, above held both.2⟩
      · rcases List.mem_cons.mp both.1 with rfl | held
        · exact clear both.2
        · exact none e i ⟨held, above held both.2⟩

/-! ## The records that the checks look at -/

section
variable {s : State}

theorem rising_filter (n : Nat) (p : Nat → Bool) : ((List.range n).filter p).Pairwise (· < ·) := List.Pairwise.filter _ List.pairwise_lt_range

theorem State.mem_configuredBeds {b : Nat} : b ∈ s.configuredBeds ↔ s.bedConfigured b = true := by
  unfold State.configuredBeds
  rw [List.mem_filter, List.mem_range]
  exact ⟨And.right, fun bed => ⟨Nat.lt_succ_of_le (bedConfigured_le bed), bed⟩⟩

theorem State.mem_assignedZones {z : Nat} : z ∈ s.assignedZones ↔ ∃ b, s.zoneOf z b := by
  unfold State.assignedZones State.zoneOf
  rw [List.mem_filter, List.mem_range, Option.isSome_iff_exists]
  exact ⟨fun ⟨zone, b, bed⟩ => ⟨b, zone, bed⟩, fun ⟨b, zone, bed⟩ => ⟨zone, b, bed⟩⟩

theorem State.mem_cellsInUse {c : Nat} : c ∈ s.cellsInUse ↔ ∃ k, s.cellAt c k := by
  unfold State.cellsInUse State.cellInUse State.cellAt
  simp only [List.mem_filter, List.mem_range, Bool.and_eq_true, decide_eq_true_eq, Option.isSome_iff_exists]
  exact ⟨fun ⟨cell, _, k, at_⟩ => ⟨k, cell, at_⟩, fun ⟨k, cell, at_⟩ => ⟨cell, cell, k, at_⟩⟩

theorem State.mem_configuredBays {b : Nat} : b ∈ s.configuredBays ↔ ∃ k, s.bayAt b k := by
  unfold State.configuredBays State.bayConfigured State.bayAt
  simp only [List.mem_filter, List.mem_cons, List.not_mem_nil, or_false, Bool.and_eq_true, Bool.or_eq_true, decide_eq_true_eq,
    Option.isSome_iff_exists]
  exact ⟨fun ⟨bay, _, k, at_⟩ => ⟨k, bay, at_⟩, fun ⟨k, bay, at_⟩ => ⟨bay, bay, k, at_⟩⟩

theorem rising_bays : s.configuredBays.Pairwise (· < ·) := List.Pairwise.filter _ (by decide)

/-! ## The tests of the checks -/

theorem rangeOrdered_not {a : Option Range} : (!rangeOrdered a) = true ↔ ∃ r, a = some r ∧ r.hi < r.lo := by
  cases a <;> simp [rangeOrdered]

theorem rangesClash_iff {a b : Option Range} : rangesClash a b = true ↔ ∃ r q, a = some r ∧ b = some q ∧ r.overlaps q = true := by
  cases a <;> cases b <;> simp [rangesClash]

theorem State.rangeHall_not {a : Option Range} :
    (!s.rangeHall a) = true ↔ ∃ r k, a = some r ∧ k < 32 ∧ r.lo ≤ k ∧ k ≤ r.hi ∧ (s.segment k).area ≠ .hall := by
  unfold State.rangeHall
  rw [Bool.not_eq_true', List.all_eq_false]
  cases a with
  | none => simp
  | some r => simp [Range.has, Config.segments, and_assoc]

theorem rangeInside_not {r : Range} {outer : Option Range} : (!(rangeOrdered (some r) && rangeInside (some r) outer)) = true
    ↔ r.hi < r.lo ∨ ∀ q, outer = some q → ¬(q.lo ≤ r.lo ∧ r.hi ≤ q.hi) := by
  cases outer with
  | none => simp [rangeOrdered, rangeInside]
  | some q =>
    simp only [rangeOrdered, rangeInside, Option.map_some, Option.getD_some, Bool.not_eq_true', Bool.and_eq_false_iff, decide_eq_false_iff_not,
      Option.some.injEq, forall_eq']
    omega

theorem State.followOk_not {z : Nat} : (!s.followOk z) = true ↔ ∃ l, (s.zoneLayout z).follow = some l
    ∧ ((s.zoneLayout z).bed = none ∨ (s.zoneLayout l).bed ≠ (s.zoneLayout z).bed ∨ l = z ∨ (s.zoneLayout l).follow ≠ none) := by
  unfold State.followOk
  cases follow : (s.zoneLayout z).follow with
  | none => simp
  | some l =>
    simp only [Bool.not_eq_true', Bool.and_eq_false_iff, decide_eq_false_iff_not, Option.some.injEq, exists_eq_left']
    cases (s.zoneLayout z).bed <;> simp [Option.isSome_iff_ne_none, or_assoc]

/-! ## The checks (R5) -/

theorem State.lockChecks_least (given : s.rangesGiven) {n : Nat} (check : n < 12) :
    ∃ o, s.lockChecks[n]? = some o ∧ leastOf (s.failsCheck (n + 1)) o := by
  have beds : s.configuredBeds.Pairwise (· < ·) := rising_filter _ _
  have zones : s.assignedZones.Pairwise (· < ·) := rising_filter _ _
  have cells : s.cellsInUse.Pairwise (· < ·) := rising_filter _ _
  match n, check with
  | 0, _ =>
    refine ⟨_, rfl, (leastOf_find beds _).congr fun b => ?_⟩
    rw [State.mem_configuredBeds, rangeOrdered_not]
    exact ⟨fun ⟨bed, r, range, empty⟩ => ⟨r, ⟨bed, range⟩, empty⟩, fun ⟨r, ⟨bed, range⟩, empty⟩ => ⟨bed, r, range, empty⟩⟩
  | 1, _ =>
    refine ⟨_, rfl, (leastOf_pair beds _).congr fun b => ?_⟩
    simp only [State.mem_configuredBeds, rangesClash_iff]
    exact ⟨fun ⟨bed, j, less, other, r, q, range, range', meet⟩ => ⟨j, r, q, less, ⟨bed, range⟩, ⟨other, range'⟩, meet⟩,
      fun ⟨j, r, q, less, ⟨bed, range⟩, ⟨other, range'⟩, meet⟩ => ⟨bed, j, less, other, r, q, range, range', meet⟩⟩
  | 2, _ =>
    refine ⟨_, rfl, (leastOf_find beds _).congr fun b => ?_⟩
    rw [State.mem_configuredBeds, State.rangeHall_not]
    exact ⟨fun ⟨bed, r, k, range, rest⟩ => ⟨r, k, ⟨bed, range⟩, rest⟩, fun ⟨r, k, ⟨bed, range⟩, rest⟩ => ⟨bed, r, k, range, rest⟩⟩
  | 3, _ =>
    refine ⟨_, rfl, (leastOf_find zones _).congr fun z => ?_⟩
    rw [State.mem_assignedZones]
    exact ⟨fun ⟨⟨b, of⟩, absent⟩ => ⟨b, of, by rw [of.2] at absent; simpa using absent⟩,
      fun ⟨b, of, absent⟩ => ⟨⟨b, of⟩, by rw [of.2]; simpa using absent⟩⟩
  | 4, _ =>
    refine ⟨_, rfl, (leastOf_find zones _).congr fun z => ?_⟩
    rw [State.mem_assignedZones]
    constructor
    · rintro ⟨⟨b, of⟩, bad⟩
      obtain ⟨r, range⟩ := Option.isSome_iff_exists.mp (given.2 z b of)
      rw [of.2, range, rangeInside_not] at bad
      exact ⟨b, r, of, range, bad⟩
    · rintro ⟨b, r, of, range, bad⟩
      refine ⟨⟨b, of⟩, ?_⟩
      rw [of.2, range, rangeInside_not]
      exact bad
  | 5, _ =>
    refine ⟨_, rfl, (leastOf_pair zones _).congr fun z => ?_⟩
    simp only [State.mem_assignedZones, rangesClash_iff]
    exact ⟨fun ⟨⟨b, of⟩, j, less, ⟨c, of'⟩, r, q, range, range', meet⟩ => ⟨j, b, c, r, q, less, of, of', range, range', meet⟩,
      fun ⟨j, b, c, r, q, less, of, of', range, range', meet⟩ => ⟨⟨b, of⟩, j, less, ⟨c, of'⟩, r, q, range, range', meet⟩⟩
  | 6, _ =>
    refine ⟨_, rfl, (leastOf_find beds _).congr fun b => ?_⟩
    rw [State.mem_configuredBeds, decide_eq_true_eq]
    exact Iff.rfl
  | 7, _ =>
    refine ⟨_, rfl, (leastOf_find cells _).congr fun c => ?_⟩
    rw [State.mem_cellsInUse, decide_eq_true_eq]
    exact ⟨fun ⟨⟨k, at_⟩, other⟩ => ⟨k, at_, by rw [at_.2] at other; exact other⟩,
      fun ⟨k, at_, other⟩ => ⟨⟨k, at_⟩, by rw [at_.2]; exact other⟩⟩
  | 8, _ =>
    refine ⟨_, rfl, (leastOf_pair cells _).congr fun c => ?_⟩
    simp only [State.mem_cellsInUse, Bool.and_eq_true, decide_eq_true_eq]
    exact ⟨fun ⟨⟨k, at_⟩, j, less, ⟨k', at'⟩, segment, row⟩ => ⟨j, k, less, at_, ⟨at'.1, segment.symm.trans at_.2⟩, row⟩,
      fun ⟨j, k, less, at_, at', row⟩ => ⟨⟨k, at_⟩, j, less, ⟨k, at'⟩, at_.2.trans at'.2.symm, row⟩⟩
  | 9, _ =>
    refine ⟨_, rfl, (leastOf_find rising_bays _).congr fun y => ?_⟩
    simp only [State.mem_configuredBays, List.any_eq_true, State.mem_cellsInUse, decide_eq_true_eq]
    exact ⟨fun ⟨⟨k, at_⟩, c, ⟨k', at'⟩, segment⟩ => ⟨c, k, at_, at'.1, segment.trans at_.2⟩,
      fun ⟨c, k, at_, at'⟩ => ⟨⟨k, at_⟩, c, ⟨k, at'⟩, at'.2.trans at_.2.symm⟩⟩
  | 10, _ =>
    refine ⟨_, rfl, (leastOf_find rising_bays _).congr fun y => ?_⟩
    simp only [State.mem_configuredBays, List.any_eq_true, State.mem_configuredBeds]
    constructor
    · rintro ⟨⟨k, at_⟩, b, bed, holds⟩
      rw [at_.2] at holds
      cases range : (s.bedLayout b).range with
      | none => rw [range] at holds; exact nomatch holds
      | some r =>
        rw [range] at holds
        simp only [Option.map_some, Option.getD_some, Range.has, Bool.and_eq_true, decide_eq_true_eq] at holds
        exact ⟨b, r, k, at_, ⟨bed, range⟩, holds⟩
    · rintro ⟨b, r, k, at_, ⟨bed, range⟩, low, high⟩
      refine ⟨⟨k, at_⟩, b, bed, ?_⟩
      rw [at_.2, range]
      simp [Range.has, low, high]
  | 11, _ =>
    refine ⟨_, rfl, (leastOf_find List.pairwise_lt_range _).congr fun z => ?_⟩
    rw [List.mem_range, State.followOk_not]
    exact ⟨fun ⟨zone, l, rest⟩ => ⟨l, zone, rest⟩, fun ⟨l, zone, rest⟩ => ⟨zone, l, rest⟩⟩

/-- The first of a list of outcomes that names a record. -/
theorem firstFailing_first {l : List (Option Nat)} {n record : Nat} (base : Nat) (named : l[n]? = some (some record))
    (before : ∀ m, m < n → l[m]? = some none) : firstFailing base l = some (base + n, record) := by
  induction l generalizing n base with
  | nil => simp at named
  | cons o l ih =>
    cases n with
    | zero =>
      obtain rfl : o = some record := by simpa using named
      rfl
    | succ n =>
      obtain rfl : o = none := by simpa using before 0 (Nat.succ_pos n)
      have rest := ih (n := n) (base + 1) (by simpa using named) (fun m less => by simpa using before (m + 1) (Nat.succ_lt_succ less))
      show firstFailing (base + 1) l = _
      rw [rest, Nat.add_right_comm, Nat.add_assoc]

theorem firstFailing_none {l : List (Option Nat)} (base : Nat) (all : ∀ o ∈ l, o = none) : firstFailing base l = none := by
  induction l generalizing base with
  | nil => rfl
  | cons o l ih =>
    obtain rfl := all o List.mem_cons_self
    exact ih (base + 1) fun q mem => all q (List.mem_cons_of_mem _ mem)

/-- A check is one of the twelve. -/
theorem State.failsCheck_number {n i : Nat} (fails : s.failsCheck n i) : 1 ≤ n ∧ n ≤ 12 := by
  match n, fails with
  | 1, _ | 2, _ | 3, _ | 4, _ | 5, _ | 6, _ | 7, _ | 8, _ | 9, _ | 10, _ | 11, _ | 12, _ => decide

theorem State.lockFailure_first (given : s.rangesGiven) {check record : Nat} (fails : s.failsCheck check record)
    (least : ∀ i, i < record → ¬s.failsCheck check i) (first : ∀ n i, n < check → ¬s.failsCheck n i) :
    s.lockFailure = some (check, record) := by
  obtain ⟨low, high⟩ := State.failsCheck_number fails
  obtain ⟨n, rfl⟩ := Nat.exists_eq_add_of_le' low
  have named : s.lockChecks[n]? = some (some record) := by
    obtain ⟨o, at_, found, none⟩ := State.lockChecks_least given (n := n) (by omega)
    cases o with
    | none => exact absurd fails (none rfl record)
    | some i =>
      obtain ⟨failing, lower⟩ := found i rfl
      have same : i = record := by
        rcases Nat.lt_trichotomy i record with less | same | more
        · exact absurd failing (least i less)
        · exact same
        · exact absurd fails (lower record more)
      rw [at_, same]
  have before : ∀ m, m < n → s.lockChecks[m]? = some none := fun m less => by
    obtain ⟨o, at_, found, _⟩ := State.lockChecks_least given (n := m) (by omega)
    cases o with
    | none => exact at_
    | some i => exact absurd (found i rfl).1 (first (m + 1) i (by omega))
  exact (firstFailing_first 1 named before).trans (by rw [Nat.add_comm])

theorem State.lockFailure_none (given : s.rangesGiven) (passes : ∀ n i, ¬s.failsCheck n i) : s.lockFailure = none := by
  refine firstFailing_none 1 fun o mem => ?_
  obtain ⟨n, less, at_⟩ := List.mem_iff_getElem.mp mem
  obtain ⟨q, found, fails, _⟩ := State.lockChecks_least given (n := n) less
  have same : q = o := by
    rw [List.getElem?_eq_getElem less, at_] at found
    exact (Option.some.inj found).symm
  subst same
  cases q with
  | none => rfl
  | some i => exact absurd (fails i rfl).1 (passes (n + 1) i)

end

/-- What LOCK-LAYOUT does of the checks (R6, R7). -/
theorem State.lock_relinked {s : State} {e : Option (Nat × Nat)} (failure : s.lockFailure = e) (l : Lnk) :
    ({ s with lnk := l } : State).lockFailure = e := failure

/-- Settles O17: the first check that fails and its lowest record, and RUN where none fails. -/
theorem lockedLayoutIsChecked : Obligations.LockedLayoutIsChecked := by
  intro s h a given
  refine ⟨fun check record fails least first => ?_, fun passes => ⟨s.enterRun, ?_, rfl, rfl, rfl, fun z zone => ?_, rfl, rfl, rfl, rfl, rfl, rfl, rfl,
    rfl, rfl, rfl, rfl, rfl, rfl⟩⟩
  · refine exec_loading (c := .lockLayout h [0]) (t := s) rfl a rfl (fun l => ?_) rfl rfl
    simp only [noFields, fields1, if_true, State.lock_relinked (State.lockFailure_first given fails least first) l]
    rfl
  · refine exec_loading (c := .lockLayout h [0]) (t := s.enterRun) rfl a rfl (fun l => ?_) rfl rfl
    simp only [noFields, fields1, if_true, State.lock_relinked (State.lockFailure_none given passes) l]
    rfl
  · exact State.mapZones_zone (f := fun z r => { r with follow := (s.zoneLayout z).follow }) zone

end Sys2Proof.Machine
end

section
/-! SUPPORT. Proofs/Planned.lean: PLAN-LOAD, its refusals and the records it takes (R18, R19). -/

namespace Sys2Proof.Machine

/-! ## The first check that fails -/

theorem firstBad_first {l : List Bool} {n : Nat} (bad : l[n]? = some false) (before : ∀ m, m < n → l[m]? = some true) :
    firstBad l = some (n + 1) := by
  induction l generalizing n with
  | nil => simp at bad
  | cons c l ih =>
    cases n with
    | zero =>
      obtain rfl : c = false := by simpa using bad
      rfl
    | succ n =>
      obtain rfl : c = true := by simpa using before 0 (Nat.succ_pos n)
      have rest := ih (n := n) (by simpa using bad) fun m less => by simpa using before (m + 1) (Nat.succ_lt_succ less)
      show (firstBad l).map (· + 1) = _
      rw [rest]
      rfl

/-- The fields of a piece description, as the table words them (section 2.3). -/
theorem pieceSpecChecks_field (r : Range) (p : PieceSpec) {m : Nat} (field : m < 5) :
    ∃ c, (pieceSpecChecks (some r) p)[m]? = some c ∧ (c = true ↔ pieceField r p (m + 1)) := by
  match m, field with
  | 0, _ =>
    refine ⟨_, rfl, ?_⟩
    simp only [markOk, Bool.and_eq_true, decide_eq_true_eq, List.all_eq_true, pieceField, and_assoc]
  | 1, _ =>
    refine ⟨_, rfl, ?_⟩
    simp only [Option.map_some, Option.getD_some, Range.has, Bool.and_eq_true, decide_eq_true_eq]
    exact Iff.rfl
  | 2, _ =>
    refine ⟨_, rfl, ?_⟩
    rw [Bool.and_eq_true, decide_eq_true_eq, decide_eq_true_eq]
    exact Iff.rfl
  | 3, _ => exact ⟨_, rfl, decide_eq_true_iff⟩
  | 4, _ => exact ⟨_, rfl, decide_eq_true_iff⟩

theorem pieceField_number {r : Range} {p : PieceSpec} {n : Nat} (bad : ¬pieceField r p n) : 1 ≤ n ∧ n ≤ 5 := by
  by_contra out
  obtain rfl | ⟨k, rfl⟩ : n = 0 ∨ ∃ k, n = k + 6 := by
    rcases Nat.eq_zero_or_pos n with zero | some
    · exact .inl zero
    · exact .inr ⟨n - 6, by omega⟩
  · exact bad trivial
  · exact bad trivial

theorem pieceSpecChecks_bad {r : Range} {p : PieceSpec} {n : Nat} (bad : ¬pieceField r p n) (before : ∀ m, m < n → pieceField r p m) :
    firstBad (pieceSpecChecks (some r) p) = some n := by
  obtain ⟨low, high⟩ := pieceField_number bad
  obtain ⟨k, rfl⟩ := Nat.exists_eq_add_of_le' low
  refine firstBad_first ?_ fun m less => ?_
  · obtain ⟨c, at_, holds⟩ := pieceSpecChecks_field r p (m := k) (by omega)
    rw [at_, Bool.eq_false_iff.mpr (mt holds.mp bad)]
  · obtain ⟨c, at_, holds⟩ := pieceSpecChecks_field r p (m := m) (by omega)
    rw [at_, holds.mpr (before (m + 1) (by omega))]

theorem pieceSpecChecks_good {r : Range} {p : PieceSpec} (all : ∀ m, pieceField r p m) : firstBad (pieceSpecChecks (some r) p) = none := by
  refine (firstBad_eq_none _).mpr fun c mem => ?_
  obtain ⟨m, less, at_⟩ := List.mem_iff_getElem.mp mem
  obtain ⟨d, found, holds⟩ := pieceSpecChecks_field r p (m := m) less
  rw [List.getElem?_eq_getElem less, at_] at found
  exact Option.some.inj found ▸ holds.mpr (all (m + 1))

/-- The first piece description with a field out of range. -/
theorem firstBadPiece_at {r : Option Range} {before rest : List PieceSpec} {p : PieceSpec} {n : Nat} (at_ : Nat)
    (good : ∀ q ∈ before, firstBad (pieceSpecChecks r q) = none) (bad : firstBad (pieceSpecChecks r p) = some n) :
    firstBadPiece r at_ (before ++ p :: rest) = some (n, at_ + before.length) := by
  induction before generalizing at_ with
  | nil =>
    show firstBadPiece r at_ (p :: rest) = _
    unfold firstBadPiece
    rw [bad]
    rfl
  | cons q before ih =>
    show firstBadPiece r at_ (q :: (before ++ p :: rest)) = _
    unfold firstBadPiece
    rw [good q List.mem_cons_self]
    dsimp only
    rw [ih (at_ + 1) fun x mem => good x (List.mem_cons_of_mem _ mem), List.length_cons, Nat.add_right_comm, Nat.add_assoc]

section
variable {r : Option Range} {pour profile : Nat} {pieces : List PieceSpec}

theorem planFieldRefusal_pour : planFieldRefusal r 0 profile pieces = some (.field 2) := rfl

theorem planFieldRefusal_profile (low : 1 ≤ pour) (high : pour ≤ 65535) (beyond : 8 ≤ profile) :
    planFieldRefusal r pour profile pieces = some (.field 3) := by
  have bad : firstBad [true, decide (1 ≤ pour) && decide (pour ≤ 65535), decide (profile < Config.profiles),
      decide (1 ≤ pieces.length) && decide (pieces.length ≤ 16)] = some 3 :=
    firstBad_first (n := 2) (congrArg some (decide_eq_false (by simp only [Config.profiles]; omega))) fun m less => by
      match m, less with
      | 0, _ => rfl
      | 1, _ => simp [low, high]
  unfold planFieldRefusal
  rw [bad]

theorem planFieldRefusal_pieces (low : 1 ≤ pour) (high : pour ≤ 65535) (known : profile < 8) (atLeast : 1 ≤ pieces.length)
    (atMost : pieces.length ≤ 16) :
    planFieldRefusal r pour profile pieces = (firstBadPiece r 1 pieces).map (fun e => .entryField e.1 e.2) := by
  have good : firstBad [true, decide (1 ≤ pour) && decide (pour ≤ 65535), decide (profile < Config.profiles),
      decide (1 ≤ pieces.length) && decide (pieces.length ≤ 16)] = none :=
    (firstBad_eq_none _).mpr (by simp [low, high, Config.profiles, known, atLeast, atMost])
  unfold planFieldRefusal
  rw [good]

end

/-! ## The refusals of PLAN-LOAD -/

section
variable {s : State} {b pour profile : Nat} {pieces : List PieceSpec}

theorem State.loadPlan_unconfigured (absent : s.bedConfigured b = false) : s.loadPlan b pour profile pieces = Answer.badField s 1 := by
  unfold State.loadPlan
  exact if_pos absent

theorem State.loadPlan_state (bed : s.bedConfigured b = true) (empty : (s.bed b).state ≠ .empty) (setup : (s.bed b).state ≠ .setup) :
    s.loadPlan b pour profile pieces = Answer.refuse s .state (.bedState (s.bed b).state) := by
  unfold State.loadPlan
  dsimp only
  rw [if_neg (by simp [bed]), if_pos (by simp [empty, setup])]

theorem State.loadPlan_checked (bed : s.bedConfigured b = true) (stands : (s.bed b).state = .empty ∨ (s.bed b).state = .setup) :
    (∀ d, planFieldRefusal (s.bedLayout b).range pour profile pieces = some d → s.loadPlan b pour profile pieces = Answer.refuse s .badField d)
    ∧ (planFieldRefusal (s.bedLayout b).range pour profile pieces = none → s.freeCount + (s.bed b).planSlots.length < pieces.length →
      s.loadPlan b pour profile pieces = Answer.refuse s .full)
    ∧ (planFieldRefusal (s.bedLayout b).range pour profile pieces = none → pieces.length ≤ s.freeCount + (s.bed b).planSlots.length →
      s.loadPlan b pour profile pieces = Answer.done
        ((State.takeAll b pour pieces (s.freePieces (s.bed b).planSlots)).1.setBed b { s.bed b with
          plan := some ⟨pour, profile, (State.takeAll b pour pieces (s.freePieces (s.bed b).planSlots)).2⟩
          pieces := (State.takeAll b pour pieces (s.freePieces (s.bed b).planSlots)).2 })
        (.slots (State.takeAll b pour pieces (s.freePieces (s.bed b).planSlots)).2)) := by
  unfold State.loadPlan
  dsimp only
  rw [if_neg (by simp [bed]), if_neg (by rcases stands with e | e <;> simp [e])]
  refine ⟨fun d fails => by rw [fails], fun passes few => ?_, fun passes room => ?_⟩ <;> rw [passes]
  · exact if_pos few
  · exact if_neg (Nat.not_lt.mpr room)

end

/-! ## The records taken (R19) -/

/-- The FREE records, lowest first. -/
def State.freeList (s : State) : List Nat := (List.range Config.slots).filter (fun n => (s.piece n).state = .free)

theorem State.mem_freeList {s : State} {n : Nat} : n ∈ s.freeList ↔ n < 192 ∧ (s.piece n).state = .free := by
  unfold State.freeList
  rw [List.mem_filter, List.mem_range, decide_eq_true_eq]
  rfl

theorem State.freeList_rising (s : State) : s.freeList.Pairwise (· < ·) := List.Pairwise.filter _ List.pairwise_lt_range

theorem State.lowestFree_head (s : State) : s.lowestFree = s.freeList.head? := List.head?_filter.symm

/-- The record that a PLAN-LOAD writes for a piece. -/
def plannedRecord (b pour : Nat) (p : PieceSpec) : Piece :=
  { state := .planned,
    desc := some { mark := p.mark, pour := pour, origin := b, segment := p.segment, weight := p.weight,
                   release := p.release, ship := p.ship } }

theorem State.takePlanned_eq {s : State} {n : Nat} {rest : List Nat} (free : s.freeList = n :: rest) (b pour : Nat) (p : PieceSpec) :
    s.takePlanned b pour p = (s.setPiece n (plannedRecord b pour p), some n) ∧ (s.setPiece n (plannedRecord b pour p)).freeList = rest := by
  refine ⟨?_, ?_⟩
  · unfold State.takePlanned
    rw [s.lowestFree_head, free]
    rfl
  · have rising := s.freeList_rising
    rw [free] at rising
    have others : ∀ m ∈ rest, m ≠ n := fun m mem => Nat.ne_of_gt ((List.pairwise_cons.mp rising).1 m mem)
    have left : (s.setPiece n (plannedRecord b pour p)).freeList = s.freeList.filter (fun m => m ≠ n) := by
      unfold State.freeList
      rw [List.filter_filter]
      refine List.filter_congr fun m _ => ?_
      rw [State.piece_setPiece]
      by_cases same : n = m
      · subst same
        simp [plannedRecord]
      · simp [same, Ne.symm same]
    rw [left, free, List.filter_cons_of_neg (by simp), List.filter_eq_self.mpr fun m mem => by simpa using others m mem]

theorem State.takeAll_cons (b pour : Nat) (p : PieceSpec) (pieces : List PieceSpec) (s : State) :
    State.takeAll b pour (p :: pieces) s = ((State.takeAll b pour pieces (s.takePlanned b pour p).1).1,
      (s.takePlanned b pour p).2.toList ++ (State.takeAll b pour pieces (s.takePlanned b pour p).1).2) := rfl

/-- The lowest records are taken, in list order. -/
theorem State.takeAll_takes (b pour : Nat) (pieces : List PieceSpec) (s : State) (room : pieces.length ≤ s.freeList.length) :
    (State.takeAll b pour pieces s).2 = s.freeList.take pieces.length
    ∧ (∀ (i n : Nat) (p : PieceSpec), (State.takeAll b pour pieces s).2[i]? = some n → pieces[i]? = some p →
      (State.takeAll b pour pieces s).1.piece n = plannedRecord b pour p)
    ∧ ∀ n, n ∉ (State.takeAll b pour pieces s).2 → (State.takeAll b pour pieces s).1.piece n = s.piece n := by
  induction pieces generalizing s with
  | nil =>
    have empty : State.takeAll b pour [] s = (s, []) := rfl
    rw [empty]
    exact ⟨rfl, fun i n p taken => absurd taken (by simp), fun n _ => rfl⟩
  | cons p pieces ih =>
    cases free : s.freeList with
    | nil =>
      rw [free] at room
      exact absurd room (by simp)
    | cons n rest =>
      obtain ⟨taken, left⟩ := State.takePlanned_eq free b pour p
      obtain ⟨slots, records, others⟩ := ih (s.setPiece n (plannedRecord b pour p)) (by rw [left]; rw [free] at room; simpa using room)
      have both : State.takeAll b pour (p :: pieces) s = ((State.takeAll b pour pieces (s.setPiece n (plannedRecord b pour p))).1,
          n :: (State.takeAll b pour pieces (s.setPiece n (plannedRecord b pour p))).2) := by
        rw [State.takeAll_cons, taken]
        rfl
      have rising := s.freeList_rising
      rw [free] at rising
      have absent : n ∉ (State.takeAll b pour pieces (s.setPiece n (plannedRecord b pour p))).2 := fun mem => by
        rw [slots, left] at mem
        exact Nat.lt_irrefl n ((List.pairwise_cons.mp rising).1 n (List.mem_of_mem_take mem))
      rw [both]
      refine ⟨by rw [slots, left]; rfl, fun i m q at_ found => ?_, fun m out => ?_⟩
      · cases i with
        | zero =>
          obtain rfl : n = m := by simpa using at_
          obtain rfl : p = q := by simpa using found
          exact (others n absent).trans ((State.piece_setPiece _ _ _ _).trans (if_pos rfl))
        | succ i => exact records i m q (by simpa using at_) (by simpa using found)
      · obtain ⟨other, more⟩ := List.ne_and_not_mem_of_not_mem_cons out
        exact (others m more).trans ((State.piece_setPiece _ _ _ _).trans (if_neg (Ne.symm other)))

/-- With the replaced plan's records freed, the FREE records are the old ones and those. -/
theorem State.mem_freeList_freed {s : State} {slots : List Nat} {n : Nat} :
    n ∈ (s.freePieces slots).freeList ↔ n < 192 ∧ ((s.piece n).state = .free ∨ n ∈ slots) := by
  rw [State.mem_freeList, State.piece_freePieces]
  by_cases mem : n ∈ slots
  · simp [mem]
  · simp [mem]

theorem State.freeList_freed_length {s : State} {slots : List Nat} (nodup : slots.Nodup)
    (planned : ∀ n ∈ slots, n < 192 ∧ (s.piece n).state = .planned) :
    (s.freePieces slots).freeList.length = s.freeCount + slots.length := by
  have apart : (s.freeList ++ slots).Nodup := List.nodup_append.mpr ⟨s.freeList_rising.imp Nat.ne_of_lt, nodup, fun n mem m held same => by
    subst same
    exact absurd ((State.mem_freeList.mp mem).2.symm.trans (planned n held).2) (by decide)⟩
  have same : (s.freePieces slots).freeList.Perm (s.freeList ++ slots) := by
    refine (List.perm_ext_iff_of_nodup ((s.freePieces slots).freeList_rising.imp Nat.ne_of_lt) apart).mpr fun n => ?_
    rw [State.mem_freeList_freed, List.mem_append, State.mem_freeList]
    exact ⟨fun ⟨slot, either⟩ => either.imp (fun free => ⟨slot, free⟩) id,
      fun either => either.elim (fun free => ⟨free.1, .inl free.2⟩) fun mem => ⟨(planned n mem).1, .inr mem⟩⟩
  rw [same.length_eq, List.length_append]
  rfl

theorem State.takePlanned_relinked (s : State) (b pour : Nat) (p : PieceSpec) (l : Lnk) :
    ({ s with lnk := l } : State).takePlanned b pour p = ({ (s.takePlanned b pour p).1 with lnk := l }, (s.takePlanned b pour p).2) := by
  have same : ({ s with lnk := l } : State).lowestFree = s.lowestFree := rfl
  unfold State.takePlanned
  rw [same]
  cases s.lowestFree <;> rfl

theorem State.takeAll_relinked (b pour : Nat) (pieces : List PieceSpec) (s : State) (l : Lnk) : State.takeAll b pour pieces { s with lnk := l }
    = ({ (State.takeAll b pour pieces s).1 with lnk := l }, (State.takeAll b pour pieces s).2) := by
  induction pieces generalizing s with
  | nil => rfl
  | cons p pieces ih =>
    simp only [State.takeAll, State.takePlanned_relinked, ih]

/-! ## The body of a PLAN-LOAD (section 2.3) -/

theorem runs_cons {k fuel : Nat} {l : List Nat} (some : l ≠ []) : runs k (fuel + 1) l = l.take k :: runs k fuel (l.drop k) :=
  if_neg (by simpa using some)

theorem runs_append {pieces : List PieceSpec} (marks : ∀ p ∈ pieces, p.mark.length ≤ 12) {fuel : Nat} (enough : pieces.length ≤ fuel)
    (tail : List Nat) : runs planEntry fuel (pieces.flatMap pieceWritten ++ tail)
      = pieces.map pieceWritten ++ runs planEntry (fuel - pieces.length) tail := by
  induction pieces generalizing fuel with
  | nil => rfl
  | cons p pieces ih =>
    obtain ⟨fuel, rfl⟩ := Nat.exists_eq_add_of_le' (Nat.le_trans (by simp) enough : 1 ≤ fuel)
    have length := pieceWritten_length p (marks p List.mem_cons_self)
    rw [List.flatMap_cons, List.append_assoc, runs_cons (l := pieceWritten p ++ _) (List.cons_ne_nil _ _), List.take_left' length, List.drop_left' length,
      ih (fun q mem => marks q (List.mem_cons_of_mem _ mem)) (by simpa using enough), List.length_cons, Nat.add_sub_add_right]
    rfl

theorem runs_length {k : Nat} (fuel : Nat) {n : Nat} {l : List Nat} (length : l.length ≤ k * n) : (runs k fuel l).length ≤ n := by
  induction fuel generalizing n l with
  | zero => exact Nat.zero_le n
  | succ fuel ih =>
    by_cases empty : l = []
    · subst empty
      exact Nat.zero_le n
    · rw [runs_cons empty, List.length_cons]
      have some := List.length_pos_iff.mpr empty
      obtain ⟨n, rfl⟩ : ∃ m, n = m + 1 := Nat.exists_eq_succ_of_ne_zero fun zero => by
        subst zero
        exact absurd length (by omega)
      exact Nat.succ_le_succ (ih (by rw [List.length_drop]; rw [Nat.mul_succ] at length; omega))

/-- A mark's length byte beyond 12 leaves a description with no mark. -/
theorem pieceOf_unmarked {length : Nat} {rest : List Nat} (long : 12 < length) (bytes : rest.length = 18) :
    (pieceOf (length :: rest)).mark = [] := by
  have six : (rest.drop 12).length = 6 := by rw [List.length_drop, bytes]
  obtain ⟨a, b, c, d, e, f, at_⟩ : ∃ a b c d e f, rest.drop 12 = [a, b, c, d, e, f] := by
    match rest.drop 12, six with
    | [a, b, c, d, e, f], _ => exact ⟨a, b, c, d, e, f, rfl⟩
  have read : (pieceOf (length :: rest)).mark = markOf length (rest.take 12) := by
    simp only [pieceOf, at_]
  exact read.trans (if_neg (by omega))

/-- A PLAN-LOAD with a description whose mark is too long after `pieces`, read. -/
theorem planBody_unmarked {f : Nat → Nat → Nat → List PieceSpec → State → Answer} {b pour profile length n : Nat} {pieces : List PieceSpec}
    {rest more : List Nat} (s : State) (marks : ∀ p ∈ pieces, p.mark.length ≤ 12) (long : 12 < length) (bytes : rest.length = 18)
    (tail : more.length = 19 * n) : ∃ q qs, q.mark = [] ∧ qs.length ≤ n
      ∧ planBody f (planWritten b pour profile pieces ++ (length :: rest) ++ more) s = f b pour profile (pieces ++ q :: qs) s := by
  have entries : (pieces.flatMap pieceWritten ++ (length :: rest ++ more)).length = 19 * pieces.length + 19 + more.length := by
    have written := planWritten_length 0 0 0 pieces marks
    simp only [planWritten, two, List.length_append, List.length_cons, List.length_nil, planFixed, planEntry] at written
    simp only [List.length_append, List.length_cons, bytes]
    omega
  obtain ⟨fuel, count⟩ : ∃ fuel, (pieces.flatMap pieceWritten ++ (length :: rest ++ more)).length - pieces.length = fuel + 1 := by
    rw [entries]
    exact ⟨18 * pieces.length + 18 + more.length, by omega⟩
  have entry : (length :: rest).length = planEntry := by rw [List.length_cons, bytes]; rfl
  have last : runs planEntry (fuel + 1) (length :: rest ++ more) = (length :: rest) :: runs planEntry fuel more := by
    rw [runs_cons (l := length :: rest ++ more) (List.cons_ne_nil _ _), List.take_left' entry, List.drop_left' entry]
  have read : (pieces.map pieceWritten).map pieceOf = pieces := by
    rw [List.map_map]
    exact (List.map_congr_left fun p mem => pieceOf_written p (marks p mem)).trans (List.map_id pieces)
  refine ⟨pieceOf (length :: rest), (runs planEntry fuel more).map pieceOf, pieceOf_unmarked long bytes, ?_, ?_⟩
  · rw [List.length_map]
    exact runs_length fuel (Nat.le_of_eq tail)
  · have body : planBody f (planWritten b pour profile pieces ++ (length :: rest) ++ more) s
        = f b (word2 (pour / 256) (pour % 256)) profile ((runs planEntry (pieces.flatMap pieceWritten ++ (length :: rest ++ more)).length
          (pieces.flatMap pieceWritten ++ (length :: rest ++ more))).map pieceOf) s := by
      rw [List.append_assoc]
      unfold planWritten two
      simp only [List.cons_append, List.nil_append]
      rfl
    rw [body, word2_two, runs_append marks (by rw [entries]; omega), count, last, List.map_append, read]
    rfl

theorem bodyFits_unmarked {b pour profile length n : Nat} {pieces : List PieceSpec} {rest more : List Nat}
    (marks : ∀ p ∈ pieces, p.mark.length ≤ 12) (bytes : rest.length = 18) (tail : more.length = 19 * n) (atMost : pieces.length + 1 + n ≤ 16) :
    bodyFits .planLoad (planWritten b pour profile pieces ++ (length :: rest) ++ more).length = true := by
  rw [List.length_append, List.length_append, planWritten_length b pour profile pieces marks, List.length_cons, bytes, tail]
  simp only [bodyFits, planFixed, planEntry]
  rw [Bool.and_eq_true, Bool.and_eq_true]
  exact ⟨⟨decide_eq_true (by omega), decide_eq_true (by omega)⟩, decide_eq_true (by omega)⟩

/-! ## O18 -/

/-- The state after a PLAN-LOAD of `pieces` at bed `b`, which stands for the plan's records freed and the lowest taken. -/
def State.planned (s : State) (b pour profile : Nat) (pieces : List PieceSpec) : State :=
  (State.takeAll b pour pieces (s.freePieces (s.bed b).planSlots)).1.setBed b { s.bed b with
    plan := some ⟨pour, profile, (State.takeAll b pour pieces (s.freePieces (s.bed b).planSlots)).2⟩
    pieces := (State.takeAll b pour pieces (s.freePieces (s.bed b).planSlots)).2 }

/-- The slots that a PLAN-LOAD takes. -/
def State.takenSlots (s : State) (b pour : Nat) (pieces : List PieceSpec) : List Nat :=
  (State.takeAll b pour pieces (s.freePieces (s.bed b).planSlots)).2

theorem State.planned_only (s : State) (b pour profile : Nat) (pieces : List PieceSpec) :
    ∃ p, s.planned b pour profile pieces = { s.setBed b { s.bed b with
      plan := some ⟨pour, profile, s.takenSlots b pour pieces⟩, pieces := s.takenSlots b pour pieces } with pct := p } := by
  obtain ⟨p, only⟩ := (s.freePieces_only (s.bed b).planSlots).trans (State.takeAll_only b pour pieces _)
  unfold State.planned State.takenSlots
  rw [only]
  exact ⟨p, rfl⟩

theorem State.loadPlan_planned {s : State} {b pour profile : Nat} {pieces : List PieceSpec} (l : Lnk)
    (bed : s.bedConfigured b = true) (stands : (s.bed b).state = .empty ∨ (s.bed b).state = .setup)
    (fields : planFieldRefusal (s.bedLayout b).range pour profile pieces = none)
    (room : pieces.length ≤ s.freeCount + (s.bed b).planSlots.length) :
    ({ s with lnk := l } : State).loadPlan b pour profile pieces
      = ({ s.planned b pour profile pieces with lnk := l }, { result := .done, data := .slots (s.takenSlots b pour pieces) }) := by
  rw [(State.loadPlan_checked (s := { s with lnk := l }) bed stands).2.2 fields room]
  have freed : ({ s with lnk := l } : State).freePieces (({ s with lnk := l } : State).bed b).planSlots
      = { s.freePieces (s.bed b).planSlots with lnk := l } := s.freePieces_relinked _ l
  rw [freed, State.takeAll_relinked]
  rfl

/-- What the slots taken are: the lowest of those that are FREE or of the replaced plan (R19). -/
theorem State.takenSlots_lowest {s : State} {b pour : Nat} {pieces : List PieceSpec} (nodup : (s.bed b).planSlots.Nodup)
    (planned : ∀ n ∈ (s.bed b).planSlots, n < 192 ∧ (s.piece n).state = .planned)
    (room : pieces.length ≤ s.freeCount + (s.bed b).planSlots.length) :
    (s.takenSlots b pour pieces).length = pieces.length ∧ (s.takenSlots b pour pieces).Pairwise (· < ·)
    ∧ (∀ n ∈ s.takenSlots b pour pieces, n < 192 ∧ ((s.piece n).state = .free ∨ n ∈ (s.bed b).planSlots))
    ∧ ∀ n, n < 192 → ((s.piece n).state = .free ∨ n ∈ (s.bed b).planSlots) → n ∉ s.takenSlots b pour pieces →
      ∀ k ∈ s.takenSlots b pour pieces, k < n := by
  rw [← State.freeList_freed_length nodup planned] at room
  have rising := (s.freePieces (s.bed b).planSlots).freeList_rising
  have slots : s.takenSlots b pour pieces = _ := (State.takeAll_takes b pour pieces _ room).1
  rw [slots]
  refine ⟨List.length_take_of_le room, rising.sublist (List.take_sublist _ _), fun n mem => State.mem_freeList_freed.mp (List.mem_of_mem_take mem),
    fun n slot either out k mem => ?_⟩
  have free := State.mem_freeList_freed.mpr ⟨slot, either⟩
  rw [← List.take_append_drop pieces.length (s.freePieces (s.bed b).planSlots).freeList] at rising free
  exact (List.pairwise_append.mp rising).2.2 k mem n ((List.mem_append.mp free).resolve_left out)

/-- The piece records after a PLAN-LOAD (R19). -/
theorem State.planned_pieces {s : State} {b pour profile : Nat} {pieces : List PieceSpec} (nodup : (s.bed b).planSlots.Nodup)
    (planned : ∀ n ∈ (s.bed b).planSlots, n < 192 ∧ (s.piece n).state = .planned)
    (room : pieces.length ≤ s.freeCount + (s.bed b).planSlots.length) :
    (∀ (i n : Nat) (p : PieceSpec), (s.takenSlots b pour pieces)[i]? = some n → pieces[i]? = some p →
      (s.planned b pour profile pieces).piece n = plannedRecord b pour p)
    ∧ ∀ n, n ∉ s.takenSlots b pour pieces →
      (s.planned b pour profile pieces).piece n = if n ∈ (s.bed b).planSlots then {} else s.piece n := by
  rw [← State.freeList_freed_length nodup planned] at room
  obtain ⟨-, records, others⟩ := State.takeAll_takes b pour pieces _ room
  exact ⟨records, fun n out => (others n out).trans (s.piece_freePieces _ n)⟩

/-- Settles O18: the checks in their order, then the lowest records. -/
theorem planLoaded : Obligations.PlanLoaded := by
  intro s h b pour profile pieces a atLeast atMost marks
  have fits := bodyFits_plan b pour profile pieces marks atLeast atMost
  have answers : ∀ {t : State} {y : Reply}, t.lnk = s.lnk →
      (∀ l, ({ s with lnk := l } : State).loadPlan b pour profile pieces = ({ t with lnk := l }, y)) →
      exec (.planLoad h (planWritten b pour profile pieces)) s = .next (t.answered h .planLoad y) := fun link acts =>
    exec_planner rfl a link (fun l => (planBody_written _ b pour profile pieces _ marks).trans (acts l)) rfl rfl fits
  refine ⟨fun absent => ?_, fun bed empty setup => ?_, fun bed stands => ⟨fun zero => ?_, fun low high beyond => ?_⟩,
    fun r bed stands range low high known => ⟨fun i n p at_ bad before earlier => ?_, fun length n rest more good long bytes tail fit => ?_,
      fun good nodup planned => ⟨fun few => ?_, fun room => ?_⟩⟩⟩
  · exact answers rfl fun l => State.loadPlan_unconfigured (s := { s with lnk := l }) absent
  · exact answers rfl fun l => State.loadPlan_state (s := { s with lnk := l }) bed empty setup
  · subst zero
    exact answers rfl fun l => (State.loadPlan_checked (s := { s with lnk := l }) bed stands).1 _ planFieldRefusal_pour
  · exact answers rfl fun l => (State.loadPlan_checked (s := { s with lnk := l }) bed stands).1 _ (planFieldRefusal_profile low high beyond)
  · refine answers rfl fun l => (State.loadPlan_checked (s := { s with lnk := l }) bed stands).1 _ ?_
    obtain ⟨less, rfl⟩ := List.getElem?_eq_some_iff.mp at_
    have split : pieces = pieces.take i ++ pieces[i] :: pieces.drop (i + 1) := by
      rw [← List.drop_eq_getElem_cons less, List.take_append_drop]
    have first : firstBadPiece (some r) 1 pieces = some (n, 1 + (pieces.take i).length) := by
      conv_lhs => rw [split]
      refine firstBadPiece_at 1 (fun q mem => ?_) (pieceSpecChecks_bad bad before)
      obtain ⟨k, short, rfl⟩ := List.mem_iff_getElem.mp mem
      rw [List.getElem_take]
      rw [List.length_take] at short
      exact pieceSpecChecks_good fun m => earlier k m _ (by omega) (List.getElem?_eq_getElem _)
    have at_i : ({ s with lnk := l } : State).bedLayout b = s.bedLayout b := rfl
    rw [at_i, range, planFieldRefusal_pieces low high known atLeast atMost, first, List.length_take_of_le (Nat.le_of_lt less), Nat.add_comm 1 i]
    rfl
  · refine exec_planner (t := s) rfl a rfl (fun l => ?_) rfl rfl (bodyFits_unmarked marks bytes tail fit)
    obtain ⟨q, qs, unmarked, count, body⟩ := planBody_unmarked (f := fun b pour profile pieces t => t.loadPlan b pour profile pieces)
      (b := b) (pour := pour) (profile := profile) { s with lnk := l } marks long bytes tail
    have blank : ¬pieceField r q 1 := fun marked => by
      obtain ⟨some, -⟩ := marked
      rw [unmarked] at some
      exact absurd some (by decide)
    have first : firstBadPiece (some r) 1 (pieces ++ q :: qs) = some (1, 1 + pieces.length) :=
      firstBadPiece_at 1 (fun p mem => pieceSpecChecks_good (good p mem)) (pieceSpecChecks_bad blank fun m less => by
        obtain rfl : m = 0 := by omega
        trivial)
    refine body.trans ((State.loadPlan_checked (s := { s with lnk := l }) bed stands).1 (.entryField 1 (pieces.length + 1)) ?_)
    have at_l : ({ s with lnk := l } : State).bedLayout b = s.bedLayout b := rfl
    rw [at_l, range, planFieldRefusal_pieces low high known (by rw [List.length_append]; omega) (by simp only [List.length_append, List.length_cons]; omega), first,
      Nat.add_comm 1]
    rfl
  all_goals
    have none : firstBadPiece (some r) 1 pieces = none :=
      (firstBadPiece_eq_none _ 1 pieces).mpr fun p mem => pieceSpecChecks_good (good p mem)
    have fields : planFieldRefusal (s.bedLayout b).range pour profile pieces = .none := by
      rw [range, planFieldRefusal_pieces low high known atLeast atMost, none]
      rfl
  · exact answers rfl fun l => (State.loadPlan_checked (s := { s with lnk := l }) bed stands).2.1 fields few
  · obtain ⟨p, only⟩ := s.planned_only b pour profile pieces
    obtain ⟨length, rising, lowest, least⟩ := State.takenSlots_lowest (pour := pour) nodup planned room
    obtain ⟨records, others⟩ := State.planned_pieces (profile := profile) (pour := pour) nodup planned room
    refine ⟨s.planned b pour profile pieces, s.takenSlots b pour pieces, answers (by rw [only]; rfl) fun l =>
      State.loadPlan_planned l bed stands fields room, length, rising, lowest, least, records, fun n out left => ?_, fun n out mem => ?_, ?_,
      fun a other => ?_, ?_⟩
    · exact (others n out).trans (if_neg left)
    · exact (others n out).trans (if_pos mem)
    · exact (State.bed_setBed _ b _ b).trans (if_pos rfl)
    · rw [only]
      exact (State.bed_setBed s b _ a).trans (if_neg (Ne.symm other))
    · rw [only]
      rfl

end Sys2Proof.Machine
end

section
/-! SUPPORT. Proofs/Refused.lean: a MOVE-SUBMIT's fields and the checks of R145, each by its number (R144, R145). -/

namespace Sys2Proof.Machine

/-! ## The nine fields (R144) -/

theorem moveKindOf_cases {n : Nat} (known : n ≤ 4) :
    (n = 0 ∧ moveKindOf n = .strip) ∨ (n = 1 ∧ moveKindOf n = .restack) ∨ (n = 2 ∧ moveKindOf n = .loadOut)
      ∨ (n = 3 ∧ moveKindOf n = .park) ∨ (n = 4 ∧ moveKindOf n = .setDown) := by
  match n, known with
  | 0, _ => exact .inl ⟨rfl, rfl⟩
  | 1, _ => exact .inr (.inl ⟨rfl, rfl⟩)
  | 2, _ => exact .inr (.inr (.inl ⟨rfl, rfl⟩))
  | 3, _ => exact .inr (.inr (.inr (.inl ⟨rfl, rfl⟩)))
  | 4, _ => exact .inr (.inr (.inr (.inr ⟨rfl, rfl⟩)))

/-- The codes of a style (section 10.6). -/
theorem styleOf_cases {n : Nat} (known : n ≤ 2) :
    (n = 0 ∧ styleOf n = .normal) ∨ (n = 1 ∧ styleOf n = .atomic) ∨ (n = 2 ∧ styleOf n = .preempt) := by
  match n, known with
  | 0, _ => exact .inl ⟨rfl, rfl⟩
  | 1, _ => exact .inr (.inl ⟨rfl, rfl⟩)
  | 2, _ => exact .inr (.inr ⟨rfl, rfl⟩)

theorem craneOf_submitCrane (f : MoveFields) : craneOf f.crane = submitCrane f := by
  unfold submitCrane craneOf
  split
  · next zero => rw [if_pos zero]
  · next some => rw [if_neg some]

theorem styleOk_iff {k n : Nat} (kind : k ≤ 4) (style : n ≤ 2) :
    styleOk (moveKindOf k) (styleOf n) = true ↔ (k = 4 → n = 0) ∧ (k = 3 → n ≠ 1) := by
  rcases styleOf_cases style with ⟨rfl, e⟩ | ⟨rfl, e⟩ | ⟨rfl, e⟩ <;> rw [e] <;>
    rcases moveKindOf_cases kind with ⟨rfl, e⟩ | ⟨rfl, e⟩ | ⟨rfl, e⟩ | ⟨rfl, e⟩ | ⟨rfl, e⟩ <;> rw [e] <;> decide

theorem styleField_iff {k n : Nat} (kind : k ≤ 4) :
    (decide (n ≤ 2) && styleOk (moveKindOf k) (styleOf n)) = true ↔ (n = 0 ∨ n = 1 ∨ n = 2) ∧ (k = 4 → n = 0) ∧ (k = 3 → n ≠ 1) := by
  rw [Bool.and_eq_true, decide_eq_true_eq]
  constructor
  · rintro ⟨style, ok⟩
    exact ⟨by omega, (styleOk_iff kind style).mp ok⟩
  · rintro ⟨style, ok⟩
    exact ⟨by omega, (styleOk_iff kind (by omega)).mpr ok⟩

/-- A field of a MOVE-SUBMIT, as R144 words it. The later ones speak of a kind that is one. -/
theorem State.moveChecks_field (s : State) (f : MoveFields) {n : Nat} (field : n < 9) (kind : 2 ≤ n → f.kind ≤ 4) :
    ∃ c, (s.moveChecks f)[n]? = some c ∧ (c = true ↔ s.moveField f (n + 1)) := by
  match n, field with
  | 0, _ =>
    refine ⟨_, rfl, decide_eq_true_iff.trans ?_⟩
    show f.crane ≤ 1 ↔ f.crane = 0 ∨ f.crane = 1
    omega
  | 1, _ => exact ⟨_, rfl, decide_eq_true_iff⟩
  | 2, _ => exact ⟨_, rfl, styleField_iff (kind (by omega))⟩
  | 3, _ =>
    refine ⟨_, rfl, decide_eq_true_iff.trans ?_⟩
    show f.suspendable ≤ 1 ↔ f.suspendable = 0 ∨ f.suspendable = 1
    omega
  | 4, _ =>
    refine ⟨_, rfl, ?_⟩
    rcases moveKindOf_cases (kind (by omega)) with ⟨e, -⟩ | ⟨e, -⟩ | ⟨e, -⟩ | ⟨e, -⟩ | ⟨e, -⟩ <;> simp [State.moveField, e, moveKindOf, Config.slots, absent]
    all_goals exact decide_eq_true_iff
  | 5, _ =>
    refine ⟨_, rfl, decide_eq_true_iff.trans ?_⟩
    rcases moveKindOf_cases (kind (by omega)) with ⟨e, -⟩ | ⟨e, -⟩ | ⟨e, -⟩ | ⟨e, -⟩ | ⟨e, -⟩ <;> simp [State.moveField, e, moveKindOf, sourceTypeOf, absent]
  | 6, _ =>
    refine ⟨_, rfl, ?_⟩
    rcases moveKindOf_cases (kind (by omega)) with ⟨e, -⟩ | ⟨e, -⟩ | ⟨e, -⟩ | ⟨e, -⟩ | ⟨e, -⟩ <;> simp [State.moveField, e, moveKindOf, Config.cells, absent]
    all_goals exact decide_eq_true_iff
  | 7, _ =>
    refine ⟨_, rfl, decide_eq_true_iff.trans ?_⟩
    rcases moveKindOf_cases (kind (by omega)) with ⟨e, -⟩ | ⟨e, -⟩ | ⟨e, -⟩ | ⟨e, -⟩ | ⟨e, -⟩ <;> simp [State.moveField, e, moveKindOf, destTypeOf]
  | 8, _ =>
    refine ⟨_, rfl, ?_⟩
    rcases moveKindOf_cases (kind (by omega)) with ⟨e, -⟩ | ⟨e, -⟩ | ⟨e, -⟩ | ⟨e, -⟩ | ⟨e, -⟩ <;> simp [State.moveField, e, moveKindOf, Config.segments]
    exact decide_eq_true_iff

/-- The kind of a MOVE-SUBMIT whose first two fields are in order. -/
theorem State.kind_of_moveField {s : State} {f : MoveFields} (field : s.moveField f 2) : f.kind ≤ 4 := field

theorem State.moveChecks_bad {s : State} {f : MoveFields} {n : Nat} (first : 1 ≤ n) (last : n ≤ 9) (bad : ¬s.moveField f n)
    (before : ∀ k, 1 ≤ k → k < n → s.moveField f k) : firstBad (s.moveChecks f) = some n := by
  obtain ⟨m, rfl⟩ := Nat.exists_eq_add_of_le' first
  have kind : ∀ {k}, k ≤ m → 2 ≤ k → f.kind ≤ 4 := fun less more => State.kind_of_moveField (before 2 (by omega) (by omega))
  refine firstBad_first ?_ fun k less => ?_
  · obtain ⟨c, at_, holds⟩ := s.moveChecks_field f (n := m) (by omega) (kind (Nat.le_refl m))
    rw [at_, Bool.eq_false_iff.mpr (mt holds.mp bad)]
  · obtain ⟨c, at_, holds⟩ := s.moveChecks_field f (n := k) (by omega) (kind (Nat.le_of_lt less))
    rw [at_, holds.mpr (before (k + 1) (by omega) (by omega))]

theorem State.moveChecks_good {s : State} {f : MoveFields} (all : ∀ n, 1 ≤ n → n ≤ 9 → s.moveField f n) : firstBad (s.moveChecks f) = none := by
  refine (firstBad_eq_none _).mpr fun c mem => ?_
  obtain ⟨m, less, at_⟩ := List.mem_iff_getElem.mp mem
  obtain ⟨d, found, holds⟩ := s.moveChecks_field f (n := m) less fun _ => State.kind_of_moveField (all 2 (by omega) (by omega))
  rw [List.getElem?_eq_getElem less, at_] at found
  exact Option.some.inj found ▸ holds.mpr (all (m + 1) (by omega) less)

/-! ## The checks of R145 -/

theorem firstRefusal_first {l : List (Option Reply)} {n : Nat} {r : Reply} (fails : l[n]?.join = some r)
    (before : ∀ m, m < n → l[m]?.join = none) : firstRefusal l = some r := by
  induction l generalizing n with
  | nil => simp at fails
  | cons c l ih =>
    cases n with
    | zero =>
      obtain rfl : c = some r := by simpa using fails
      rfl
    | succ n =>
      obtain rfl : c = none := by simpa using before 0 (Nat.succ_pos n)
      exact ih (n := n) (by simpa using fails) fun m less => by simpa using before (m + 1) (Nat.succ_lt_succ less)

theorem firstRefusal_none {l : List (Option Reply)} (passes : ∀ m : Nat, l[m]?.join = none) : firstRefusal l = none := by
  induction l with
  | nil => rfl
  | cons c l ih =>
    obtain rfl : c = none := by simpa using passes 0
    exact ih fun m => by simpa using passes (m + 1)

/-- A list of checks that ends in another list's first refusal, taken as one list. -/
theorem firstRefusal_join (l m : List (Option Reply)) : firstRefusal (l ++ [firstRefusal m]) = firstRefusal (l ++ m) := by
  induction l with
  | nil => cases e : firstRefusal m <;> simp [firstRefusal, e]
  | cons c l ih =>
    cases c with
    | none => exact ih
    | some r => rfl

/-- The stock checks of a move (R106), of one that carries a piece. -/
def State.stockChecks (s : State) (m : Move) : List (Option Reply) :=
  m.piece.elim [] fun n => [ if s.standsAt m.crane m.source n then none else some { result := .notFound },
      s.sourceDirectionRefusal m.source, s.destDirectionRefusal m.dest, s.capacityRefusal n m.dest, s.weightRefusal n m.dest,
      s.burialRefusal n m.source ]

/-- The checks of R145 before the stock checks. -/
def State.tableChecks (s : State) (m : Move) : List (Option Reply) :=
  [ if s.emptySlot.isSome && (s.work m.crane).queue.length < Config.queueMax then none else some { result := .full },
    if m.style = .preempt && (s.findSlot Config.moveSlots (fun o => o.crane = m.crane && o.style = .preempt)).isSome then
      some { result := .full }
    else none,
    (s.work m.crane).orphan.bind fun n => if m.kind = .setDown && m.piece = some n then none else some { result := .state, data := .slot n },
    m.piece.bind fun n => (s.piece n).claim.map (fun c => { result := .claimed, data := .serial c }),
    s.sourceBedRefusal m.source ]

/-- The checks of R145 in one list, the stock checks with them. -/
theorem State.submitRefusal_checks (s : State) (m : Move) : s.submitRefusal m = firstRefusal (s.tableChecks m ++ s.stockChecks m) := by
  rw [← firstRefusal_join]
  unfold State.submitRefusal State.tableChecks State.stockChecks
  cases m.piece <;> cases (s.work m.crane).orphan <;> rfl

theorem State.findSlot_isSome {s : State} {n : Nat} {f : Move → Bool} :
    (s.findSlot n f).isSome = true ↔ ∃ i m, i < n ∧ s.move i = some m ∧ f m = true := by
  unfold State.findSlot
  rw [List.find?_isSome]
  constructor
  · rintro ⟨i, mem, holds⟩
    cases held : s.move i with
    | none => simp [held] at holds
    | some m => exact ⟨i, m, List.mem_range.mp mem, held, by simpa [held] using holds⟩
  · rintro ⟨i, m, less, held, holds⟩
    exact ⟨i, List.mem_range.mpr less, by simpa [held] using holds⟩

theorem State.emptySlot_isSome {s : State} : s.emptySlot.isSome = true ↔ ∃ i, i < 16 ∧ s.move i = none := by
  unfold State.emptySlot
  rw [List.find?_isSome]
  simp only [List.mem_range, Option.isNone_iff_eq_none]
  exact Iff.rfl

/-- A check passes exactly where `P` holds, and refuses with `r` where it does not. -/
def decides (c : Option Reply) (P : Prop) (r : Reply) : Prop := (P → c = none) ∧ (¬P → c = some r)

theorem decides_if {P : Prop} [Decidable P] {r : Reply} : decides (if P then none else some r) P r :=
  ⟨fun h => if_pos h, fun h => if_neg h⟩

theorem decides_unless {P : Prop} [Decidable P] {r : Reply} : decides (if P then some r else none) (¬P) r :=
  ⟨fun h => if_neg h, fun h => if_pos (not_not.mp h)⟩

theorem decides_passes {P : Prop} (holds : P) {r : Reply} : decides none P r := ⟨fun _ => rfl, fun h => absurd holds h⟩

theorem decides.congr {c : Option Reply} {P Q : Prop} {r : Reply} (h : decides c P r) (same : Q ↔ P) : decides c Q r :=
  ⟨fun q => h.1 (same.mp q), fun q => h.2 (mt same.mpr q)⟩

/-! ## The stock checks (R106, R107, R113) -/

theorem State.standsAt_bed {s : State} {x : Crane} {b n : Nat} :
    s.standsAt x (some (.bed b)) n = true ↔ (s.piece n).state = .cast ∧ ∃ k, (s.piece n).location = some (.bed b k) := by
  simp only [State.standsAt]
  cases (s.piece n).location with
  | none => simp
  | some place => cases place <;> simp

theorem State.standsAt_cell {s : State} {x : Crane} {c n : Nat} :
    s.standsAt x (some (.cell c)) n = true ↔ (s.piece n).state = .stock ∧ ∃ k, (s.piece n).location = some (.cell c k) := by
  simp only [State.standsAt]
  cases (s.piece n).location with
  | none => simp
  | some place => cases place <;> simp

theorem State.standsAt_hook {s : State} {x : Crane} {n : Nat} :
    s.standsAt x none n = true ↔ (s.piece n).state = .hook ∧ (s.piece n).location = some (.crane x) := by
  unfold State.standsAt
  simp

theorem Cell.direction_into {c : Cell} : c.direction = .into ↔ c.arrivals ≠ [] := by
  unfold Cell.direction
  cases c.arrivals with
  | nil =>
    simp only [List.length_nil, Nat.lt_irrefl, if_false, ne_eq, not_true_eq_false, iff_false]
    split <;> simp
  | cons => simp

theorem Cell.direction_out {c : Cell} : c.direction = .out ↔ c.arrivals = [] ∧ 0 < c.pendingOut := by
  unfold Cell.direction
  cases c.arrivals with
  | nil => simp
  | cons => simp

section
variable {s : State} {n c b : Nat}

theorem State.sourceDirection_decides : decides (s.sourceDirectionRefusal (some (.cell c))) ((s.cell c).arrivals = [])
    { result := .inUse, data := .side .source } :=
  decides_unless.congr (by rw [Cell.direction_into, not_not])

theorem State.destDirection_cell : decides (s.destDirectionRefusal (.cell c)) ((s.cell c).arrivals ≠ [] ∨ (s.cell c).pendingOut = 0)
    { result := .inUse, data := .side .destination } :=
  decides_unless.congr (by rw [Cell.direction_out, not_and_or, Nat.pos_iff_ne_zero, not_not])

theorem State.destDirection_bay : decides (s.destDirectionRefusal (.bay b)) ((s.bay b).opened = true)
    { result := .state, data := .side .destination } := decides_if

theorem State.capacity_cell : decides (s.capacityRefusal n (.cell c))
    ((s.cell c).stack.length + (s.cell c).arrivals.length + 1 ≤ (s.cellLayout c).limit) { result := .full } := decides_if

theorem State.capacity_bay : decides (s.capacityRefusal n (.bay b))
    ((s.bay b).load + (s.bay b).pendingWeight + (s.piece n).weight ≤ (s.bay b).limit.getD 0
      ∧ (s.bay b).shipped.length + (s.bay b).pendingCount + 1 ≤ 16) { result := .full } :=
  decides_if.congr (by rw [Bool.and_eq_true, decide_eq_true_eq, decide_eq_true_eq]; exact Iff.rfl)

theorem State.weight_cell : decides (s.weightRefusal n (.cell c)) (∀ k, s.lastTo c = some k → (s.piece n).weight ≤ (s.piece k).weight)
    { result := .weight, data := .weight ((s.lastTo c).getD 0) (s.piece ((s.lastTo c).getD 0)).weight } := by
  have top : (s.cell c).projectedTop = s.lastTo c := rfl
  unfold State.weightRefusal
  simp only [top]
  cases s.lastTo c with
  | none => exact decides_passes nofun
  | some k => exact decides_if.congr (by simp)

theorem State.burial_cell : decides (s.burialRefusal n (some (.cell c))) (s.uncovered c n = [])
    { result := .buried, data := .count (s.uncovered c n).length } := by
  have count : s.unclaimedAbove c n = (s.uncovered c n).length := rfl
  unfold State.burialRefusal
  simp only [count]
  exact decides_if.congr List.length_eq_zero_iff.symm

end

theorem State.sourceBed_decides {s : State} {b : Nat} : decides (s.sourceBedRefusal (some (.bed b)))
    ((s.bed b).state ≠ .empty ∧ (s.bed b).state ≠ .setup ∧ (s.bed b).state ≠ .casting) { result := .state, data := .bedState (s.bed b).state } := by
  simp only [State.sourceBedRefusal]
  cases (s.bed b).state <;> simp [decides]

/-! ## The eleven checks of a request (R145) -/

/-- The eleven checks of a request's move. -/
def State.submitChecks (s : State) (f : MoveFields) : List (Option Reply) := s.tableChecks (s.newMove f) ++ s.stockChecks (s.newMove f)

/-- The first five, those of the table, the piece and the bed. -/
theorem State.tableChecks_decide {s : State} {f : MoveFields} (fields : ∀ n, 1 ≤ n → n ≤ 9 → s.moveField f n) {n : Nat} (check : n < 5) :
    decides (s.submitChecks f)[n]?.join (s.submitCheck f (n + 1)) (s.submitAnswer f (n + 1)) := by
  have kind := moveKindOf_cases (State.kind_of_moveField (fields 2 (by omega) (by omega)))
  have style : f.style = 0 ∨ f.style = 1 ∨ f.style = 2 := (fields 3 (by omega) (by omega)).1
  have crane : (s.newMove f).crane = submitCrane f := craneOf_submitCrane f
  have preempt : (s.newMove f).style = .preempt ↔ f.style = 2 := by
    show styleOf f.style = .preempt ↔ _
    rcases style with e | e | e <;> rw [e] <;> decide
  match n, check with
  | 0, _ =>
    refine decides_if.congr ?_
    rw [Bool.and_eq_true, State.emptySlot_isSome, decide_eq_true_eq, crane]
    exact Iff.rfl
  | 1, _ =>
    refine decides_unless.congr ?_
    rw [Bool.and_eq_true, decide_eq_true_eq, State.findSlot_isSome, preempt, crane]
    show (f.style = 2 → ∀ i m, i < 16 → s.move i = some m → m.crane = submitCrane f → m.style ≠ .preempt) ↔ _
    simp only [Config.moveSlots, Bool.and_eq_true, decide_eq_true_eq, not_and, not_exists, ne_eq]
  | 2, _ =>
    show decides ((s.work (s.newMove f).crane).orphan.bind fun n => _) _ { result := .state, data := .slot _ }
    rw [crane]
    cases orphan : (s.work (submitCrane f)).orphan with
    | none => exact decides_passes (P := s.submitCheck f 3) fun k held => absurd (orphan.symm.trans held) (by simp)
    | some k =>
      refine decides_if.congr ?_
      show (∀ j, (s.work (submitCrane f)).orphan = some j → f.kind = 4 ∧ f.piece = j) ↔ _
      rw [orphan, Bool.and_eq_true, decide_eq_true_eq, decide_eq_true_eq]
      show _ ↔ moveKindOf f.kind = .setDown ∧ pieceOfFields f = some k
      unfold pieceOfFields
      rcases kind with ⟨e, k⟩ | ⟨e, k⟩ | ⟨e, k⟩ | ⟨e, k⟩ | ⟨e, k⟩ <;> rw [k] <;> simp [e]
  | 3, _ =>
    show decides ((pieceOfFields f).bind fun n => _) (f.kind ≠ 3 → (s.piece f.piece).claim = none) { result := .claimed, data := .serial _ }
    unfold pieceOfFields
    rcases kind with ⟨e, k⟩ | ⟨e, k⟩ | ⟨e, k⟩ | ⟨e, k⟩ | ⟨e, k⟩
    case inr.inr.inr.inl =>
      rw [if_pos k]
      exact decides_passes fun other => absurd e other
    all_goals
      rw [if_neg (by rw [k]; decide)]
      cases claim : (s.piece f.piece).claim with
      | none => exact ⟨fun _ => by simp [claim], fun h => absurd (fun _ => rfl) h⟩
      | some c => exact ⟨fun h => absurd (h (by omega)) nofun, fun _ => by simp [claim]⟩
  | 4, _ =>
    show decides (s.sourceBedRefusal (sourceOfFields f)) (f.kind = 0 → (s.bed f.sourceNum).state ≠ .empty ∧ (s.bed f.sourceNum).state ≠ .setup
      ∧ (s.bed f.sourceNum).state ≠ .casting) { result := .state, data := .bedState _ }
    unfold sourceOfFields
    rcases kind with ⟨e, k⟩ | ⟨e, k⟩ | ⟨e, k⟩ | ⟨e, k⟩ | ⟨e, k⟩ <;> rw [k]
    case inl =>
      exact State.sourceBed_decides.congr (by simp [e])
    all_goals exact decides_passes fun other => absurd other (by omega)

/-- The other six, the stock checks. A PARK, which carries no piece, has none. -/
theorem State.stockChecks_decide {s : State} {f : MoveFields} (fields : ∀ n, 1 ≤ n → n ≤ 9 → s.moveField f n) {n : Nat} (check : n < 6) :
    decides (s.submitChecks f)[n + 5]?.join (s.submitCheck f (n + 6)) (s.submitAnswer f (n + 6)) := by
  have kind := State.kind_of_moveField (fields 2 (by omega) (by omega))
  have crane : (s.newMove f).crane = submitCrane f := craneOf_submitCrane f
  have place : (s.submitChecks f)[n + 5]? = (s.stockChecks (s.newMove f))[n]? := List.getElem?_append_right (by simp [State.tableChecks])
  by_cases park : f.kind = 3
  · have absent : (s.newMove f).piece = none := if_pos (by rw [park]; rfl)
    have passes : (s.submitChecks f)[n + 5]?.join = none := by
      rw [place]
      unfold State.stockChecks
      rw [absent]
      simp
    rw [passes]
    refine decides_passes ?_
    match n, check with
    | 0, _ => exact ⟨by omega, by omega, by omega⟩
    | 1, _ => intro; omega
    | 2, _ => exact ⟨by omega, by omega⟩
    | 3, _ => exact ⟨by omega, by omega⟩
    | 4, _ => intro; omega
    | 5, _ => intro; omega
  · have piece : (s.newMove f).piece = some f.piece := if_neg fun same => by
      rcases moveKindOf_cases kind with ⟨e, k⟩ | ⟨e, k⟩ | ⟨e, k⟩ | ⟨e, k⟩ | ⟨e, k⟩ <;> rw [k] at same <;> simp_all
    rw [place]
    unfold State.stockChecks
    rw [piece]
    dsimp only [Option.elim]
    have sides : (f.kind = 0 ∧ (s.newMove f).source = some (.bed f.sourceNum) ∧ (s.newMove f).dest = .cell f.destNum)
        ∨ (f.kind = 1 ∧ (s.newMove f).source = some (.cell f.sourceNum) ∧ (s.newMove f).dest = .cell f.destNum)
        ∨ (f.kind = 2 ∧ (s.newMove f).source = some (.cell f.sourceNum) ∧ (s.newMove f).dest = .bay f.destNum)
        ∨ (f.kind = 4 ∧ (s.newMove f).source = none ∧ (s.newMove f).dest = .cell f.destNum) := by
      show (_ ∧ sourceOfFields f = _ ∧ destOfFields f = _) ∨ (_ ∧ sourceOfFields f = _ ∧ destOfFields f = _)
        ∨ (_ ∧ sourceOfFields f = _ ∧ destOfFields f = _) ∨ (_ ∧ sourceOfFields f = _ ∧ destOfFields f = _)
      unfold sourceOfFields destOfFields
      rcases moveKindOf_cases kind with ⟨e, k⟩ | ⟨e, k⟩ | ⟨e, k⟩ | ⟨e, k⟩ | ⟨e, k⟩ <;> rw [k] <;> simp_all
    match n, check with
    | 0, _ =>
      refine decides_if.congr ?_
      show ((f.kind = 0 → _) ∧ (f.kind = 1 ∨ f.kind = 2 → _) ∧ (f.kind = 4 → _)) ↔ _
      rw [crane]
      rcases sides with ⟨e, source, -⟩ | ⟨e, source, -⟩ | ⟨e, source, -⟩ | ⟨e, source, -⟩ <;> rw [source]
      · rw [State.standsAt_bed]; simp [e]
      · rw [State.standsAt_cell]; simp [e]
      · rw [State.standsAt_cell]; simp [e]
      · rw [State.standsAt_hook]; simp [e]
    | 1, _ =>
      show decides (s.sourceDirectionRefusal _) (f.kind = 1 ∨ f.kind = 2 → _) _
      rcases sides with ⟨e, source, -⟩ | ⟨e, source, -⟩ | ⟨e, source, -⟩ | ⟨e, source, -⟩ <;> rw [source]
      · exact decides_passes (by omega)
      · exact State.sourceDirection_decides.congr (by simp [e])
      · exact State.sourceDirection_decides.congr (by simp [e])
      · exact decides_passes (by omega)
    | 2, _ =>
      show decides (s.destDirectionRefusal _) ((f.kind = 0 ∨ f.kind = 1 ∨ f.kind = 4 → _) ∧ (f.kind = 2 → _))
        { result := if f.kind = 2 then .state else .inUse, data := .side .destination }
      rcases sides with ⟨e, -, dest⟩ | ⟨e, -, dest⟩ | ⟨e, -, dest⟩ | ⟨e, -, dest⟩ <;> rw [dest]
      · rw [if_neg (by omega)]; exact State.destDirection_cell.congr (by simp [e])
      · rw [if_neg (by omega)]; exact State.destDirection_cell.congr (by simp [e])
      · rw [if_pos e]; exact State.destDirection_bay.congr (by simp [e])
      · rw [if_neg (by omega)]; exact State.destDirection_cell.congr (by simp [e])
    | 3, _ =>
      show decides (s.capacityRefusal _ _) ((f.kind = 0 ∨ f.kind = 1 ∨ f.kind = 4 → _) ∧ (f.kind = 2 → _)) { result := .full }
      rcases sides with ⟨e, -, dest⟩ | ⟨e, -, dest⟩ | ⟨e, -, dest⟩ | ⟨e, -, dest⟩ <;> rw [dest]
      · exact State.capacity_cell.congr (by simp [e])
      · exact State.capacity_cell.congr (by simp [e])
      · exact State.capacity_bay.congr (by simp [e])
      · exact State.capacity_cell.congr (by simp [e])
    | 4, _ =>
      show decides (s.weightRefusal _ _) (f.kind = 0 ∨ f.kind = 1 ∨ f.kind = 4 → _) _
      rcases sides with ⟨e, -, dest⟩ | ⟨e, -, dest⟩ | ⟨e, -, dest⟩ | ⟨e, -, dest⟩ <;> rw [dest]
      · exact State.weight_cell.congr (by simp [e])
      · exact State.weight_cell.congr (by simp [e])
      · exact decides_passes (by omega)
      · exact State.weight_cell.congr (by simp [e])
    | 5, _ =>
      show decides (s.burialRefusal _ _) (f.kind = 1 ∨ f.kind = 2 → _) _
      rcases sides with ⟨e, source, -⟩ | ⟨e, source, -⟩ | ⟨e, source, -⟩ | ⟨e, source, -⟩ <;> rw [source]
      · exact decides_passes (by omega)
      · exact State.burial_cell.congr (by simp [e])
      · exact State.burial_cell.congr (by simp [e])
      · exact decides_passes (by omega)

theorem State.submitChecks_decide {s : State} {f : MoveFields} (fields : ∀ n, 1 ≤ n → n ≤ 9 → s.moveField f n) {n : Nat} (check : n < 11) :
    decides (s.submitChecks f)[n]?.join (s.submitCheck f (n + 1)) (s.submitAnswer f (n + 1)) := by
  by_cases table : n < 5
  · exact State.tableChecks_decide fields table
  · obtain ⟨m, rfl⟩ := Nat.exists_eq_add_of_le' (Nat.le_of_not_lt table)
    exact State.stockChecks_decide fields (by omega)

theorem State.submitRefusal_first {s : State} {f : MoveFields} {n : Nat} (fields : ∀ n, 1 ≤ n → n ≤ 9 → s.moveField f n) (first : 1 ≤ n)
    (last : n ≤ 11) (fails : ¬s.submitCheck f n) (before : ∀ k, 1 ≤ k → k < n → s.submitCheck f k) :
    s.submitRefusal (s.newMove f) = some (s.submitAnswer f n) := by
  obtain ⟨m, rfl⟩ := Nat.exists_eq_add_of_le' first
  rw [State.submitRefusal_checks]
  exact firstRefusal_first ((State.submitChecks_decide fields (by omega)).2 fails) fun k less =>
    (State.submitChecks_decide fields (by omega)).1 (before (k + 1) (by omega) (by omega))

theorem State.submitRefusal_none {s : State} {f : MoveFields} (fields : ∀ n, 1 ≤ n → n ≤ 9 → s.moveField f n)
    (all : ∀ n, 1 ≤ n → n ≤ 11 → s.submitCheck f n) : s.submitRefusal (s.newMove f) = none := by
  rw [State.submitRefusal_checks]
  refine firstRefusal_none fun k => ?_
  by_cases check : k < 11
  · exact (State.submitChecks_decide fields check).1 (all (k + 1) (by omega) (by omega))
  · have short : (s.tableChecks (s.newMove f) ++ s.stockChecks (s.newMove f)).length ≤ 11 := by
      unfold State.tableChecks State.stockChecks
      cases (s.newMove f).piece <;> simp
    rw [List.getElem?_eq_none (by omega)]
    rfl

/-! ## O36 -/

/-- A MOVE-SUBMIT that the move unit refuses (R144, R145). -/
theorem exec_moveSubmit_refused {s : State} {h : Header} {f : MoveFields} {r : Reply} (a : s.planner h)
    (refused : ∀ l, ({ s with lnk := l } : State).submitMove f = ({ s with lnk := l }, r)) :
    exec (.moveSubmit h (moveWritten f)) s = .next (s.answered h .moveSubmit r) :=
  exec_planner (c := .moveSubmit h (moveWritten f)) rfl a rfl (fun l => (moveBody_written _ f _).trans (refused l)) rfl rfl rfl

/-- Settles O36: the first field that is not in order, or else the first check that fails. -/
theorem moveRefused : Obligations.MoveRefused := by
  intro s h f n a first
  refine ⟨fun last bad before => exec_moveSubmit_refused a fun l => ?_, fun last fields fails before => exec_moveSubmit_refused a fun l => ?_⟩
  · have field : firstBad (({ s with lnk := l } : State).moveChecks f) = some n := State.moveChecks_bad first last bad before
    unfold State.submitMove
    rw [field]
    rfl
  · have order : firstBad (({ s with lnk := l } : State).moveChecks f) = none := State.moveChecks_good fields
    have refusal : ({ s with lnk := l } : State).submitRefusal (({ s with lnk := l } : State).newMove f) = some (s.submitAnswer f n) :=
      State.submitRefusal_first (s := { s with lnk := l }) fields first last fails before
    unfold State.submitMove
    rw [order]
    dsimp only
    rw [refusal]

end Sys2Proof.Machine
end

section
/-! SUPPORT. Proofs/Withdrawn.lean: what a withdrawn refusal and a move set aside leave, and the examination of a queue (R130, R148). -/

namespace Sys2Proof.Machine

/-! ## The deadlock pair and the condition sets alone -/

theorem State.pairOnly.refl (s : State) : s.pairOnly s := ⟨_, _, rfl⟩

theorem State.pairOnly.trans {s t u : State} (h : s.pairOnly t) (g : t.pairOnly u) : s.pairOnly u := by
  obtain ⟨_, _, rfl⟩ := h
  obtain ⟨_, _, rfl⟩ := g
  exact ⟨_, _, rfl⟩

section
variable {s t : State} (h : s.pairOnly t)
include h

theorem State.pairOnly.mvu : t.mvu = s.mvu := by
  obtain ⟨_, _, rfl⟩ := h
  rfl

theorem State.pairOnly.move (i : Nat) : t.move i = s.move i := by
  obtain ⟨_, _, rfl⟩ := h
  rfl

theorem State.pairOnly.work (x : Crane) : t.work x = s.work x := by
  obtain ⟨_, _, rfl⟩ := h
  rfl

theorem State.pairOnly.crane (x : Crane) : t.crane x = s.crane x := by
  obtain ⟨_, _, rfl⟩ := h
  rfl

theorem State.pairOnly.vacates : t.rru.vacates = s.rru.vacates := by
  obtain ⟨_, _, rfl⟩ := h
  rfl

theorem State.pairOnly.frame : { t with rru := s.rru, cnd := s.cnd } = s := by
  obtain ⟨_, _, rfl⟩ := h
  rfl

end

theorem State.setCrane_self (s : State) (x : Crane) : s.setCrane x (s.crane x) = s := by cases x <;> rfl

theorem State.setWork_self (s : State) (x : Crane) : s.setWork x (s.work x) = s := by cases x <;> rfl

theorem State.move_setCrane (s : State) (x : Crane) (r : CraneRec) (i : Nat) : (s.setCrane x r).move i = s.move i := by cases x <;> rfl

theorem State.work_setCrane (s : State) (x : Crane) (r : CraneRec) (y : Crane) : (s.setCrane x r).work y = s.work y := by cases x <;> rfl

theorem State.crane_setWork (s : State) (x : Crane) (w : CraneWork) (y : Crane) : (s.setWork x w).crane y = s.crane y := by cases x <;> rfl

theorem State.crane_setMove (s : State) (i : Nat) (r : Option Move) (y : Crane) : (s.setMove i r).crane y = s.crane y := rfl

/-! ## Withdrawals (R130) -/

/-- A standing refusal after the withdrawal of the one that names a serial. -/
def refusalWithout (r : Option Refused) (n : Nat) : Option Refused := if r.map Refused.serial = some n then none else r

theorem refusalWithout_eq_some {r : Option Refused} {n : Nat} {q : Refused} : refusalWithout r n = some q ↔ r = some q ∧ n ≠ q.serial := by
  unfold refusalWithout
  cases r with
  | none => simp
  | some p =>
    by_cases same : p.serial = n
    · subst same
      simp only [Option.map_some, if_true, Option.some.injEq, ne_eq]
      exact ⟨nofun, fun ⟨e, other⟩ => absurd (congrArg Refused.serial e) other⟩
    · simp only [Option.map_some, Option.some.injEq, same, if_false]
      exact ⟨fun e => ⟨e, fun at_q => same ((congrArg Refused.serial e).trans at_q.symm)⟩, And.left⟩

theorem State.withdraw_pair (s : State) (x : Crane) : (s.setCrane x { s.crane x with refusal := none }).pairOnly (s.withdraw x) := by
  unfold State.withdraw
  split
  · exact State.endDeadlockOf_pair _ _
  · next none =>
    have same : { s.crane x with refusal := Option.none } = s.crane x := by rw [← none]
    rw [same, State.setCrane_self]
    exact .refl s

theorem State.withdrawOf_pair (s : State) (x : Crane) (n : Nat) :
    (s.setCrane x { s.crane x with refusal := refusalWithout (s.crane x).refusal n }).pairOnly (s.withdrawOf x n) := by
  unfold State.withdrawOf refusalWithout
  split
  · exact s.withdraw_pair x
  · rw [State.setCrane_self]
    exact .refl s

theorem State.withdrawOf_same {s : State} {x : Crane} {n : Nat} (other : (s.crane x).refusal.map Refused.serial ≠ some n) :
    s.withdrawOf x n = s := if_neg other

theorem State.setAside_pair (s : State) (i : Nat) (m : Move) (st : MoveState) (why : Option WaitReason) :
    ((s.setMove i (some { m with state := st, reason := why })).setCrane m.crane
      { s.crane m.crane with refusal := refusalWithout (s.crane m.crane).refusal m.serial }).pairOnly (s.setAside i m st why) :=
  State.withdrawOf_pair _ _ _

theorem State.move_setAside (s : State) (i : Nat) (m : Move) (st : MoveState) (why : Option WaitReason) (j : Nat) :
    (s.setAside i m st why).move j = if i = j then some { m with state := st, reason := why } else s.move j := by
  rw [(s.setAside_pair i m st why).move, State.move_setCrane, State.move_setMove]

theorem State.work_setAside (s : State) (i : Nat) (m : Move) (st : MoveState) (why : Option WaitReason) (y : Crane) :
    (s.setAside i m st why).work y = s.work y := by
  rw [(s.setAside_pair i m st why).work, State.work_setCrane, State.work_setMove]

theorem State.crane_setAside (s : State) (i : Nat) (m : Move) (st : MoveState) (why : Option WaitReason) (y : Crane) :
    (s.setAside i m st why).crane y
      = if m.crane = y then { s.crane m.crane with refusal := refusalWithout (s.crane m.crane).refusal m.serial } else s.crane y := by
  rw [(s.setAside_pair i m st why).crane, State.crane_setCrane, State.crane_setMove]

/-! ## The examination of a queue (R148) -/

theorem State.examine_append (x : Crane) (p q : List Entry) (b : Bool) (f : Option Nat) (s : State) :
    State.examine x (p ++ q) b f s = State.examine x q (b || p.contains .barrier) (State.examine x p b f s).2 (State.examine x p b f s).1 := by
  induction p generalizing b f s with
  | nil => simp [State.examine]
  | cons e p ih =>
    cases e with
    | barrier =>
      show State.examine x (p ++ q) true f s = _
      rw [ih]
      simp [State.examine]
    | move i =>
      have rest : (Entry.move i :: p).contains Entry.barrier = p.contains Entry.barrier := rfl
      rw [rest]
      cases held : s.move i with
      | none => simp only [List.cons_append, State.examine, held, ih]
      | some m =>
        simp only [List.cons_append, State.examine, held]
        repeat' split
        all_goals exact ih _ _ _

/-- What R148 asks of the lane, as the examination has it. -/
theorem State.lane_condition (s : State) (x : Crane) (m : Move) :
    ((s.work x).lane ≠ .none && m.kind.lane = false && m.kind ≠ .setDown) = true ↔ s.lanePasses x m := by
  unfold State.lanePasses
  rw [Bool.and_eq_true, Bool.and_eq_true, decide_eq_true_eq, decide_eq_true_eq, decide_eq_true_eq, and_assoc]
  refine and_congr_right fun _ => ?_
  cases m.kind <;> decide

section
variable {s : State} {x : Crane} {q : List Entry} {i : Nat} {m : Move} {b : Bool}

theorem State.examine_suspended (held : s.move i = some m) (suspended : m.state = .suspended) :
    State.examine x (.move i :: q) b none s = State.examine x q b none s := by
  simp [State.examine, held, suspended]

theorem State.examine_barred (held : s.move i = some m) (other : m.state ≠ .suspended) :
    State.examine x (.move i :: q) true none s = State.examine x q true none (s.setAside i m .waiting (some .barrier)) := by
  simp [State.examine, held, other]

theorem State.examine_lane (held : s.move i = some m) (other : m.state ≠ .suspended) (passes : s.lanePasses x m) :
    State.examine x (.move i :: q) false none s = State.examine x q false none (s.setAside i m .waiting (some .lane)) := by
  have lane := (s.lane_condition x m).mpr passes
  simp only [State.examine, held]
  rw [if_neg (by simp), if_neg other, if_neg (by simp), if_pos lane]

theorem State.examine_head (held : s.move i = some m) (other : m.state ≠ .suspended) (stands : ¬s.lanePasses x m) :
    State.examine x (.move i :: q) false none s = State.examine x q false (some i) s := by
  have lane := mt (s.lane_condition x m).mp stands
  simp only [State.examine, held]
  rw [if_neg (by simp), if_neg other, if_neg (by simp), if_neg lane]

theorem State.examine_found {k : Nat} (held : s.move i = some m) : State.examine x (.move i :: q) b (some k) s
    = State.examine x q b (some k) (if m.standing then s.setAside i m .queued none else s) := by
  simp [State.examine, held]

end

theorem State.lanePasses_congr {s t : State} {x : Crane} {m m' : Move} (work : t.work x = s.work x) (kind : m'.kind = m.kind) :
    t.lanePasses x m' ↔ s.lanePasses x m := by
  unfold State.lanePasses
  rw [work, kind]

/-- Once the head candidate is found, it stays. -/
theorem State.examine_keeps (x : Crane) (q : List Entry) (b : Bool) (k : Nat) (s : State) : (State.examine x q b (some k) s).2 = some k := by
  induction q generalizing b s with
  | nil => rfl
  | cons e q ih =>
    cases e with
    | barrier => exact ih _ _
    | move i =>
      cases held : s.move i with
      | none =>
        simp only [State.examine, held]
        exact ih _ _
      | some m =>
        rw [State.examine_found held]
        exact ih _ _

/-- The moves before the head are SUSPENDED, or passed over by the lane: none of them is the candidate, and the others stand. -/
theorem State.examine_prefix {x : Crane} {p : List Entry} {s : State}
    (passed : ∀ e ∈ p, ∃ k q, e = .move k ∧ s.move k = some q ∧ (q.state = .suspended ∨ s.lanePasses x q)) :
    (State.examine x p false none s).2 = none ∧ (State.examine x p false none s).1.work x = s.work x
      ∧ p.contains .barrier = false
      ∧ ∀ j o, s.move j = some o → ¬s.lanePasses x o → (State.examine x p false none s).1.move j = some o := by
  induction p generalizing s with
  | nil => exact ⟨rfl, rfl, rfl, fun _ _ held _ => held⟩
  | cons e p ih =>
    obtain ⟨k, q, rfl, held, either⟩ := passed e List.mem_cons_self
    by_cases suspended : q.state = .suspended
    · rw [State.examine_suspended held suspended]
      exact ih fun e mem => passed e (List.mem_cons_of_mem _ mem)
    · have passes := either.resolve_left suspended
      rw [State.examine_lane held suspended passes]
      have work := s.work_setAside k q .waiting (some .lane) x
      have rest : ∀ e ∈ p, ∃ j o, e = .move j ∧ (s.setAside k q .waiting (some .lane)).move j = some o
          ∧ (o.state = .suspended ∨ (s.setAside k q .waiting (some .lane)).lanePasses x o) := fun e mem => by
        obtain ⟨j, o, rfl, at_j, stands⟩ := passed e (List.mem_cons_of_mem _ mem)
        by_cases same : k = j
        · exact ⟨j, _, rfl, (s.move_setAside k q _ _ j).trans (if_pos same), .inr ((State.lanePasses_congr work rfl).mpr passes)⟩
        · exact ⟨j, o, rfl, ((s.move_setAside k q _ _ j).trans (if_neg same)).trans at_j,
            stands.imp id (State.lanePasses_congr work rfl).mpr⟩
      obtain ⟨none, lane, bars, others⟩ := ih rest
      refine ⟨none, lane.trans work, bars, fun j o at_j stands => others j o ?_ (mt (State.lanePasses_congr work rfl).mp stands)⟩
      rw [State.move_setAside, if_neg fun same => stands ?_]
      · exact at_j
      · subst same
        exact Option.some.inj (held.symm.trans at_j) ▸ passes

end Sys2Proof.Machine
end

section
/-! SUPPORT. Proofs/Accepted.lean: a MOVE-SUBMIT that is accepted: the slot, the reservations, the queue, and the head that a PREEMPT passes
over (R146). -/

namespace Sys2Proof.Machine

/-- A planner's request in RUN, answered by its owning block from the state with the request in hand. -/
theorem exec_planner_handled {s v : State} {h : Header} {k : Kind} {body : List Nat} {owner : List Nat → State → Answer} {r : Reply} {c : Instr}
    (runs : exec c s = .next (s.request h k body owner)) (a : s.planner h) (acts : owner body (s.handled h k) = (v, r))
    (link : v.lnk = (s.handled h k).lnk) (hp : permitted k .PL = true) (hl : lockedInRun k = false) (hf : bodyFits k body.length = true) :
    exec c s = .next (({ v with lnk := s.lnk }).answered h k r) := by
  have answered := State.request_planner_answered (owner := owner) a hp hl hf (by rw [acts]; exact link)
  rw [acts] at answered
  exact runs.trans (congrArg Host.Outcome.next answered)

/-! ## Reservations (R108, R146) -/

/-- `t` differs from `s` at most in the pieces, the cells and the bays. -/
def State.goodsOnly (s t : State) : Prop := ∃ p c b, t = { s with pct := p, stk := { s.stk with cells := c, bays := b } }

theorem State.goodsOnly.refl (s : State) : s.goodsOnly s := ⟨_, _, _, rfl⟩

theorem State.goodsOnly.trans {s t u : State} (h : s.goodsOnly t) (g : t.goodsOnly u) : s.goodsOnly u := by
  obtain ⟨_, _, _, rfl⟩ := h
  obtain ⟨_, _, _, rfl⟩ := g
  exact ⟨_, _, _, rfl⟩

theorem State.reserveDest_only (s : State) (n : Nat) (d : Dest) : s.goodsOnly (s.reserveDest n d) := by
  cases d <;> exact ⟨_, _, _, rfl⟩

theorem State.reserveSource_only (s : State) (d : Option Source) : s.goodsOnly (s.reserveSource d) := by
  unfold State.reserveSource
  split <;> exact ⟨_, _, _, rfl⟩

theorem State.reserveMove_only (s : State) (m : Move) : s.goodsOnly (s.reserveMove m) := by
  unfold State.reserveMove
  split
  · exact State.goodsOnly.trans ⟨_, _, _, rfl⟩ ((State.reserveDest_only _ _ _).trans (State.reserveSource_only _ _))
  · exact .refl s

theorem State.piece_reserveDest (s : State) (n : Nat) (d : Dest) (k : Nat) : (s.reserveDest n d).piece k = s.piece k := by
  cases d <;> rfl

theorem State.piece_reserveSource (s : State) (d : Option Source) (k : Nat) : (s.reserveSource d).piece k = s.piece k := by
  unfold State.reserveSource
  split <;> rfl

theorem State.cell_reserveDest (s : State) (n : Nat) (d : Dest) (c : Nat) : (s.reserveDest n d).cell c
    = if d = .cell c then { s.cell c with arrivals := (s.cell c).arrivals ++ [n] } else s.cell c := by
  cases d with
  | cell a =>
    refine (State.cell_setCell _ _ _ _).trans ?_
    by_cases same : a = c
    · subst same
      simp
    · simp [same]
  | bay a => rfl
  | segment a => rfl

theorem State.cell_reserveSource (s : State) (d : Option Source) (c : Nat) : (s.reserveSource d).cell c
    = if d = some (.cell c) then { s.cell c with pendingOut := (s.cell c).pendingOut + 1 } else s.cell c := by
  unfold State.reserveSource
  split
  · next a =>
    refine (State.cell_setCell _ _ _ _).trans ?_
    by_cases same : a = c
    · subst same
      simp
    · simp [same]
  · next other => exact (if_neg fun same => other c same).symm

theorem State.bay_reserveDest (s : State) (n : Nat) (d : Dest) (b : Nat) : (s.reserveDest n d).bay b
    = if d = .bay b then { s.bay b with
        pendingWeight := (s.bay b).pendingWeight + (s.piece n).weight
        pendingCount := (s.bay b).pendingCount + 1 } else s.bay b := by
  cases d with
  | bay a =>
    refine (State.bay_setBay _ _ _ _).trans ?_
    by_cases same : a = b
    · subst same
      simp
    · simp [same]
  | cell a => rfl
  | segment a => rfl

theorem State.bay_reserveSource (s : State) (d : Option Source) (b : Nat) : (s.reserveSource d).bay b = s.bay b := by
  unfold State.reserveSource
  split <;> rfl

/-! ## A PREEMPT at the head (R146) -/

theorem State.passOver_cases (s : State) (x : Crane) : s.passOver x = s ∨ ∃ n m, s.headSlot x = some n ∧ s.move n = some m
    ∧ m.state = .waiting ∧ n < 16 ∧ s.passOver x = s.setAside n m .queued none := by
  unfold State.passOver
  split
  · next n head =>
    split
    · next m held =>
      split
      · next waits =>
        rw [Bool.and_eq_true, decide_eq_true_eq, decide_eq_true_eq] at waits
        exact .inr ⟨n, m, head, held, waits.1, waits.2, rfl⟩
      · exact .inl rfl
    · exact .inl rfl
  · exact .inl rfl

theorem State.passOver_head {s : State} {x : Crane} {n : Nat} {m : Move} (head : s.headSlot x = some n) (held : s.move n = some m)
    (waits : m.state = .waiting) (slot : n < 16) : s.passOver x = s.setAside n m .queued none := by
  unfold State.passOver
  rw [head]
  dsimp only
  rw [held]
  dsimp only
  rw [if_pos (by rw [Bool.and_eq_true, decide_eq_true_eq, decide_eq_true_eq]; exact ⟨waits, slot⟩)]

/-- With a move of the crane under way, or a yield, no head is passed over. -/
theorem State.passOver_idle {s : State} {x : Crane} (busy : (s.move (yieldSlot x)).isSome = true
    ∨ ∃ k o, k < 18 ∧ s.move k = some o ∧ o.crane = x ∧ o.underWay = true) : s.passOver x = s := by
  rcases s.passOver_cases x with same | ⟨n, m, head, held, waits, slot, -⟩
  · exact same
  · exfalso
    unfold State.headSlot at head
    split at head
    · next found =>
      obtain rfl := Option.some.inj head
      have under := List.find?_some found
      rw [held, Option.map_some, Option.getD_some, Bool.and_eq_true] at under
      have := under.2
      unfold Move.underWay at this
      rw [waits] at this
      exact absurd this (by decide)
    · next idle =>
      split at head
      · obtain rfl := Option.some.inj head
        exact absurd slot (by cases x <;> decide)
      · next unyielded =>
        rcases busy with live | ⟨k, o, less, at_k, crane, under⟩
        · exact unyielded live
        · have some := State.findSlot_isSome (s := s) (n := Config.tableSlots) (f := fun m => m.crane = x && m.underWay) |>.mpr
            ⟨k, o, less, at_k, by simp [crane, under]⟩
          have none : s.findSlot Config.tableSlots (fun m => m.crane = x && m.underWay) = Option.none := idle
          rw [none] at some
          exact absurd some nofun

/-- The waiting head is the head of the crane's work, also when a new move stands in an empty slot. -/
theorem State.headSlot_waiting {s t : State} {x : Crane} {j i : Nat} {o m : Move} (head : s.waitingHead x j o) (empty : s.move i = none)
    (slot : i < 16) (new : m.underWay = false) (moves : ∀ k, t.move k = if i = k then some m else s.move k) (work : t.work x = s.work x) :
    t.headSlot x = some j ∧ t.move j = some o := by
  have stays : ∀ k q, s.move k = some q → t.move k = some q := fun k q held => by
    rw [moves, if_neg]
    · exact held
    · intro same
      subst same
      exact absurd (empty.symm.trans held) nofun
  have idle : t.activeSlot x = none := by
    refine List.find?_eq_none.mpr fun k mem => ?_
    rw [moves]
    split
    · simp [new]
    · cases held : s.move k with
      | none => simp
      | some q =>
        by_cases crane : q.crane = x
        · simp [head.idle k q (List.mem_range.mp mem) held crane]
        · simp [crane]
  have unyielded : (t.yieldMove x).isSome = false := by
    have free : t.move (yieldSlot x) = none := (moves _).trans
      ((if_neg (Nat.ne_of_lt (Nat.lt_of_lt_of_le slot (sixteen_le_yieldSlot x)))).trans head.yields)
    unfold State.yieldMove
    rw [free]
    rfl
  refine ⟨?_, stays j o head.held⟩
  unfold State.headSlot
  rw [idle, unyielded]
  show t.candidate x = some j
  obtain ⟨a, at_a, before⟩ := head.head
  obtain ⟨less, entry⟩ := List.getElem?_eq_some_iff.mp at_a
  have split : (t.work x).queue = (s.work x).queue.take a ++ .move j :: (s.work x).queue.drop (a + 1) := by
    rw [work, ← entry, ← List.drop_eq_getElem_cons less, List.take_append_drop]
  have passed : ∀ e ∈ (s.work x).queue.take a, ∃ k q, e = .move k ∧ t.move k = some q ∧ (q.state = .suspended ∨ t.lanePasses x q) := by
    intro e mem
    obtain ⟨b, short, rfl⟩ := List.mem_iff_getElem.mp mem
    rw [List.length_take] at short
    obtain ⟨k, q, at_b, held, either⟩ := before b (by omega)
    rw [List.getElem?_eq_getElem (by omega)] at at_b
    exact ⟨k, q, by rw [List.getElem_take]; exact Option.some.inj at_b, stays k q held, either.imp id (State.lanePasses_congr work rfl).mpr⟩
  obtain ⟨none, lane, bars, others⟩ := State.examine_prefix passed
  have stands := mt (State.lanePasses_congr (m' := o) work rfl).mp head.stands
  have other : o.state ≠ .suspended := by rw [head.waits]; decide
  unfold State.candidate
  rw [split, State.examine_append, none, bars, Bool.or_false,
    State.examine_head (others j o (stays j o head.held) stands) other (mt (State.lanePasses_congr lane rfl).mp stands)]
  exact State.examine_keeps _ _ _ _ _

/-- What passing over leaves (R130, R146): the head alone is made QUEUED, and the refusal of its crane may be withdrawn. -/
theorem State.passOver_reads (s : State) (x : Crane) :
    (∀ k, (s.passOver x).move k = s.move k ∨ (k < 16 ∧ ∃ o, s.move k = some o ∧ o.state = .waiting
      ∧ (s.passOver x).move k = some { o with state := .queued, reason := none }))
    ∧ (∀ y, (s.passOver x).work y = s.work y)
    ∧ (∀ y, ((s.passOver x).crane y).interval = (s.crane y).interval ∧ ((s.passOver x).crane y).presence = (s.crane y).presence
      ∧ ((s.passOver x).crane y).position = (s.crane y).position)
    ∧ s.movesOnly (s.passOver x) ∧ (s.passOver x).mvu.serial = s.mvu.serial := by
  rcases s.passOver_cases x with same | ⟨n, m, -, held, waits, slot, aside⟩
  · rw [same]
    exact ⟨fun _ => .inl rfl, fun _ => rfl, fun _ => ⟨rfl, rfl, rfl⟩, .refl s, rfl⟩
  · rw [aside]
    refine ⟨fun k => ?_, s.work_setAside n m _ _, fun y => ?_, s.setAside_only n m _ _, ?_⟩
    · rw [State.move_setAside]
      by_cases same : n = k
      · subst same
        exact .inr ⟨slot, m, held, waits, if_pos rfl⟩
      · exact .inl (if_neg same)
    · rw [State.crane_setAside]
      split
      · next same => exact same ▸ ⟨rfl, rfl, rfl⟩
      · exact ⟨rfl, rfl, rfl⟩
    · rw [(s.setAside_pair n m _ _).mvu, State.setCrane_mvu]
      rfl

/-! ## The state after an accepted request -/

/-- The new move stands in its slot, with its serial taken and its claim and reservations made (R146, steps 1 to 3). -/
def State.admitted (s : State) (f : MoveFields) (i : Nat) : State := (s.takeSerial.setMove i (some (s.newMove f))).reserveMove (s.newMove f)

/-- The new move's place in the queue is made, with the head it passes over (R146, step 4). -/
def State.madeWay (s : State) (f : MoveFields) (i : Nat) : State :=
  if (s.newMove f).style = .preempt then (s.admitted f i).passOver (s.newMove f).crane else s.admitted f i

/-- The queue with the new move. -/
def queueEntered (f : MoveFields) (i : Nat) (q : List Entry) : List Entry := if f.style = 2 then .move i :: q else q ++ [.move i]

theorem State.enqueue_madeWay {s : State} {f : MoveFields} (i : Nat) (style : (s.newMove f).style = .preempt ↔ f.style = 2) :
    (s.admitted f i).enqueue (s.newMove f) i = (s.madeWay f i).setWork (s.newMove f).crane
      { (s.madeWay f i).work (s.newMove f).crane with queue := queueEntered f i ((s.madeWay f i).work (s.newMove f).crane).queue } := by
  unfold State.enqueue State.madeWay queueEntered
  by_cases preempt : f.style = 2
  · rw [if_pos (style.mpr preempt), if_pos (style.mpr preempt), if_pos preempt]
  · rw [if_neg (mt style.mp preempt), if_neg (mt style.mp preempt), if_neg preempt]

theorem State.submitMove_accepted {s : State} {f : MoveFields} {i : Nat} (fields : ∀ n, 1 ≤ n → n ≤ 9 → s.moveField f n)
    (checks : ∀ n, 1 ≤ n → n ≤ 11 → s.submitCheck f n) (free : s.emptySlot = some i) :
    s.submitMove f = ((s.admitted f i).enqueue (s.newMove f) i, { result := .done, data := .accepted s.mvu.serial i }) := by
  unfold State.submitMove
  rw [State.moveChecks_good fields]
  dsimp only
  rw [State.submitRefusal_none fields checks]
  dsimp only
  rw [free]
  rfl

theorem State.emptySlot_eq {s : State} {i : Nat} (free : s.emptySlot = some i) :
    i < 16 ∧ s.move i = none ∧ ∀ j, j < i → (s.move j).isSome = true := by
  obtain ⟨empty, less, before⟩ := List.find?_range_eq_some.mp free
  refine ⟨List.mem_range.mp less, by simpa using empty, fun j short => ?_⟩
  have held := before j short
  simpa [Option.isSome_iff_ne_none] using held

/-- A generated record and the sides of a request by its kind (R143). -/
theorem State.newMove_kinds {s : State} {f : MoveFields} (fields : ∀ n, 1 ≤ n → n ≤ 9 → s.moveField f n) :
    (f.kind = 0 → (s.newMove f).kind = .strip ∧ (s.newMove f).piece = some f.piece ∧ (s.newMove f).source = some (.bed f.sourceNum)
      ∧ (s.newMove f).dest = .cell f.destNum ∧ (s.newMove f).pick = some (s.piece f.piece).segment
      ∧ (s.cellLayout f.destNum).segment = some (s.newMove f).place)
    ∧ (f.kind = 1 → (s.newMove f).kind = .restack ∧ (s.newMove f).piece = some f.piece ∧ (s.newMove f).source = some (.cell f.sourceNum)
      ∧ (s.newMove f).dest = .cell f.destNum ∧ (s.newMove f).pick = (s.cellLayout f.sourceNum).segment
      ∧ (s.cellLayout f.destNum).segment = some (s.newMove f).place)
    ∧ (f.kind = 2 → (s.newMove f).kind = .loadOut ∧ (s.newMove f).piece = some f.piece ∧ (s.newMove f).source = some (.cell f.sourceNum)
      ∧ (s.newMove f).dest = .bay f.destNum ∧ (s.newMove f).pick = (s.cellLayout f.sourceNum).segment
      ∧ (s.bayLayout f.destNum).segment = some (s.newMove f).place)
    ∧ (f.kind = 3 → (s.newMove f).kind = .park ∧ (s.newMove f).piece = none ∧ (s.newMove f).source = none
      ∧ (s.newMove f).dest = .segment f.destNum ∧ (s.newMove f).pick = none ∧ (s.newMove f).place = f.destNum)
    ∧ (f.kind = 4 → (s.newMove f).kind = .setDown ∧ (s.newMove f).piece = some f.piece ∧ (s.newMove f).source = none
      ∧ (s.newMove f).dest = .cell f.destNum ∧ (s.newMove f).pick = none
      ∧ (s.cellLayout f.destNum).segment = some (s.newMove f).place) := by
  obtain ⟨cells, -, bays, -⟩ := fields 9 (by omega) (by omega)
  have inCell : f.kind = 0 ∨ f.kind = 1 ∨ f.kind = 4 → (s.cellLayout f.destNum).segment = some ((s.cellLayout f.destNum).segment.getD 0) := fun kind => by
    have use := cells kind
    unfold State.cellInUse at use
    obtain ⟨n, at_n⟩ := Option.isSome_iff_exists.mp (Bool.and_eq_true_iff.mp use).2
    rw [at_n]
    rfl
  have inBay : f.kind = 2 → (s.bayLayout f.destNum).segment = some ((s.bayLayout f.destNum).segment.getD 0) := fun kind => by
    have use := bays kind
    unfold State.bayConfigured at use
    obtain ⟨n, at_n⟩ := Option.isSome_iff_exists.mp (Bool.and_eq_true_iff.mp use).2
    rw [at_n]
    rfl
  unfold State.newMove pieceOfFields sourceOfFields State.pickSegment State.placeSegment destOfFields
  refine ⟨fun e => ?_, fun e => ?_, fun e => ?_, fun e => ?_, fun e => ?_⟩
  · simpa [e, moveKindOf] using inCell (by omega)
  · simpa [e, moveKindOf] using inCell (by omega)
  · simpa [e, moveKindOf] using inBay e
  · simp [e, moveKindOf]
  · simpa [e, moveKindOf] using inCell (by omega)

/-- What the claim and the reservations of a move leave of the goods (R103, R108). -/
theorem State.reserveMove_goods {s : State} {m : Move} (bare : ∀ c, m.piece = none → m.source ≠ some (.cell c))
    (apart : ∀ c, m.dest = .cell c → m.source ≠ some (.cell c)) :
    (∀ n, m.piece = some n → (s.reserveMove m).piece n = { s.piece n with claim := some m.serial })
    ∧ (∀ n, m.piece ≠ some n → (s.reserveMove m).piece n = s.piece n)
    ∧ (∀ n d, m.piece = some n → m.dest = .cell d → (s.reserveMove m).cell d = { s.cell d with arrivals := (s.cell d).arrivals ++ [n] })
    ∧ (∀ c, m.source = some (.cell c) → (s.reserveMove m).cell c = { s.cell c with pendingOut := (s.cell c).pendingOut + 1 })
    ∧ (∀ n b, m.piece = some n → m.dest = .bay b → (s.reserveMove m).bay b = { s.bay b with
        pendingWeight := (s.bay b).pendingWeight + (s.piece n).weight, pendingCount := (s.bay b).pendingCount + 1 })
    ∧ (∀ c, m.dest ≠ .cell c → m.source ≠ some (.cell c) → (s.reserveMove m).cell c = s.cell c)
    ∧ ∀ b, m.dest ≠ .bay b → (s.reserveMove m).bay b = s.bay b := by
  unfold State.reserveMove
  cases piece : m.piece with
  | none => exact ⟨nofun, fun _ _ => rfl, nofun, fun c source => absurd source (bare c piece), nofun, fun _ _ _ => rfl, fun _ _ => rfl⟩
  | some p =>
    have pieces : ∀ n, (((s.setClaim p (some m.serial)).reserveDest p m.dest).reserveSource m.source).piece n
        = if p = n then { s.piece p with claim := some m.serial } else s.piece n := fun n => by
      rw [State.piece_reserveSource, State.piece_reserveDest]
      exact State.piece_setPiece _ _ _ _
    have cells : ∀ c, (((s.setClaim p (some m.serial)).reserveDest p m.dest).reserveSource m.source).cell c
        = if m.source = some (.cell c) then { s.cell c with pendingOut := (s.cell c).pendingOut + 1 }
          else if m.dest = .cell c then { s.cell c with arrivals := (s.cell c).arrivals ++ [p] } else s.cell c := fun c => by
      rw [State.cell_reserveSource, State.cell_reserveDest]
      by_cases source : m.source = some (.cell c)
      · rw [if_pos source, if_pos source, if_neg fun dest => apart c dest source]
        rfl
      · rw [if_neg source, if_neg source]
        rfl
    have bays : ∀ b, (((s.setClaim p (some m.serial)).reserveDest p m.dest).reserveSource m.source).bay b
        = if m.dest = .bay b then { s.bay b with
            pendingWeight := (s.bay b).pendingWeight + (s.piece p).weight, pendingCount := (s.bay b).pendingCount + 1 }
          else s.bay b := fun b => by
      have weight : ((s.setClaim p (some m.serial)).piece p).weight = (s.piece p).weight := by
        unfold State.setClaim
        rw [State.piece_setPiece, if_pos rfl]
        rfl
      rw [State.bay_reserveSource, State.bay_reserveDest, weight]
      rfl
    refine ⟨fun n e => ?_, fun n other => ?_, fun n d e dest => ?_, fun c source => ?_, fun n b e dest => ?_, fun c dest source => ?_,
      fun b dest => ?_⟩
    · obtain rfl := Option.some.inj e
      exact (pieces p).trans (if_pos rfl)
    · exact (pieces n).trans (if_neg fun same => other (congrArg some same))
    · obtain rfl := Option.some.inj e
      exact ((cells d).trans (if_neg (apart d dest))).trans (if_pos dest)
    · exact (cells c).trans (if_pos source)
    · obtain rfl := Option.some.inj e
      exact (bays b).trans (if_pos dest)
    · exact ((cells c).trans (if_neg source)).trans (if_neg dest)
    · exact (bays b).trans (if_neg dest)

/-- A request takes its piece from one cell and to another, and one without a piece from none (R143, R144). -/
theorem State.newMove_sides {s : State} {f : MoveFields} (fields : ∀ n, 1 ≤ n → n ≤ 9 → s.moveField f n) (c : Nat) :
    ((s.newMove f).piece = none → (s.newMove f).source ≠ some (.cell c))
    ∧ ((s.newMove f).dest = .cell c → (s.newMove f).source ≠ some (.cell c)) := by
  have other : f.kind = 1 → f.destNum ≠ f.sourceNum := (fields 9 (by omega) (by omega)).2.1
  unfold State.newMove pieceOfFields sourceOfFields destOfFields
  dsimp only
  rcases moveKindOf_cases (State.kind_of_moveField (fields 2 (by omega) (by omega))) with ⟨e, k⟩ | ⟨e, k⟩ | ⟨e, k⟩ | ⟨e, k⟩ | ⟨e, k⟩ <;> rw [k]
  case inr.inl =>
    refine ⟨nofun, fun dest source => other e ?_⟩
    simp only [Option.some.injEq, Source.cell.injEq, Dest.cell.injEq] at source dest
    exact dest.trans source.symm
  all_goals simp

theorem State.move_admitted {s : State} {f : MoveFields} (i k : Nat) :
    (s.admitted f i).move k = if i = k then some (s.newMove f) else s.move k := by
  unfold State.admitted
  rw [State.move_reserveMove, State.move_setMove]
  rfl

theorem State.admitted_only (s : State) (f : MoveFields) (i : Nat) : ∃ p c b m, s.admitted f i
    = { s with pct := p, stk := { s.stk with cells := c, bays := b }, mvu := { s.mvu with serial := nextSerial s.mvu.serial, moves := m } } := by
  obtain ⟨p, c, b, e⟩ := (s.takeSerial.setMove i (some (s.newMove f))).reserveMove_only (s.newMove f)
  exact ⟨p, c, b, _, e⟩

/-- The table once way has been made (R146). -/
theorem State.madeWay_moves {s : State} {f : MoveFields} {i : Nat} (style : (s.newMove f).style = .preempt ↔ f.style = 2) :
    (s.madeWay f i).move i = some (s.newMove f)
    ∧ ∀ j, j ≠ i → (s.madeWay f i).move j = s.move j ∨ (f.style = 2 ∧ j < 16 ∧ ∃ o, s.move j = some o ∧ o.state = .waiting
      ∧ (s.madeWay f i).move j = some { o with state := .queued, reason := none }) := by
  unfold State.madeWay
  split
  · next preempt =>
    obtain ⟨moves, -⟩ := (s.admitted f i).passOver_reads (s.newMove f).crane
    refine ⟨?_, fun j other => ?_⟩
    · rcases moves i with same | ⟨-, o, held, waits, -⟩
      · rw [same, State.move_admitted, if_pos rfl]
      · rw [State.move_admitted, if_pos rfl] at held
        obtain rfl := Option.some.inj held
        exact absurd waits nofun
    · have at_j : (s.admitted f i).move j = s.move j := (State.move_admitted i j).trans (if_neg (Ne.symm other))
      rw [← at_j]
      exact (moves j).imp id fun found => ⟨style.mp preempt, found⟩
  · exact ⟨(State.move_admitted i i).trans (if_pos rfl), fun j other => .inl ((State.move_admitted i j).trans (if_neg (Ne.symm other)))⟩

/-- Beside the table, making way touches the refusal, the deadlock pair and the condition sets alone. -/
theorem State.madeWay_only (s : State) (f : MoveFields) (i : Nat) : (s.admitted f i).movesOnly (s.madeWay f i)
    ∧ (∀ y, (s.madeWay f i).work y = s.work y) ∧ (s.madeWay f i).mvu.serial = nextSerial s.mvu.serial
    ∧ ∀ y, ((s.madeWay f i).crane y).interval = (s.crane y).interval ∧ ((s.madeWay f i).crane y).presence = (s.crane y).presence
      ∧ ((s.madeWay f i).crane y).position = (s.crane y).position := by
  obtain ⟨p, c, b, m, admitted⟩ := s.admitted_only f i
  have work : ∀ y, (s.admitted f i).work y = s.work y := fun y => by rw [admitted]; rfl
  have crane : ∀ y, (s.admitted f i).crane y = s.crane y := fun y => by rw [admitted]; rfl
  have serial : (s.admitted f i).mvu.serial = nextSerial s.mvu.serial := by rw [admitted]
  unfold State.madeWay
  split
  · obtain ⟨-, works, cranes, only, serials⟩ := (s.admitted f i).passOver_reads (s.newMove f).crane
    exact ⟨only, fun y => (works y).trans (work y), serials.trans serial, fun y => crane y ▸ cranes y⟩
  · exact ⟨.refl _, work, serial, fun y => crane y ▸ ⟨rfl, rfl, rfl⟩⟩

/-- A PREEMPT passes over its crane's waiting head and changes no other record of the table (R146). -/
theorem State.madeWay_head {s : State} {f : MoveFields} {i j : Nat} {o : Move} (preempt : (s.newMove f).style = .preempt)
    (slot : i < 16) (empty : s.move i = none) (head : s.waitingHead (s.newMove f).crane j o) :
    (s.madeWay f i).move j = some { o with state := .queued, reason := none } ∧ (∀ k, k ≠ i → k ≠ j → (s.madeWay f i).move k = s.move k)
    ∧ ((s.crane (s.newMove f).crane).refusal.map Refused.serial = some o.serial → ((s.madeWay f i).crane (s.newMove f).crane).refusal = none)
    ∧ ((s.crane (s.newMove f).crane).refusal.map Refused.serial ≠ some o.serial →
      (s.madeWay f i).rru = s.rru ∧ (s.madeWay f i).cnd = s.cnd) := by
  obtain ⟨p, c, b, m, admitted⟩ := s.admitted_only f i
  have work : (s.admitted f i).work (s.newMove f).crane = s.work (s.newMove f).crane := by rw [admitted]; rfl
  have crane : (s.admitted f i).crane (s.newMove f).crane = s.crane (s.newMove f).crane := by rw [admitted]; rfl
  obtain ⟨found, held⟩ := State.headSlot_waiting (t := s.admitted f i) head empty slot rfl (State.move_admitted i) work
  have aside : s.madeWay f i = (s.admitted f i).setAside j o .queued none :=
    (if_pos preempt).trans (State.passOver_head found held head.waits head.slot)
  rw [aside]
  refine ⟨(State.move_setAside ..).trans (if_pos rfl), fun k new other => ?_, fun names => ?_, fun other => ?_⟩
  · rw [State.move_setAside, if_neg (Ne.symm other), State.move_admitted, if_neg (Ne.symm new)]
  · rw [State.crane_setAside, if_pos head.crane, head.crane, crane]
    exact if_pos names
  · have same : ∀ t : State, (t.crane o.crane).refusal = (s.crane (s.newMove f).crane).refusal → t.withdrawOf o.crane o.serial = t :=
      fun t refusal => State.withdrawOf_same (by rw [refusal]; exact other)
    unfold State.setAside
    rw [same _ (by rw [State.crane_setMove, head.crane, crane]), admitted]
    exact ⟨rfl, rfl⟩

/-- Where nothing is passed over, making way changes nothing (R146). -/
theorem State.madeWay_stays {s : State} {f : MoveFields} {i : Nat} (style : (s.newMove f).style = .preempt ↔ f.style = 2) (slot : i < 16)
    (empty : s.move i = none) (busy : f.style ≠ 2 ∨ (s.move (yieldSlot (s.newMove f).crane)).isSome = true
      ∨ ∃ k o, k < 18 ∧ s.move k = some o ∧ o.crane = (s.newMove f).crane ∧ o.underWay = true) : s.madeWay f i = s.admitted f i := by
  unfold State.madeWay
  rcases busy with other | live | ⟨k, o, less, held, crane, under⟩
  · exact if_neg (mt style.mp other)
  · refine (ite_eq_right_iff.mpr fun _ => ?_)
    have away : i ≠ yieldSlot (s.newMove f).crane := Nat.ne_of_lt (Nat.lt_of_lt_of_le slot (sixteen_le_yieldSlot _))
    exact State.passOver_idle (.inl (by rw [State.move_admitted, if_neg away]; exact live))
  · refine (ite_eq_right_iff.mpr fun _ => ?_)
    have away : i ≠ k := fun same => absurd ((same ▸ empty).symm.trans held) nofun
    exact State.passOver_idle (.inr ⟨k, o, less, by rw [State.move_admitted, if_neg away]; exact held, crane, under⟩)

/-- An accepted request: the part's records, with the goods as its reservations leave them (R146). -/
theorem State.enqueue_reads {s : State} {f : MoveFields} (i : Nat) (style : (s.newMove f).style = .preempt ↔ f.style = 2) :
    (∀ j, ((s.admitted f i).enqueue (s.newMove f) i).move j = (s.madeWay f i).move j)
    ∧ (∀ y, ((s.admitted f i).enqueue (s.newMove f) i).work y = if (s.newMove f).crane = y then
        { s.work y with queue := queueEntered f i (s.work y).queue } else s.work y)
    ∧ (∀ y, ((s.admitted f i).enqueue (s.newMove f) i).crane y = (s.madeWay f i).crane y)
    ∧ ((s.admitted f i).enqueue (s.newMove f) i).rru = (s.madeWay f i).rru
    ∧ ((s.admitted f i).enqueue (s.newMove f) i).cnd = (s.madeWay f i).cnd
    ∧ ((s.admitted f i).enqueue (s.newMove f) i).mvu.serial = nextSerial s.mvu.serial
    ∧ (s.admitted f i).movesOnly ((s.admitted f i).enqueue (s.newMove f) i) := by
  obtain ⟨only, works, serial, -⟩ := s.madeWay_only f i
  rw [State.enqueue_madeWay i style]
  refine ⟨fun j => State.move_setWork .., fun y => ?_, fun y => State.crane_setWork .., State.setWork_rru .., State.setWork_cnd ..,
    ?_, only.trans (State.setWork_only ..)⟩
  · rw [State.work_setWork]
    split
    · next same => rw [works, same]
    · exact works y
  · rw [← serial]
    cases (s.newMove f).crane <;> rfl

theorem State.waitingHead.relinked {s : State} {x : Crane} {j : Nat} {o : Move} (head : s.waitingHead x j o) (l : Lnk) :
    ({ s with lnk := l } : State).waitingHead x j o :=
  ⟨head.slot, head.held, head.crane, head.waits, head.idle, head.yields, head.stands, head.head⟩

/-- Settles O35: the record, its reservations and its place in the queue, with the head that a PREEMPT passes over. -/
theorem moveAccepted : Obligations.MoveAccepted := by
  intro s h f a fields checks
  obtain ⟨l, handled⟩ := s.handled_eq h .moveSubmit
  obtain ⟨u, relinked⟩ : ∃ u : State, u = { s with lnk := l } := ⟨_, rfl⟩
  rw [← relinked] at handled
  have fieldsAt : ∀ n, 1 ≤ n → n ≤ 9 → u.moveField f n := by rw [relinked]; exact fields
  obtain ⟨i, free⟩ := Option.isSome_iff_exists.mp (State.emptySlot_isSome (s := u).mpr (by rw [relinked]; exact (checks 1 (by omega) (by omega)).1))
  obtain ⟨slot, empty, before⟩ := State.emptySlot_eq free
  have known : f.style = 0 ∨ f.style = 1 ∨ f.style = 2 := (fields 3 (by omega) (by omega)).1
  have style : (u.newMove f).style = .preempt ↔ f.style = 2 := by
    show styleOf f.style = .preempt ↔ _
    rcases known with e | e | e <;> rw [e] <;> decide
  have crane : (u.newMove f).crane = submitCrane f := craneOf_submitCrane f
  obtain ⟨moves, works, cranes, rru, cnd, serial, only⟩ := State.enqueue_reads (s := u) i style
  obtain ⟨stands, others⟩ := State.madeWay_moves (s := u) (i := i) style
  obtain ⟨-, -, -, spaces⟩ := u.madeWay_only f i
  obtain ⟨p, c, b, m, admitted⟩ := u.admitted_only f i
  have runway : (u.admitted f i).rru = u.rru := by rw [admitted]
  have sets : (u.admitted f i).cnd = u.cnd := by rw [admitted]
  obtain ⟨r, v, pl, cw, ce, made⟩ := only
  obtain ⟨pieces, otherPieces, arrivals, departures, loads, otherCells, otherBays⟩ :=
    State.reserveMove_goods (s := u.takeSerial.setMove i (some (u.newMove f))) (m := u.newMove f)
      (fun c => (State.newMove_sides fieldsAt c).1) (fun c => (State.newMove_sides fieldsAt c).2)
  have taken : u.mvu.serial = s.mvu.serial := by rw [relinked]
  have accepts : (moveBody fun f t => t.submitMove f) (moveWritten f) (s.handled h .moveSubmit)
      = ((u.admitted f i).enqueue (u.newMove f) i, { result := .done, data := .accepted s.mvu.serial i }) := by
    rw [handled, ← taken]
    exact State.submitMove_accepted fieldsAt (by rw [relinked]; exact checks) free
  have link : ((u.admitted f i).enqueue (u.newMove f) i).lnk = (s.handled h .moveSubmit).lnk := by rw [made, admitted, handled]
  have piece : ∀ n, ((u.admitted f i).enqueue (u.newMove f) i).piece n = (u.admitted f i).piece n := fun n => by rw [made]; rfl
  have cell : ∀ n, ((u.admitted f i).enqueue (u.newMove f) i).cell n = (u.admitted f i).cell n := fun n => by rw [made]; rfl
  have bay : ∀ n, ((u.admitted f i).enqueue (u.newMove f) i).bay n = (u.admitted f i).bay n := fun n => by rw [made]; rfl
  obtain ⟨strip, restack, loadOut, park, setDown⟩ := State.newMove_kinds fieldsAt
  refine ⟨{ (u.admitted f i).enqueue (u.newMove f) i with lnk := s.lnk }, i, u.newMove f,
    exec_planner_handled rfl a accepts link rfl rfl rfl, ?_⟩
  subst relinked
  refine ⟨slot, empty, before, (moves i).trans stands, rfl, crane, rfl, rfl, rfl, rfl, fun e => congrArg styleOf e, fun e => congrArg styleOf e,
    style.mpr, ?_, strip, restack, loadOut, park, setDown, serial, fun j other => ?_, fun j o preempt head => ?_, fun busy => ?_, ?_, ?_,
    fun n e => (piece n).trans (pieces n e), fun n e => (piece n).trans (otherPieces n e),
    fun n d e dest => (cell d).trans (arrivals n d e dest), fun c source => (cell c).trans (departures c source),
    fun n b e dest => (bay b).trans (loads n b e dest), fun c dest source => (cell c).trans (otherCells c dest source),
    fun b dest => (bay b).trans (otherBays b dest), fun y => ?_, ?_⟩
  · show (decide (f.suspendable = 1) && decide (styleOf f.style ≠ .preempt) && decide (moveKindOf f.kind ≠ .setDown)) = true ↔ _
    have down : moveKindOf f.kind = .setDown ↔ f.kind = 4 := by
      rcases moveKindOf_cases (State.kind_of_moveField (fields 2 (by omega) (by omega))) with ⟨e, k⟩ | ⟨e, k⟩ | ⟨e, k⟩ | ⟨e, k⟩ | ⟨e, k⟩ <;>
        rw [k, e] <;> decide
    rw [Bool.and_eq_true, Bool.and_eq_true, decide_eq_true_eq, decide_eq_true_eq, decide_eq_true_eq, and_assoc]
    exact and_congr_right fun _ => and_congr (not_congr style) (not_congr down)
  · rcases others j other with same | made
    · exact .inl ((moves j).trans same)
    · obtain ⟨preempt, less, o, held, waits, queued⟩ := made
      exact .inr ⟨preempt, less, o, held, waits, (moves j).trans queued⟩
  · rw [← crane] at head
    obtain ⟨queued, rest, named, unnamed⟩ := State.madeWay_head (f := f) (style.mpr preempt) slot empty (head.relinked l)
    refine ⟨(moves j).trans queued, fun k new other => (moves k).trans (rest k new other), fun names => ?_, fun other => ?_⟩
    · rw [← crane] at names ⊢
      exact (congrArg CraneRec.refusal (cranes _)).trans (named names)
    · rw [← crane] at other
      exact ⟨rru.trans (unnamed other).1, cnd.trans (unnamed other).2⟩
  · rw [← crane] at busy
    have stays := State.madeWay_stays (s := { s with lnk := l }) style slot empty busy
    exact ⟨fun j other => (moves j).trans ((congrArg (State.move · j) stays).trans ((State.move_admitted i j).trans (if_neg (Ne.symm other)))),
      rru.trans ((congrArg State.rru stays).trans runway), cnd.trans ((congrArg State.cnd stays).trans sets)⟩
  · exact congrArg CraneWork.queue ((works _).trans (if_pos rfl))
  · exact (works _).trans (if_neg (by cases (({ s with lnk := l } : State).newMove f).crane <;> decide))
  · obtain ⟨interval, presence, position⟩ := spaces y
    exact ⟨(congrArg CraneRec.interval (cranes y)).trans interval, (congrArg CraneRec.presence (cranes y)).trans presence,
      (congrArg CraneRec.position (cranes y)).trans position⟩
  · rw [made, admitted]
    exact ⟨rfl, rfl, rfl, rfl, rfl, rfl, rfl, rfl, rfl, rfl⟩

end Sys2Proof.Machine
end

section
/-! SUPPORT. Proofs/Ended.lean: what the end of a move leaves: its record, its queue, its crane, its goods and the condition sets (R159). -/

namespace Sys2Proof.Machine

/-! ## Withdrawals post of no other kind -/

theorem State.postEvent_spares {k k' : CondKind} (other : k' ≠ k) (s : State) (p : Point) (subj : Subject) :
    State.spares k s (s.postEvent p k' subj) := s.postAt_spares p other subj _ _

theorem State.endDeadlockOf_spares {k : CondKind} (other : k ≠ .deadlock) (s : State) (n : Nat) : State.spares k s (s.endDeadlockOf n) := by
  unfold State.endDeadlockOf State.endDeadlock
  split
  · split
    · exact State.spares.trans (t := { s with rru := { s.rru with deadlock := none } }) (.of_cnd rfl) (State.endCause_spares _ _ (Ne.symm other) _)
    · exact .refl k s
  · exact .refl k s

theorem State.withdraw_spares {k : CondKind} (other : k ≠ .deadlock) (s : State) (x : Crane) : State.spares k s (s.withdraw x) := by
  unfold State.withdraw
  split
  · exact State.spares.trans (.of_cnd (State.setCrane_cnd ..)) (State.endDeadlockOf_spares other _ _)
  · exact .refl k s

theorem State.withdrawOf_spares {k : CondKind} (other : k ≠ .deadlock) (s : State) (x : Crane) (n : Nat) : State.spares k s (s.withdrawOf x n) := by
  unfold State.withdrawOf
  split
  · exact s.withdraw_spares other x
  · exact .refl k s

/-! ## SUSPENDED moves resumed (R157) -/

/-- A move after the SUSPENDED moves of a crane have resumed. -/
def Move.resumed (x : Crane) (m : Move) : Move := if m.crane = x ∧ m.state = .suspended then { m with state := .waiting, reason := none } else m

theorem Move.resumed_twice (x : Crane) (m : Move) : (m.resumed x).resumed x = m.resumed x := by
  unfold Move.resumed
  by_cases both : m.crane = x ∧ m.state = .suspended
  · simp [both]
  · simp [both]

theorem Move.resumed_other {x : Crane} {m : Move} (other : m.crane ≠ x ∨ m.state ≠ .suspended) : m.resumed x = m :=
  if_neg fun both => other.elim (· both.1) (· both.2)

/-- `t` differs from `s` at most in the move records. -/
def State.recordsOnly (s t : State) : Prop := ∃ m, t = { s with mvu := { s.mvu with moves := m } }

theorem State.recordsOnly.refl (s : State) : s.recordsOnly s := ⟨_, rfl⟩

theorem State.recordsOnly.trans {s t u : State} (h : s.recordsOnly t) (g : t.recordsOnly u) : s.recordsOnly u := by
  obtain ⟨_, rfl⟩ := h
  obtain ⟨_, rfl⟩ := g
  exact ⟨_, rfl⟩

theorem State.resumeSlot_records (x : Crane) (s : State) (i : Nat) : s.recordsOnly (State.resumeSlot x s i) := by
  unfold State.resumeSlot
  repeat' split
  all_goals exact ⟨_, rfl⟩

theorem State.move_resumeSlot (x : Crane) (s : State) (i j : Nat) :
    (State.resumeSlot x s i).move j = if i = j then (s.move j).map (Move.resumed x) else s.move j := by
  unfold State.resumeSlot
  split
  · next m held =>
    split
    · next both =>
      rw [Bool.and_eq_true, decide_eq_true_eq, decide_eq_true_eq] at both
      rw [State.move_setMove]
      split
      · next same =>
        rw [← same, held]
        exact congrArg some (if_pos both).symm
      · rfl
    · next neither =>
      rw [Bool.and_eq_true, decide_eq_true_eq, decide_eq_true_eq] at neither
      split
      · next same =>
        rw [← same, held]
        exact congrArg some (if_neg neither).symm
      · rfl
  · next none =>
    split
    · next same => rw [← same, none, Option.map_none]
    · rfl

theorem State.resumeSlots_records (x : Crane) (l : List Nat) (s : State) : s.recordsOnly (l.foldl (State.resumeSlot x) s) :=
  foldl_keeps State.recordsOnly.refl State.recordsOnly.trans (State.resumeSlot_records x) l s

theorem State.move_resumeSlots (x : Crane) (l : List Nat) (s : State) (j : Nat) :
    (l.foldl (State.resumeSlot x) s).move j = if j ∈ l then (s.move j).map (Move.resumed x) else s.move j := by
  induction l generalizing s with
  | nil => rfl
  | cons i l ih =>
    rw [List.foldl_cons, ih, State.move_resumeSlot]
    by_cases same : i = j
    · subst same
      rw [if_pos rfl, if_pos List.mem_cons_self]
      split
      · rw [Option.map_map]
        exact congrArg (fun f => Option.map f (s.move i)) (funext fun m => m.resumed_twice x)
      · rfl
    · rw [if_neg same]
      simp only [List.mem_cons, Ne.symm same, false_or]

/-! ## The lane (R149) -/

/-- The lane of a crane once it has been settled. -/
def State.settledLane (s : State) (x : Crane) : Lane := if (s.work x).lane = .pending ∧ s.laneBlocked x = false then .active else (s.work x).lane

theorem State.laneSettle_eq (s : State) (x : Crane) :
    (s.setWork x { s.work x with lane := s.settledLane x }).setsOnly (s.laneSettle x)
    ∧ ∀ k, k ≠ .laneActive → State.spares k s (s.laneSettle x) := by
  unfold State.laneSettle State.settledLane
  by_cases both : (s.work x).lane = .pending ∧ s.laneBlocked x = false
  · rw [if_pos both, if_pos (by simpa using both)]
    exact ⟨State.postEvent_only .., fun k other => State.spares.trans (.of_cnd (State.setWork_cnd ..)) (State.postEvent_spares (Ne.symm other) _ _ _)⟩
  · rw [if_neg both, if_neg (by simpa using both), State.setWork_self]
    exact ⟨.refl s, fun k _ => .refl k s⟩

theorem State.laneSettle_quiet {s : State} {x : Crane} (other : (s.work x).lane ≠ .pending) : s.laneSettle x = s :=
  if_neg (by simp [other])

theorem State.setsOnly.move {s t : State} (h : s.setsOnly t) (i : Nat) : t.move i = s.move i := by
  unfold State.move
  rw [h.mvu]

theorem State.setsOnly.work {s t : State} (h : s.setsOnly t) (x : Crane) : t.work x = s.work x := by
  obtain ⟨_, _, _, rfl⟩ := h
  rfl

theorem State.setsOnly.rru {s t : State} (h : s.setsOnly t) : t.rru = s.rru := by
  obtain ⟨_, _, _, rfl⟩ := h
  rfl

theorem State.laneSettle_reads (s : State) (x : Crane) : (∀ i, (s.laneSettle x).move i = s.move i)
    ∧ (∀ y, (s.laneSettle x).work y = if x = y then { s.work x with lane := s.settledLane x } else s.work y)
    ∧ (s.laneSettle x).rru = s.rru ∧ (s.laneSettle x).mvu.serial = s.mvu.serial ∧ ∀ y, (s.laneSettle x).crane y = s.crane y := by
  have sets := (s.laneSettle_eq x).1
  refine ⟨fun i => (sets.move i).trans (State.move_setWork ..), fun y => (sets.work y).trans (State.work_setWork ..),
    sets.rru.trans (State.setWork_rru ..), ?_, fun y => (sets.crane y).trans (State.crane_setWork ..)⟩
  rw [sets.mvu]
  cases x <;> rfl

theorem State.settledLane_congr {s t : State} {x : Crane} (lane : (t.work x).lane = (s.work x).lane) (moves : ∀ i, t.move i = s.move i) :
    t.settledLane x = s.settledLane x := by
  have blocked : t.laneBlocked x = s.laneBlocked x := by
    unfold State.laneBlocked State.findSlot
    simp only [moves]
  unfold State.settledLane
  rw [lane, blocked]

theorem State.dropHull_reads (s : State) (m : Move) : (∀ i, (s.dropHull m).move i = s.move i) ∧ (∀ y, (s.dropHull m).work y = s.work y)
    ∧ (s.dropHull m).mvu.serial = s.mvu.serial ∧ (s.dropHull m).cnd = s.cnd
    ∧ (s.dropHull m).rru.vacates = s.rru.vacates ∧ (s.dropHull m).rru.breach = s.rru.breach
    ∧ (s.dropHull m).rru.breachCount = s.rru.breachCount
    ∧ ∀ y, (s.dropHull m).crane y
      = if m.crane = y then { s.crane y with hull := if m.isLifted then none else (s.crane y).hull } else s.crane y := by
  unfold State.dropHull
  split
  · next lifted =>
    refine ⟨fun i => State.move_setCrane .., fun y => State.work_setCrane .., ?_, State.setCrane_cnd .., ?_, ?_, ?_, fun y => ?_⟩
    · rw [State.setCrane_mvu]
    · cases m.crane <;> rfl
    · cases m.crane <;> rfl
    · cases m.crane <;> rfl
    · rw [State.crane_setCrane]
      by_cases same : m.crane = y
      · rw [if_pos same, if_pos same, same]
      · rw [if_neg same, if_neg same]
  · refine ⟨fun _ => rfl, fun _ => rfl, rfl, rfl, rfl, rfl, rfl, fun y => ?_⟩
    split <;> rfl

/-! ## The end of a move (R159) -/

theorem State.releaseMove_goods (s : State) (m : Move) (e : Ending) : s.goodsOnly (s.releaseMove m e) := by
  have dest : ∀ (t : State) (n : Nat) (d : Dest), t.goodsOnly (t.releaseDest n d) := fun t n d => by cases d <;> exact ⟨_, _, _, rfl⟩
  have source : ∀ (t : State) (d : Option Source), t.goodsOnly (t.releaseSource d) := fun t d => by
    unfold State.releaseSource
    split <;> exact ⟨_, _, _, rfl⟩
  unfold State.releaseMove
  split
  · split
    · exact ⟨_, _, _, rfl⟩
    · exact ((dest s _ _).trans (source _ _)).trans ⟨_, _, _, rfl⟩
    · exact ((dest s _ _).trans (source _ _)).trans ⟨_, _, _, rfl⟩
  · exact .refl s

/-- What the end of the move `m` in a slot leaves (R159). The SUSPENDED moves of a crane whose yield ends resume (R157). -/
structure State.Ended (s : State) (slot : Nat) (m : Move) (e : Ending) (t : State) : Prop where
  moves : ∀ j, t.move j = if slot = j then none
    else if slot = yieldSlot m.crane ∧ j < 16 then (s.move j).map (Move.resumed m.crane) else s.move j
  work : t.work m.crane = { s.work m.crane with
    queue := leaveQueue slot (s.work m.crane).queue, lane := (s.setMove slot none).settledLane m.crane }
  otherWork : t.work m.crane.other = s.work m.crane.other
  crane : t.crane m.crane = { s.crane m.crane with
    refusal := refusalWithout (s.crane m.crane).refusal m.serial, hull := if m.isLifted then none else (s.crane m.crane).hull }
  otherCrane : t.crane m.crane.other = s.crane m.crane.other
  vacates : t.rru.vacates = s.rru.vacates
  breach : t.rru.breach = s.rru.breach
  breachCount : t.rru.breachCount = s.rru.breachCount
  serial : t.mvu.serial = s.mvu.serial
  pct : t.pct = (s.releaseMove m e).pct
  stk : t.stk = (s.releaseMove m e).stk
  frame : { t with pct := s.pct, stk := s.stk, rru := s.rru, mvu := s.mvu, cnd := s.cnd } = s

/-- The move's record and its queue entry are gone, its claim and its reservations released. -/
def State.gone (s : State) (slot : Nat) (m : Move) (e : Ending) : State :=
  ((s.releaseMove m e).setMove slot none).setWork m.crane
    { ((s.releaseMove m e).setMove slot none).work m.crane with
      queue := leaveQueue slot (((s.releaseMove m e).setMove slot none).work m.crane).queue }

/-- The refusal that names it is withdrawn, the hull dropped and the lane settled. -/
def State.leftBehind (s : State) (slot : Nat) (m : Move) (e : Ending) : State :=
  (((s.gone slot m e).withdrawOf m.crane m.serial).dropHull m).laneSettle m.crane

/-- The SUSPENDED moves of a crane whose yield ends resume. -/
def State.thenResumed (s : State) (slot : Nat) (m : Move) (e : Ending) : State :=
  if slot = yieldSlot m.crane then (s.leftBehind slot m e).resume m.crane else s.leftBehind slot m e

theorem State.endMove_eq {s : State} {slot : Nat} {m : Move} (held : s.move slot = some m) (e : Ending) (fromPart : Bool) :
    s.endMove slot e fromPart = (s.thenResumed slot m e).postEnd m.serial e fromPart := by
  unfold State.endMove
  rw [held]
  rfl

theorem State.gone_reads (s : State) (slot : Nat) (m : Move) (e : Ending) :
    (∀ j, (s.gone slot m e).move j = if slot = j then none else s.move j)
    ∧ (∀ y, (s.gone slot m e).work y = if m.crane = y then
      { s.work m.crane with queue := leaveQueue slot (s.work m.crane).queue } else s.work y)
    ∧ (s.gone slot m e).rru = s.rru ∧ (s.gone slot m e).cnd = s.cnd ∧ (s.gone slot m e).mvu.serial = s.mvu.serial
    ∧ (s.gone slot m e).pct = (s.releaseMove m e).pct ∧ (s.gone slot m e).stk = (s.releaseMove m e).stk
    ∧ { s.gone slot m e with pct := s.pct, stk := s.stk, rru := s.rru, mvu := s.mvu, cnd := s.cnd } = s := by
  obtain ⟨p, c, b, released⟩ := s.releaseMove_goods m e
  unfold State.gone
  rw [released]
  refine ⟨fun j => (State.move_setWork ..).trans (State.move_setMove ..), fun y => State.work_setWork .., State.setWork_rru ..,
    State.setWork_cnd .., ?_, State.setWork_pct .., State.setWork_stk .., ?_⟩
  · cases m.crane <;> rfl
  · cases m.crane <;> rfl

theorem State.setCrane_runway (s : State) (x : Crane) (r : CraneRec) : (s.setCrane x r).rru.vacates = s.rru.vacates
    ∧ (s.setCrane x r).rru.breach = s.rru.breach ∧ (s.setCrane x r).rru.breachCount = s.rru.breachCount
    ∧ (s.setCrane x r).rru.deadlock = s.rru.deadlock := by
  cases x <;> exact ⟨rfl, rfl, rfl, rfl⟩

theorem State.pairOnly.runway {s t : State} (h : s.pairOnly t) : t.rru.vacates = s.rru.vacates ∧ t.rru.breach = s.rru.breach
    ∧ t.rru.breachCount = s.rru.breachCount := by
  obtain ⟨_, _, rfl⟩ := h
  exact ⟨rfl, rfl, rfl⟩

/-- A withdrawal leaves the vacate records, the latch and the count. -/
theorem State.withdrawOf_runway (s : State) (x : Crane) (n : Nat) : (s.withdrawOf x n).rru.vacates = s.rru.vacates
    ∧ (s.withdrawOf x n).rru.breach = s.rru.breach ∧ (s.withdrawOf x n).rru.breachCount = s.rru.breachCount
    ∧ (s.withdrawOf x n).mvu = s.mvu := by
  have pair := s.withdrawOf_pair x n
  obtain ⟨vacates, breach, count⟩ := pair.runway
  obtain ⟨vacates', breach', count', -⟩ := s.setCrane_runway x { s.crane x with refusal := refusalWithout (s.crane x).refusal n }
  exact ⟨vacates.trans vacates', breach.trans breach', count.trans count', pair.mvu.trans (State.setCrane_mvu ..)⟩

theorem State.other_ne (x : Crane) : x ≠ x.other := by cases x <;> decide

theorem State.leftBehind_reads (s : State) (slot : Nat) (m : Move) (e : Ending) :
    (∀ j, (s.leftBehind slot m e).move j = if slot = j then none else s.move j)
    ∧ ((s.leftBehind slot m e).work m.crane = { s.work m.crane with
        queue := leaveQueue slot (s.work m.crane).queue, lane := (s.setMove slot none).settledLane m.crane })
    ∧ (s.leftBehind slot m e).work m.crane.other = s.work m.crane.other
    ∧ ((s.leftBehind slot m e).crane m.crane = { s.crane m.crane with
        refusal := refusalWithout (s.crane m.crane).refusal m.serial, hull := if m.isLifted then none else (s.crane m.crane).hull })
    ∧ (s.leftBehind slot m e).crane m.crane.other = s.crane m.crane.other
    ∧ (s.leftBehind slot m e).rru.vacates = s.rru.vacates ∧ (s.leftBehind slot m e).rru.breach = s.rru.breach
    ∧ (s.leftBehind slot m e).rru.breachCount = s.rru.breachCount
    ∧ (s.leftBehind slot m e).mvu.serial = s.mvu.serial := by
  obtain ⟨moves, works, rru, -, serial, -⟩ := s.gone_reads slot m e
  have pair := (s.gone slot m e).withdrawOf_pair m.crane m.serial
  obtain ⟨vacates, breach, count, mvu⟩ := (s.gone slot m e).withdrawOf_runway m.crane m.serial
  have craneAt : ∀ y, (s.gone slot m e).crane y = s.crane y := fun y => by
    unfold State.crane
    rw [rru]
  obtain ⟨hullMoves, hullWorks, hullSerial, -, hullVacates, hullBreach, hullCount, hullCranes⟩ :=
    ((s.gone slot m e).withdrawOf m.crane m.serial).dropHull_reads m
  obtain ⟨laneMoves, laneWorks, laneRru, laneSerial, laneCranes⟩ :=
    (((s.gone slot m e).withdrawOf m.crane m.serial).dropHull m).laneSettle_reads m.crane
  have moved : ∀ j, (((s.gone slot m e).withdrawOf m.crane m.serial).dropHull m).move j = (s.setMove slot none).move j := fun j => by
    rw [hullMoves, pair.move, State.move_setCrane, moves, State.move_setMove]
  have worked : ∀ y, (((s.gone slot m e).withdrawOf m.crane m.serial).dropHull m).work y = (s.gone slot m e).work y := fun y => by
    rw [hullWorks, pair.work, State.work_setCrane]
  have lane : (((s.gone slot m e).withdrawOf m.crane m.serial).dropHull m).settledLane m.crane = (s.setMove slot none).settledLane m.crane :=
    State.settledLane_congr (by rw [worked, works, if_pos rfl]; rfl) moved
  unfold State.leftBehind
  refine ⟨fun j => ?_, ?_, ?_, ?_, ?_, ?_, ?_, ?_, ?_⟩
  · rw [laneMoves, moved, State.move_setMove]
  · rw [laneWorks, if_pos rfl, lane, worked, works, if_pos rfl]
  · rw [laneWorks, if_neg (State.other_ne _), worked, works, if_neg (State.other_ne _)]
  · rw [laneCranes, hullCranes, if_pos rfl, pair.crane, State.crane_setCrane, if_pos rfl, craneAt]
  · rw [laneCranes, hullCranes, if_neg (State.other_ne _), pair.crane, State.crane_setCrane, if_neg (State.other_ne _), craneAt]
  · rw [laneRru, hullVacates, vacates, rru]
  · rw [laneRru, hullBreach, breach, rru]
  · rw [laneRru, hullCount, count, rru]
  · rw [laneSerial, hullSerial, mvu, serial]

theorem State.leftBehind_only (s : State) (slot : Nat) (m : Move) (e : Ending) : (s.gone slot m e).movesOnly (s.leftBehind slot m e) :=
  ((State.withdrawOf_only ..).moves.trans (State.dropHull_only ..).moves).trans (State.laneSettle_only ..)

theorem State.recordsOnly.reads {s t : State} (h : s.recordsOnly t) : (∀ x, t.work x = s.work x) ∧ (∀ x, t.crane x = s.crane x)
    ∧ t.rru = s.rru ∧ t.cnd = s.cnd ∧ t.mvu.serial = s.mvu.serial ∧ s.movesOnly t := by
  obtain ⟨_, rfl⟩ := h
  exact ⟨fun _ => rfl, fun _ => rfl, rfl, rfl, rfl, ⟨_, _, _, _, _, rfl⟩⟩

theorem State.thenResumed_reads (s : State) (slot : Nat) (m : Move) (e : Ending) :
    (s.leftBehind slot m e).recordsOnly (s.thenResumed slot m e)
    ∧ ∀ j, (s.thenResumed slot m e).move j = if slot = j then none
      else if slot = yieldSlot m.crane ∧ j < 16 then (s.move j).map (Move.resumed m.crane) else s.move j := by
  obtain ⟨moves, -⟩ := s.leftBehind_reads slot m e
  unfold State.thenResumed
  by_cases yields : slot = yieldSlot m.crane
  · rw [if_pos yields]
    refine ⟨State.resumeSlots_records _ _ _, fun j => ?_⟩
    unfold State.resume
    rw [State.move_resumeSlots, moves]
    simp only [List.mem_range, yields, true_and]
    by_cases same : yieldSlot m.crane = j
    · simp [same]
    · simp only [same, if_false]
      rfl
  · rw [if_neg yields]
    refine ⟨.refl _, fun j => ?_⟩
    rw [moves, if_neg fun both : slot = yieldSlot m.crane ∧ j < 16 => yields both.1]

theorem State.endMove_ended {s : State} {slot : Nat} {m : Move} (held : s.move slot = some m) (e : Ending) (fromPart : Bool) :
    s.Ended slot m e (s.endMove slot e fromPart) := by
  rw [State.endMove_eq held]
  obtain ⟨-, -, -, -, -, pct, stk, frame⟩ := s.gone_reads slot m e
  obtain ⟨-, work, otherWork, crane, otherCrane, vacates, breach, count, serial⟩ := s.leftBehind_reads slot m e
  obtain ⟨records, moves⟩ := s.thenResumed_reads slot m e
  obtain ⟨works, cranes, rru, -, serials, only⟩ := records.reads
  have sets := (s.thenResumed slot m e).postEnd_only m.serial e fromPart
  have left := ((s.leftBehind_only slot m e).trans only).trans sets.runway.moves
  refine ⟨fun j => (sets.move j).trans (moves j), (sets.work _).trans ((works _).trans work), (sets.work _).trans ((works _).trans otherWork),
    (sets.crane _).trans ((cranes _).trans crane), (sets.crane _).trans ((cranes _).trans otherCrane), ?_, ?_, ?_, ?_, ?_, ?_, ?_⟩
  · rw [sets.rru, rru, vacates]
  · rw [sets.rru, rru, breach]
  · rw [sets.rru, rru, count]
  · rw [sets.mvu, serials, serial]
  · rw [← pct]
    obtain ⟨_, _, _, _, _, e⟩ := left
    rw [e]
  · rw [← stk]
    obtain ⟨_, _, _, _, _, e⟩ := left
    rw [e]
  · obtain ⟨_, _, _, _, _, e⟩ := left
    refine Eq.trans ?_ frame
    rw [e]

theorem Crane.eq_other {x y : Crane} (other : x ≠ y) : y = x.other := by
  revert other
  cases x <;> cases y <;> decide

/-- The end of a move leaves every crane its interval and its presence. -/
theorem State.Ended.spaces {s t : State} {i : Nat} {m : Move} {e : Ending} (ended : s.Ended i m e t) (x : Crane) :
    (t.crane x).interval = (s.crane x).interval ∧ (t.crane x).presence = (s.crane x).presence := by
  by_cases same : m.crane = x
  · subst same
    rw [ended.crane]
    exact ⟨rfl, rfl⟩
  · obtain rfl := Crane.eq_other same
    rw [ended.otherCrane]
    exact ⟨rfl, rfl⟩

theorem State.Ended.stands {s t : State} {i : Nat} {m : Move} {e : Ending} (ended : s.Ended i m e t) : t.lyt = s.lyt ∧ t.clk = s.clk
    ∧ t.rst = s.rst ∧ t.beds = s.beds ∧ t.pcv = s.pcv ∧ t.zcu = s.zcu ∧ t.sha = s.sha ∧ t.valves = s.valves := by
  have lyt := congrArg State.lyt ended.frame
  have clk := congrArg State.clk ended.frame
  have rst := congrArg State.rst ended.frame
  have beds := congrArg State.beds ended.frame
  have pcv := congrArg State.pcv ended.frame
  have zcu := congrArg State.zcu ended.frame
  have sha := congrArg State.sha ended.frame
  have valves := congrArg State.valves ended.frame
  exact ⟨lyt, clk, rst, beds, pcv, zcu, sha, valves⟩

/-- A move that carries no piece releases nothing. -/
theorem State.Ended.bare {s t : State} {i : Nat} {m : Move} {e : Ending} (ended : s.Ended i m e t) (bare : m.piece = none) :
    t.pct = s.pct ∧ t.stk = s.stk := by
  have same : s.releaseMove m e = s := by
    unfold State.releaseMove
    rw [bare]
  exact ⟨same ▸ ended.pct, same ▸ ended.stk⟩

/-! ## What the end of a move posts (R159) -/

/-- A cancelled move that is not cancelled by the part posts nothing of its end, and its other postings are of the pair and of the lane
alone. -/
theorem State.endMove_cancelled_spares {k : CondKind} (deadlock : k ≠ .deadlock) (lane : k ≠ .laneActive) (s : State) (slot : Nat) :
    State.spares k s (s.endMove slot .cancelled false) := by
  cases held : s.move slot with
  | none =>
    unfold State.endMove
    rw [held]
    exact .refl k s
  | some m =>
    rw [State.endMove_eq held]
    obtain ⟨-, -, -, cnd, -⟩ := s.gone_reads slot m .cancelled
    obtain ⟨records, -⟩ := s.thenResumed_reads slot m .cancelled
    obtain ⟨-, -, -, hullCnd, -⟩ := ((s.gone slot m .cancelled).withdrawOf m.crane m.serial).dropHull_reads m
    have withdrawn := State.withdrawOf_spares deadlock (s.gone slot m .cancelled) m.crane m.serial
    have settled := (State.laneSettle_eq (((s.gone slot m .cancelled).withdrawOf m.crane m.serial).dropHull m) m.crane).2 k lane
    exact (((State.spares.of_cnd cnd).trans withdrawn).trans ((State.spares.of_cnd hullCnd).trans settled)).trans
      (.of_cnd records.reads.2.2.2.1)

theorem State.withdrawOf_quiet {s : State} (pair : s.rru.deadlock = none) (x : Crane) (n : Nat) : (s.withdrawOf x n).cnd = s.cnd := by
  have ends : ∀ (t : State) (n : Nat), t.rru.deadlock = none → t.endDeadlockOf n = t := fun t n none => by
    unfold State.endDeadlockOf State.inDeadlock
    rw [none]
    rfl
  unfold State.withdrawOf State.withdraw
  split
  · split
    · rw [ends _ _ ((s.setCrane_runway x _).2.2.2.trans pair)]
      exact State.setCrane_cnd ..
    · rfl
  · rfl

/-- With no deadlock and no lane that waits, such a cancel posts nothing at all. -/
theorem State.endMove_cancelled_quiet {s : State} {slot : Nat} {m : Move} (held : s.move slot = some m)
    (lane : (s.work m.crane).lane ≠ .pending) (pair : s.rru.deadlock = none) : (s.endMove slot .cancelled false).cnd = s.cnd := by
  rw [State.endMove_eq held]
  obtain ⟨-, works, rru, cnd, -⟩ := s.gone_reads slot m .cancelled
  obtain ⟨records, -⟩ := s.thenResumed_reads slot m .cancelled
  obtain ⟨-, hullWorks, -, hullCnd, -⟩ := ((s.gone slot m .cancelled).withdrawOf m.crane m.serial).dropHull_reads m
  have withdrawn := State.withdrawOf_quiet (s := s.gone slot m .cancelled) (by rw [rru]; exact pair) m.crane m.serial
  have pairs := (s.gone slot m .cancelled).withdrawOf_pair m.crane m.serial
  have settled : s.leftBehind slot m .cancelled = ((s.gone slot m .cancelled).withdrawOf m.crane m.serial).dropHull m :=
    State.laneSettle_quiet (by rw [hullWorks, pairs.work, State.work_setCrane, works, if_pos rfl]; exact lane)
  refine records.reads.2.2.2.1.trans ?_
  rw [settled, hullCnd, withdrawn, cnd]

/-- The end of a move that is posted: MOVE-DONE, MOVE-FAILED, or MOVE-CANCELLED of a cancel by the part. -/
theorem State.endMove_posts {s : State} {slot : Nat} {m : Move} (held : s.move slot = some m) {e : Ending} {fromPart : Bool} {k : CondKind}
    (posts : (e = .done ∧ k = .moveDone) ∨ (e = .failed ∧ k = .moveFailed) ∨ (e = .cancelled ∧ fromPart = true ∧ k = .moveCancelled)) :
    ∃ u : State, s.endMove slot e fromPart = u.postEvent .PL k (.serial m.serial) := by
  rw [State.endMove_eq held]
  refine ⟨s.thenResumed slot m e, ?_⟩
  rcases posts with ⟨rfl, rfl⟩ | ⟨rfl, rfl⟩ | ⟨rfl, rfl, rfl⟩ <;> rfl

end Sys2Proof.Machine
end

section
/-! SUPPORT. Proofs/Cancelled.lean: MOVE-CANCEL by the state of the move (R158). -/

namespace Sys2Proof.Machine

/-! ## Reservations released (R103, R108, R159) -/

theorem State.piece_releaseDest (s : State) (n : Nat) (d : Dest) (k : Nat) : (s.releaseDest n d).piece k = s.piece k := by
  cases d <;> rfl

theorem State.piece_releaseSource (s : State) (d : Option Source) (k : Nat) : (s.releaseSource d).piece k = s.piece k := by
  unfold State.releaseSource
  split <;> rfl

theorem State.cell_releaseDest (s : State) (n : Nat) (d : Dest) (c : Nat) : (s.releaseDest n d).cell c
    = if d = .cell c then { s.cell c with arrivals := (s.cell c).arrivals.filter (fun m => m ≠ n) } else s.cell c := by
  cases d with
  | cell a =>
    refine (State.cell_setCell _ _ _ _).trans ?_
    by_cases same : a = c
    · subst same
      simp
    · simp [same]
  | bay a => rfl
  | segment a => rfl

theorem State.cell_releaseSource (s : State) (d : Option Source) (c : Nat) : (s.releaseSource d).cell c
    = if d = some (.cell c) then { s.cell c with pendingOut := (s.cell c).pendingOut - 1 } else s.cell c := by
  unfold State.releaseSource
  split
  · next a =>
    refine (State.cell_setCell _ _ _ _).trans ?_
    by_cases same : a = c
    · subst same
      simp
    · simp [same]
  · next other => exact (if_neg fun same => other c same).symm

theorem State.bay_releaseDest (s : State) (n : Nat) (d : Dest) (b : Nat) : (s.releaseDest n d).bay b
    = if d = .bay b then { s.bay b with
        pendingWeight := (s.bay b).pendingWeight - (s.piece n).weight
        pendingCount := (s.bay b).pendingCount - 1 } else s.bay b := by
  cases d with
  | bay a =>
    refine (State.bay_setBay _ _ _ _).trans ?_
    by_cases same : a = b
    · subst same
      simp
    · simp [same]
  | cell a => rfl
  | segment a => rfl

theorem State.bay_releaseSource (s : State) (d : Option Source) (b : Nat) : (s.releaseSource d).bay b = s.bay b := by
  unfold State.releaseSource
  split <;> rfl

/-- What the end of a move that is not DONE leaves of the goods. -/
structure State.Released (s : State) (m : Move) (t : State) : Prop where
  claim : ∀ n, m.piece = some n → t.piece n = { s.piece n with claim := none }
  pieces : ∀ n, m.piece ≠ some n → t.piece n = s.piece n
  arrivals : ∀ n d, m.piece = some n → m.dest = .cell d →
    (t.cell d).arrivals = (s.cell d).arrivals.filter (fun k => k ≠ n) ∧ (t.cell d).stack = (s.cell d).stack
  departures : ∀ c, m.piece.isSome = true → m.source = some (.cell c) →
    (t.cell c).pendingOut = (s.cell c).pendingOut - 1 ∧ (t.cell c).stack = (s.cell c).stack
  cells : ∀ c, (m.piece = none ∨ (m.dest ≠ .cell c ∧ m.source ≠ some (.cell c))) → t.cell c = s.cell c
  load : ∀ n b, m.piece = some n → m.dest = .bay b → t.bay b = { s.bay b with
    pendingWeight := (s.bay b).pendingWeight - (s.piece n).weight, pendingCount := (s.bay b).pendingCount - 1 }
  bays : ∀ b, (m.piece = none ∨ m.dest ≠ .bay b) → t.bay b = s.bay b
  generation : t.stk.generation = s.stk.generation

theorem State.Released.congr {s t u : State} {m : Move} (h : s.Released m t) (pct : u.pct = t.pct) (stk : u.stk = t.stk) : s.Released m u := by
  have piece : ∀ n, u.piece n = t.piece n := fun n => by unfold State.piece; rw [pct]
  have cell : ∀ n, u.cell n = t.cell n := fun n => by unfold State.cell; rw [stk]
  have bay : ∀ n, u.bay n = t.bay n := fun n => by unfold State.bay; rw [stk]
  exact {
    claim := fun n e => (piece n).trans (h.claim n e)
    pieces := fun n e => (piece n).trans (h.pieces n e)
    arrivals := fun n d e dest => cell d ▸ h.arrivals n d e dest
    departures := fun c e source => cell c ▸ h.departures c e source
    cells := fun c e => (cell c).trans (h.cells c e)
    load := fun n b e dest => (bay b).trans (h.load n b e dest)
    bays := fun b e => (bay b).trans (h.bays b e)
    generation := (congrArg Stk.generation stk).trans h.generation }

theorem State.releaseMove_released (s : State) (m : Move) {e : Ending} (unfinished : e ≠ .done) : s.Released m (s.releaseMove m e) := by
  cases piece : m.piece with
  | none =>
    have same : s.releaseMove m e = s := by
      unfold State.releaseMove
      rw [piece]
    rw [same]
    exact ⟨by simp [piece], fun _ _ => rfl, by simp [piece], by simp [piece], fun _ _ => rfl, by simp [piece], fun _ _ => rfl, rfl⟩
  | some p =>
    have freed : s.releaseMove m e = ((s.releaseDest p m.dest).releaseSource m.source).setClaim p none := by
      unfold State.releaseMove
      rw [piece]
      cases e with
      | done => exact absurd rfl unfinished
      | cancelled => rfl
      | failed => rfl
    obtain ⟨_, _, _, only⟩ := s.releaseMove_goods m e
    have generation : (s.releaseMove m e).stk.generation = s.stk.generation := by rw [only]
    rw [freed] at generation ⊢
    have pieces : ∀ n, (((s.releaseDest p m.dest).releaseSource m.source).setClaim p none).piece n
        = if p = n then { s.piece p with claim := none } else s.piece n := fun n => by
      refine (State.piece_setPiece _ _ _ _).trans ?_
      rw [State.piece_releaseSource, State.piece_releaseDest, State.piece_releaseSource, State.piece_releaseDest]
    have cells : ∀ c, (((s.releaseDest p m.dest).releaseSource m.source).setClaim p none).cell c
        = ((s.releaseDest p m.dest).releaseSource m.source).cell c := fun c => rfl
    have bays : ∀ b, (((s.releaseDest p m.dest).releaseSource m.source).setClaim p none).bay b
        = if m.dest = .bay b then { s.bay b with
            pendingWeight := (s.bay b).pendingWeight - (s.piece p).weight
            pendingCount := (s.bay b).pendingCount - 1 } else s.bay b := fun b =>
      (State.bay_releaseSource _ _ _).trans (State.bay_releaseDest _ _ _ _)
    have named : ∀ {n}, m.piece = some n → p = n := fun at_n => Option.some.inj (piece.symm.trans at_n)
    refine ⟨fun n at_n => ?_, fun n other => ?_, fun n d at_n dest => ?_, fun c _ source => ?_, fun c away => ?_, fun n b at_n dest => ?_,
      fun b away => ?_, generation⟩
    · obtain rfl := named at_n
      exact (pieces p).trans (if_pos rfl)
    · exact (pieces n).trans (if_neg fun same : p = n => other (piece.trans (congrArg some same)))
    · obtain rfl := named at_n
      rw [cells, State.cell_releaseSource, State.cell_releaseDest, if_pos dest]
      split <;> exact ⟨rfl, rfl⟩
    · rw [cells, State.cell_releaseSource, if_pos source, State.cell_releaseDest]
      split <;> exact ⟨rfl, rfl⟩
    · obtain ⟨dest, source⟩ := away.resolve_left (by simp [piece])
      rw [cells, State.cell_releaseSource, if_neg source, State.cell_releaseDest, if_neg dest]
    · obtain rfl := named at_n
      exact (bays b).trans (if_pos dest)
    · exact (bays b).trans (if_neg (away.resolve_left (by simp [piece])))

/-! ## O37 -/

/-- A MOVE-CANCEL in RUN. -/
theorem exec_moveCancel {s : State} {h : Header} {n : Nat} {v : State} {r : Reply} (a : s.planner h)
    (acts : (s.handled h .moveCancel).cancelMove n = (v, r)) (link : v.lnk = (s.handled h .moveCancel).lnk) :
    exec (.moveCancel h (four n)) s = .next (({ v with lnk := s.lnk }).answered h .moveCancel r) :=
  exec_planner_handled rfl a ((fieldWord4_written _ n _).trans acts) link rfl rfl rfl

section
variable {s : State} {i : Nat} {m : Move} (slot : s.slotOf m.serial = some i) (held : s.move i = some m)
include slot held

theorem State.cancelMove_lifted (lifted : m.isLifted = true) : s.cancelMove m.serial = (s, { result := .loaded }) := by
  unfold State.cancelMove
  rw [slot]
  dsimp only
  rw [held]
  dsimp only
  unfold Move.isLifted at lifted
  cases state : m.state with
  | lifted p => rfl
  | queued => rw [state] at lifted; exact nomatch lifted
  | waiting => rw [state] at lifted; exact nomatch lifted
  | toPick => rw [state] at lifted; exact nomatch lifted
  | suspended => rw [state] at lifted; exact nomatch lifted

theorem State.cancelMove_toPick (toPick : m.state = .toPick) :
    ((m.stop = .none ∨ m.stop = .owed .suspend ∨ m.stop = .sent .suspend) → s.cancelMove m.serial
      = (s.setMove i (some { m with stop := .owed .cancel }), { result := .done, data := .cancel true }))
    ∧ ((m.stop = .owed .cancel ∨ m.stop = .sent .cancel) → s.cancelMove m.serial = (s, { result := .done, data := .cancel true })) := by
  unfold State.cancelMove
  rw [slot]
  dsimp only
  rw [held]
  dsimp only
  rw [toPick]
  refine ⟨fun stop => ?_, fun stop => ?_⟩
  · rcases stop with e | e | e <;> simp only [e] <;> rfl
  · rcases stop with e | e <;> simp only [e] <;> rfl

theorem State.cancelMove_ends (waits : m.state = .queued ∨ m.state = .waiting ∨ m.state = .suspended) :
    s.cancelMove m.serial = (s.endMove i .cancelled false, { result := .done, data := .cancel false }) := by
  unfold State.cancelMove
  rw [slot]
  dsimp only
  rw [held]
  dsimp only
  rcases waits with e | e | e <;> rw [e] <;> rfl

end

theorem leadOff_head (q : List Entry) : (leadOff q).head? ≠ some .barrier := by
  induction q with
  | nil => exact nofun
  | cons e q ih =>
    cases e with
    | barrier => exact ih
    | move n => exact fun h => nomatch h

theorem State.endMove_lnk (s : State) (i : Nat) (e : Ending) (f : Bool) : (s.endMove i e f).lnk = s.lnk := by
  obtain ⟨_, _, _, _, _, _, _, _, only⟩ := s.endMove_only i e f
  rw [only]

/-- A MOVE-CANCEL that leaves a state in which the link is as it was. -/
theorem exec_moveCancel_leaves {s t : State} {h : Header} {n : Nat} {r : Reply} (a : s.planner h) (link : t.lnk = s.lnk)
    (acts : ∀ l, ({ s with lnk := l } : State).cancelMove n = ({ t with lnk := l }, r)) :
    exec (.moveCancel h (four n)) s = .next (t.answered h .moveCancel r) :=
  exec_planner (c := .moveCancel h (four n)) rfl a link (fun l => (fieldWord4_written _ n _).trans (acts l)) rfl rfl rfl

theorem State.slotOf_none {s : State} {n : Nat} (none : ∀ i m, i < 18 → s.move i = some m → m.serial ≠ n) : s.slotOf n = Option.none := by
  refine List.find?_eq_none.mpr fun i mem => ?_
  cases held : s.move i with
  | none => simp
  | some m => simpa using none i m (List.mem_range.mp mem) held

/-- Settles O37, by the state of the move. -/
theorem moveCancelled : Obligations.MoveCancelled := by
  refine ⟨fun s h n a word none => exec_moveCancel_leaves a rfl fun l => ?_, fun s h i m a slot held word alone => ?_⟩
  · have absent : ({ s with lnk := l } : State).slotOf n = Option.none := State.slotOf_none (s := { s with lnk := l }) none
    unfold State.cancelMove
    rw [absent]
    rfl
  · have found : ∀ l, ({ s with lnk := l } : State).slotOf m.serial = some i := fun l => State.slotOf_eq (s := { s with lnk := l }) slot held alone
    refine ⟨fun lifted => ?_, fun toPick stop => ?_, fun toPick stop => ?_, fun waits table => ?_, fun waits yields bare => ?_⟩
    · exact exec_moveCancel_leaves a rfl fun l => State.cancelMove_lifted (s := { s with lnk := l }) (found l) held lifted
    · exact exec_moveCancel_leaves a rfl fun l => (State.cancelMove_toPick (s := { s with lnk := l }) (found l) held toPick).1 stop
    · exact exec_moveCancel_leaves a rfl fun l => (State.cancelMove_toPick (s := { s with lnk := l }) (found l) held toPick).2 stop
    all_goals
      obtain ⟨l, handled⟩ := s.handled_eq h .moveCancel
      have acts : (s.handled h .moveCancel).cancelMove m.serial
          = (({ s with lnk := l } : State).endMove i .cancelled false, { result := .done, data := .cancel false }) := by
        rw [handled]
        exact State.cancelMove_ends (s := { s with lnk := l }) (found l) held waits
      have link : (({ s with lnk := l } : State).endMove i .cancelled false).lnk = (s.handled h .moveCancel).lnk := by
        rw [handled]
        exact State.endMove_lnk ..
      have ended := State.endMove_ended (s := { s with lnk := l }) held .cancelled false
      refine ⟨_, exec_moveCancel a acts link, ?_⟩
    · have released := (({ s with lnk := l } : State).releaseMove_released m (e := .cancelled) nofun).congr ended.pct ended.stk
      have away : i ≠ yieldSlot m.crane := Nat.ne_of_lt (Nat.lt_of_lt_of_le table (sixteen_le_yieldSlot _))
      refine ⟨(ended.moves i).trans (if_pos rfl), fun j other => (ended.moves j).trans ((if_neg (Ne.symm other)).trans (if_neg fun both => away both.1)),
        ended.serial, fun e mem same => ?_, ?_, ended.otherWork, released.claim, released.pieces, released.arrivals, released.departures,
        released.cells, released.load, released.bays, fun p r mem kind => ?_, fun lane pair => ?_, fun x => ?_, released.generation, ?_⟩
      · have queue := congrArg CraneWork.queue ended.work
        exact not_mem_leaveQueue i _ (same ▸ queue ▸ mem)
      · have queue := congrArg CraneWork.queue ended.work
        exact fun bar => leadOff_head _ ((congrArg List.head? queue).symm.trans bar)
      · rcases kind with kind | kind | kind
        all_goals exact State.endMove_cancelled_spares (by decide) (by decide) { s with lnk := l } i p r mem kind
      · exact State.endMove_cancelled_quiet (s := { s with lnk := l }) held lane pair
      · exact ended.spaces x
      · obtain ⟨lyt, clk, rst, beds, pcv, zcu, sha, valves⟩ := ended.stands
        exact ⟨lyt, clk, rst, beds, pcv, zcu, sha, valves, rfl⟩
    · obtain ⟨lyt, clk, -, beds, -, zcu, -, -⟩ := ended.stands
      obtain ⟨pct, stk⟩ := ended.bare bare
      refine ⟨(ended.moves i).trans (if_pos rfl), fun j o less at_j => ?_, pct, stk, lyt, clk, beds, zcu⟩
      have away : i ≠ j := by
        rw [yields]
        exact Nat.ne_of_gt (Nat.lt_of_lt_of_le less (sixteen_le_yieldSlot _))
      refine (ended.moves j).trans ((if_neg away).trans ((if_pos ⟨yields, less⟩).trans ?_))
      show (s.move j).map (Move.resumed m.crane) = _
      rw [at_j, Option.map_some]
      unfold Move.resumed
      split <;> rfl

end Sys2Proof.Machine
end

section
/-! SUPPORT. Proofs/Watched.lean: what the move unit's work at a report leaves alone: the outside fields of the cranes, and the records of a
breach, of a stale crane and of a hook mismatch (R122, R136, R156). -/

namespace Sys2Proof.Machine

/-- The kinds that the move unit's work neither posts nor ends. -/
def isWatched (k : CondKind) : Prop := k = .breach ∨ k = .craneStale ∨ k = .hookMismatch

/-- `t` comes of `s` with every outside field, and every record of kind `k` that is STANDING or is not, as it was; and where that kind is
HOOK-MISMATCH, with the mismatches as they were. -/
structure State.watches (k : CondKind) (s t : State) : Prop where
  spares : State.spares k s t
  lasts : ∀ p subj, (s.condSet p).stands k subj → (t.condSet p).stands k subj
  outside : ∀ y, (t.crane y).outside = (s.crane y).outside
  mismatch : k = .hookMismatch → ∀ y, (t.work y).mismatch = (s.work y).mismatch

section
variable {k : CondKind}

theorem State.watches.refl (s : State) : State.watches k s s := ⟨.refl k s, fun _ _ => id, fun _ => rfl, fun _ _ => rfl⟩

theorem State.watches.trans {s t u : State} (h : State.watches k s t) (g : State.watches k t u) : State.watches k s u :=
  ⟨h.spares.trans g.spares, fun p subj stands => g.lasts p subj (h.lasts p subj stands), fun y => (g.outside y).trans (h.outside y),
    fun hook y => (g.mismatch hook y).trans (h.mismatch hook y)⟩

theorem State.watches.of_same {s t : State} (cnd : t.cnd = s.cnd) (outside : ∀ y, (t.crane y).outside = (s.crane y).outside)
    (mismatch : ∀ y, (t.work y).mismatch = (s.work y).mismatch := by intro y; cases y <;> rfl) : State.watches k s t := by
  refine ⟨.of_cnd cnd, fun p subj stands => ?_, outside, fun _ => mismatch⟩
  have same : t.condSet p = s.condSet p := by cases p <;> (unfold State.condSet; rw [cnd])
  rwa [same]

theorem State.watches_setCrane (s : State) (x : Crane) {r : CraneRec} (outside : r.outside = (s.crane x).outside) :
    State.watches k s (s.setCrane x r) := by
  refine .of_same (State.setCrane_cnd ..) (fun y => ?_) fun y => by rw [State.work_setCrane]
  rw [State.crane_setCrane]
  split
  · next same => rw [outside, same]
  · rfl

theorem State.watches_setMove (s : State) (i : Nat) (m : Option Move) : State.watches k s (s.setMove i m) :=
  .of_same rfl (fun _ => rfl) fun y => by rw [State.work_setMove]

theorem State.watches_setWork (s : State) (x : Crane) (w : CraneWork)
    (mismatch : w.mismatch = (s.work x).mismatch := by rfl) : State.watches k s (s.setWork x w) := by
  refine .of_same (State.setWork_cnd ..) (fun y => by rw [State.crane_setWork]) fun y => ?_
  rw [State.work_setWork]
  split
  · next same => rw [mismatch, same]
  · rfl

theorem State.watches_postEvent {k' : CondKind} (other : k' ≠ k) (s : State) (p : Point) (subj : Subject) :
    State.watches k s (s.postEvent p k' subj) :=
  ⟨State.postEvent_spares other s p subj, fun q subj' stands => s.postAt_lasts _ _ _ _ _ q k subj' stands,
    fun y => congrArg CraneRec.outside ((s.postEvent_only p k' subj).crane y),
    fun _ y => congrArg CraneWork.mismatch ((s.postEvent_only p k' subj).work y)⟩

theorem State.watches_raiseCause {k' : CondKind} (other : k' ≠ k) (s : State) (ports : List Point) (subj : Subject) :
    State.watches k s (s.raiseCause ports k' subj) :=
  ⟨s.raiseCause_spares ports other subj, fun q subj' stands => s.raiseCause_lasts ports k' subj q k subj' stands,
    fun y => congrArg CraneRec.outside ((s.raiseCause_only ports k' subj).crane y),
    fun _ y => congrArg CraneWork.mismatch ((s.raiseCause_only ports k' subj).work y)⟩

theorem State.watches_endCause {k' : CondKind} (other : k' ≠ k) (s : State) (ports : List Point) (subj : Subject) :
    State.watches k s (s.endCause ports k' subj) :=
  ⟨s.endCause_spares ports other subj, fun _ _ stands => s.endCause_lasts ports (fun same => other same.1.symm) stands,
    fun y => congrArg CraneRec.outside ((s.endCause_only ports k' subj).crane y),
    fun _ y => congrArg CraneWork.mismatch ((s.endCause_only ports k' subj).work y)⟩

theorem State.watches_foldl {α : Type} {f : State → α → State} (h : ∀ (s : State) (a : α), State.watches k s (f s a)) (l : List α) (s : State) :
    State.watches k s (l.foldl f s) := foldl_keeps State.watches.refl State.watches.trans h l s

theorem State.vacatesOnly.watches {s t : State} (h : s.vacatesOnly t) : State.watches k s t := by
  obtain ⟨_, rfl⟩ := h
  exact .of_same rfl fun y => by cases y <;> rfl

theorem State.recordsOnly.watches {s t : State} (h : s.recordsOnly t) : State.watches k s t := by
  obtain ⟨_, rfl⟩ := h
  exact .of_same rfl fun _ => rfl

theorem State.goodsOnly.watches {s t : State} (h : s.goodsOnly t) : State.watches k s t := by
  obtain ⟨_, _, _, rfl⟩ := h
  exact .of_same rfl fun _ => rfl

/-! ## The runway unit -/

theorem State.watches_shrinkTo (s : State) (x : Crane) (r : Range) : State.watches k s (s.shrinkTo x r) := by
  unfold State.shrinkTo
  split
  · split
    · exact (s.giveBack_vacates x _ r).watches.trans (State.watches_setCrane _ x rfl)
    · exact .refl s
  · exact .refl s

variable (w : isWatched k)
include w

theorem isWatched_ne : CondKind.deadlock ≠ k ∧ CondKind.laneActive ≠ k ∧ CondKind.moveDone ≠ k ∧ CondKind.moveFailed ≠ k
    ∧ CondKind.moveCancelled ≠ k ∧ CondKind.eventMismatch ≠ k := by
  rcases w with rfl | rfl | rfl <;> decide

theorem State.watches_endDeadlock (s : State) : State.watches k s s.endDeadlock := by
  unfold State.endDeadlock
  split
  · exact State.watches.trans (t := { s with rru := { s.rru with deadlock := none } }) (.of_same rfl fun y => by cases y <;> rfl)
      (State.watches_endCause (isWatched_ne w).1 _ _ _)
  · exact .refl s

theorem State.watches_endDeadlockOf (s : State) (n : Nat) : State.watches k s (s.endDeadlockOf n) := by
  unfold State.endDeadlockOf
  split
  · exact s.watches_endDeadlock w
  · exact .refl s

theorem State.watches_postDeadlock (s : State) (low : Nat) (high : Option Nat) : State.watches k s (s.postDeadlock low high) := by
  unfold State.postDeadlock
  split
  · exact .refl s
  · refine (s.watches_endDeadlock w).trans (.trans ?_ (State.watches_raiseCause (isWatched_ne w).1 _ _ _))
    exact .of_same rfl fun y => by cases y <;> rfl

theorem State.watches_withdraw (s : State) (x : Crane) : State.watches k s (s.withdraw x) := by
  unfold State.withdraw
  split
  · refine .trans ?_ (State.watches_endDeadlockOf w _ _)
    exact State.watches_setCrane s x rfl
  · exact .refl s

theorem State.watches_withdrawOf (s : State) (x : Crane) (n : Nat) : State.watches k s (s.withdrawOf x n) := by
  unfold State.withdrawOf
  split
  · exact s.watches_withdraw w x
  · exact .refl s

theorem State.watches_withdrawOther (s : State) (x : Crane) (n : Nat) : State.watches k s (s.withdrawOther x n) := by
  unfold State.withdrawOther
  split
  · split
    · exact .refl s
    · exact s.watches_withdraw w x
  · exact .refl s

theorem State.watches_setRefusal (s : State) (x : Crane) (r : Refused) : State.watches k s (s.setRefusal x r) :=
  (s.watches_withdrawOther w x _).trans (State.watches_setCrane _ x rfl)

theorem State.watches_grantInterval (s : State) (x : Crane) (n : Nat) (r : Range) : State.watches k s (s.grantInterval x n r) := by
  have granted : ∀ added : List Nat, State.watches k s (((added.foldl (State.takeBack x) s).setCrane x
      { (added.foldl (State.takeBack x) s).crane x with interval := some r, refusal := none }).endDeadlockOf n) := fun added => by
    refine .trans ?_ (State.watches_endDeadlockOf w _ _)
    refine (State.watches_foldl (fun t n => (State.takeBack_vacates x t n).watches) added s).trans ?_
    exact State.watches_setCrane _ x rfl
  exact granted _

/-! ## The move unit -/

theorem State.watches_setAside (s : State) (i : Nat) (m : Move) (st : MoveState) (why : Option WaitReason) :
    State.watches k s (s.setAside i m st why) := (s.watches_setMove i _).trans (State.watches_withdrawOf w _ _ _)

theorem State.watches_laneSettle (s : State) (x : Crane) : State.watches k s (s.laneSettle x) := by
  unfold State.laneSettle
  split
  · exact (s.watches_setWork x _).trans (State.watches_postEvent (isWatched_ne w).2.1 _ _ _)
  · exact .refl s

omit w in
theorem State.watches_dropHull (s : State) (m : Move) : State.watches k s (s.dropHull m) := by
  unfold State.dropHull
  split
  · exact State.watches_setCrane s _ rfl
  · exact .refl s

theorem State.watches_postEnd (s : State) (n : Nat) (e : Ending) (f : Bool) : State.watches k s (s.postEnd n e f) := by
  obtain ⟨-, -, done, failed, cancelled, -⟩ := isWatched_ne w
  unfold State.postEnd
  split
  · exact State.watches_postEvent done _ _ _
  · exact State.watches_postEvent failed _ _ _
  · split
    · exact State.watches_postEvent cancelled _ _ _
    · exact .refl s

theorem State.watches_endMove (s : State) (i : Nat) (e : Ending) (f : Bool) : State.watches k s (s.endMove i e f) := by
  cases held : s.move i with
  | none =>
    unfold State.endMove
    rw [held]
    exact .refl s
  | some m =>
    rw [State.endMove_eq held]
    have gone : State.watches k s (s.gone i m e) :=
      ((s.releaseMove_goods m e).watches.trans (State.watches_setMove _ _ _)).trans (State.watches_setWork _ _ _)
    have left : State.watches k s (s.leftBehind i m e) :=
      ((gone.trans (State.watches_withdrawOf w _ _ _)).trans (State.watches_dropHull _ _)).trans (State.watches_laneSettle w _ _)
    exact (left.trans (s.thenResumed_reads i m e).1.watches).trans (State.watches_postEnd w _ _ _ _)

theorem State.watches_callYield (s : State) (x : Crane) (n : Nat) (i : Option Nat) : State.watches k s (s.callYield x n i) := by
  have yields : ∀ t : State, State.watches k t (t.createYield x n) := fun t => .of_same rfl fun _ => rfl
  have suspends : ∀ j, State.watches k s (s.suspendMove j) := fun j => by
    unfold State.suspendMove
    repeat' split
    · exact s.watches_setAside w _ _ _ _
    · exact (s.watches_setMove _ _).trans (State.watches_withdrawOf w _ _ _)
    · exact .refl s
    · exact .refl s
  unfold State.callYield
  split
  · exact (suspends _).trans (yields _)
  · exact yields s

theorem State.watches_mutualWait (s : State) (x : Crane) (n : Nat) (r : Range) : State.watches k s (s.mutualWait x n r) := by
  unfold State.mutualWait
  dsimp only
  repeat' split
  all_goals first
    | exact .refl s
    | exact s.watches_callYield w _ _ _
    | exact s.watches_postDeadlock w _ _

theorem State.watches_resolveRefusal (s : State) (x : Crane) (m : Move) (why : WaitReason) (r : Range) :
    State.watches k s (s.resolveRefusal x m why r) := by
  unfold State.resolveRefusal
  repeat' split
  all_goals first
    | exact .refl s
    | exact s.watches_callYield w _ _ _
    | exact s.watches_postDeadlock w _ _
    | exact s.watches_mutualWait w _ _ _

theorem State.watches_askLeg (s : State) (x : Crane) (i : Nat) (m : Move) (leg : Leg) : State.watches k s (s.askLeg x i m leg) := by
  unfold State.askLeg
  split
  · exact (s.watches_setMove _ _).trans (State.watches_withdrawOther w _ _ _)
  · split
    · exact (s.watches_setMove _ _).trans (State.watches_grantInterval w _ _ _ _)
    · have refused := fun (m' : Move) (r : Refused) => (s.watches_setMove i (some m')).trans (State.watches_setRefusal w _ x r)
      dsimp only
      split
      · exact (refused _ _).trans (State.watches_resolveRefusal w _ _ _ _ _)
      · exact refused _ _

theorem State.watches_examine (x : Crane) (q : List Entry) (b : Bool) (f : Option Nat) (s : State) :
    State.watches k s (State.examine x q b f s).1 := by
  induction q generalizing b f s with
  | nil => exact .refl s
  | cons e q ih =>
    cases e with
    | barrier => exact ih _ _ s
    | move i =>
      unfold State.examine
      repeat' split
      all_goals first
        | exact ih _ _ s
        | exact (s.watches_setAside w _ _ _ _).trans (ih _ _ _)

theorem State.watches_findWork (s : State) (x : Crane) : State.watches k s (s.findWork x).1 := by
  unfold State.findWork
  repeat' split
  · exact .refl s
  · exact .refl s
  · exact State.watches_examine w _ _ _ _ _

omit w in
theorem State.watches_lift (s : State) (x : Crane) (i : Nat) (m : Move) (p : SubPhase) : State.watches k s (s.lift x i m p) :=
  (s.watches_setMove i _).trans (State.watches_setCrane _ x rfl)

theorem State.watches_work4 (s : State) (x : Crane) (b : Bool) (l : List Nat) : State.watches k s (s.work4 x b l) := by
  have resumed : State.watches k s (s.resumeIfFree x l) := by
    unfold State.resumeIfFree
    split
    · exact .refl s
    · exact (State.resumeSlots_records x l s).watches
  have found := resumed.trans (State.watches_findWork w _ x)
  unfold State.work4 State.setDownLift
  dsimp only
  repeat' split
  all_goals first
    | exact found
    | exact found.trans (State.watches_lift _ _ _ _ _)
    | exact found.trans (State.watches_askLeg w _ _ _ _ _)

omit w in
theorem State.watches_giveOrder (s : State) (x : Crane) (b : Bool) : State.watches k s (s.giveOrder x b).1 := by
  have composed : State.watches k s (s.composeOrder x).1 := by
    unfold State.composeOrder
    repeat' split
    all_goals first
      | exact .refl s
      | exact s.watches_setMove _ _
  exact composed.trans (State.watches_setWork _ x _)

theorem State.watches_completeStop (s : State) (x : Crane) (n : Nat) (b : Bool) : State.watches k s (s.completeStop x n b) := by
  have shrinks : ∀ t : State, State.watches k t (t.shrinkInside x n b) := fun t => by
    unfold State.shrinkInside
    split
    · exact t.watches_shrinkTo x _
    · exact .refl t
  unfold State.completeStop
  repeat' split
  · exact (s.watches_endMove w _ _ _).trans (shrinks _)
  · exact ((s.watches_setMove _ _).trans (State.watches_laneSettle w _ _)).trans (shrinks _)
  · exact .refl s
  · exact .refl s
  · exact .refl s

omit w in
/-- The hook's comparison touches HOOK-MISMATCH alone (R156). -/
theorem State.watches_compareHook (other : k ≠ .hookMismatch) (s : State) (x : Crane) (h : Hook) : State.watches k s (s.compareHook x h) := by
  have marked : ∀ b, State.watches k s (s.setWork x { s.work x with mismatch := b }) := fun b =>
    ⟨.of_cnd (State.setWork_cnd ..), fun p subj stands => by cases x <;> exact stands, fun y => by rw [State.crane_setWork],
      fun hook => absurd hook other⟩
  unfold State.compareHook
  repeat' split
  · exact (marked _).trans (State.watches_endCause (Ne.symm other) _ _ _)
  · exact .refl s
  · exact .refl s
  · exact (marked _).trans (State.watches_raiseCause (Ne.symm other) _ _ _)

/-! ## Events -/

theorem State.watches_outToPick (s : State) (x : Crane) (i : Nat) (m : Move) : State.watches k s (s.outToPick x i m) := by
  unfold State.outToPick
  repeat' split
  all_goals first
    | exact s.watches_endMove w _ _ _
    | exact (s.watches_setMove _ _).trans (State.watches_laneSettle w _ _)

theorem State.watches_craneOut (s : State) (x : Crane) : State.watches k s (s.craneOut x) := by
  have ended := s.watches_endMove w (yieldSlot x) .cancelled true
  unfold State.craneOut
  dsimp only
  repeat' split
  all_goals first
    | exact ended
    | exact ended.trans (State.watches_outToPick w _ _ _ _)
    | exact ended.trans (State.watches_setMove _ _ _)

omit w in
theorem State.watches_takePicked (s : State) (x : Crane) (i : Nat) (m : Move) (n : Nat) :
    State.watches k s (s.takePicked x i m n) := by
  have hooked : State.watches k s (s.hookPiece x m) := by
    unfold State.hookPiece
    repeat' split
    all_goals exact .of_same rfl fun _ => rfl
  have lifted := fun p => hooked.trans (State.watches_lift _ x i m p)
  unfold State.takePicked
  split
  · exact (lifted _).trans (State.watches_shrinkTo _ x _)
  · exact (lifted _).trans (State.watches_shrinkTo _ x _)

theorem State.watches_takePlaced (s : State) (x : Crane) (i : Nat) (m : Move) (n : Nat) :
    State.watches k s (s.takePlaced x i m n) := by
  have down : State.watches k s (s.putDown m) := by
    unfold State.putDown
    repeat' split
    all_goals exact .of_same rfl fun _ => rfl
  have cleared : ∀ t : State, State.watches k t (t.clearOrphan x m) := fun t => by
    unfold State.clearOrphan
    split
    · exact t.watches_setWork x _
    · exact .refl t
  exact ((down.trans (cleared _)).trans (State.watches_shrinkTo _ x _)).trans (State.watches_endMove w _ _ _ _)

omit w in
theorem State.watches_goOut (s : State) (x : Crane) (n : Nat) : State.watches k s (s.goOut x n) := by
  refine (s.watches_shrinkTo x (Range.point n)).trans ?_
  exact State.watches_setCrane _ x rfl

theorem State.watches_takeEvent (s : State) (x : Crane) (n e : Nat) : State.watches k s (s.takeEvent x n e).1 := by
  have refused : State.watches k s (s.refuseEvent x).1 := by
    obtain ⟨-, -, -, -, -, mismatch⟩ := isWatched_ne w
    show State.watches k s (s.postEvent .PL .eventMismatch (.crane x))
    exact State.watches_postEvent mismatch s _ _
  unfold State.takeEvent
  split
  · exact .refl s
  · split
    · exact (s.watches_shrinkTo x _).trans (State.watches_endMove w _ _ _ _)
    · exact refused
  · split
    · exact State.watches_takePicked _ _ _ _ _
    · exact refused
  · split
    · exact State.watches_takePlaced w _ _ _ _ _
    · exact refused
  · split
    · exact State.watches_endMove w _ _ _ _
    · exact refused
  · split
    · exact (State.watches_goOut _ _ _).trans (State.watches_craneOut w _ x)
    · exact refused
  · split
    · exact State.watches_setCrane s x rfl
    · exact refused
  · exact refused

/-- What follows the event of a report, the hook's comparison apart (R152). -/
theorem State.watches_afterHook (s : State) (x : Crane) (n : Nat) (inside mayAsk taken : Bool) (l : List Nat) :
    State.watches k s (((s.completeStop x n inside).work4 x mayAsk l).giveOrder x taken).1 :=
  ((s.watches_completeStop w x n inside).trans (State.watches_work4 w _ x mayAsk l)).trans (State.watches_giveOrder _ x taken)

end

end Sys2Proof.Machine
end

section
/-! SUPPORT. Proofs/Reported.lean: a crane's report stage by stage (R121, R152): what the runway unit makes of it, and where each stage of
the move unit's work has nothing to do. -/

namespace Sys2Proof.Machine

/-- A report of a crane in RUN is taken by the runway and the move unit, whatever stands in the link. -/
theorem exec_report {s : State} {h : Header} {x : Crane} (a : s.reporting h x) (n k e : Nat) :
    ∃ l, exec (.craneReport h [n, k, e]) s = .next
      (({ (State.takeReport { s with lnk := l } x n k e).1 with lnk := s.lnk }).answered h .craneReport
        (State.takeReport { s with lnk := l } x n k e).2) := by
  obtain ⟨l, same⟩ := s.handled_eq h .craneReport
  exact ⟨l, same ▸ exec_craneReport a n k e⟩

/-! ## The runway unit's part -/

/-- What steps 2 and 3 of R121 make of a crane's record. -/
def State.seenRec (s : State) (x : Crane) (n : Nat) (k : Hook) : CraneRec :=
  { s.crane x with
    presence := if (s.crane x).presence = .out then .out else .active
    position := some n
    hook := some k
    timer := if (s.crane x).presence = .out then (s.crane x).timer else some (s.presenceTimeout x) }

theorem State.seenRec_of_active {s : State} {x : Crane} (active : (s.crane x).presence = .active) (n : Nat) (k : Hook) :
    s.seenRec x n k = { s.crane x with position := some n, hook := some k, timer := some (s.presenceTimeout x) } := by
  simp [State.seenRec, active]

theorem State.seen_eq {s : State} {x : Crane} (fresh : (s.crane x).presence ≠ .stale) (n : Nat) (k : Hook) :
    s.seen x n k = s.setCrane x (s.seenRec x n k) := by
  cases presence : (s.crane x).presence with
  | stale => exact absurd presence fresh
  | unseen => simp [State.seen, State.seenRec, presence]
  | active => simp [State.seen, State.seenRec, presence]
  | out => simp [State.seen, State.seenRec, presence]

theorem State.seen_stale {s : State} {x : Crane} (stale : (s.crane x).presence = .stale) (n : Nat) (k : Hook) :
    s.seen x n k = (s.setCrane x (s.seenRec x n k)).endCause (stalePorts x) .craneStale (.crane x) := by
  simp [State.seen, State.seenRec, stale]

theorem State.seen_sets (s : State) (x : Crane) (n : Nat) (k : Hook) : (s.setCrane x (s.seenRec x n k)).setsOnly (s.seen x n k) := by
  by_cases stale : (s.crane x).presence = .stale
  · rw [State.seen_stale stale]
    exact State.endCause_only _ _ _ _
  · rw [State.seen_eq stale]
    exact .refl _

theorem State.crane_seen (s : State) (x : Crane) (n : Nat) (k : Hook) (y : Crane) :
    (s.seen x n k).crane y = if x = y then s.seenRec x n k else s.crane y := by
  rw [(s.seen_sets x n k).crane, State.crane_setCrane]

theorem State.crane_seen_self (s : State) (x : Crane) (n : Nat) (k : Hook) : (s.seen x n k).crane x = s.seenRec x n k := by
  rw [State.crane_seen, if_pos rfl]

theorem State.firstInterval_kept {s : State} {x : Crane} {r : Range} (held : (s.crane x).interval = some r) (n : Nat) :
    s.firstInterval x n = s := by
  simp [State.firstInterval, held]

/-- A crane that holds an interval reports inside it (R136). -/
theorem State.runwayReport_inside {s : State} {x : Crane} {n : Nat} {r : Range} (held : (s.crane x).interval = some r)
    (inside : r.has n = true) (k : Hook) :
    s.runwayReport x n k = (s.seen x n k).setCrane x { s.seenRec x n k with outside := false } := by
  have mine : ((s.seen x n k).crane x).interval = some r := by rw [State.crane_seen_self]; exact held
  unfold State.runwayReport
  rw [State.firstInterval_kept mine]
  unfold State.breachTest State.insideInterval
  rw [mine, Option.map_some, inside, State.crane_seen_self]
  rfl

/-- What a report of an ACTIVE crane inside its interval makes of it (R121, R136). -/
def State.reported (s : State) (x : Crane) (n : Nat) (k : Hook) : State :=
  s.setCrane x { s.crane x with position := some n, hook := some k, timer := some (s.presenceTimeout x), outside := false }

theorem State.runwayReport_active {s : State} {x : Crane} {n : Nat} {r : Range} (active : (s.crane x).presence = .active)
    (held : (s.crane x).interval = some r) (inside : r.has n = true) (k : Hook) : s.runwayReport x n k = s.reported x n k := by
  rw [State.runwayReport_inside held inside, State.seen_eq (by rw [active]; decide), State.seenRec_of_active active]
  cases x <;> rfl

/-- A STALE crane reports inside its interval: it is ACTIVE again, and the cause of CRANE-STALE has ended (R121, R122). -/
theorem State.runwayReport_returns {s : State} {x : Crane} {n : Nat} {r : Range} (stale : (s.crane x).presence = .stale)
    (held : (s.crane x).interval = some r) (inside : r.has n = true) (k : Hook) :
    ∃ t c, s.runwayReport x n k = t ∧ t = { s.setCrane x { s.crane x with
          presence := .active, position := some n, hook := some k, timer := some (s.presenceTimeout x), outside := false } with
          cnd := c }
      ∧ ∀ p, ¬(t.condSet p).stands .craneStale (.crane x) := by
  have known : s.seenRec x n k = { s.crane x with
      presence := .active, position := some n, hook := some k, timer := some (s.presenceTimeout x) } := by
    simp [State.seenRec, stale]
  have ends := fun p => State.endCause_stands (s.setCrane x (s.seenRec x n k)) (stalePorts x) .craneStale (.crane x) p
  obtain ⟨a, b, c, e⟩ := s.seen_sets x n k
  rw [← State.seen_stale stale] at ends
  refine ⟨_, { s.cnd with pl := a, cw := b, ce := c }, State.runwayReport_inside held inside k, ?_, fun p => ?_⟩
  · rw [e, known]
    cases x <;> rfl
  · have same : ((s.seen x n k).setCrane x { s.seenRec x n k with outside := false }).condSet p = (s.seen x n k).condSet p := by
      cases x <;> rfl
    rw [same]
    exact ends p

/-- A report that the breach test finds outside, once the first interval has been asked for (R136). -/
theorem State.breachTest_outside {s : State} {x : Crane} {n : Nat} (out : s.insideInterval x n = false) :
    s.breachTest x n = if (s.crane x).outside then s else (s.setCrane x { s.crane x with outside := true }).breached x := by
  unfold State.breachTest
  rw [out]
  rfl

/-- A crane reports outside the interval it holds, or too close to the other crane to take its first one (R121, R136). -/
theorem State.runwayReport_outside {s : State} {x : Crane} {n : Nat}
    (out : (∃ r, (s.crane x).interval = some r ∧ r.has n = false)
      ∨ ((s.crane x).interval = none ∧ s.clearFor x ⟨n, n⟩ = false)) (k : Hook) :
    s.runwayReport x n k = if (s.crane x).outside then s.seen x n k
      else ((s.seen x n k).setCrane x { s.seenRec x n k with outside := true }).breached x := by
  have same : (s.seen x n k).firstInterval x n = s.seen x n k := by
    rcases out with ⟨r, held, -⟩ | ⟨-, near⟩
    · exact State.firstInterval_kept (r := r) (by rw [State.crane_seen_self]; exact held) n
    · have near' : (s.seen x n k).clearFor x ⟨n, n⟩ = false := by
        rw [← near]
        unfold State.clearFor
        rw [State.crane_seen, if_neg (State.other_ne x)]
        obtain ⟨_, _, _, _, only⟩ := s.seen_only x n k
        rw [only]
      unfold State.firstInterval
      show (if _ && (s.seen x n k).clearFor x ⟨n, n⟩ then _ else _) = _
      rw [near', Bool.and_false]
      rfl
  have outside : (s.seen x n k).insideInterval x n = false := by
    unfold State.insideInterval
    rw [State.crane_seen_self]
    show ((s.crane x).interval.map _).getD false = false
    rcases out with ⟨r, held, less⟩ | ⟨none, -⟩
    · rw [held]
      exact less
    · rw [none]
      rfl
  unfold State.runwayReport
  rw [same, State.breachTest_outside outside, State.crane_seen_self]
  rfl

/-- An UNSEEN crane's first report, clear of the other crane, gives it the interval of its segment (R121, step 4). -/
theorem State.runwayReport_unseen {s : State} {x : Crane} {n : Nat} (unseen : (s.crane x).presence = .unseen)
    (bare : (s.crane x).interval = none) (clear : s.clearFor x ⟨n, n⟩ = true) (k : Hook) :
    s.runwayReport x n k = s.setCrane x { s.crane x with
      presence := .active, position := some n, hook := some k, timer := some (s.presenceTimeout x), interval := some ⟨n, n⟩,
      outside := false } := by
  have clear' : (s.setCrane x (s.seenRec x n k)).clearFor x ⟨n, n⟩ = true := by
    rw [← clear]
    unfold State.clearFor
    rw [State.crane_setCrane, if_neg (State.other_ne x), State.setCrane_lyt]
  have takes : (s.setCrane x (s.seenRec x n k)).firstInterval x n
      = s.setCrane x { s.seenRec x n k with interval := some ⟨n, n⟩ } := by
    unfold State.firstInterval State.setInterval
    rw [State.crane_setCrane, if_pos rfl]
    show (if _ && _ && (s.setCrane x (s.seenRec x n k)).clearFor x ⟨n, n⟩ then _ else _) = _
    rw [clear']
    simp [State.seenRec, unseen, bare]
    cases x <;> rfl
  have known : s.seenRec x n k = { s.crane x with
      presence := .active, position := some n, hook := some k, timer := some (s.presenceTimeout x) } := by
    simp [State.seenRec, unseen]
  unfold State.runwayReport
  rw [State.seen_eq (by rw [unseen]; decide), takes, known]
  unfold State.breachTest State.insideInterval
  rw [State.crane_setCrane, if_pos rfl]
  simp only [Option.map_some, Option.getD_some, Range.has, Nat.le_refl, decide_true, Bool.and_self, if_true]
  cases x <;> rfl

/-! ## The fields -/

/-- A report out of range is refused by its first bad field (R121, step 1). -/
theorem State.takeReport_bad (s : State) (x : Crane) {n k e i : Nat} (bad : firstBad (reportChecks n k e) = some i) :
    s.takeReport x n k e = (s, badFieldReply i) := by
  unfold State.takeReport
  rw [bad]
  rfl

/-- The state that the moves of a report meet, its event having been taken (R152, step 1). -/
def State.eventOf (s : State) (x : Crane) (n k e : Nat) : State × Bool := (s.runwayReport x n (hookOf k)).takeEvent x n e

/-- A report in range: the runway unit, the event, and steps 2 to 5 of R152. -/
theorem State.takeReport_valid (s : State) (x : Crane) {n k e : Nat} (segment : n < 32) (hook : k ≤ 1) (event : e ≤ 6) :
    s.takeReport x n k e = (s.eventOf x n k e).1.afterEvent x n (hookOf k) ((s.runwayReport x n (hookOf k)).insideInterval x n)
      ((s.eventOf x n k e).2 && asksAt e) (s.eventOf x n k e).2 (s.suspendedSlots x) := by
  have good : firstBad (reportChecks n k e) = none := by
    have segment' : decide (n < Config.segments) = true := decide_eq_true segment
    simp [firstBad, reportChecks, segment', hook, event]
  unfold State.takeReport
  rw [good]
  rfl

theorem State.eventOf_none (s : State) (x : Crane) (n k : Nat) : s.eventOf x n k 0 = (s.runwayReport x n (hookOf k), true) := rfl

/-! ## The moves of a crane -/

/-- Crane `x` has no move but the one that slot `i` may hold. -/
def State.aloneAt (s : State) (x : Crane) (i : Nat) : Prop := ∀ j o, j < 18 → j ≠ i → s.move j = some o → o.crane ≠ x

/-- Crane `x` has no move. -/
def State.moveless (s : State) (x : Crane) : Prop := ∀ j o, j < 18 → s.move j = some o → o.crane ≠ x

theorem State.findSlot_none {s : State} {n : Nat} {f : Move → Bool} (none : ∀ j o, j < n → s.move j = some o → f o = false) :
    s.findSlot n f = .none := by
  unfold State.findSlot
  rw [List.find?_eq_none]
  intro j mem
  cases held : s.move j with
  | none => simp
  | some o => simp [none j o (List.mem_range.mp mem) held]

/-- The lowest slot with a property is the one that has it, where those below it do not. -/
theorem State.findSlot_first {s : State} {n i : Nat} {m : Move} {f : Move → Bool} (slot : i < n) (held : s.move i = some m)
    (has : f m = true) (below : ∀ j o, j < i → s.move j = some o → f o = false) : s.findSlot n f = some i := by
  unfold State.findSlot
  rw [List.find?_range_eq_some]
  refine ⟨by simp [held, has], List.mem_range.mpr slot, fun j less => ?_⟩
  cases other : s.move j with
  | none => simp
  | some o => simp [below j o less other]

section
variable {s : State} {x : Crane}

theorem State.moveless.findSlot (none : s.moveless x) {n : Nat} (bound : n ≤ 18) (f : Move → Bool) :
    s.findSlot n (fun m => m.crane = x && f m) = .none :=
  State.findSlot_none fun j o less held => by simp [none j o (by omega) held]

theorem State.aloneAt.findSlot {i : Nat} {m : Move} (alone : s.aloneAt x i) (held : s.move i = some m) (crane : m.crane = x)
    {n : Nat} (slot : i < n) (bound : n ≤ 18) (f : Move → Bool) :
    s.findSlot n (fun m => m.crane = x && f m) = if f m then some i else none := by
  split
  · next has =>
    refine State.findSlot_first slot held (by simp [crane, has]) fun j o less other => ?_
    simp [alone j o (by omega) (by omega) other]
  · next lacks =>
    refine State.findSlot_none fun j o less other => ?_
    by_cases same : j = i
    · obtain rfl : m = o := by rw [same, held] at other; exact Option.some.inj other
      simp [lacks]
    · simp [alone j o (by omega) same other]

theorem State.moveless.activeSlot (none : s.moveless x) : s.activeSlot x = .none := none.findSlot (Nat.le_refl _) Move.underWay

theorem State.moveless.underWay (none : s.moveless x) : s.underWay x = .none := by
  unfold State.underWay
  rw [none.activeSlot]

theorem State.aloneAt.activeSlot {i : Nat} {m : Move} (alone : s.aloneAt x i) (held : s.move i = some m) (crane : m.crane = x)
    (slot : i < 18) : s.activeSlot x = if m.underWay then some i else none :=
  alone.findSlot held crane slot (Nat.le_refl _) Move.underWay

theorem State.aloneAt.underWay {i : Nat} {m : Move} (alone : s.aloneAt x i) (held : s.move i = some m) (crane : m.crane = x)
    (slot : i < 18) : s.underWay x = if m.underWay then some (i, m) else none := by
  unfold State.underWay
  rw [alone.activeSlot held crane slot]
  cases m.underWay with
  | true => simp [held]
  | false => rfl

theorem State.moveless.noStop (none : s.moveless x) : s.noStop x = true := by
  unfold State.noStop
  rw [none.findSlot (n := Config.tableSlots) (Nat.le_refl _) (fun m => m.stop ≠ .none)]
  rfl

theorem State.aloneAt.noStop {i : Nat} {m : Move} (alone : s.aloneAt x i) (held : s.move i = some m) (crane : m.crane = x)
    (slot : i < 18) (stop : m.stop = .none) : s.noStop x = true := by
  unfold State.noStop
  rw [alone.findSlot (n := Config.tableSlots) held crane slot (Nat.le_refl _) (fun m => m.stop ≠ .none)]
  simp [stop]

theorem State.moveless.expectedHook (none : s.moveless x) :
    s.expectedHook x = if (s.work x).orphan.isSome then .loaded else .empty := by
  unfold State.expectedHook
  rw [none.findSlot (n := Config.tableSlots) (Nat.le_refl _) Move.isLifted]
  rfl

theorem State.aloneAt.expectedHook {i : Nat} {m : Move} (alone : s.aloneAt x i) (held : s.move i = some m) (crane : m.crane = x)
    (slot : i < 18) : s.expectedHook x = if m.isLifted ∨ (s.work x).orphan.isSome then .loaded else .empty := by
  unfold State.expectedHook
  rw [alone.findSlot (n := Config.tableSlots) held crane slot (Nat.le_refl _) Move.isLifted]
  cases m.isLifted <;> simp

end

/-! ## The stages that have nothing to do -/

section
variable {s : State} {x : Crane}

/-- The hook is as expected, and no mismatch stands (R156). -/
theorem State.compareHook_kept {k : Hook} (expected : k = s.expectedHook x) (none : (s.work x).mismatch = false) :
    s.compareHook x k = s := by
  unfold State.compareHook
  rw [if_pos expected, none]
  rfl

/-- No move under way has a stop SENT (R154). -/
theorem State.completeStop_kept (unsent : ∀ i m, s.underWay x = some (i, m) → ∀ p, m.stop ≠ .sent p) (n : Nat) (inside : Bool) :
    s.completeStop x n inside = s := by
  unfold State.completeStop
  split
  · next i m found =>
    split
    · next sent => exact absurd sent (unsent i m found _)
    · next sent => exact absurd sent (unsent i m found _)
    · rfl
    · rfl
  · rfl

/-- None of the slots holds a SUSPENDED move of the crane (R157). -/
theorem State.resumeIfFree_kept {l : List Nat} (none : ∀ j ∈ l, ∀ o, s.move j = some o → o.crane = x → o.state ≠ .suspended) :
    s.resumeIfFree x l = s := by
  have kept : l.foldl (State.resumeSlot x) s = s := by
    induction l with
    | nil => rfl
    | cons j l ih =>
      have same : State.resumeSlot x s j = s := by
        unfold State.resumeSlot
        split
        · next o held =>
          have not := none j List.mem_cons_self o held
          rw [if_neg (by simpa using not)]
        · rfl
      rw [List.foldl_cons, same]
      exact ih fun j mem => none j (List.mem_cons_of_mem _ mem)
  unfold State.resumeIfFree
  rw [kept]
  split <;> rfl

/-- The slots that held a SUSPENDED move of the crane. -/
theorem State.mem_suspendedSlots {j : Nat} :
    j ∈ s.suspendedSlots x ↔ j < 16 ∧ ∃ o, s.move j = some o ∧ o.crane = x ∧ o.state = .suspended := by
  unfold State.suspendedSlots
  rw [List.mem_filter, List.mem_range]
  cases s.move j with
  | none => simp
  | some o => simp [Config.moveSlots]

end

/-! ## The order -/

/-- An order that a report is answered with becomes the crane's last one (R142, R151). -/
def State.ordered (s : State) (x : Crane) (o : Order) : State := s.setWork x { s.work x with lastOrder := some o.kind }

/-- The reply to a report. -/
def orderReply (taken : Bool) (o : Order) : Reply := { result := if taken then .done else .state, data := .order o }

section
variable {s : State} {x : Crane}

theorem State.giveOrder_eq {t : State} {o : Order} (composed : s.composeOrder x = (t, o)) (taken : Bool) :
    s.giveOrder x taken = (t.ordered x o, orderReply taken o) := by
  unfold State.giveOrder
  rw [composed]
  rfl

theorem State.composeOrder_held (amiss : s.rru.breach.isSome = true ∨ (s.work x).mismatch = true) :
    s.composeOrder x = (s, .hold) := by
  unfold State.composeOrder
  rw [if_pos (by simpa using amiss)]

variable (breach : s.rru.breach = none) (hook : (s.work x).mismatch = false)
include breach hook

theorem State.composeOrder_out (out : (s.crane x).presence = .out) : s.composeOrder x = (s, .idle) := by
  unfold State.composeOrder
  rw [if_neg (by simp [breach, hook]), if_pos out]

theorem State.composeOrder_idle (idle : s.underWay x = none) : s.composeOrder x = (s, .idle) := by
  unfold State.composeOrder
  rw [if_neg (by simp [breach, hook]), idle]
  exact ite_self _

section
variable {i : Nat} {m : Move} (present : (s.crane x).presence ≠ .out) (work : s.underWay x = some (i, m))
include present work

theorem State.composeOrder_stop {p : StopPurpose} (owed : m.stop = .owed p) :
    s.composeOrder x = (s.setMove i (some { m with stop := .sent p }), .stop) := by
  unfold State.composeOrder
  rw [if_neg (by simp [breach, hook]), if_neg present, work]
  dsimp only
  rw [owed]

theorem State.composeOrder_granted (due : ∀ p, m.stop ≠ .owed p) :
    s.composeOrder x = (s, match m.granted with | some leg => s.goOrder m leg | none => .idle) := by
  unfold State.composeOrder
  rw [if_neg (by simp [breach, hook]), if_neg present, work]
  dsimp only
  split
  · next p owed => exact absurd owed (due p)
  · cases m.granted <;> rfl
  · cases m.granted <;> rfl

end

end

/-! ## A crane with no move -/

section
variable {s : State} {x : Crane}

/-- A crane with no move, an empty queue and no yield has no work (R148). -/
theorem State.findWork_moveless (none : s.moveless x) (queue : (s.work x).queue = []) (yields : s.move (yieldSlot x) = .none) :
    s.findWork x = (s, .none) := by
  unfold State.findWork State.yieldMove
  rw [none.activeSlot, yields, queue]
  rfl

theorem State.work4_none {b : Bool} {l : List Nat} (free : s.resumeIfFree x l = s) (idle : s.findWork x = (s, none)) :
    s.work4 x b l = s := by
  unfold State.work4
  rw [free, idle]

theorem State.work4_moveless (none : s.moveless x) (queue : (s.work x).queue = []) (yields : s.move (yieldSlot x) = .none)
    (b : Bool) {l : List Nat} (slots : ∀ j ∈ l, j < 18) : s.work4 x b l = s :=
  State.work4_none (State.resumeIfFree_kept fun j mem o held crane => absurd crane (none j o (slots j mem) held))
    (State.findWork_moveless none queue yields)

/-- Steps 4 and 5 of R152 for a crane with no move: the order is IDLE, or HOLD where something is amiss (R151). -/
theorem State.order_moveless (none : s.moveless x) (queue : (s.work x).queue = []) (yields : s.move (yieldSlot x) = .none)
    (breach : s.rru.breach = .none) (hook : (s.work x).mismatch = false) (b taken : Bool) {l : List Nat} (slots : ∀ j ∈ l, j < 18) :
    (s.work4 x b l).giveOrder x taken = (s.ordered x .idle, orderReply taken .idle) := by
  rw [State.work4_moveless none queue yields b slots, State.giveOrder_eq (State.composeOrder_idle breach hook none.underWay)]

/-- A report, its event taken, of a crane with no move and nothing amiss (R151, R152). -/
theorem State.afterEvent_moveless (none : s.moveless x) (queue : (s.work x).queue = []) (yields : s.move (yieldSlot x) = .none)
    (breach : s.rru.breach = .none) (hook : (s.work x).mismatch = false) (orphan : (s.work x).orphan = .none) (n : Nat)
    (inside b taken : Bool) {l : List Nat} (slots : ∀ j ∈ l, j < 18) :
    s.afterEvent x n .empty inside b taken l = (s.ordered x .idle, orderReply taken .idle) := by
  have expected : .empty = s.expectedHook x := by rw [none.expectedHook, orphan]; rfl
  unfold State.afterEvent
  rw [State.compareHook_kept expected hook, State.completeStop_kept (by simp [none.underWay])]
  exact State.order_moveless none queue yields breach hook b taken slots

theorem State.suspendedSlots_low : ∀ j ∈ s.suspendedSlots x, j < 18 := fun j mem => by
  have := (State.mem_suspendedSlots.mp mem).1
  omega

end

end Sys2Proof.Machine
end

section
/-! SUPPORT. Proofs/Idled.lean: reports that find their crane with nothing to do (R121, R122, R151). -/

namespace Sys2Proof.Machine

/-- A crane waits for work: no move, no orphan, an empty queue and no yield, and nothing amiss. -/
structure State.restful (s : State) (x : Crane) : Prop where
  breach : s.rru.breach = none
  hook : (s.work x).mismatch = false
  orphan : (s.work x).orphan = none
  queue : (s.work x).queue = []
  moves : s.moveless x
  yields : s.move (yieldSlot x) = none

/-- Its work at the report is none, and the order IDLE, with the records as the runway unit left them. -/
theorem State.restful.report {s : State} {x : Crane} (rest : s.restful x) {n : Nat} (segment : n < 32) {t : State}
    (heard : s.runwayReport x n .empty = t) (breach : t.rru.breach = none) (mvu : t.mvu = s.mvu) :
    s.takeReport x n 0 0 = (t.ordered x .idle, orderReply true .idle) := by
  have work : ∀ y, t.work y = s.work y := fun y => by cases y <;> (unfold State.work; rw [mvu])
  have move : ∀ j, t.move j = s.move j := fun j => by unfold State.move; rw [mvu]
  rw [State.takeReport_valid s x segment (Nat.zero_le 1) (Nat.zero_le 6), State.eventOf_none]
  show (s.runwayReport x n .empty).afterEvent x n .empty _ _ true _ = _
  rw [heard]
  exact State.afterEvent_moveless (fun j o less held => rest.moves j o less (move j ▸ held)) (by rw [work, rest.queue])
    (by rw [move, rest.yields]) breach (by rw [work, rest.hook]) (by rw [work, rest.orphan]) n _ _ true State.suspendedSlots_low

/-- Settles O41: the first bad field, and the three reports of a crane at rest. -/
theorem reportsTaken : Obligations.ReportsTaken := by
  intro s h x a
  have bad : ∀ n k e i, firstBad (reportChecks n k e) = some i →
      exec (.craneReport h [n, k, e]) s = .next (s.answered h .craneReport (badFieldReply i)) := fun n k e i first => by
    obtain ⟨l, runs⟩ := exec_report a n k e
    rw [runs, State.takeReport_bad _ x first]
  refine ⟨fun n k e out => bad n k e 1 ?_, fun n k e less out => bad n k e 2 ?_, fun n k e less low out => bad n k e 3 ?_,
    fun breach hook orphan queue moves yields => ?_⟩
  · have out' : ¬ n < Config.segments := by simpa [Config.segments] using out
    simp [firstBad, reportChecks, out']
  · have less' : n < Config.segments := less
    have out' : ¬ k ≤ 1 := by omega
    simp [firstBad, reportChecks, less', out']
  · have less' : n < Config.segments := less
    have low' : k ≤ 1 := by omega
    have out' : ¬ e ≤ 6 := by omega
    simp [firstBad, reportChecks, less', low', out']
  have rest : ∀ l, ({ s with lnk := l } : State).restful x := fun l =>
    ⟨breach, hook, orphan, queue, fun j o less held => moves j o less held, yields⟩
  refine ⟨fun n r segment active interval inside => ?_, fun n segment unseen bare clear => ?_,
    fun n r segment stale interval inside => ?_⟩
  · obtain ⟨l, runs⟩ := exec_report a n 0 0
    have heard := State.runwayReport_active (s := { s with lnk := l }) active interval inside .empty
    rw [runs, (rest l).report segment heard (by cases x <;> exact breach) (State.setCrane_mvu ..)]
    cases x <;> rfl
  · obtain ⟨l, runs⟩ := exec_report a n 0 0
    have heard := State.runwayReport_unseen (s := { s with lnk := l }) unseen bare clear .empty
    rw [runs, (rest l).report segment heard (by cases x <;> exact breach) (State.setCrane_mvu ..)]
    cases x <;> rfl
  · obtain ⟨l, runs⟩ := exec_report a n 0 0
    obtain ⟨t, c, heard, linked, ends⟩ := State.runwayReport_returns (s := { s with lnk := l }) stale interval inside .empty
    have quiet : t.rru.breach = none := by rw [linked]; cases x <;> exact breach
    have moves : t.mvu = s.mvu := by rw [linked]; cases x <;> rfl
    rw [(rest l).report segment heard quiet moves] at runs
    have crane : ∀ y, (({ t.ordered x .idle with lnk := s.lnk } : State).crane y) = t.crane y := fun y => by cases x <;> rfl
    have sets : ∀ p, (({ t.ordered x .idle with lnk := s.lnk } : State).condSet p) = t.condSet p := fun p => by cases x <;> rfl
    refine ⟨_, runs, ?_, ?_, fun p c mem kind subj => ?_, ?_⟩
    · rw [crane, linked]
      cases x <;> rfl
    · rw [crane, linked]
      cases x <;> rfl
    · rw [sets] at mem
      exact CondSet.none_stands (ends p) mem kind subj
    · subst linked
      cases x <;> rfl

end Sys2Proof.Machine
end

section
/-! SUPPORT. Proofs/Latched.lean: a breach counted and latched at a report, and its clearing (R136, R137). -/

namespace Sys2Proof.Machine

/-! ## What follows the runway unit's part -/

section
variable {s : State} {x : Crane} {n k e : Nat} (segment : n < 32) (hook : k ≤ 1) (event : e ≤ 6)
include segment hook event

theorem State.takeReport_moved : (s.runwayReport x n (hookOf k)).moved (s.takeReport x n k e).1 := by
  rw [State.takeReport_valid s x segment hook event]
  exact (State.moved_takeEvent _ x n e).trans (State.moved_afterEvent _ x n (hookOf k) _ _ _ _)

/-- The breach's records and the stale cranes' stand as the runway unit left them. -/
theorem State.takeReport_watches {kind : CondKind} (w : isWatched kind) (other : kind ≠ .hookMismatch) :
    State.watches kind (s.runwayReport x n (hookOf k)) (s.takeReport x n k e).1 := by
  rw [State.takeReport_valid s x segment hook event]
  exact ((State.watches_takeEvent w _ x n e).trans (State.watches_compareHook other _ x _)).trans
    (State.watches_afterHook w _ x n _ _ _ _)

end

/-! ## The breach itself -/

theorem State.SetStep.modes {s t : State} (step : s.SetStep t) (p : Point) : (t.condSet p).modes = (s.condSet p).modes := by
  cases step with
  | post => exact s.postAt_modes _ _ _ _ _ p
  | settle k subj => exact s.settled_modes k subj p

theorem State.posts.modeOf {s t : State} (h : s.posts t) (p : Point) (k : CondKind) : t.modeOf p k = s.modeOf p k := by
  have modes : (t.condSet p).modes = (s.condSet p).modes := by
    induction h with
    | refl => rfl
    | tail _ step same => exact (step.modes p).trans same
  unfold State.modeOf
  rw [modes]

/-- A cause that appears stands in the set of each of its ports whose mode is BOTH, unless a full set dropped a posting (R177). -/
theorem State.raiseCause_stands {s : State} {ports : List Point} {k : CondKind} {subj : Subject} {p : Point} (port : p ∈ ports)
    (both : s.modeOf p k = .both) (kept : ((s.raiseCause ports k subj).condSet p).overflow = false) :
    ((s.raiseCause ports k subj).condSet p).stands k subj := by
  induction ports generalizing s with
  | nil => simp at port
  | cons q ports ih =>
    have rest : s.raiseCause (q :: ports) k subj = (s.postStanding q k subj).raiseCause ports k subj := rfl
    rw [rest] at kept ⊢
    by_cases here : p = q
    · subst here
      have grows := ((s.postStanding p k subj).posts_raise ports k subj).grows p
      exact State.raiseCause_lasts _ ports k subj p k subj (State.postStanding_stands both (.inl (grows.1 kept)))
    · refine ih ((List.mem_cons.mp port).resolve_left here) ?_ kept
      rw [← both]
      exact (s.posts_raise [q] k subj).modeOf p k

theorem State.breached_reads (s : State) (x : Crane) :
    (s.breached x).rru.breachCount = min 65535 (s.rru.breachCount + 1) ∧ (∀ y, (s.breached x).crane y = s.crane y)
      ∧ (∀ c, s.rru.breach = some c → (s.breached x).rru.breach = some c)
      ∧ (s.rru.breach = none → (s.breached x).rru.breach = some x) := by
  unfold State.breached
  cases latch : s.rru.breach with
  | some c => exact ⟨rfl, fun y => by cases y <;> rfl, fun c' same => same ▸ latch, fun none => by simp at none⟩
  | none =>
    have only := State.raiseCause_only { s with rru := { s.rru with
      breachCount := holdAt Config.countMax s.rru.breachCount, breach := some x } } [.PL, .CW, .CE] .breach (.crane x)
    refine ⟨congrArg Rru.breachCount only.rru, fun y => (only.crane y).trans ?_, fun c some => by simp at some,
      fun _ => congrArg Rru.breach only.rru⟩
    cases y <;> rfl

/-- A breach posted stands wherever its mode is BOTH, unless a full set dropped a posting (R136, R177). -/
theorem State.breached_stands {s : State} (x : Crane) (clear : s.rru.breach = none) {p : Point} (both : s.modeOf p .breach = .both)
    (kept : ((s.breached x).condSet p).overflow = false) : ((s.breached x).condSet p).stands .breach (.crane x) := by
  unfold State.breached at kept ⊢
  rw [clear] at kept ⊢
  refine State.raiseCause_stands (by cases p <;> decide) ?_ kept
  rw [← both]
  cases p <;> rfl

/-- A report outside: the count, the latch and the order (R136). -/
theorem State.takeReport_outside {s : State} {x : Crane} {n k e : Nat} (segment : n < 32) (hook : k ≤ 1) (event : e ≤ 6)
    (out : (∃ r, (s.crane x).interval = some r ∧ r.has n = false) ∨ ((s.crane x).interval = none ∧ s.clearFor x ⟨n, n⟩ = false)) :
    ((s.takeReport x n k e).1.crane x).outside = true
      ∧ ((s.crane x).outside = false → (s.takeReport x n k e).1.rru.breachCount = min 65535 (s.rru.breachCount + 1))
      ∧ ((s.crane x).outside = true → (s.takeReport x n k e).1.rru.breachCount = s.rru.breachCount
          ∧ (s.takeReport x n k e).1.rru.breach = s.rru.breach)
      ∧ (∀ c, s.rru.breach = some c → (s.takeReport x n k e).1.rru.breach = some c)
      ∧ (s.rru.breach = none → (s.crane x).outside = false → (s.takeReport x n k e).1.rru.breach = some x
          ∧ (s.takeReport x n k e).2.data = .order .hold
          ∧ ∀ p, s.modeOf p .breach = .both → ((s.takeReport x n k e).1.condSet p).overflow = false →
            ((s.takeReport x n k e).1.condSet p).stands .breach (.crane x)) := by
  have moved := State.takeReport_moved (s := s) (x := x) segment hook event
  have watches := State.takeReport_watches (s := s) (x := x) segment hook event (.inl rfl) (by decide)
  have runway := State.runwayReport_outside out (hookOf k)
  have seen := s.seen_sets x n (hookOf k)
  have latch : (s.seen x n (hookOf k)).rru.breach = s.rru.breach ∧ (s.seen x n (hookOf k)).rru.breachCount = s.rru.breachCount := by
    rw [seen.rru]
    cases x <;> exact ⟨rfl, rfl⟩
  rw [watches.outside, moved.latch.1, moved.latch.2]
  cases outside : (s.crane x).outside with
  | true =>
    rw [outside, if_pos rfl] at runway
    rw [runway]
    refine ⟨?_, fun no => by simp at no, fun _ => ⟨latch.2, latch.1⟩, fun c latched => latch.1.trans latched, fun _ no => by simp at no⟩
    rw [State.crane_seen_self]
    exact outside
  | false =>
    rw [outside, if_neg (by decide)] at runway
    have seenLatch : ∀ c : CraneRec, ((s.seen x n (hookOf k)).setCrane x c).rru.breach = s.rru.breach
        ∧ ((s.seen x n (hookOf k)).setCrane x c).rru.breachCount = s.rru.breachCount := fun c => by
      cases x <;> exact latch
    obtain ⟨count, cranes, still, fresh⟩ := State.breached_reads
      ((s.seen x n (hookOf k)).setCrane x { s.seenRec x n (hookOf k) with outside := true }) x
    rw [(seenLatch _).1] at still fresh
    rw [(seenLatch _).2] at count
    rw [← runway] at count cranes still fresh
    refine ⟨?_, fun _ => count, fun no => by simp at no, still, fun clear _ => ⟨fresh clear, ?_, fun p both kept => ?_⟩⟩
    · rw [cranes, State.crane_setCrane, if_pos rfl]
    · obtain ⟨w, b, moved', taken⟩ := State.takeReport_order (s := s) (x := x) segment hook event
      rw [taken, State.giveOrder_breach x b (by rw [moved'.breach, fresh clear]; rfl)]
    · refine watches.lasts p (.crane x) ?_
      have kept' := (moved.grows p).1 kept
      rw [runway] at kept' ⊢
      refine State.breached_stands x ((seenLatch _).1.trans clear) ?_ kept'
      have same : ((s.seen x n (hookOf k)).setCrane x { s.seenRec x n (hookOf k) with outside := true }).modeOf p .breach
          = (s.seen x n (hookOf k)).modeOf p .breach := by cases x <;> cases p <;> rfl
      have before : (s.setCrane x (s.seenRec x n (hookOf k))).modeOf p .breach = s.modeOf p .breach := by
        cases x <;> cases p <;> rfl
      rw [same, ← both, ← before]
      by_cases stale : (s.crane x).presence = .stale
      · rw [State.seen_stale stale]
        exact (State.posts_end _ _ _ _).modeOf p .breach
      · rw [State.seen_eq stale]

/-- A report inside the interval held raises nothing (R136). -/
theorem State.takeReport_inside {s : State} {x : Crane} {n k e : Nat} {r : Range} (segment : n < 32) (hook : k ≤ 1) (event : e ≤ 6)
    (held : (s.crane x).interval = some r) (inside : r.has n = true) :
    ((s.takeReport x n k e).1.crane x).outside = false
      ∧ (s.takeReport x n k e).1.rru.breachCount = s.rru.breachCount ∧ (s.takeReport x n k e).1.rru.breach = s.rru.breach := by
  have moved := State.takeReport_moved (s := s) (x := x) segment hook event
  have watches := State.takeReport_watches (s := s) (x := x) segment hook event (.inl rfl) (by decide)
  have seen := (s.seen_sets x n (hookOf k)).rru
  rw [watches.outside, moved.latch.1, moved.latch.2, State.runwayReport_inside held inside]
  refine ⟨by rw [State.crane_setCrane, if_pos rfl], ?_⟩
  have latch : (s.seen x n (hookOf k)).rru.breach = s.rru.breach ∧ (s.seen x n (hookOf k)).rru.breachCount = s.rru.breachCount := by
    rw [seen]
    cases x <;> exact ⟨rfl, rfl⟩
  cases x <;> exact ⟨latch.2, latch.1⟩

/-! ## BREACH-CLEAR (R137) -/

theorem State.breachOk_false {s : State} {x : Crane} : s.breachOk x = false
    ↔ ∃ n, (s.crane x).position = some n ∧ ∀ r, (s.crane x).interval = some r → r.has n = false := by
  unfold State.breachOk State.insideInterval
  cases (s.crane x).position with
  | none => simp
  | some n => cases (s.crane x).interval <;> simp

theorem State.breachOk_true {s : State} {x : Crane}
    (inside : ∀ n, (s.crane x).position = some n → ∃ r, (s.crane x).interval = some r ∧ r.has n = true) : s.breachOk x = true := by
  refine Bool.of_not_eq_false fun out => ?_
  obtain ⟨n, position, none⟩ := State.breachOk_false.mp out
  obtain ⟨r, held, within⟩ := inside n position
  rw [none r held] at within
  exact Bool.false_ne_true within

theorem State.clearBreach_clear {s : State} (clear : s.rru.breach = none) : s.clearBreach = (s, { result := .state }) := by
  unfold State.clearBreach
  rw [clear]
  rfl

section
variable {s : State} {c : Crane} (latched : s.rru.breach = some c)
include latched

theorem State.clearBreach_west (west : s.breachOk .W = false) : s.clearBreach = (s, { result := .active, data := .crane .W }) := by
  unfold State.clearBreach
  rw [latched]
  exact if_pos west

theorem State.clearBreach_east (west : s.breachOk .W = true) (east : s.breachOk .E = false) :
    s.clearBreach = (s, { result := .active, data := .crane .E }) := by
  unfold State.clearBreach
  rw [latched]
  exact (if_neg (by simp [west])).trans (if_pos east)

theorem State.clearBreach_done (west : s.breachOk .W = true) (east : s.breachOk .E = true) :
    ∃ v, s.clearBreach = ({ s with rru := { s.rru with breach := none }, cnd := v }, ok)
      ∧ ∀ p, ¬(({ s with cnd := v } : State).condSet p).stands .breach (.crane c) := by
  have only := State.endCause_only { s with rru := { s.rru with breach := none } } [.PL, .CW, .CE] .breach (.crane c)
  have ends := State.endCause_stands { s with rru := { s.rru with breach := none } } [.PL, .CW, .CE] .breach (.crane c)
  have done : s.clearBreach = (State.endCause { s with rru := { s.rru with breach := none } } [.PL, .CW, .CE] .breach (.crane c), ok) := by
    unfold State.clearBreach
    rw [latched]
    exact (if_neg (by simp [west])).trans (if_neg (by simp [east]))
  obtain ⟨_, _, _, e⟩ := only
  rw [e] at ends done
  exact ⟨_, done, ends⟩

end

/-- Settles O40: a report outside, a report inside, and BREACH-CLEAR. -/
theorem breachLatchedAndCleared : Obligations.BreachLatchedAndCleared := by
  constructor
  · intro s h x n k e a segment hook event
    obtain ⟨l, runs⟩ := exec_report a n k e
    refine ⟨_, _, runs, fun out => ?_, fun ⟨r, held, inside⟩ => ?_⟩
    · obtain ⟨outside, counts, still, latched, fresh⟩ :=
        State.takeReport_outside (s := { s with lnk := l }) (x := x) segment hook event out
      exact ⟨outside, counts, still, latched, fun clear first => fresh clear first⟩
    · exact State.takeReport_inside (s := { s with lnk := l }) segment hook event held inside
  · intro s h a
    refine ⟨fun clear => ?_, fun c latched => ⟨fun n position none => ?_, fun n west position none => ?_, fun inside => ?_⟩⟩
    · exact exec_planner (c := .breachClear h [0]) rfl a rfl (fun l => State.clearBreach_clear (s := { s with lnk := l }) clear) rfl rfl rfl
    · exact exec_planner (c := .breachClear h [0]) rfl a rfl (fun l => State.clearBreach_west (s := { s with lnk := l }) latched
        (State.breachOk_false.mpr ⟨n, position, none⟩)) rfl rfl rfl
    · exact exec_planner (c := .breachClear h [0]) rfl a rfl (fun l => State.clearBreach_east (s := { s with lnk := l }) latched
        (State.breachOk_true west) (State.breachOk_false.mpr ⟨n, position, none⟩)) rfl rfl rfl
    · obtain ⟨l, handled⟩ := s.handled_eq h .breachClear
      obtain ⟨v, done, ends⟩ := State.clearBreach_done (s := { s with lnk := l }) latched (State.breachOk_true (inside .W))
        (State.breachOk_true (inside .E))
      refine ⟨_, exec_planner_handled (c := .breachClear h [0]) (owner := noFields State.clearBreach) (body := [0]) rfl a
        (v := { ({ s with lnk := l } : State) with rru := { s.rru with breach := none }, cnd := v }) (by rw [handled]; exact done)
        (by rw [handled]) rfl rfl rfl,
        rfl, fun p r mem kind subj => CondSet.none_stands (ends p) ?_ kind subj, rfl⟩
      cases p <;> exact mem

end Sys2Proof.Machine
end

section
/-! SUPPORT. Proofs/Judged.lean: a report at which nothing is asked: an event that does not fit, and a hook that is not as expected
(R155, R156). -/

namespace Sys2Proof.Machine

/-! ## The report modes stand -/

theorem State.seen_modeOf (s : State) (x : Crane) (n : Nat) (k : Hook) (p : Point) (kind : CondKind) :
    (s.seen x n k).modeOf p kind = s.modeOf p kind := by
  have before : (s.setCrane x (s.seenRec x n k)).modeOf p kind = s.modeOf p kind := by cases x <;> cases p <;> rfl
  rw [← before]
  by_cases stale : (s.crane x).presence = .stale
  · rw [State.seen_stale stale]
    exact (State.posts_end _ _ _ _).modeOf p kind
  · rw [State.seen_eq stale]

theorem State.breached_modeOf (s : State) (x : Crane) (p : Point) (kind : CondKind) : (s.breached x).modeOf p kind = s.modeOf p kind := by
  unfold State.breached
  dsimp only
  split
  · cases p <;> rfl
  · refine ((State.posts_raise _ _ _ _).modeOf p kind).trans ?_
    cases p <;> rfl

theorem State.runwayReport_modeOf (s : State) (x : Crane) (n : Nat) (k : Hook) (p : Point) (kind : CondKind) :
    (s.runwayReport x n k).modeOf p kind = s.modeOf p kind := by
  have written : ∀ (t : State) (c : CraneRec), (t.setCrane x c).modeOf p kind = t.modeOf p kind := fun t c => by
    cases x <;> cases p <;> rfl
  have first : ((s.seen x n k).firstInterval x n).modeOf p kind = s.modeOf p kind := by
    unfold State.firstInterval
    split
    · exact (written _ _).trans (s.seen_modeOf x n k p kind)
    · exact s.seen_modeOf x n k p kind
  unfold State.runwayReport State.breachTest
  split
  · exact (written _ _).trans first
  · split
    · exact first
    · exact (State.breached_modeOf _ x p kind).trans ((written _ _).trans first)

/-! ## No leg granted -/

/-- Every move that is TO-PICK was so before (R128). -/
def State.nonePicked (s t : State) : Prop := ∀ i m, t.move i = some m → m.state = .toPick → ∃ q, s.move i = some q ∧ q.state = .toPick

theorem State.nonePicked.of_moves {s t : State} (same : ∀ i, t.move i = s.move i) : s.nonePicked t :=
  fun i m held picks => ⟨m, same i ▸ held, picks⟩

theorem State.nonePicked.refl (s : State) : s.nonePicked s := .of_moves fun _ => rfl

theorem State.nonePicked.trans {s t u : State} (h : s.nonePicked t) (g : t.nonePicked u) : s.nonePicked u := fun i m held picks => by
  obtain ⟨q, heldT, picksT⟩ := g i m held picks
  exact h i q heldT picksT

theorem State.nonePicked_setMove {s : State} {i : Nat} {r : Option Move}
    (old : ∀ m, r = some m → m.state = .toPick → ∃ q, s.move i = some q ∧ q.state = .toPick) : s.nonePicked (s.setMove i r) :=
  fun j m held picks => by
    rw [State.move_setMove] at held
    split at held
    · next same => exact same ▸ old m held picks
    · exact ⟨m, held, picks⟩

theorem State.nonePicked_setAside (s : State) (i : Nat) (m : Move) (st : MoveState) (why : Option WaitReason) (other : st ≠ .toPick) :
    s.nonePicked (s.setAside i m st why) := fun j o held picks => by
  rw [State.move_setAside] at held
  split at held
  · obtain rfl := Option.some.inj held
    exact absurd picks other
  · exact ⟨o, held, picks⟩

theorem State.nonePicked_resumeIfFree (s : State) (x : Crane) (l : List Nat) : s.nonePicked (s.resumeIfFree x l) := by
  unfold State.resumeIfFree
  split
  · exact .refl s
  · refine foldl_keeps State.nonePicked.refl State.nonePicked.trans (fun t i j o held picks => ?_) l s
    rw [State.move_resumeSlot] at held
    split at held
    · obtain ⟨q, at_j, rfl⟩ := Option.map_eq_some_iff.mp held
      unfold Move.resumed at picks
      split at picks
      · exact nomatch picks
      · exact ⟨q, at_j, picks⟩
    · exact ⟨o, held, picks⟩

theorem State.nonePicked_examine (x : Crane) (q : List Entry) (b : Bool) (f : Option Nat) (s : State) :
    s.nonePicked (State.examine x q b f s).1 := by
  induction q generalizing b f s with
  | nil => exact .refl s
  | cons e q ih =>
    cases e with
    | barrier => exact ih _ _ s
    | move i =>
      unfold State.examine
      split
      · exact ih _ _ s
      · split
        · split
          · exact (s.nonePicked_setAside i _ .queued none (by decide)).trans (ih _ _ _)
          · exact ih _ _ s
        · split
          · exact ih _ _ s
          · split
            · exact (s.nonePicked_setAside i _ .waiting (some .barrier) (by decide)).trans (ih _ _ _)
            · split
              · exact (s.nonePicked_setAside i _ .waiting (some .lane) (by decide)).trans (ih _ _ _)
              · exact ih _ _ s

theorem State.nonePicked_findWork (s : State) (x : Crane) : s.nonePicked (s.findWork x).1 := by
  unfold State.findWork
  split
  · exact .refl s
  · split
    · exact .refl s
    · exact State.nonePicked_examine x _ _ _ s

theorem State.move_shrinkTo (s : State) (x : Crane) (r : Range) (i : Nat) : (s.shrinkTo x r).move i = s.move i := by
  unfold State.move
  rw [(s.shrinkTo_only x r).mvu]

theorem State.nonePicked_completeStop (s : State) (x : Crane) (n : Nat) (b : Bool) : s.nonePicked (s.completeStop x n b) := by
  have shrinks : ∀ t : State, t.nonePicked (t.shrinkInside x n b) := fun t => by
    unfold State.shrinkInside
    split
    · exact .of_moves (t.move_shrinkTo x _)
    · exact .refl t
  have ends : ∀ i m, s.move i = some m → s.nonePicked (s.endMove i .cancelled false) := fun i m held j o at_j picks => by
    rw [(State.endMove_ended held .cancelled false).moves] at at_j
    split at at_j
    · exact nomatch at_j
    · split at at_j
      · obtain ⟨q, before, rfl⟩ := Option.map_eq_some_iff.mp at_j
        unfold Move.resumed at picks
        split at picks
        · exact nomatch picks
        · exact ⟨q, before, picks⟩
      · exact ⟨o, at_j, picks⟩
  unfold State.completeStop
  split
  · next i m found =>
    split
    · exact (ends i m (State.underWay_eq_some found)).trans (shrinks _)
    · have suspends : s.nonePicked ((s.setMove i (some { m with state := .suspended, stop := .none })).laneSettle x) := by
        refine (State.nonePicked_setMove fun o made picks => ?_).trans (.of_moves (State.laneSettle_reads _ x).1)
        obtain rfl := Option.some.inj made
        exact nomatch picks
      exact suspends.trans (shrinks _)
    · exact .refl s
    · exact .refl s
  · exact .refl s

/-- The hook's comparison writes the mismatch, and posts or ends HOOK-MISMATCH (R156). -/
theorem State.compareHook_sets (s : State) (x : Crane) (k : Hook) :
    (s.setWork x { s.work x with mismatch := decide (k ≠ s.expectedHook x) }).setsOnly (s.compareHook x k) := by
  have kept : ∀ b, (s.work x).mismatch = b → s.setWork x { s.work x with mismatch := b } = s := fun b same => by
    rw [← same, State.setWork_self]
  unfold State.compareHook
  by_cases expected : k = s.expectedHook x
  · rw [if_pos expected, decide_eq_false (not_not_intro expected)]
    split
    · exact State.endCause_only _ _ _ _
    · next none =>
      rw [kept false (by simpa using none)]
      exact .refl s
  · rw [if_neg expected, decide_eq_true expected]
    split
    · next already =>
      rw [kept true already]
      exact .refl s
    · exact State.raiseCause_only _ _ _ _

theorem State.move_compareHook (s : State) (x : Crane) (k : Hook) (i : Nat) : (s.compareHook x k).move i = s.move i :=
  ((s.compareHook_sets x k).move i).trans (State.move_setWork ..)

theorem State.nonePicked_giveOrder (s : State) (x : Crane) (b : Bool) : s.nonePicked (s.giveOrder x b).1 := by
  have composed : s.nonePicked (s.composeOrder x).1 := by
    unfold State.composeOrder
    split
    · exact .refl s
    · split
      · exact .refl s
      · split
        · next i m found =>
          split
          · refine State.nonePicked_setMove fun o made picks => ?_
            obtain rfl := Option.some.inj made
            exact ⟨m, State.underWay_eq_some found, picks⟩
          · split <;> exact .refl s
          · split <;> exact .refl s
        · exact .refl s
  exact composed.trans (.of_moves fun i => State.move_setWork ..)

/-- Where no grant may be asked, step 4 of R152 finds the crane's work, and lifts its SET-DOWN (R150, R161). -/
theorem State.work4_unasked {s : State} {x : Crane} {b : Bool} {l : List Nat}
    (unasked : b = false ∨ (((s.resumeIfFree x l).findWork x).1.work x).mismatch = true) :
    s.work4 x b l = ((s.resumeIfFree x l).findWork x).1
      ∨ ∃ (i : Nat) (m : Move) (p : Option Nat), ((s.resumeIfFree x l).findWork x).1.move i = some m ∧ s.work4 x b l = ((s.resumeIfFree x l).findWork x).1.lift x i { m with pick := p } .waitPlace := by
  have silent : ∀ t : State, t = ((s.resumeIfFree x l).findWork x).1 →
      (b && t.noStop x && decide ((t.work x).mismatch = false)) = false := fun t same => by
    subst same
    rcases unasked with none | mismatch
    · rw [none]
      rfl
    · simp [mismatch]
  unfold State.work4
  dsimp only
  split
  · split
    · next held =>
      split
      · unfold State.setDownLift
        split
        · next p _ => exact .inr ⟨_, _, some p, held, rfl⟩
        · exact .inl rfl
      · split
        · exact .inl (if_neg (Bool.eq_false_iff.mp (silent _ rfl)))
        · exact .inl rfl
    · exact .inl rfl
  · exact .inl rfl

/-- The mismatch that the grant's condition and the order read is the one the hook's comparison left (R151, R152). -/
theorem State.mismatch_found (s : State) (x : Crane) (l : List Nat) (y : Crane) :
    (((s.resumeIfFree x l).findWork x).1.work y).mismatch = (s.work y).mismatch := by
  have watched : isWatched .hookMismatch := .inr (.inr rfl)
  have resumed : State.watches .hookMismatch s (s.resumeIfFree x l) := by
    unfold State.resumeIfFree
    split
    · exact .refl s
    · exact (State.resumeSlots_records x l s).watches
  exact (resumed.trans (State.watches_findWork watched _ x)).mismatch rfl y

theorem State.nonePicked_lift (s : State) (x : Crane) (i : Nat) (m : Move) (p : SubPhase) : s.nonePicked (s.lift x i m p) := by
  refine (State.nonePicked_setMove (r := some { m with state := .lifted p, reason := none, stop := .none }) fun o made picks => ?_).trans
    (.of_moves fun j => State.move_setCrane ..)
  obtain rfl := Option.some.inj made
  exact nomatch picks

/-- Steps 2 to 5 of R152 grant nothing where no grant may be asked, or the hook is not as expected (R150). -/
theorem State.nonePicked_afterEvent {s : State} {x : Crane} {k : Hook} {b : Bool}
    (unasked : b = false ∨ ((s.compareHook x k).work x).mismatch = true) (n : Nat) (inside taken : Bool) (l : List Nat) :
    s.nonePicked (s.afterEvent x n k inside b taken l).1 := by
  have stopped : s.nonePicked ((s.compareHook x k).completeStop x n inside) :=
    (State.nonePicked.of_moves (s.move_compareHook x k)).trans (State.nonePicked_completeStop _ x n inside)
  have found := (stopped.trans (State.nonePicked_resumeIfFree _ x l)).trans (State.nonePicked_findWork _ x)
  have worked : s.nonePicked (((s.compareHook x k).completeStop x n inside).work4 x b l) := by
    rcases State.work4_unasked (s := (s.compareHook x k).completeStop x n inside) (l := l) (unasked.imp id fun wrong => by
      rw [State.mismatch_found, (State.watches_completeStop (.inr (.inr rfl)) _ x n inside).mismatch rfl, wrong]) with e | ⟨_, _, _, -, e⟩
    · rw [e]
      exact found
    · rw [e]
      exact found.trans (State.nonePicked_lift _ _ _ _ _)
  exact worked.trans (State.nonePicked_giveOrder _ x taken)

/-! ## Nothing else moved -/

/-- No piece, bed or cell changes, and no interval. -/
structure State.calm (s t : State) : Prop where
  pct : t.pct = s.pct
  stk : t.stk = s.stk
  beds : t.beds = s.beds
  interval : ∀ y, (t.crane y).interval = (s.crane y).interval

theorem State.calm.refl (s : State) : s.calm s := ⟨rfl, rfl, rfl, fun _ => rfl⟩

theorem State.calm.trans {s t u : State} (h : s.calm t) (g : t.calm u) : s.calm u :=
  ⟨g.pct.trans h.pct, g.stk.trans h.stk, g.beds.trans h.beds, fun y => (g.interval y).trans (h.interval y)⟩

theorem State.calm.of_pair {s t : State} (h : s.pairOnly t) : s.calm t := by
  obtain ⟨_, _, rfl⟩ := h
  exact ⟨rfl, rfl, rfl, fun y => by cases y <;> rfl⟩

theorem State.calm_setCrane {s : State} {x : Crane} {r : CraneRec} (same : r.interval = (s.crane x).interval) : s.calm (s.setCrane x r) :=
  ⟨State.setCrane_pct .., State.setCrane_stk .., State.setCrane_beds .., fun y => by
    rw [State.crane_setCrane]
    split
    · next here => rw [same, here]
    · rfl⟩

theorem State.calm_setWork (s : State) (x : Crane) (w : CraneWork) : s.calm (s.setWork x w) :=
  ⟨State.setWork_pct .., State.setWork_stk .., State.setWork_beds .., fun y => by rw [State.crane_setWork]⟩

theorem State.calm_setMove (s : State) (i : Nat) (m : Option Move) : s.calm (s.setMove i m) := ⟨rfl, rfl, rfl, fun _ => rfl⟩

theorem State.calm_setAside (s : State) (i : Nat) (m : Move) (st : MoveState) (why : Option WaitReason) : s.calm (s.setAside i m st why) := by
  refine State.calm.trans ?_ (.of_pair (s.setAside_pair i m st why))
  refine (s.calm_setMove i (some { m with state := st, reason := why })).trans ?_
  exact State.calm_setCrane rfl

theorem State.calm_compareHook (s : State) (x : Crane) (k : Hook) : s.calm (s.compareHook x k) :=
  (s.calm_setWork x _).trans (.of_pair (s.compareHook_sets x k).pair)

theorem State.calm_examine (x : Crane) (q : List Entry) (b : Bool) (f : Option Nat) (s : State) : s.calm (State.examine x q b f s).1 := by
  induction q generalizing b f s with
  | nil => exact .refl s
  | cons e q ih =>
    cases e with
    | barrier => exact ih _ _ s
    | move i =>
      unfold State.examine
      split
      · exact ih _ _ s
      · split
        · split
          · exact (s.calm_setAside i _ _ _).trans (ih _ _ _)
          · exact ih _ _ s
        · split
          · exact ih _ _ s
          · split
            · exact (s.calm_setAside i _ _ _).trans (ih _ _ _)
            · split
              · exact (s.calm_setAside i _ _ _).trans (ih _ _ _)
              · exact ih _ _ s

theorem State.calm_findWork (s : State) (x : Crane) : s.calm (s.findWork x).1 := by
  unfold State.findWork
  split
  · exact .refl s
  · split
    · exact .refl s
    · exact State.calm_examine x _ _ _ s

theorem State.calm_lift (s : State) (x : Crane) (i : Nat) (m : Move) (p : SubPhase) : s.calm (s.lift x i m p) := by
  refine (s.calm_setMove i (some { m with state := .lifted p, reason := none, stop := .none })).trans ?_
  exact State.calm_setCrane rfl

theorem State.calm_work4 (s : State) (x : Crane) (l : List Nat) : s.calm (s.work4 x false l) := by
  have resumed : s.calm (s.resumeIfFree x l) := by
    unfold State.resumeIfFree
    split
    · exact .refl s
    · obtain ⟨_, e⟩ := State.resumeSlots_records x l s
      rw [e]
      exact ⟨rfl, rfl, rfl, fun _ => rfl⟩
  have found := resumed.trans (State.calm_findWork _ x)
  rcases State.work4_unasked (s := s) (x := x) (l := l) (.inl rfl) with e | ⟨_, _, _, -, e⟩
  · rw [e]
    exact found
  · rw [e]
    exact found.trans (State.calm_lift _ _ _ _ _)

theorem State.calm_giveOrder (s : State) (x : Crane) (b : Bool) : s.calm (s.giveOrder x b).1 := by
  have composed : s.calm (s.composeOrder x).1 := by
    unfold State.composeOrder
    split
    · exact .refl s
    · split
      · exact .refl s
      · split
        · split
          · exact s.calm_setMove _ _
          · split <;> exact .refl s
          · split <;> exact .refl s
        · exact .refl s
  exact composed.trans (State.calm_setWork _ x _)

theorem State.underWay_mem {s : State} {x : Crane} {i : Nat} {m : Move} (h : s.underWay x = some (i, m)) :
    i < 18 ∧ s.move i = some m ∧ m.crane = x ∧ m.underWay = true := by
  have held := State.underWay_eq_some h
  unfold State.underWay at h
  split at h
  · next j found =>
    simp only [Option.map_eq_some_iff, Prod.mk.injEq] at h
    obtain ⟨_, _, rfl, rfl⟩ := h
    have has := List.find?_some found
    simp only [held, Option.map_some, Option.getD_some, Bool.and_eq_true, decide_eq_true_eq] at has
    unfold State.activeSlot State.findSlot at found
    exact ⟨List.mem_range.mp (List.mem_of_find?_eq_some found), held, has.1, has.2⟩
  · exact nomatch h

theorem State.calm_afterEvent {s : State} {x : Crane} (unsent : ∀ i m, s.underWay x = some (i, m) → ∀ p, m.stop ≠ .sent p) (n : Nat)
    (k : Hook) (inside taken : Bool) (l : List Nat) : s.calm (s.afterEvent x n k inside false taken l).1 := by
  have same : (s.compareHook x k).underWay x = s.underWay x := by
    unfold State.underWay State.activeSlot State.findSlot
    simp only [s.move_compareHook x k]
  unfold State.afterEvent
  rw [State.completeStop_kept (by rw [same]; exact unsent)]
  exact ((s.calm_compareHook x k).trans (State.calm_work4 _ x l)).trans (State.calm_giveOrder _ x taken)

/-! ## O45 -/

/-- The event fits no move under way, or is a presence event that is not taken (R122, R155). -/
def State.misfits (s : State) (x : Crane) (n e : Nat) : Prop :=
  (e = 1 ∧ ∀ i m, s.underWay x = some (i, m) → m.fitsArrived n = false)
  ∨ ((e = 2 ∨ e = 4) ∧ ∀ i m, s.underWay x = some (i, m) → m.fitsPick n = false)
  ∨ (e = 3 ∧ ∀ i m, s.underWay x = some (i, m) → m.fitsPlaced n = false)
  ∨ (e = 5 ∧ s.takesOut x n = false)
  ∨ (e = 6 ∧ s.takesIn x n = false)

theorem State.takeEvent_refused {s : State} {x : Crane} {n e : Nat} (misfits : s.misfits x n e) :
    s.takeEvent x n e = (s.postEvent .PL .eventMismatch (.crane x), false) := by
  unfold State.takeEvent
  rcases misfits with ⟨rfl, fits⟩ | ⟨rfl | rfl, fits⟩ | ⟨rfl, fits⟩ | ⟨rfl, takes⟩ | ⟨rfl, takes⟩
  · cases under : s.underWay x with
    | none => rfl
    | some w => exact if_neg (Bool.eq_false_iff.mp (fits w.1 w.2 under))
  · cases under : s.underWay x with
    | none => rfl
    | some w => exact if_neg (Bool.eq_false_iff.mp (fits w.1 w.2 under))
  · cases under : s.underWay x with
    | none => rfl
    | some w => exact if_neg (Bool.eq_false_iff.mp (fits w.1 w.2 under))
  · cases under : s.underWay x with
    | none => rfl
    | some w => exact if_neg (Bool.eq_false_iff.mp (fits w.1 w.2 under))
  · exact if_neg (Bool.eq_false_iff.mp takes)
  · exact if_neg (Bool.eq_false_iff.mp takes)

theorem State.afterEvent_reply (s : State) (x : Crane) (n : Nat) (k : Hook) (inside b taken : Bool) (l : List Nat) :
    ∃ o, (s.afterEvent x n k inside b taken l).2 = orderReply taken o := ⟨_, rfl⟩

theorem State.move_runwayReport (s : State) (x : Crane) (n : Nat) (k : Hook) (i : Nat) : (s.runwayReport x n k).move i = s.move i := by
  unfold State.move
  rw [(s.runwayReport_only x n k).mvu]

theorem State.work_runwayReport (s : State) (x : Crane) (n : Nat) (k : Hook) (y : Crane) : (s.runwayReport x n k).work y = s.work y := by
  unfold State.work
  rw [(s.runwayReport_only x n k).mvu]

/-- The runway unit's part of a report leaves an interval that is held (R121, R136). -/
theorem State.runwayReport_crane {s : State} {x : Crane} {r : Range} (held : (s.crane x).interval = some r) (n : Nat) (k : Hook) :
    (s.runwayReport x n k).crane x = { s.seenRec x n k with outside := !r.has n } := by
  cases inside : r.has n with
  | true =>
    rw [State.runwayReport_inside held inside, State.crane_setCrane, if_pos rfl]
    rfl
  | false =>
    rw [State.runwayReport_outside (.inl ⟨r, held, inside⟩)]
    cases outside : (s.crane x).outside with
    | true =>
      rw [if_pos rfl, State.crane_seen_self]
      have same : (s.seenRec x n k).outside = true := outside
      exact congrArg (fun b => { s.seenRec x n k with outside := b }) same
    | false =>
      rw [if_neg (by decide), (State.breached_reads _ x).2.1, State.crane_setCrane, if_pos rfl]
      rfl

theorem State.insideInterval_eq {s : State} {x : Crane} {r : Range} (held : (s.crane x).interval = some r) (n : Nat) :
    s.insideInterval x n = r.has n := by
  unfold State.insideInterval
  rw [held]
  rfl


theorem State.runwayReport_interval {s : State} {x : Crane} {r : Range} (held : (s.crane x).interval = some r) (n : Nat) (k : Hook) :
    ((s.runwayReport x n k).crane x).interval = some r := by
  rw [State.runwayReport_crane held]
  exact held

/-- A report whose event does not fit: the first half of O45, the link left open. -/
theorem State.takeReport_misfit {s : State} {x : Crane} {n k e : Nat} (segment : n < 32) (hook : k ≤ 1) (event : e ≤ 6)
    (misfits : (s.runwayReport x n (hookOf k)).misfits x n e) :
    (∃ o, (s.takeReport x n k e).2 = { result := .state, data := .order o })
      ∧ (((s.takeReport x n k e).1.condSet .PL).overflow = false → ((s.takeReport x n k e).1.condSet .PL).holds .eventMismatch (.crane x))
      ∧ ((∀ i m p, i < 18 → s.move i = some m → m.crane = x → m.stop ≠ .sent p) →
        (s.takeReport x n k e).1.pct = s.pct ∧ (s.takeReport x n k e).1.stk = s.stk ∧ (s.takeReport x n k e).1.beds = s.beds
        ∧ s.nonePicked (s.takeReport x n k e).1
        ∧ ∀ r, (s.crane x).interval = some r → ((s.takeReport x n k e).1.crane x).interval = some r) := by
  have taken := State.takeReport_valid s x segment hook event
  have refused : s.eventOf x n k e = ((s.runwayReport x n (hookOf k)).postEvent .PL .eventMismatch (.crane x), false) :=
    State.takeEvent_refused misfits
  rw [refused] at taken
  obtain ⟨v, heard⟩ : ∃ v, v = s.runwayReport x n (hookOf k) := ⟨_, rfl⟩
  have posted := (heard ▸ s.move_runwayReport x n (hookOf k) : ∀ i, v.move i = s.move i)
  have sets := v.postEvent_only .PL .eventMismatch (.crane x)
  rw [← heard] at taken
  rw [taken]
  refine ⟨⟨_, rfl⟩, fun kept => (State.moved_afterEvent _ x n _ _ _ _ _).grows.holds kept, fun unsent => ?_⟩
  have moves : ∀ i, (v.postEvent .PL .eventMismatch (.crane x)).move i = s.move i := fun i => (sets.move i).trans (posted i)
  have calm := State.calm_afterEvent (s := v.postEvent .PL .eventMismatch (.crane x)) (x := x) (fun i m found p => by
    obtain ⟨less, held, crane, -⟩ := State.underWay_mem found
    exact unsent i m p less (moves i ▸ held) crane) n (hookOf k) (v.insideInterval x n) false (s.suspendedSlots x)
  have before : s.runwayOnly (v.postEvent .PL .eventMismatch (.crane x)) :=
    (heard ▸ s.runwayReport_only x n (hookOf k)).trans sets.runway
  obtain ⟨_, _, _, _, only⟩ := before
  refine ⟨calm.pct.trans (by rw [only]), calm.stk.trans (by rw [only]), calm.beds.trans (by rw [only]),
    (State.nonePicked.of_moves moves).trans (State.nonePicked_afterEvent (.inl rfl) n _ _ _), fun r held => ?_⟩
  refine (calm.interval x).trans ?_
  rw [sets.crane, heard]
  exact State.runwayReport_interval held n _

/-- The hook that a report finds expected, by the records (R156). -/
theorem State.expectedHook_eq {s : State} {x : Crane} {k : Hook}
    (loaded : ((∃ i m, i < 18 ∧ s.move i = some m ∧ m.crane = x ∧ m.isLifted = true) ∨ (s.work x).orphan.isSome = true) → k = .loaded)
    (empty : (∀ i m, i < 18 → s.move i = some m → m.crane = x → m.isLifted = false) → (s.work x).orphan = none → k = .empty) :
    s.expectedHook x = k := by
  have lifted : (s.findSlot Config.tableSlots fun m => m.crane = x && m.isLifted).isSome = true
      ↔ ∃ i m, i < 18 ∧ s.move i = some m ∧ m.crane = x ∧ m.isLifted = true := by
    rw [State.findSlot_isSome]
    simp only [Bool.and_eq_true, decide_eq_true_eq]
    rfl
  unfold State.expectedHook
  split
  · next has =>
    rw [Bool.or_eq_true, lifted] at has
    exact (loaded has).symm
  · next lacks =>
    rw [Bool.or_eq_true, lifted] at lacks
    obtain ⟨noMove, noOrphan⟩ := not_or.mp lacks
    refine (empty (fun i m less held crane => ?_) (by simpa using noOrphan)).symm
    exact Bool.eq_false_iff.mpr fun up => noMove ⟨i, m, less, held, crane, up⟩

/-- The hook's comparison: the cause of HOOK-MISMATCH stands where it has appeared, and no more where it has ended (R156, R177). -/
theorem State.compareHook_stands {s : State} {x : Crane} {k : Hook} :
    (k ≠ s.expectedHook x → (s.work x).mismatch = false → ∀ p ∈ hookPorts x, s.modeOf p .hookMismatch = .both →
      ((s.compareHook x k).condSet p).overflow = false → ((s.compareHook x k).condSet p).stands .hookMismatch (.crane x))
    ∧ (k = s.expectedHook x → (s.work x).mismatch = true → ∀ p, ¬((s.compareHook x k).condSet p).stands .hookMismatch (.crane x)) := by
  unfold State.compareHook
  constructor
  · intro differs none p port both kept
    rw [if_neg differs, none] at kept ⊢
    refine State.raiseCause_stands port ?_ kept
    rw [← both]
    cases x <;> cases p <;> rfl
  · intro expected already p
    rw [if_pos expected, if_pos already]
    exact State.endCause_stands _ _ _ _ p

theorem State.composeOrder_ne_hold {s : State} {x : Crane} (breach : s.rru.breach = none) (hook : (s.work x).mismatch = false) :
    (s.composeOrder x).2 ≠ .hold := by
  unfold State.composeOrder
  rw [if_neg (by simp [breach, hook])]
  split
  · nofun
  · split
    · split
      · nofun
      · split <;> nofun
      · split <;> nofun
    · nofun

/-- A report with no event: what the hook's comparison makes of it. The second half of O45, the link left open. -/
theorem State.takeReport_hook {s : State} {x : Crane} {n k : Nat} (segment : n < 32) (hook : k ≤ 1) :
    ∃ o, (s.takeReport x n k 0).2 = { result := .done, data := .order o }
      ∧ (hookOf k ≠ s.expectedHook x → ((s.takeReport x n k 0).1.work x).mismatch = true ∧ o = .hold
        ∧ ((s.work x).mismatch = false → ∀ p ∈ hookPorts x, s.modeOf p .hookMismatch = .both →
          ((s.takeReport x n k 0).1.condSet p).overflow = false → ((s.takeReport x n k 0).1.condSet p).stands .hookMismatch (.crane x))
        ∧ s.nonePicked (s.takeReport x n k 0).1)
      ∧ (hookOf k = s.expectedHook x → ((s.takeReport x n k 0).1.work x).mismatch = false
        ∧ ((s.takeReport x n k 0).1.rru.breach = none → o ≠ .hold)
        ∧ ((s.work x).mismatch = true → ∀ p, ¬((s.takeReport x n k 0).1.condSet p).stands .hookMismatch (.crane x))) := by
  have taken := State.takeReport_valid s x (e := 0) segment hook (Nat.zero_le 6)
  rw [State.eventOf_none] at taken
  obtain ⟨v, heard⟩ : ∃ v, v = s.runwayReport x n (hookOf k) := ⟨_, rfl⟩
  have moves := (heard ▸ s.move_runwayReport x n (hookOf k) : ∀ i, v.move i = s.move i)
  have works := (heard ▸ s.work_runwayReport x n (hookOf k) : ∀ y, v.work y = s.work y)
  have modes := (heard ▸ s.runwayReport_modeOf x n (hookOf k) : ∀ p kind, v.modeOf p kind = s.modeOf p kind)
  have expects : v.expectedHook x = s.expectedHook x := by
    unfold State.expectedHook State.findSlot
    simp only [moves, works]
  obtain ⟨w, compared⟩ : ∃ w, w = v.compareHook x (hookOf k) := ⟨_, rfl⟩
  have watched : isWatched .hookMismatch := .inr (.inr rfl)
  have rest := State.watches_afterHook watched w x n (v.insideInterval x n) true true (s.suspendedSlots x)
  have grows : w.grows (((w.completeStop x n (v.insideInterval x n)).work4 x true (s.suspendedSlots x)).giveOrder x true).1 :=
    State.moved.grows ((State.moved_completeStop w x n _).trans ((State.moved_work4 _ x _ _).trans (State.moved_giveOrder _ x true)))
  have marked : (w.work x).mismatch = decide (hookOf k ≠ s.expectedHook x) := by
    rw [compared, (v.compareHook_sets x (hookOf k)).work, State.work_setWork, if_pos rfl, ← expects]
  rw [← heard] at taken
  obtain ⟨u, worked⟩ : ∃ u, u = (w.completeStop x n (v.insideInterval x n)).work4 x true (s.suspendedSlots x) := ⟨_, rfl⟩
  have shape : s.takeReport x n k 0 = u.giveOrder x true := by
    rw [taken, worked, compared]
    rfl
  have before : (u.work x).mismatch = (w.work x).mismatch := by
    rw [worked]
    exact ((State.watches_completeStop watched w x n _).trans (State.watches_work4 watched _ x _ _)).mismatch rfl x
  rw [← worked] at rest grows
  obtain ⟨posts, ends⟩ := State.compareHook_stands (s := v) (x := x) (k := hookOf k)
  rw [← compared, expects, works] at posts ends
  rw [shape]
  refine ⟨(u.composeOrder x).2, rfl, fun differs => ?_, fun expected => ?_⟩
  · have wrong : (w.work x).mismatch = true := marked.trans (decide_eq_true differs)
    refine ⟨(rest.mismatch rfl x).trans wrong, ?_, fun none p port both kept => ?_, ?_⟩
    · rw [State.composeOrder_held (.inr (before.trans wrong))]
    · exact rest.lasts p _ (posts differs none p port ((modes p _).trans both) ((grows p).1 kept))
    · have picks := State.nonePicked_afterEvent (s := v) (b := true) (.inr (compared ▸ wrong)) n (v.insideInterval x n) true
        (s.suspendedSlots x)
      have same : (v.afterEvent x n (hookOf k) (v.insideInterval x n) true true (s.suspendedSlots x)).1 = (u.giveOrder x true).1 := by
        rw [worked, compared]
        rfl
      exact (State.nonePicked.of_moves moves).trans (same ▸ picks)
  · have right : (w.work x).mismatch = false := marked.trans (decide_eq_false (not_not_intro expected))
    refine ⟨(rest.mismatch rfl x).trans right, fun clear => ?_, fun already p => rest.spares.none_stands (ends expected already p)⟩
    have clear' : u.rru.breach = none := by rw [← (State.moved_giveOrder u x true).breach]; exact clear
    exact State.composeOrder_ne_hold clear' (before.trans right)

/-- What the runway unit's part of a report makes of its crane's record, whatever interval the crane has (R121, R136). -/
theorem State.runwayReport_record (s : State) (x : Crane) (n : Nat) (k : Hook) :
    ∃ i b, (s.runwayReport x n k).crane x = { s.seenRec x n k with interval := i, outside := b }
      ∧ ((s.crane x).presence = .out → i = (s.crane x).interval) := by
  have first : ∃ i, ((s.seen x n k).firstInterval x n).crane x = { s.seenRec x n k with interval := i }
      ∧ ((s.crane x).presence = .out → i = (s.crane x).interval) := by
    unfold State.firstInterval
    rw [State.crane_seen_self]
    split
    · next free =>
      refine ⟨some (.point n), ?_, fun out => ?_⟩
      · unfold State.setInterval
        rw [State.crane_setCrane, if_pos rfl, State.crane_seen_self]
      · simp [State.seenRec, out] at free
    · exact ⟨_, State.crane_seen_self s x n k, fun _ => rfl⟩
  obtain ⟨i, known, out⟩ := first
  unfold State.runwayReport State.breachTest
  split
  · exact ⟨i, false, by rw [State.crane_setCrane, if_pos rfl, known], out⟩
  · split
    · exact ⟨i, (s.seenRec x n k).outside, known, out⟩
    · exact ⟨i, true, by rw [(State.breached_reads _ x).2.1, State.crane_setCrane, if_pos rfl, known], out⟩

/-- OUT-OF-SERVICE of a crane that is OUT, or is outside its interval, is not taken (R122). -/
theorem State.takesOut_not {s : State} {x : Crane} {n : Nat}
    (out : (s.crane x).presence = .out ∨ ∃ r, (s.crane x).interval = some r ∧ r.has n = false) (k : Hook) :
    (s.runwayReport x n k).takesOut x n = false := by
  unfold State.takesOut
  rcases out with out | ⟨r, held, outside⟩
  · obtain ⟨i, b, known, -⟩ := s.runwayReport_record x n k
    rw [known]
    simp [State.seenRec, out]
  · rw [State.insideInterval_eq (State.runwayReport_interval held n k), outside, Bool.and_false]

/-- IN-SERVICE of a crane that is not OUT, or does not stand at its parked segment, is not taken (R122). -/
theorem State.takesIn_not {s : State} {x : Crane} {n : Nat}
    (out : (s.crane x).presence ≠ .out ∨ (s.crane x).interval ≠ some ⟨n, n⟩) (k : Hook) :
    (s.runwayReport x n k).takesIn x n = false := by
  obtain ⟨i, b, known, kept⟩ := s.runwayReport_record x n k
  unfold State.takesIn
  rw [known]
  by_cases stays : (s.crane x).presence = .out
  · have other := out.resolve_left (not_not_intro stays)
    rw [kept stays]
    simp [Range.point, other]
  · simp [State.seenRec, stays]

/-- Settles O45: the event judged, and the hook judged. -/
theorem eventsAndHooksJudged : Obligations.EventsAndHooksJudged := by
  constructor
  · intro s h x n k e a segment hook out
    obtain ⟨l, runs⟩ := exec_report a n k e
    have under : ∀ i m, (State.runwayReport { s with lnk := l } x n (hookOf k)).underWay x = some (i, m) →
        i < 18 ∧ s.move i = some m ∧ m.crane = x := fun i m found => by
      obtain ⟨less, held, crane, -⟩ := State.underWay_mem found
      rw [State.move_runwayReport] at held
      exact ⟨less, held, crane⟩
    have event : e ≤ 6 := by
      rcases out with ⟨rfl, -⟩ | ⟨rfl | rfl, -⟩ | ⟨rfl, -⟩ | ⟨rfl, -⟩ | ⟨rfl, -⟩ <;> decide
    have misfits : (State.runwayReport { s with lnk := l } x n (hookOf k)).misfits x n e := by
      rcases out with ⟨at_e, none⟩ | ⟨at_e, none⟩ | ⟨at_e, none⟩ | ⟨at_e, out⟩ | ⟨at_e, out⟩
      · refine .inl ⟨at_e, fun i m found => ?_⟩
        obtain ⟨less, held, crane⟩ := under i m found
        simpa [Move.fitsArrived] using none i m less held crane
      · refine .inr (.inl ⟨at_e, fun i m found => ?_⟩)
        obtain ⟨less, held, crane⟩ := under i m found
        simpa [Move.fitsPick] using none i m less held crane
      · refine .inr (.inr (.inl ⟨at_e, fun i m found => ?_⟩))
        obtain ⟨less, held, crane⟩ := under i m found
        simpa [Move.fitsPlaced] using none i m less held crane
      · exact .inr (.inr (.inr (.inl ⟨at_e, State.takesOut_not (s := { s with lnk := l }) out _⟩)))
      · exact .inr (.inr (.inr (.inr ⟨at_e, State.takesIn_not (s := { s with lnk := l }) out _⟩)))
    obtain ⟨⟨o, reply⟩, posted, still⟩ := State.takeReport_misfit (s := { s with lnk := l }) segment hook event misfits
    rw [reply] at runs
    exact ⟨_, o, runs, posted, fun unsent => still unsent⟩
  · intro s h x n seen expected a segment loaded empty
    obtain ⟨l, runs⟩ := exec_report a n (if seen = .loaded then 1 else 0) 0
    have code : (if seen = .loaded then 1 else 0) ≤ 1 ∧ hookOf (if seen = .loaded then 1 else 0) = seen := by
      cases seen <;> exact ⟨by decide, rfl⟩
    obtain ⟨o, reply, wrong, right⟩ := State.takeReport_hook (s := { s with lnk := l }) (x := x) segment code.1
    have expects : State.expectedHook { s with lnk := l } x = expected := State.expectedHook_eq loaded empty
    rw [code.2, expects] at wrong right
    rw [reply] at runs
    refine ⟨_, o, runs, fun differs => ?_, fun same => ?_⟩
    · obtain ⟨mismatch, hold, posted, none⟩ := wrong differs
      refine ⟨mismatch, hold, fun before p port both kept => posted before p ?_ both kept, none⟩
      cases x <;> (rcases port with rfl | rfl <;> decide)
    · obtain ⟨mismatch, order, ended⟩ := right same
      exact ⟨mismatch, order, fun before p q mem kind subj => CondSet.none_stands (ended before p) mem kind subj⟩

end Sys2Proof.Machine
end

section
/-! SUPPORT. Proofs/Worked.lean: what a report does with the one move of its crane, stage by stage (R128, R129, R150, R151, R154). -/

namespace Sys2Proof.Machine

/-! ## Space given back (R128, R129) -/

theorem Range.mem_segments {r : Range} {k : Nat} : k ∈ r.segments ↔ k < 32 ∧ r.has k = true := by
  unfold Range.segments
  rw [List.mem_filter, List.mem_range]
  rfl

theorem Range.point_within {r : Range} {n : Nat} (inside : r.has n = true) : (Range.point n).within r = true := inside

theorem Range.point_has {n k : Nat} (other : k ≠ n) : (Range.point n).has k = false := by
  refine Bool.eq_false_iff.mpr fun has => ?_
  obtain ⟨low, high⟩ := Bool.and_eq_true_iff.mp has
  exact other (Nat.le_antisymm (of_decide_eq_true high) (of_decide_eq_true low))

theorem State.vacate_startVacate (x : Crane) (s : State) (n k : Nat) : (State.startVacate x s n).vacate k
    = if n = k ∧ 0 < (s.segment n).vacate then some ⟨x, (s.segment n).vacate⟩ else s.vacate k := by
  unfold State.startVacate
  by_cases counts : 0 < (s.segment n).vacate
  · rw [if_pos counts, State.vacate_setVacate]
    simp only [counts, and_true]
  · rw [if_neg counts, if_neg fun both => counts both.2]

/-- The vacate records once a list of segments has been given back. -/
theorem State.vacate_startVacates (x : Crane) (l : List Nat) (s : State) (k : Nat) : (l.foldl (State.startVacate x) s).vacate k
    = if k ∈ l ∧ 0 < (s.segment k).vacate then some ⟨x, (s.segment k).vacate⟩ else s.vacate k := by
  induction l generalizing s with
  | nil => rw [if_neg fun both => List.not_mem_nil both.1]; rfl
  | cons n l ih =>
    have layout : (State.startVacate x s n).segment k = s.segment k := by
      unfold State.startVacate
      split <;> rfl
    rw [List.foldl_cons, ih, layout, State.vacate_startVacate]
    by_cases same : n = k
    · subst same
      by_cases counts : 0 < (s.segment n).vacate <;> simp [counts]
    · simp only [same, false_and, if_false, List.mem_cons, Ne.symm same, false_or]

/-- A shrink to a part of the interval held: the rest is given back (R128, R129). -/
theorem State.shrinkTo_eq {s : State} {x : Crane} {old r : Range} (held : (s.crane x).interval = some old)
    (within : r.within old = true) :
    ∃ v, s.shrinkTo x r = State.setCrane { s with rru := { s.rru with vacates := v } } x { s.crane x with interval := some r }
      ∧ ∀ k, k < 32 → old.has k = true → r.has k = false → 1 ≤ (s.segment k).vacate →
        (s.shrinkTo x r).vacate k = some ⟨x, (s.segment k).vacate⟩ := by
  have shrunk : s.shrinkTo x r = (s.giveBack x old r).setInterval x r := by
    unfold State.shrinkTo
    rw [held]
    exact if_pos within
  obtain ⟨v, gives⟩ := s.giveBack_vacates x old r
  refine ⟨v, ?_, fun k less inOld outside counts => ?_⟩
  · rw [shrunk, gives]
    cases x <;> rfl
  · rw [shrunk, State.setInterval, State.vacate_setCrane, State.giveBack, State.vacate_startVacates,
      if_pos ⟨List.mem_filter.mpr ⟨Range.mem_segments.mpr ⟨less, inOld⟩, by simp [outside]⟩, counts⟩]

theorem State.crane_shrinkTo {s : State} {x : Crane} {old r : Range} (held : (s.crane x).interval = some old)
    (within : r.within old = true) (y : Crane) :
    (s.shrinkTo x r).crane y = if x = y then { s.crane x with interval := some r } else s.crane y := by
  obtain ⟨v, e, -⟩ := State.shrinkTo_eq held within
  rw [e, State.crane_setCrane]
  split
  · rfl
  · cases y <;> rfl

/-- A shrink changes the runway unit alone. -/
theorem State.shrinkTo_space (s : State) (x : Crane) (r : Range) : ∃ q, s.shrinkTo x r = { s with rru := q } := by
  rcases s.shrinkTo_cases x r with ⟨_, _, -, -, e⟩ | ⟨e, -⟩
  · rw [e]
    cases x <;> exact ⟨_, rfl⟩
  · exact ⟨_, e⟩

theorem State.shrinkInside_space (s : State) (x : Crane) (n : Nat) (b : Bool) : ∃ q, s.shrinkInside x n b = { s with rru := q } := by
  unfold State.shrinkInside
  split
  · exact s.shrinkTo_space x _
  · exact ⟨_, rfl⟩

/-! ## The one move -/

theorem State.onlyMove.of_mvu {s t : State} {x : Crane} {i : Nat} {m : Move} (only : s.onlyMove x i m) (mvu : t.mvu = s.mvu) :
    t.onlyMove x i m := by
  have moves : ∀ j, t.move j = s.move j := fun j => by unfold State.move; rw [mvu]
  have works : t.work x = s.work x := by cases x <;> (unfold State.work; rw [mvu])
  exact ⟨only.slot, (moves i).trans only.held, only.crane, works ▸ only.queue, (moves _).trans only.yields,
    fun j o less other held => only.alone j o less other (moves j ▸ held)⟩

theorem State.onlyMove.aloneAt {s : State} {x : Crane} {i : Nat} {m : Move} (only : s.onlyMove x i m) : s.aloneAt x i := only.alone

theorem State.aloneAt.congr {s t : State} {x : Crane} {i : Nat} (alone : s.aloneAt x i)
    (moves : ∀ j, j < 18 → j ≠ i → t.move j = s.move j) : t.aloneAt x i :=
  fun j o less other held => alone j o less other (moves j less other ▸ held)

theorem State.aloneAt.moveless {s t : State} {x : Crane} {i : Nat} (alone : s.aloneAt x i)
    (moves : ∀ j, t.move j = if i = j then none else s.move j) : t.moveless x := fun j o less held => by
  rw [moves] at held
  split at held
  · exact nomatch held
  · next other => exact alone j o less (Ne.symm other) held

theorem State.aloneAt.noneSuspended {s : State} {x : Crane} {i : Nat} {m : Move} (alone : s.aloneAt x i) (held : s.move i = some m)
    (other : m.state ≠ .suspended) {j : Nat} (mem : j ∈ s.suspendedSlots x) : False := by
  obtain ⟨less, o, at_j, crane, suspended⟩ := State.mem_suspendedSlots.mp mem
  by_cases same : j = i
  · subst same
    exact other (Option.some.inj (held.symm.trans at_j) ▸ suspended)
  · exact alone j o (by omega) same at_j crane

theorem Move.underWay_toPick {m : Move} (toPick : m.state = .toPick) : m.underWay = true ∧ m.isLifted = false ∧ m.standing = false
    ∧ m.legToAsk = none := by
  unfold Move.underWay Move.isLifted Move.standing Move.legToAsk
  rw [toPick]
  exact ⟨rfl, rfl, rfl, rfl⟩

theorem Move.underWay_lifted {m : Move} {p : SubPhase} (lifted : m.state = .lifted p) : m.underWay = true ∧ m.isLifted = true
    ∧ m.standing = false := by
  unfold Move.underWay Move.isLifted Move.standing
  rw [lifted]
  exact ⟨rfl, rfl, rfl⟩

section
variable {s : State} {x : Crane} {l : List Nat}

/-- Steps 2 to 5 of R152 where the hook is as expected and no stop is SENT. -/
theorem State.afterEvent_plain {k : Hook} (expected : k = s.expectedHook x) (none : (s.work x).mismatch = false)
    (unsent : ∀ i m, s.underWay x = some (i, m) → ∀ p, m.stop ≠ .sent p) (n : Nat) (inside b taken : Bool) :
    s.afterEvent x n k inside b taken l = (s.work4 x b l).giveOrder x taken := by
  unfold State.afterEvent
  rw [State.compareHook_kept expected none, State.completeStop_kept unsent]

theorem State.findWork_active {i : Nat} (active : s.activeSlot x = some i) : s.findWork x = (s, some i) := by
  unfold State.findWork
  rw [active]

/-- A move under way that asks for nothing at this report: step 4 of R152 leaves it as it is. -/
theorem State.work4_active {i : Nat} {m : Move} {b : Bool} (free : s.resumeIfFree x l = s) (active : s.activeSlot x = some i)
    (held : s.move i = some m) (moves : m.standing = false) (still : m.legToAsk = none ∨ b = false) : s.work4 x b l = s := by
  unfold State.work4
  rw [free, State.findWork_active active]
  dsimp only
  rw [held]
  dsimp only
  rw [moves, Bool.and_false, if_neg (by decide)]
  rcases still with none | none
  · rw [none]
  · rw [none]
    split
    · exact if_neg (by simp)
    · rfl

/-- A queue of one SUSPENDED move gives the crane no work (R148). -/
theorem State.findWork_suspended {i : Nat} {m : Move} (alone : s.aloneAt x i) (held : s.move i = some m) (crane : m.crane = x)
    (slot : i < 18) (suspended : m.state = .suspended) (yields : s.move (yieldSlot x) = none) (queue : (s.work x).queue = [.move i]) :
    s.findWork x = (s, none) := by
  have idle : m.underWay = false := by
    unfold Move.underWay
    rw [suspended]
  unfold State.findWork State.yieldMove
  rw [alone.activeSlot held crane slot, idle, yields, queue]
  exact State.examine_suspended held suspended

end

end Sys2Proof.Machine
end

section
/-! SUPPORT. Proofs/Stopped.lean: a stop ordered at one report, and completed at the next (R151, R154). -/

namespace Sys2Proof.Machine

/-- What the runway unit's part of a report makes of a CLEAR latch (R136). -/
theorem State.runwayReport_latch {s : State} {x : Crane} {n : Nat} {r : Range} (held : (s.crane x).interval = some r)
    (clear : s.rru.breach = none) (k : Hook) : (r.has n = true → (s.runwayReport x n k).rru.breach = none)
    ∧ (r.has n = false → (s.crane x).outside = false → (s.runwayReport x n k).rru.breach = some x) := by
  have seen : ∀ c : CraneRec, ((s.seen x n k).setCrane x c).rru.breach = none := fun c => by
    have same : (s.seen x n k).rru.breach = none := by
      rw [(s.seen_sets x n k).rru]
      cases x <;> exact clear
    cases x <;> exact same
  refine ⟨fun inside => ?_, fun outside first => ?_⟩
  · rw [State.runwayReport_inside held inside]
    exact seen _
  · rw [State.runwayReport_outside (.inl ⟨r, held, outside⟩), if_neg (by simp [first])]
    exact (State.breached_reads _ x).2.2.2 (seen _)

section
variable {s : State} {x : Crane} {n i : Nat} {m : Move} {r : Range} (segment : n < 32) (only : s.onlyMove x i m)
  (toPick : m.state = .toPick) (interval : (s.crane x).interval = some r) (active : (s.crane x).presence = .active)
  (orphan : (s.work x).orphan = none) (hook : (s.work x).mismatch = false) (breach : s.rru.breach = none)
include segment only toPick interval active orphan hook breach

/-- An OWED stop is ordered at a report with no event (R151). -/
theorem State.takeReport_stop {p : StopPurpose} (owed : m.stop = .owed p) (inside : r.has n = true) :
    s.takeReport x n 0 0 = (((s.reported x n .empty).setMove i (some { m with stop := .sent p })).ordered x .stop, orderReply true .stop) := by
  obtain ⟨under, unlifted, moves, still⟩ := Move.underWay_toPick toPick
  rw [State.takeReport_valid s x segment (Nat.zero_le 1) (Nat.zero_le 6), State.eventOf_none]
  show (s.runwayReport x n .empty).afterEvent x n .empty _ _ true _ = _
  rw [State.runwayReport_active active interval inside]
  have here : (s.reported x n .empty).onlyMove x i m := only.of_mvu (State.setCrane_mvu ..)
  have slot : i < 18 := Nat.lt_of_lt_of_le only.slot (by decide)
  have work : (s.reported x n .empty).work x = s.work x := State.work_setCrane ..
  have way : (s.reported x n .empty).underWay x = some (i, m) := by
    rw [here.aloneAt.underWay here.held only.crane slot, under]
    rfl
  have expected : .empty = (s.reported x n .empty).expectedHook x := by
    rw [here.aloneAt.expectedHook here.held only.crane slot, work, orphan, unlifted]
    rfl
  have unsent : ∀ j o, (s.reported x n .empty).underWay x = some (j, o) → ∀ p, o.stop ≠ .sent p := fun j o found q sent => by
    obtain ⟨rfl, rfl⟩ := Prod.mk.inj (Option.some.inj (way.symm.trans found))
    rw [owed] at sent
    exact nomatch sent
  have free : (s.reported x n .empty).resumeIfFree x (s.suspendedSlots x) = s.reported x n .empty :=
    State.resumeIfFree_kept fun j mem => (only.aloneAt.noneSuspended only.held (by rw [toPick]; decide) mem).elim
  have at_i : (s.reported x n .empty).activeSlot x = some i := by
    rw [here.aloneAt.activeSlot here.held only.crane slot, under]
    rfl
  rw [State.afterEvent_plain expected (by rw [work, hook]) unsent, State.work4_active free at_i here.held moves (.inl still)]
  refine State.giveOrder_eq (State.composeOrder_stop ?_ (by rw [work, hook]) ?_ way owed) true
  · cases x <;> exact breach
  · rw [State.reported, State.crane_setCrane, if_pos rfl]
    show (s.crane x).presence ≠ _
    rw [active]
    decide

end

/-- What the completion of a stop makes of its move, the interval apart (R154). -/
def State.stopDone (v : State) (x : Crane) (i : Nat) (m : Move) : StopPurpose → State
  | .cancel => v.endMove i .cancelled false
  | .suspend => (v.setMove i (some { m with state := .suspended, stop := .none })).laneSettle x

/-- Crane `x` has no work, by the records of the move unit alone (R148). -/
def State.workless (s : State) (x : Crane) : Prop := ∀ t : State, t.mvu = s.mvu → t.findWork x = (t, none) ∧ t.underWay x = none

theorem State.move_of_mvu {s t : State} (mvu : t.mvu = s.mvu) (i : Nat) : t.move i = s.move i := by
  unfold State.move
  rw [mvu]

theorem State.work_of_mvu {s t : State} (mvu : t.mvu = s.mvu) (x : Crane) : t.work x = s.work x := by
  cases x <;> (unfold State.work; rw [mvu])

theorem State.moveless.workless {s : State} {x : Crane} (none : s.moveless x) (queue : (s.work x).queue = [])
    (yields : s.move (yieldSlot x) = .none) : s.workless x := fun t mvu => by
  have none' : t.moveless x := fun j o less held => none j o less (State.move_of_mvu mvu j ▸ held)
  exact ⟨State.findWork_moveless none' ((congrArg CraneWork.queue (State.work_of_mvu mvu x)).trans queue)
    ((State.move_of_mvu mvu _).trans yields), none'.underWay⟩

theorem State.onlyMove.workless {s : State} {x : Crane} {i : Nat} {m : Move} (only : s.onlyMove x i m) (suspended : m.state = .suspended) :
    s.workless x := fun t mvu => by
  have here := only.of_mvu mvu
  have slot : i < 18 := Nat.lt_of_lt_of_le only.slot (by decide)
  have idle : m.underWay = false := by
    unfold Move.underWay
    rw [suspended]
  refine ⟨State.findWork_suspended here.aloneAt here.held only.crane slot suspended here.yields here.queue, ?_⟩
  rw [here.aloneAt.underWay here.held only.crane slot, idle]
  rfl

/-- The crane has no work left, and its interval and what stands amiss are as they were. -/
structure State.stoppedAs (v t : State) (x : Crane) : Prop where
  work : t.workless x
  interval : ∀ y, (t.crane y).interval = (v.crane y).interval
  mismatch : (t.work x).mismatch = (v.work x).mismatch
  breach : t.rru.breach = v.rru.breach
  lyt : t.lyt = v.lyt

theorem leaveQueue_only (i : Nat) : leaveQueue i [.move i] = [] := by
  simp [leaveQueue, leadOff]

section
variable {v : State} {x : Crane} {i : Nat} {m : Move}

theorem State.stopDone_cancel (only : v.onlyMove x i m) : v.stoppedAs (v.endMove i .cancelled false) x := by
  obtain rfl := only.crane
  have ended := State.endMove_ended only.held .cancelled false
  have away : i ≠ yieldSlot m.crane := Nat.ne_of_lt (Nat.lt_of_lt_of_le only.slot (sixteen_le_yieldSlot _))
  have moves : ∀ j, (v.endMove i .cancelled false).move j = if i = j then none else v.move j := fun j => by
    rw [ended.moves, if_neg (c := i = yieldSlot m.crane ∧ j < 16) fun both => away both.1]
  have moveless := only.aloneAt.moveless moves
  have yields : (v.endMove i .cancelled false).move (yieldSlot m.crane) = none := by rw [moves, if_neg away, only.yields]
  have queue : ((v.endMove i .cancelled false).work m.crane).queue = [] := by rw [ended.work, only.queue]; exact leaveQueue_only i
  exact ⟨moveless.workless queue yields, fun y => (ended.spaces y).1, by rw [ended.work], ended.breach,
    ended.stands.1⟩

/-- A move in the place of the only one. -/
theorem State.onlyMove.setMove {m' : Move} (only : v.onlyMove x i m) (crane : m'.crane = x) : (v.setMove i (some m')).onlyMove x i m' := by
  have away : i ≠ yieldSlot x := Nat.ne_of_lt (Nat.lt_of_lt_of_le only.slot (sixteen_le_yieldSlot _))
  refine ⟨only.slot, State.move_setMove_same .., crane, ?_, ?_, fun j o less other held => ?_⟩
  · rw [State.work_setMove, only.queue]
  · rw [State.move_setMove, if_neg away, only.yields]
  · rw [State.move_setMove, if_neg (Ne.symm other)] at held
    exact only.alone j o less other held

theorem State.onlyMove.of_reads {s t : State} (only : s.onlyMove x i m) (moves : ∀ j, t.move j = s.move j)
    (queue : (t.work x).queue = (s.work x).queue) : t.onlyMove x i m :=
  ⟨only.slot, (moves i).trans only.held, only.crane, queue.trans only.queue, (moves _).trans only.yields,
    fun j o less other held => only.alone j o less other (moves j ▸ held)⟩

theorem State.stopDone_suspend (only : v.onlyMove x i m) :
    v.stoppedAs ((v.setMove i (some { m with state := .suspended, stop := .none })).laneSettle x) x := by
  obtain ⟨moves, works, rru, -, cranes⟩ := State.laneSettle_reads (v.setMove i (some { m with state := .suspended, stop := .none })) x
  have here := only.setMove (m' := { m with state := .suspended, stop := .none }) only.crane
  have work := works x
  rw [if_pos rfl, State.work_setMove] at work
  obtain ⟨_, _, _, _, _, frame⟩ := State.laneSettle_only (v.setMove i (some { m with state := .suspended, stop := .none })) x
  refine ⟨(here.of_reads moves (by rw [work, State.work_setMove])).workless rfl, fun y => ?_, by rw [work], ?_, by rw [frame]; rfl⟩
  · rw [cranes, State.crane_setMove]
  · rw [rru]
    rfl

/-- The interval's shrink at the completion of a stop, and the order (R151, R154). -/
theorem State.stoppedAs.orders {t : State} {n : Nat} {r : Range} (stopped : v.stoppedAs t x) (interval : (v.crane x).interval = some r)
    (hook : (v.work x).mismatch = false) (l : List Nat) (free : ∀ c : State, c.mvu = t.mvu → c.resumeIfFree x l = c) (b : Bool) :
    ∃ c o, ((t.shrinkInside x n (r.has n)).work4 x b l).giveOrder x true = (c.ordered x o, orderReply true o)
      ∧ c = t.shrinkInside x n (r.has n) ∧ c.mvu = t.mvu
      ∧ (r.has n = true → (c.crane x).interval = some ⟨n, n⟩ ∧ ∀ k, k < 32 → r.has k = true → k ≠ n → 1 ≤ (v.segment k).vacate →
          c.vacate k = some ⟨x, (v.segment k).vacate⟩)
      ∧ (r.has n = false → c = t)
      ∧ c.rru.breach = v.rru.breach ∧ (v.rru.breach = none → o = .idle) ∧ (v.rru.breach.isSome = true → o = .hold) := by
  have held : (t.crane x).interval = some r := (stopped.interval x).trans interval
  have segments : ∀ k, t.segment k = v.segment k := fun k => by unfold State.segment; rw [stopped.lyt]
  obtain ⟨c, shrunk⟩ : ∃ c, c = t.shrinkInside x n (r.has n) := ⟨_, rfl⟩
  have facts : c.mvu = t.mvu
      ∧ (r.has n = true → (c.crane x).interval = some ⟨n, n⟩ ∧ ∀ k, k < 32 → r.has k = true → k ≠ n → 1 ≤ (v.segment k).vacate →
          c.vacate k = some ⟨x, (v.segment k).vacate⟩)
      ∧ (r.has n = false → c = t) := by
    rw [shrunk]
    unfold State.shrinkInside
    cases inside : r.has n with
    | true =>
      rw [if_pos rfl]
      obtain ⟨_, -, gives⟩ := State.shrinkTo_eq held (Range.point_within inside)
      refine ⟨(t.shrinkTo_only x _).mvu, fun _ => ⟨?_, fun k less inOld other counts => ?_⟩, nofun⟩
      · rw [State.crane_shrinkTo held (Range.point_within inside), if_pos rfl]
        rfl
      · rw [gives k less inOld (Range.point_has other) (by rw [segments]; exact counts), segments]
    | false => exact ⟨rfl, nofun, fun _ => rfl⟩
  obtain ⟨mvu, inside, outside⟩ := facts
  have breach : c.rru.breach = v.rru.breach := by
    rw [shrunk, (t.moved_shrinkInside x n _).breach, stopped.breach]
  have mismatch : (c.work x).mismatch = false := by rw [State.work_of_mvu mvu, stopped.mismatch, hook]
  obtain ⟨work, way⟩ := stopped.work c mvu
  rw [← shrunk, State.work4_none (free c mvu) work]
  cases latch : v.rru.breach with
  | none => exact ⟨c, .idle, State.giveOrder_eq (State.composeOrder_idle (breach.trans latch) mismatch way) true, rfl, mvu, inside, outside,
      breach.trans latch, fun _ => rfl, nofun⟩
  | some y =>
    have held' : c.rru.breach.isSome = true := by rw [breach, latch]; rfl
    exact ⟨c, .hold, State.giveOrder_eq (State.composeOrder_held (.inl held')) true, rfl, mvu, inside, outside, breach.trans latch,
      nofun, fun _ => rfl⟩

end

section
variable {s : State} {x : Crane} {n i : Nat} {m : Move} {r : Range} (segment : n < 32) (only : s.onlyMove x i m)
  (toPick : m.state = .toPick) (interval : (s.crane x).interval = some r)
  (orphan : (s.work x).orphan = none) (hook : (s.work x).mismatch = false)
include segment only toPick interval orphan hook

/-- A SENT stop completes at a report with no event: the stages up to the shrink (R154). -/
theorem State.takeReport_completes {p : StopPurpose} (sent : m.stop = .sent p) :
    s.takeReport x n 0 0 = (((((s.runwayReport x n .empty).stopDone x i m p).shrinkInside x n (r.has n)).work4 x true
      (s.suspendedSlots x)).giveOrder x true) := by
  obtain ⟨under, unlifted, -, -⟩ := Move.underWay_toPick toPick
  rw [State.takeReport_valid s x segment (Nat.zero_le 1) (Nat.zero_le 6), State.eventOf_none]
  show (s.runwayReport x n .empty).afterEvent x n .empty ((s.runwayReport x n .empty).insideInterval x n) _ true _ = _
  rw [State.insideInterval_eq (State.runwayReport_interval interval n .empty)]
  obtain ⟨v, heard⟩ : ∃ v, v = s.runwayReport x n .empty := ⟨_, rfl⟩
  have mvu : v.mvu = s.mvu := heard ▸ (s.runwayReport_only x n .empty).mvu
  rw [← heard]
  have here := only.of_mvu mvu
  have slot : i < 18 := Nat.lt_of_lt_of_le only.slot (by decide)
  have work := State.work_of_mvu mvu x
  have way : v.underWay x = some (i, m) := by
    rw [here.aloneAt.underWay here.held only.crane slot, under]
    rfl
  have expected : .empty = v.expectedHook x := by
    rw [here.aloneAt.expectedHook here.held only.crane slot, work, orphan, unlifted]
    rfl
  unfold State.afterEvent
  rw [State.compareHook_kept expected (by rw [work, hook])]
  unfold State.completeStop
  rw [way]
  dsimp only
  rw [sent]
  cases p <;> rfl

/-- What a completed stop leaves of the crane's interval, and the order (R128, R151, R154). -/
theorem State.takeReport_stopped {p : StopPurpose} (sent : m.stop = .sent p) (breach : s.rru.breach = none) :
    ∃ c o, s.takeReport x n 0 0 = (c.ordered x o, orderReply true o)
      ∧ c = ((s.runwayReport x n .empty).stopDone x i m p).shrinkInside x n (r.has n)
      ∧ (r.has n = true → (c.crane x).interval = some ⟨n, n⟩ ∧ o = .idle ∧ ∀ k, k < 32 → r.has k = true → k ≠ n →
          1 ≤ (s.segment k).vacate → c.vacate k = some ⟨x, (s.segment k).vacate⟩)
      ∧ (r.has n = false → (s.crane x).outside = false → (c.crane x).interval = some r ∧ c.rru.breach = some x ∧ o = .hold) := by
  obtain ⟨v, heard⟩ : ∃ v, v = s.runwayReport x n .empty := ⟨_, rfl⟩
  have mvu : v.mvu = s.mvu := heard ▸ (s.runwayReport_only x n .empty).mvu
  have here := only.of_mvu mvu
  have stopped : v.stoppedAs (v.stopDone x i m p) x := by
    cases p with
    | cancel => exact State.stopDone_cancel here
    | suspend => exact State.stopDone_suspend here
  have held : (v.crane x).interval = some r := heard ▸ State.runwayReport_interval interval n .empty
  have free : ∀ c : State, c.mvu = (v.stopDone x i m p).mvu → c.resumeIfFree x (s.suspendedSlots x) = c := fun c _ =>
    State.resumeIfFree_kept fun j mem => (only.aloneAt.noneSuspended only.held (by rw [toPick]; decide) mem).elim
  obtain ⟨c, o, orders, shape, -, inside, outside, latch, idle, hold⟩ := stopped.orders (n := n) held
    ((congrArg CraneWork.mismatch (State.work_of_mvu mvu x)).trans hook) (s.suspendedSlots x) free true
  obtain ⟨quiet, breached⟩ := State.runwayReport_latch (n := n) interval breach .empty
  rw [← heard] at quiet breached
  have segments : ∀ k, v.segment k = s.segment k := fun k => by
    obtain ⟨_, _, _, _, frame⟩ := s.runwayReport_only x n .empty
    rw [heard, frame]
    rfl
  refine ⟨c, o, ?_, heard ▸ shape, fun within => ⟨(inside within).1, idle (quiet within), fun k less inOld other counts => ?_⟩,
    fun away first => ⟨?_, latch.trans (breached away first), hold (by rw [breached away first]; rfl)⟩⟩
  · rw [State.takeReport_completes segment only toPick interval orphan hook sent, ← heard]
    exact orders
  · have given := (inside within).2 k less inOld other (by rw [segments]; exact counts)
    rw [given, segments]
  · rw [outside away, stopped.interval, held]

end

/-- A state between a request and its reply reads as the reply's. -/
theorem State.ordered_reads (s : State) (x : Crane) (o : Order) : (∀ i, (s.ordered x o).move i = s.move i)
    ∧ (∀ y, (s.ordered x o).crane y = s.crane y) ∧ (s.ordered x o).work x = { s.work x with lastOrder := some o.kind }
    ∧ (s.ordered x o).work x.other = s.work x.other ∧ (s.ordered x o).cnd = s.cnd ∧ (s.ordered x o).rru = s.rru
    ∧ (s.ordered x o).pct = s.pct ∧ (s.ordered x o).stk = s.stk := by
  refine ⟨fun i => State.move_setWork .., fun y => State.crane_setWork .., ?_, ?_, State.setWork_cnd .., State.setWork_rru ..,
    State.setWork_pct .., State.setWork_stk ..⟩
  · rw [State.ordered, State.work_setWork, if_pos rfl]
  · rw [State.ordered, State.work_setWork, if_neg (State.other_ne x)]

/-- The runway unit's part of a report posts and ends CRANE-STALE and BREACH alone. -/
theorem State.runwayReport_spares {kind : CondKind} (stale : kind ≠ .craneStale) (breach : kind ≠ .breach) (s : State) (x : Crane)
    (n : Nat) (k : Hook) : State.spares kind s (s.runwayReport x n k) := by
  have written : ∀ (t : State) (c : CraneRec), State.spares kind t (t.setCrane x c) := fun t c => .of_cnd (State.setCrane_cnd ..)
  have seen : State.spares kind s (s.seen x n k) := by
    by_cases was : (s.crane x).presence = .stale
    · rw [State.seen_stale was]
      exact (written s _).trans (State.endCause_spares _ _ (Ne.symm stale) _)
    · rw [State.seen_eq was]
      exact written s _
  have first : State.spares kind s ((s.seen x n k).firstInterval x n) := by
    unfold State.firstInterval
    split
    · exact seen.trans (written _ _)
    · exact seen
  have counted : ∀ t : State, State.spares kind t (t.breached x) := fun t => by
    unfold State.breached
    dsimp only
    split
    · exact .of_cnd rfl
    · exact State.spares.trans (.of_cnd rfl) (State.raiseCause_spares _ _ (Ne.symm breach) _)
  unfold State.runwayReport State.breachTest
  split
  · exact first.trans (written _ _)
  · split
    · exact first
    · exact (first.trans (written _ _)).trans (counted _)

/-- Settles O46: the stop ordered, and the stop completed. -/
theorem stopsComplete : Obligations.StopsComplete := by
  intro s h x n i m p r a segment only toPick interval active orphan hook breach
  obtain ⟨l, runs⟩ := exec_report a n 0 0
  have only' : State.onlyMove { s with lnk := l } x i m := only.of_mvu rfl
  constructor
  · intro owed inside
    rw [State.takeReport_stop segment only' toPick interval active orphan hook breach owed inside] at runs
    refine ⟨_, runs, ?_, fun j other => ?_, ?_, ?_, ?_⟩
    · refine Eq.trans (b := ((s.reported x n .empty).setMove i (some { m with stop := .sent p })).move i) ?_ (State.move_setMove_same ..)
      cases x <;> rfl
    · refine Eq.trans (b := ((s.reported x n .empty).setMove i (some { m with stop := .sent p })).move j) ?_ ?_
      · cases x <;> rfl
      · rw [State.move_setMove, if_neg (Ne.symm other)]
        cases x <;> rfl
    · cases x <;> exact interval
    · cases x <;> rfl
    · cases x <;> rfl
  · intro sent
    obtain ⟨c, o, takes, shape, inside, outside⟩ := State.takeReport_stopped segment only' toPick interval orphan hook sent breach
    rw [takes] at runs
    obtain ⟨moves, cranes, work, -, sets, rru, pct, stk⟩ := c.ordered_reads x o
    obtain ⟨v, heard⟩ : ∃ v, v = State.runwayReport { s with lnk := l } x n .empty := ⟨_, rfl⟩
    have before := heard ▸ State.runwayReport_only { s with lnk := l } x n .empty
    have here := only'.of_mvu before.mvu
    rw [← heard] at shape
    obtain ⟨q, space⟩ := (v.stopDone x i m p).shrinkInside_space x n (r.has n)
    rw [space] at shape
    refine ⟨_, _, runs, fun within => ?_, fun away first => ?_, fun suspend => ?_, fun cancel => ?_⟩
    · obtain ⟨gap, order, gives⟩ := inside within
      refine ⟨(congrArg CraneRec.interval (cranes x)).trans gap, by rw [order]; rfl, fun k less inOld other counts => ?_⟩
      refine Eq.trans ?_ (gives k less inOld other counts)
      cases x <;> rfl
    · obtain ⟨gap, latch, order⟩ := outside away first
      exact ⟨(congrArg CraneRec.interval (cranes x)).trans gap, (congrArg Rru.breach rru).trans latch, by rw [order]; rfl⟩
    · subst suspend
      obtain ⟨settled, -⟩ := State.laneSettle_reads (v.setMove i (some { m with state := .suspended, stop := .none })) x
      obtain ⟨_, _, _, _, _, frame⟩ := State.laneSettle_only (v.setMove i (some { m with state := .suspended, stop := .none })) x
      have done : (v.stopDone x i m .suspend).pct = v.pct ∧ (v.stopDone x i m .suspend).stk = v.stk := by
        unfold State.stopDone
        rw [frame]
        exact ⟨rfl, rfl⟩
      obtain ⟨_, _, _, _, heardFrame⟩ := before
      refine ⟨(moves i).trans ?_, pct.trans ?_, stk.trans ?_⟩
      · rw [shape]
        exact (settled i).trans (State.move_setMove_same ..)
      · rw [shape]
        exact done.1.trans (by rw [heardFrame])
      · rw [shape]
        exact done.2.trans (by rw [heardFrame])
    · subst cancel
      obtain rfl := only.crane
      have ended : v.Ended i m .cancelled (v.stopDone m.crane i m .cancel) := State.endMove_ended here.held .cancelled false
      have released := (v.releaseMove_released m (e := .cancelled) nofun).congr (u := c.ordered m.crane o)
        (pct.trans (by rw [shape]; exact ended.pct)) (stk.trans (by rw [shape]; exact ended.stk))
      have sameGoods : v.pct = s.pct ∧ v.stk = s.stk := by
        obtain ⟨_, _, _, _, heardFrame⟩ := before
        rw [heardFrame]
        exact ⟨rfl, rfl⟩
      have piece : ∀ k, v.piece k = s.piece k := fun k => by unfold State.piece; rw [sameGoods.1]
      have cell : ∀ k, v.cell k = s.cell k := fun k => by unfold State.cell; rw [sameGoods.2]
      have bay : ∀ k, v.bay k = s.bay k := fun k => by unfold State.bay; rw [sameGoods.2]
      refine ⟨(moves i).trans ?_, ?_, fun k named => ?_, fun k d named dest => ?_, fun d some source => ?_, fun k b named dest => ?_,
        fun pt e mem kind => ?_⟩
      · rw [shape]
        exact (ended.moves i).trans (if_pos rfl)
      · refine (congrArg CraneWork.queue work).trans ?_
        rw [shape]
        refine (congrArg CraneWork.queue ended.work).trans ?_
        rw [here.queue]
        exact leaveQueue_only i
      · exact (released.claim k named).trans (by rw [piece])
      · exact (released.arrivals k d named dest).1.trans (by rw [cell])
      · exact (released.departures d some source).1.trans (by rw [cell])
      · have load := released.load k b named dest
        rw [bay, piece] at load
        exact ⟨congrArg Bay.pendingCount load, congrArg Bay.pendingWeight load⟩
      · have cnd : (c.ordered m.crane o).cnd = (v.stopDone m.crane i m .cancel).cnd := sets.trans (by rw [shape])
        have same : (c.ordered m.crane o).condSet pt = (v.stopDone m.crane i m .cancel).condSet pt := by
          cases pt <;> (unfold State.condSet; rw [cnd])
        have older : ∀ kind, kind ≠ .deadlock → kind ≠ .laneActive → kind ≠ .craneStale → kind ≠ .breach → e.kind = kind →
            e ∈ (s.condSet pt).records := fun kind deadlock lane stale breach at_e => by
          have heardSet := State.runwayReport_spares stale breach { s with lnk := l } m.crane n .empty
          rw [← heard] at heardSet
          exact (heardSet.trans (State.endMove_cancelled_spares deadlock lane v i)) pt e (same ▸ mem) at_e
        rcases kind with kind | kind | kind
        all_goals exact older _ (by decide) (by decide) (by decide) (by decide) kind

end Sys2Proof.Machine
end

section
/-! SUPPORT. Proofs/Legs.lean: the event of a leg taken at a report that finds nothing amiss, and the rest of that report (R128, R129,
R151, R153). -/

namespace Sys2Proof.Machine

/-- A report of crane `x` at segment `n` finds nothing amiss. -/
structure State.sound (s : State) (x : Crane) (n : Nat) (r : Range) : Prop where
  segment : n < 32
  clear : s.rru.breach = none
  hook : (s.work x).mismatch = false
  active : (s.crane x).presence = .active
  interval : (s.crane x).interval = some r
  inside : r.has n = true

theorem State.soundReport.sound {s : State} {h : Header} {x : Crane} {n : Nat} {r : Range} (a : s.soundReport h x n r) (l : Lnk) :
    ({ s with lnk := l } : State).sound x n r := ⟨a.segment, a.clear, a.hook, a.active, a.interval, a.inside⟩

/-! ## The report taken -/

theorem State.reported_reads (s : State) (x : Crane) (n : Nat) (k : Hook) : (s.reported x n k).mvu = s.mvu
    ∧ (∀ i, (s.reported x n k).move i = s.move i) ∧ (∀ y, (s.reported x n k).work y = s.work y)
    ∧ (s.reported x n k).crane x = { s.crane x with
      position := some n, hook := some k, timer := some (s.presenceTimeout x), outside := false }
    ∧ (s.reported x n k).crane x.other = s.crane x.other ∧ (s.reported x n k).rru.breach = s.rru.breach
    ∧ ∀ j, (s.reported x n k).vacate j = s.vacate j := by
  refine ⟨State.setCrane_mvu .., fun i => State.move_setCrane .., fun y => State.work_setCrane .., ?_, ?_, by cases x <;> rfl,
    fun j => State.vacate_setCrane ..⟩
  · rw [State.reported, State.crane_setCrane, if_pos rfl]
  · rw [State.reported, State.crane_setCrane, if_neg (State.other_ne x)]

theorem State.reported_frame (s : State) (x : Crane) (n : Nat) (k : Hook) : ∃ q, s.reported x n k = { s with rru := q } := by
  cases x <;> exact ⟨_, rfl⟩

theorem State.ordered_frame (s : State) (x : Crane) (o : Order) : ∃ q, s.ordered x o = { s with mvu := q } := by
  cases x <;> exact ⟨_, rfl⟩

theorem State.sound.takes {s : State} {x : Crane} {n : Nat} {r : Range} (a : s.sound x n r) {k e : Nat} (hook : k ≤ 1) (event : e ≤ 6)
    {t : State} (taken : (s.reported x n (hookOf k)).takeEvent x n e = (t, true)) :
    s.takeReport x n k e = t.afterEvent x n (hookOf k) true (asksAt e) true (s.suspendedSlots x) := by
  have heard := State.runwayReport_active a.active a.interval a.inside (hookOf k)
  have within : (s.reported x n (hookOf k)).insideInterval x n = true := by
    obtain ⟨-, -, -, crane, -⟩ := s.reported_reads x n (hookOf k)
    rw [State.insideInterval_eq (r := r) (by rw [crane]; exact a.interval), a.inside]
  rw [State.takeReport_valid s x a.segment hook event, State.eventOf, heard, taken, within, Bool.true_and]

/-! ## The rest of the report -/

/-- Nothing is amiss with a crane that has taken its event, and none of its moves was SUSPENDED when the report came. -/
structure State.settledAt (t : State) (x : Crane) (l : List Nat) : Prop where
  breach : t.rru.breach = none
  hook : (t.work x).mismatch = false
  free : t.resumeIfFree x l = t

/-- The crane has no move left. -/
theorem State.settledAt.idle {t : State} {x : Crane} {l : List Nat} (a : t.settledAt x l) (none : t.moveless x) (queue : (t.work x).queue = [])
    (yields : t.move (yieldSlot x) = .none) (orphan : (t.work x).orphan = .none) (n : Nat) (b : Bool) :
    t.afterEvent x n .empty true b true l = (t.ordered x .idle, orderReply true .idle) := by
  have expected : .empty = t.expectedHook x := by rw [none.expectedHook, orphan]; rfl
  rw [State.afterEvent_plain expected a.hook (by simp [none.underWay]), State.work4_none a.free (State.findWork_moveless none queue yields),
    State.giveOrder_eq (State.composeOrder_idle a.breach a.hook none.underWay)]

/-- The crane has one move, LIFTED, with no stop: the order is what has been granted to it. -/
theorem State.settledAt.carries {t : State} {x : Crane} {l : List Nat} {i : Nat} {m : Move} {p : SubPhase} (a : t.settledAt x l)
    (alone : t.aloneAt x i) (held : t.move i = some m) (crane : m.crane = x) (slot : i < 18) (lifted : m.state = .lifted p)
    (stop : m.stop = .none) (present : (t.crane x).presence ≠ .out) (n : Nat) :
    t.afterEvent x n .loaded true false true l
      = (t.ordered x (match m.granted with | some leg => t.goOrder m leg | none => .idle),
        orderReply true (match m.granted with | some leg => t.goOrder m leg | none => .idle)) := by
  obtain ⟨under, up, moves⟩ := Move.underWay_lifted lifted
  have way : t.underWay x = some (i, m) := by
    rw [alone.underWay held crane slot, under]
    rfl
  have active : t.activeSlot x = some i := by
    rw [alone.activeSlot held crane slot, under]
    rfl
  have expected : .loaded = t.expectedHook x := by
    rw [alone.expectedHook held crane slot, up]
    simp
  have unsent : ∀ j o, t.underWay x = some (j, o) → ∀ q, o.stop ≠ .sent q := fun j o found q sent => by
    obtain ⟨rfl, rfl⟩ := Prod.mk.inj (Option.some.inj (way.symm.trans found))
    rw [stop] at sent
    exact nomatch sent
  rw [State.afterEvent_plain expected a.hook unsent, State.work4_active a.free active held moves (.inr rfl)]
  exact State.giveOrder_eq (State.composeOrder_granted a.breach a.hook present way fun q owed => by rw [stop] at owed; exact nomatch owed) true

/-! ## The end of the crane's one move -/

/-- What the end of its one move leaves of a crane, and of the others' records (R159). -/
theorem State.Ended.only {v t : State} {x : Crane} {i : Nat} {m : Move} {e : Ending} (ended : v.Ended i m e t) (only : v.onlyMove x i m) :
    (∀ j, t.move j = if i = j then none else v.move j) ∧ t.moveless x ∧ (t.work x).queue = [] ∧ t.move (yieldSlot x) = none
      ∧ (t.work x).mismatch = (v.work x).mismatch ∧ (t.work x).orphan = (v.work x).orphan := by
  obtain rfl := only.crane
  have away : i ≠ yieldSlot m.crane := Nat.ne_of_lt (Nat.lt_of_lt_of_le only.slot (sixteen_le_yieldSlot _))
  have moves : ∀ j, t.move j = if i = j then none else v.move j := fun j => by
    rw [ended.moves, if_neg (c := i = yieldSlot m.crane ∧ j < 16) fun both => away both.1]
  refine ⟨moves, only.aloneAt.moveless moves, ?_, ?_, by rw [ended.work], by rw [ended.work]⟩
  · rw [ended.work, only.queue]
    exact leaveQueue_only i
  · rw [moves, if_neg away, only.yields]

theorem State.slots_free {s t : State} {x : Crane} {i : Nat} {m : Move} (alone : s.aloneAt x i) (held : s.move i = some m)
    (other : m.state ≠ .suspended) : t.resumeIfFree x (s.suspendedSlots x) = t :=
  State.resumeIfFree_kept fun _ mem => (alone.noneSuspended held other mem).elim

/-! ## A pick (R31, R110, R128, R153) -/

theorem State.hookPiece_frame (s : State) (x : Crane) (m : Move) :
    ∃ p k e, s.hookPiece x m = { s with pct := p, stk := k, beds := e } := by
  unfold State.hookPiece
  split <;> exact ⟨_, _, _, rfl⟩

/-- What a pick leaves: the phase it goes on in, and the part of the interval it keeps. -/
theorem State.lift_reads {v : State} {x : Crane} {r kept : Range} (held : (v.crane x).interval = some r) (within : kept.within r = true)
    (i : Nat) (m : Move) (p : SubPhase) {t : State} (picked : t = ((v.hookPiece x m).lift x i m p).shrinkTo x kept) :
    (∀ j, t.move j = if i = j then some { m with state := .lifted p, reason := none, stop := .none } else v.move j)
      ∧ (∀ y, t.work y = v.work y) ∧ t.crane x = { v.crane x with hull := some m.hull, interval := some kept }
      ∧ t.crane x.other = v.crane x.other ∧ t.rru.breach = v.rru.breach
      ∧ (∀ k, k < 32 → r.has k = true → kept.has k = false → 1 ≤ (v.segment k).vacate → t.vacate k = some ⟨x, (v.segment k).vacate⟩)
      ∧ ∃ a b, t = { v.hookPiece x m with mvu := a, rru := b } := by
  obtain ⟨_, _, _, hooked⟩ := v.hookPiece_frame x m
  obtain ⟨u, lifts⟩ : ∃ u, u = (v.hookPiece x m).lift x i m p := ⟨_, rfl⟩
  have moves : ∀ j, u.move j = if i = j then some { m with state := .lifted p, reason := none, stop := .none } else v.move j := fun j => by
    rw [lifts, State.lift, State.move_setCrane, State.move_setMove, hooked]
    rfl
  have works : ∀ y, u.work y = v.work y := fun y => by
    rw [lifts, State.lift, State.work_setCrane, State.work_setMove, hooked]
    rfl
  have cranes : ∀ y, u.crane y = if x = y then { v.crane x with hull := some m.hull } else v.crane y := fun y => by
    rw [lifts, State.lift, State.crane_setCrane, State.crane_setMove, State.crane_setMove, hooked]
    rfl
  have space : (u.crane x).interval = some r := by rw [cranes, if_pos rfl]; exact held
  obtain ⟨w, shrunk, gives⟩ := State.shrinkTo_eq space within
  have frame : ∃ q, t = { u with rru := q } := by rw [picked, ← lifts]; exact u.shrinkTo_space x kept
  have breach : t.rru.breach = v.rru.breach := by
    rw [picked, ← lifts, shrunk, lifts, State.lift, hooked]
    cases x <;> rfl
  have craneT : ∀ y, t.crane y = if x = y then { u.crane x with interval := some kept } else u.crane y := fun y => by
    rw [picked, ← lifts]
    exact State.crane_shrinkTo space within y
  have segments : ∀ k, u.segment k = v.segment k := fun k => by
    rw [lifts, State.lift, hooked]
    cases x <;> rfl
  obtain ⟨q, same⟩ := frame
  refine ⟨fun j => ?_, fun y => ?_, ?_, ?_, breach, fun k less inOld outside counts => ?_, ?_⟩
  · rw [← moves, same]
    rfl
  · rw [← works, same]
    rfl
  · rw [craneT, if_pos rfl, cranes, if_pos rfl]
  · rw [craneT, if_neg (State.other_ne x), cranes, if_neg (State.other_ne x)]
  · have given := gives k less inOld outside (by rw [segments]; exact counts)
    rw [← segments, picked, ← lifts]
    exact given
  · rw [same, lifts]
    cases x <;> exact ⟨_, _, rfl⟩

/-- PICKED fits the crane's one move: the report, and the order of what follows (R151, R153). -/
theorem State.sound.picks {s : State} {x : Crane} {n i : Nat} {m : Move} {r kept : Range} {p : SubPhase} (a : s.sound x n r)
    (only : s.onlyMove x i m) (toPick : m.state = .toPick) (kind : m.kind ≠ .park) (pick : m.pick = some n)
    (goes : (s.reported x n .loaded).takePicked x i m n
      = (((s.reported x n .loaded).hookPiece x m).lift x i m p).shrinkTo x kept) (within : kept.within r = true) :
    ∃ (t : State) (o : Order), s.takeReport x n 1 2 = (t.ordered x o, orderReply true o)
      ∧ t = (((s.reported x n .loaded).hookPiece x m).lift x i m p).shrinkTo x kept
      ∧ (p = .waitPlace → o = .idle)
      ∧ (p = .toPlace → o = t.goOrder { m with state := .lifted .toPlace, reason := none, stop := .none } .place) := by
  obtain ⟨vmvu, vmoves, vworks, vcrane, vother, vbreach, -⟩ := s.reported_reads x n .loaded
  obtain ⟨v, heard⟩ : ∃ v, v = s.reported x n .loaded := ⟨_, rfl⟩
  rw [← heard] at vmvu vmoves vworks vcrane vbreach goes ⊢
  have here := only.of_mvu vmvu
  have slot : i < 18 := Nat.lt_of_lt_of_le only.slot (by decide)
  have way : v.underWay x = some (i, m) := by
    rw [here.aloneAt.underWay here.held only.crane slot, (Move.underWay_toPick toPick).1]
    rfl
  have fits : m.fitsPick n = true := by simp [Move.fitsPick, toPick, kind, pick]
  obtain ⟨t, picked⟩ : ∃ t, t = ((v.hookPiece x m).lift x i m p).shrinkTo x kept := ⟨_, rfl⟩
  have event : v.takeEvent x n 2 = (t, true) := by
    unfold State.takeEvent
    rw [way]
    exact (if_pos fits).trans (by rw [goes, picked])
  have space : (v.crane x).interval = some r := by rw [vcrane]; exact a.interval
  obtain ⟨moves, works, crane, -, breach, -⟩ := State.lift_reads space within i m p picked
  have settled : t.settledAt x (s.suspendedSlots x) :=
    ⟨breach.trans (vbreach.trans a.clear), by rw [works, vworks]; exact a.hook, State.slots_free only.aloneAt only.held (by rw [toPick]; decide)⟩
  have carried : t.afterEvent x n .loaded true false true (s.suspendedSlots x) = _ :=
    settled.carries (here.aloneAt.congr fun j _ other => (moves j).trans (if_neg (Ne.symm other))) ((moves i).trans (if_pos rfl)) only.crane
      slot rfl rfl (by rw [crane, vcrane]; show (s.crane x).presence ≠ _; rw [a.active]; decide) n
  have taken := a.takes (k := 1) (e := 2) (Nat.le_refl 1) (by decide) (t := t) (by rw [heard] at event; exact event)
  refine ⟨t, _, taken.trans carried, picked, fun waits => ?_, fun goes => ?_⟩
  · subst waits
    rfl
  · subst goes
    rfl

/-! ## The end of a leg (R31, R153, R159) -/

/-- The event ends the crane's one move: the report, IDLE. -/
theorem State.sound.ends {s : State} {x : Crane} {n e i : Nat} {m : Move} {r : Range} (a : s.sound x n r) (event : e ≤ 6)
    (only : s.onlyMove x i m) (moves : m.state ≠ .suspended) {w : State} {ending : Ending}
    (taken : (s.reported x n .empty).takeEvent x n e = (w.endMove i ending false, true)) (here : w.onlyMove x i m)
    (breach : w.rru.breach = none) (hook : (w.work x).mismatch = false) (orphan : (w.work x).orphan = none) :
    s.takeReport x n 0 e = ((w.endMove i ending false).ordered x .idle, orderReply true .idle) := by
  have ended := State.endMove_ended here.held ending false
  obtain ⟨-, moveless, queue, yields, mismatch, orphans⟩ := ended.only here
  have settled : (w.endMove i ending false).settledAt x (s.suspendedSlots x) :=
    ⟨ended.breach.trans breach, mismatch.trans hook, State.slots_free only.aloneAt only.held moves⟩
  exact (a.takes (k := 0) (Nat.zero_le 1) event taken).trans (settled.idle moveless queue yields (orphans.trans orphan) n _)

/-- The posting of the move's end is in the set of PL, unless a full set dropped one (R159, R176). -/
theorem State.endMove_holds {w : State} {i : Nat} {m : Move} (held : w.move i = some m) {e : Ending} {f : Bool} {k : CondKind}
    (posts : (e = .done ∧ k = .moveDone) ∨ (e = .failed ∧ k = .moveFailed) ∨ (e = .cancelled ∧ f = true ∧ k = .moveCancelled))
    {t : State} (cnd : t.cnd = (w.endMove i e f).cnd) (kept : (t.condSet .PL).overflow = false) :
    ∃ q ∈ (t.condSet .PL).records, q.kind = k ∧ q.subject = .serial m.serial := by
  obtain ⟨u, posted⟩ := State.endMove_posts held posts
  rw [posted] at cnd
  exact State.grows.holds (.of_cnd cnd) kept

/-- What the crane's interval and hull become at the end of a leg, its move gone (R125, R128, R159). -/
theorem State.Ended.crane_only {v t : State} {x : Crane} {i : Nat} {m : Move} {e : Ending} (ended : v.Ended i m e t) (crane : m.crane = x) :
    (t.crane x).interval = (v.crane x).interval ∧ (t.crane x).hull = (if m.isLifted then none else (v.crane x).hull)
      ∧ t.crane x.other = v.crane x.other := by
  subst crane
  exact ⟨by rw [ended.crane], by rw [ended.crane], ended.otherCrane⟩

theorem State.onlyMove.shrinkTo {v : State} {x : Crane} {i : Nat} {m : Move} (only : v.onlyMove x i m) (r : Range) :
    (v.shrinkTo x r).onlyMove x i m := only.of_mvu (v.shrinkTo_only x r).mvu

end Sys2Proof.Machine
end

section
/-! SUPPORT. Proofs/Carried.lean: a piece picked from a cell, and placed into a cell or a bay (R110, R111, R113). -/

namespace Sys2Proof.Machine

/-- What changes nothing but some units changes nothing else once the link is set back. -/
theorem State.relink_frame {s t : State} {l : Lnk} (frame : t = { s with lnk := l }) : ({ t with lnk := s.lnk } : State) = s := by
  rw [frame]

theorem State.piece_of_pct {s t : State} (pct : t.pct = s.pct) (k : Nat) : t.piece k = s.piece k := by
  unfold State.piece
  rw [pct]

theorem State.cell_of_stk {s t : State} (stk : t.stk = s.stk) (k : Nat) : t.cell k = s.cell k := by
  unfold State.cell
  rw [stk]

theorem State.bay_of_stk {s t : State} (stk : t.stk = s.stk) (k : Nat) : t.bay k = s.bay k := by
  unfold State.bay
  rw [stk]

/-! ## The stock unit's part -/

theorem State.cellPick_reads (s : State) (x : Crane) (c p : Nat) :
    (∀ k, (s.cellPick x c p).piece k = if p = k then { s.piece p with state := .hook, location := some (.crane x) } else s.piece k)
    ∧ (∀ k, (s.cellPick x c p).cell k = if c = k then
        { s.cell c with stack := (s.cell c).stack.filter (fun j => j ≠ p), pendingOut := (s.cell c).pendingOut - 1 } else s.cell k)
    ∧ (s.cellPick x c p).stk.generation = nextGeneration s.stk.generation :=
  ⟨fun k => State.piece_setPiece s p { s.piece p with state := .hook, location := some (.crane x) } k,
    fun k => State.cell_setCell _ _ _ k, rfl⟩

theorem State.cellPlace_reads (s : State) (c p : Nat) :
    (∀ k, (s.cellPlace c p).piece k = if p = k then
        { s.piece p with state := .stock, location := some (.cell c (s.cell c).stack.length) } else s.piece k)
    ∧ (∀ k, (s.cellPlace c p).cell k = if c = k then
        { s.cell c with arrivals := (s.cell c).arrivals.filter (fun j => j ≠ p), stack := (s.cell c).stack ++ [p] } else s.cell k)
    ∧ (s.cellPlace c p).stk.generation = nextGeneration s.stk.generation :=
  ⟨fun k => State.piece_setPiece s p { s.piece p with state := .stock, location := some (.cell c (s.cell c).stack.length) } k,
    fun k => State.cell_setCell _ _ _ k, rfl⟩

theorem State.bayShip_reads (s : State) (b p : Nat) :
    (∀ k, (s.bayShip b p).piece k = if p = k then {} else s.piece k)
    ∧ (∀ k, (s.bayShip b p).bay k = if b = k then { s.bay b with
        shipped := (s.bay b).shipped ++ [⟨(s.piece p).mark, (s.piece p).pour, (s.piece p).weight, s.clk.minute⟩]
        load := (s.bay b).load + (s.piece p).weight
        pendingWeight := (s.bay b).pendingWeight - (s.piece p).weight
        pendingCount := (s.bay b).pendingCount - 1 } else s.bay k)
    ∧ (s.bayShip b p).stk.generation = nextGeneration s.stk.generation :=
  ⟨fun k => State.piece_setPiece s p {} k, fun k => State.bay_setBay _ _ _ k, rfl⟩

theorem State.cellPick_frame (s : State) (x : Crane) (c p : Nat) : ∃ a b, s.cellPick x c p = { s with pct := a, stk := b } := ⟨_, _, rfl⟩

theorem filter_top {rest : List Nat} {p : Nat} (new : p ∉ rest) : (rest ++ [p]).filter (fun k => k ≠ p) = rest := by
  rw [List.filter_append, List.filter_eq_self.mpr fun k mem => by simpa using fun same : k = p => new (same ▸ mem)]
  simp

/-! ## The pick -/

/-- PICKED from the top of a cell, leg by leg: the first half of O43, the link left open. -/
theorem State.sound.picks_cell {s : State} {x : Crane} {n i p c : Nat} {m : Move} {r : Range} (a : s.sound x n r) (only : s.onlyMove x i m)
    (piece : m.piece = some p) (kind : m.kind ≠ .park) (toPick : m.state = .toPick) (style : m.style ≠ .atomic)
    (source : m.source = some (.cell c)) (pick : m.pick = some n) {rest : List Nat} (stack : (s.cell c).stack = rest ++ [p])
    (new : p ∉ rest) :
    ∃ t : State, s.takeReport x n 1 2 = (t, orderReply true .idle)
      ∧ t.piece p = { s.piece p with state := .hook, location := some (.crane x) }
      ∧ (∀ k, k ≠ p → t.piece k = s.piece k)
      ∧ t.cell c = { s.cell c with stack := rest, pendingOut := (s.cell c).pendingOut - 1 }
      ∧ (∀ k, k ≠ c → t.cell k = s.cell k)
      ∧ t.stk.generation = nextGeneration s.stk.generation
      ∧ t.move i = some { m with state := .lifted .waitPlace, reason := none, stop := .none }
      ∧ (t.crane x).interval = some ⟨n, n⟩ ∧ (t.crane x).hull = some ⟨min n m.place, max n m.place⟩
      ∧ (∀ k, k < 32 → r.has k = true → k ≠ n → 1 ≤ (s.segment k).vacate → t.vacate k = some ⟨x, (s.segment k).vacate⟩)
      ∧ t.crane x.other = s.crane x.other
      ∧ { t with pct := s.pct, stk := s.stk, mvu := s.mvu, rru := s.rru } = s := by
  have within := Range.point_within a.inside
  obtain ⟨w, o, report, picked, waits, -⟩ := a.picks only toPick kind pick (if_neg style) within
  rw [waits rfl] at report
  obtain ⟨-, -, -, vcrane, vother, -⟩ := s.reported_reads x n .loaded
  have space : ((s.reported x n .loaded).crane x).interval = some r := by rw [vcrane]; exact a.interval
  obtain ⟨moves, -, crane, other, -, gives, b, q, frame⟩ := State.lift_reads space within i m .waitPlace picked
  have hooked : (s.reported x n .loaded).hookPiece x m = (s.reported x n .loaded).cellPick x c p := by
    unfold State.hookPiece
    rw [piece, source]
  rw [hooked] at frame
  have goods : (s.reported x n .loaded).pct = s.pct ∧ (s.reported x n .loaded).stk = s.stk := by cases x <;> exact ⟨rfl, rfl⟩
  obtain ⟨pieces, cells, generation⟩ := (s.reported x n .loaded).cellPick_reads x c p
  obtain ⟨movesT, cranesT, -, -, -, -, pctT, stkT⟩ := w.ordered_reads x .idle
  have pct : (w.ordered x .idle).pct = ((s.reported x n .loaded).cellPick x c p).pct := pctT.trans (by rw [frame])
  have stk : (w.ordered x .idle).stk = ((s.reported x n .loaded).cellPick x c p).stk := stkT.trans (by rw [frame])
  have pieceT : ∀ k, (w.ordered x .idle).piece k
      = if p = k then { s.piece p with state := .hook, location := some (.crane x) } else s.piece k := fun k => by
    rw [State.piece_of_pct pct, pieces, State.piece_of_pct goods.1, State.piece_of_pct goods.1]
  have cellT : ∀ k, (w.ordered x .idle).cell k
      = if c = k then { s.cell c with stack := rest, pendingOut := (s.cell c).pendingOut - 1 } else s.cell k := fun k => by
    rw [State.cell_of_stk stk, cells, State.cell_of_stk goods.2, State.cell_of_stk goods.2, stack, filter_top new]
  refine ⟨_, report, (pieceT p).trans (if_pos rfl), fun k away => (pieceT k).trans (if_neg (Ne.symm away)), (cellT c).trans (if_pos rfl),
    fun k away => (cellT k).trans (if_neg (Ne.symm away)), ?_, ?_, ?_, ?_, fun k less inOld away counts => ?_, ?_, ?_⟩
  · rw [stk, generation, goods.2]
  · rw [movesT, moves, if_pos rfl]
  · rw [cranesT, crane]
    rfl
  · rw [cranesT, crane]
    show some (Range.hull (m.pick.getD m.place) m.place) = _
    rw [pick]
    rfl
  · have given := gives k less inOld (Range.point_has away) (by cases x <;> exact counts)
    refine Eq.trans ?_ (given.trans ?_)
    · cases x <;> rfl
    · cases x <;> rfl
  · rw [cranesT, other, vother]
  · obtain ⟨_, heard⟩ := s.reported_frame x n .loaded
    obtain ⟨_, _, cell⟩ := (s.reported x n .loaded).cellPick_frame x c p
    obtain ⟨_, order⟩ := w.ordered_frame x .idle
    rw [order, frame, cell, heard]

/-! ## The placement -/

theorem State.Ended.shape {s t : State} {i : Nat} {m : Move} {e : Ending} (ended : s.Ended i m e t) :
    ∃ a b c d f, t = { s with pct := a, stk := b, rru := c, mvu := d, cnd := f } :=
  ⟨t.pct, t.stk, t.rru, t.mvu, t.cnd, by rw [← ended.frame]⟩

/-- PLACED fits the crane's one move, and its piece goes down (R111, R113, R153, R161). -/
theorem State.sound.places {s : State} {x : Crane} {n i p : Nat} {m : Move} {r : Range} (a : s.sound x n r) (only : s.onlyMove x i m)
    (piece : m.piece = some p) (orphan : m.kind = .setDown ∨ (s.work x).orphan = none) (lifted : m.state = .lifted .toPlace)
    (place : m.place = n) {q : State} (down : q = (s.reported x n .empty).putDown m)
    (frame : ∃ a b, q = { s.reported x n .empty with pct := a, stk := b }) :
    ∃ t : State, s.takeReport x n 0 3 = (t, orderReply true .idle)
      ∧ t.move i = none ∧ (t.work x).queue = [] ∧ (t.work x).orphan = none ∧ (t.crane x).hull = none ∧ (t.crane x).interval = some ⟨n, n⟩
      ∧ ((t.condSet .PL).overflow = false →
          ∃ c ∈ (t.condSet .PL).records, c.kind = .moveDone ∧ c.subject = .serial m.serial)
      ∧ (∀ k, t.piece k = if p = k then { q.piece p with claim := none } else q.piece k)
      ∧ (∀ k, t.cell k = q.cell k) ∧ (∀ k, t.bay k = q.bay k) ∧ t.stk.generation = q.stk.generation
      ∧ t.crane x.other = s.crane x.other
      ∧ { t with pct := s.pct, stk := s.stk, mvu := s.mvu, rru := s.rru, cnd := s.cnd } = s := by
  obtain ⟨vmvu, vmoves, vworks, vcrane, vother, vbreach, -⟩ := s.reported_reads x n .empty
  obtain ⟨R, heard⟩ := s.reported_frame x n .empty
  obtain ⟨P, K, put⟩ := frame
  have slot : i < 18 := Nat.lt_of_lt_of_le only.slot (by decide)
  obtain ⟨g, cleared⟩ : ∃ g, g = q.clearOrphan x m := ⟨_, rfl⟩
  have gwork : g.work x = { s.work x with orphan := none } := by
    rw [cleared]
    unfold State.clearOrphan
    split
    · rw [State.work_setWork, if_pos rfl, put]
      exact congrArg (fun w : CraneWork => { w with orphan := none }) (vworks x)
    · next other =>
      have none := orphan.resolve_left other
      rw [← none, put]
      exact vworks x
  have gframe : ∃ M, g = { q with mvu := M } := by
    rw [cleared]
    unfold State.clearOrphan
    split
    · cases x <;> exact ⟨_, rfl⟩
    · exact ⟨_, rfl⟩
  have gmoves : ∀ j, g.move j = s.move j := fun j => by
    have same : g.move j = q.move j := by
      rw [cleared]
      unfold State.clearOrphan
      split
      · exact State.move_setWork ..
      · rfl
    rw [same, put]
    exact vmoves j
  obtain ⟨M, gshape⟩ := gframe
  have gonly : g.onlyMove x i m := only.of_reads gmoves (by rw [gwork])
  have gcrane : ∀ y, g.crane y = (s.reported x n .empty).crane y := fun y => by rw [gshape, put]; rfl
  have space : (g.crane x).interval = some r := by rw [gcrane, vcrane]; exact a.interval
  have within := Range.point_within a.inside
  obtain ⟨w, shrunk⟩ : ∃ w, w = g.shrinkTo x (.point n) := ⟨_, rfl⟩
  obtain ⟨S, wshape⟩ := g.shrinkTo_space x (.point n)
  rw [← shrunk] at wshape
  have wcrane : ∀ y, w.crane y = if x = y then { g.crane x with interval := some (.point n) } else g.crane y := fun y => by
    rw [shrunk]
    exact State.crane_shrinkTo space within y
  have wonly : w.onlyMove x i m := shrunk ▸ gonly.shrinkTo _
  have wwork : w.work x = { s.work x with orphan := none } := by rw [← gwork, wshape]; rfl
  have ended := State.endMove_ended wonly.held .done false
  obtain ⟨moves, -, queue, -, -, orphans⟩ := ended.only wonly
  obtain ⟨interval, hull, other⟩ := ended.crane_only only.crane
  have event : (s.reported x n .empty).takeEvent x n 3 = (w.endMove i .done false, true) := by
    have way : (s.reported x n .empty).underWay x = some (i, m) := by
      have here := only.of_mvu vmvu
      rw [here.aloneAt.underWay here.held only.crane slot, (Move.underWay_lifted lifted).1]
      rfl
    have fits : m.fitsPlaced n = true := by simp [Move.fitsPlaced, lifted, place]
    unfold State.takeEvent
    rw [way]
    exact (if_pos fits).trans (by rw [shrunk, cleared, down]; rfl)
  have wbreach : w.rru.breach = none := by
    rw [shrunk, (State.moved_shrink g x _).breach, gshape, put]
    exact vbreach.trans a.clear
  have report := a.ends (by decide) only (by rw [lifted]; decide) event wonly wbreach (by rw [wwork]; exact a.hook) (by rw [wwork])
  obtain ⟨movesT, cranesT, workT, -, cndT, -, pctT, stkT⟩ := (w.endMove i .done false).ordered_reads x .idle
  have releases : (w.releaseMove m .done).pct = (w.setClaim p none).pct ∧ (w.releaseMove m .done).stk = w.stk := by
    unfold State.releaseMove
    rw [piece]
    exact ⟨rfl, rfl⟩
  have pct := pctT.trans (ended.pct.trans releases.1)
  have stk : ((w.endMove i .done false).ordered x .idle).stk = q.stk := by
    rw [stkT, ended.stk, releases.2, wshape, gshape]
  have wpieces : ∀ k, w.piece k = q.piece k := fun k => by rw [wshape, gshape]; rfl
  refine ⟨_, report, (movesT i).trans ((moves i).trans (if_pos rfl)), by rw [workT]; exact queue, ?_, ?_, ?_,
    State.endMove_holds wonly.held (.inl ⟨rfl, rfl⟩) cndT, fun k => ?_, State.cell_of_stk stk, State.bay_of_stk stk, by rw [stk], ?_, ?_⟩
  · rw [workT]
    exact orphans.trans (by rw [wwork])
  · rw [cranesT, hull, (Move.underWay_lifted lifted).2.1]
    rfl
  · rw [cranesT, interval, wcrane, if_pos rfl]
    rfl
  · rw [State.piece_of_pct pct, State.setClaim, State.piece_setPiece, wpieces, wpieces]
  · rw [cranesT, other, wcrane, if_neg (State.other_ne x), gcrane, vother]
  · obtain ⟨O, order⟩ := (w.endMove i .done false).ordered_frame x .idle
    obtain ⟨_, _, _, _, _, whole⟩ := ended.shape
    rw [order, whole, wshape, gshape, put, heard]

/-- Settles O43: the pick, and the placement into a cell or a bay. -/
theorem pickedAndPlaced : Obligations.PickedAndPlaced := by
  intro s h x n i p m r report only orphan piece notPark notSetDown
  refine ⟨fun c rest toPick style source pick stack new => ?_, fun lifted place onward => ?_⟩
  · obtain ⟨l, runs⟩ := exec_report report.reporting n 1 2
    obtain ⟨t, takes, at_p, pieces, cell, cells, generation, move, interval, hull, gives, other, frame⟩ :=
      (report.sound l).picks_cell (only.of_mvu rfl) piece notPark toPick style source pick stack new
    rw [takes] at runs
    exact ⟨_, runs, at_p, pieces, cell, cells, generation, move, interval, hull, gives, other, State.relink_frame frame⟩
  · obtain ⟨l, runs⟩ := exec_report report.reporting n 0 3
    obtain ⟨v, heard⟩ : ∃ v, v = State.reported { s with lnk := l } x n .empty := ⟨_, rfl⟩
    obtain ⟨R, shape⟩ := State.reported_frame { s with lnk := l } x n .empty
    have toCell : ∀ d, m.dest = .cell d → v.putDown m = v.cellPlace d p := fun d dest => by
      unfold State.putDown
      rw [piece, dest]
    have toBay : ∀ b, m.dest = .bay b → v.putDown m = v.bayShip b p := fun b dest => by
      unfold State.putDown
      rw [piece, dest]
    have down : ∃ a b, v.putDown m = { v with pct := a, stk := b } := by
      unfold State.putDown
      rw [piece]
      cases m.dest <;> exact ⟨_, _, rfl⟩
    obtain ⟨t, takes, gone, queue, -, hull, interval, posted, pieces, cells, bays, generation, other, frame⟩ :=
      (report.sound l).places (only.of_mvu rfl) piece (.inr orphan) lifted place (q := v.putDown m) (by rw [heard]) (by rw [← heard]; exact down)
    rw [takes] at runs
    refine ⟨_, runs, gone, queue, hull, interval, posted, ?_, fun k away => ?_, fun d dest => ?_, fun b dest => ?_, other,
      State.relink_frame frame⟩
    · refine generation.trans ?_
      cases dest : m.dest with
      | cell d => rw [toCell d dest, (v.cellPlace_reads d p).2.2, heard, shape]; exact nextGeneration_eq _
      | bay b => rw [toBay b dest, (v.bayShip_reads b p).2.2, heard, shape]; exact nextGeneration_eq _
      | segment k => exact absurd dest (onward k)
    · refine (pieces k).trans ((if_neg (Ne.symm away)).trans ?_)
      cases dest : m.dest with
      | cell d => rw [toCell d dest, (v.cellPlace_reads d p).1, if_neg (Ne.symm away), heard, shape]; rfl
      | bay b => rw [toBay b dest, (v.bayShip_reads b p).1, if_neg (Ne.symm away), heard, shape]; rfl
      | segment k => exact absurd dest (onward k)
    · obtain ⟨put, cell, -⟩ := v.cellPlace_reads d p
      refine ⟨(pieces p).trans ((if_pos rfl).trans ?_), (cells d).trans ?_⟩
      · rw [toCell d dest, put, if_pos rfl, heard, shape]
        rfl
      · rw [toCell d dest, cell, if_pos rfl, heard, shape]
        rfl
    · obtain ⟨put, bay, -⟩ := v.bayShip_reads b p
      refine ⟨(pieces p).trans ((if_pos rfl).trans ?_), (bays b).trans ?_⟩
      · rw [toBay b dest, put, if_pos rfl]
      · rw [toBay b dest, bay, if_pos rfl, heard, shape]
        rfl

end Sys2Proof.Machine
end

section
/-! SUPPORT. Proofs/SetDown.lean: the one move of a crane as the head of its queue, and the SET-DOWN of an orphan (R148, R161). -/

namespace Sys2Proof.Machine

theorem Move.standing_iff {m : Move} : m.standing = true ↔ m.state = .queued ∨ m.state = .waiting := by
  unfold Move.standing
  rw [Bool.or_eq_true, decide_eq_true_eq, decide_eq_true_eq]

theorem Move.standing_idle {m : Move} (stands : m.state = .queued ∨ m.state = .waiting) : m.underWay = false ∧ m.isLifted = false
    ∧ m.state ≠ .suspended := by
  unfold Move.underWay Move.isLifted
  rcases stands with e | e <;> (rw [e]; exact ⟨rfl, rfl, nofun⟩)

/-- The only move of a crane, QUEUED or WAITING and not passed over by the lane, is its head (R148). -/
theorem State.onlyMove.findWork {s : State} {x : Crane} {i : Nat} {m : Move} (only : s.onlyMove x i m)
    (stands : m.state = .queued ∨ m.state = .waiting) (passed : ¬s.lanePasses x m) : s.findWork x = (s, some i) := by
  obtain ⟨idle, -, other⟩ := Move.standing_idle stands
  have slot : i < 18 := Nat.lt_of_lt_of_le only.slot (by decide)
  unfold State.findWork State.yieldMove
  rw [only.aloneAt.activeSlot only.held only.crane slot, idle, only.yields, only.queue]
  exact State.examine_head only.held other passed

/-- Steps 2 and 3 of R152 for a crane whose only move waits: the hook is as expected where it is what the orphan says. -/
theorem State.onlyMove.afterEvent {s : State} {x : Crane} {i n : Nat} {m : Move} {l : List Nat} (only : s.onlyMove x i m)
    (stands : m.state = .queued ∨ m.state = .waiting) (hook : (s.work x).mismatch = false) {k : Hook}
    (expected : k = if (s.work x).orphan.isSome then .loaded else .empty) (b taken : Bool) :
    s.afterEvent x n k true b taken l = (s.work4 x b l).giveOrder x taken := by
  obtain ⟨idle, down, -⟩ := Move.standing_idle stands
  have slot : i < 18 := Nat.lt_of_lt_of_le only.slot (by decide)
  refine State.afterEvent_plain ?_ hook (fun j o found => ?_) n true b taken
  · rw [only.aloneAt.expectedHook only.held only.crane slot, down, expected]
    simp
  · rw [only.aloneAt.underWay only.held only.crane slot, idle] at found
    exact nomatch found

/-- A SET-DOWN that is the crane's current work is lifted at its position (R161). -/
theorem State.sound.lifts {s : State} {x : Crane} {n i p : Nat} {m : Move} {r : Range} (a : s.sound x n r) (only : s.onlyMove x i m)
    (orphan : (s.work x).orphan = some p) (kind : m.kind = .setDown) (stands : m.state = .queued ∨ m.state = .waiting) :
    ∃ t : State, s.takeReport x n 1 0 = (t, orderReply true .idle)
      ∧ t.move i = some { m with pick := some n, state := .lifted .waitPlace, reason := none, stop := .none }
      ∧ (t.crane x).hull = some ⟨min n m.place, max n m.place⟩ ∧ (t.crane x).interval = some r
      ∧ (t.work x).orphan = some p ∧ t.crane x.other = s.crane x.other
      ∧ { t with rru := s.rru, mvu := s.mvu } = s := by
  obtain ⟨vmvu, vmoves, vworks, vcrane, vother, vbreach, -⟩ := s.reported_reads x n .loaded
  obtain ⟨R, shape⟩ := s.reported_frame x n .loaded
  obtain ⟨v, heard⟩ : ∃ v, v = s.reported x n .loaded := ⟨_, rfl⟩
  rw [← heard] at vmvu vmoves vworks vcrane vother vbreach shape
  have here := only.of_mvu vmvu
  have slot : i < 18 := Nat.lt_of_lt_of_le only.slot (by decide)
  have passed : ¬v.lanePasses x m := fun passes => by
    rw [passes.2] at kind
    exact nomatch kind
  have taken := a.takes (k := 1) (e := 0) (Nat.le_refl 1) (by decide) (t := v) (by rw [heard]; rfl)
  have rest : v.afterEvent x n .loaded true true true (s.suspendedSlots x) = (v.work4 x true (s.suspendedSlots x)).giveOrder x true :=
    here.afterEvent stands (by rw [vworks]; exact a.hook) (by rw [vworks, orphan]; rfl) true true
  obtain ⟨t, lifted⟩ : ∃ t, t = v.lift x i { m with pick := some n } .waitPlace := ⟨_, rfl⟩
  have work : v.work4 x true (s.suspendedSlots x) = t := by
    have position : (v.crane x).position = some n := by rw [vcrane]
    unfold State.work4
    rw [State.slots_free only.aloneAt only.held (Move.standing_idle stands).2.2, here.findWork stands passed]
    dsimp only
    rw [here.held]
    dsimp only
    rw [kind, Move.standing_iff.mpr stands]
    unfold State.setDownLift
    rw [position, lifted]
    rfl
  have held : t.move i = some { m with pick := some n, state := .lifted .waitPlace, reason := none, stop := .none } := by
    rw [lifted, State.lift, State.move_setCrane, State.move_setMove_same]
  have alone : t.aloneAt x i := here.aloneAt.congr fun j _ other => by
    rw [lifted, State.lift, State.move_setCrane, State.move_setMove, if_neg (Ne.symm other)]
  have works : t.work x = s.work x := by rw [lifted, State.lift, State.work_setCrane, State.work_setMove, vworks]
  have breach : t.rru.breach = none := by
    rw [lifted]
    cases x <;> exact vbreach.trans a.clear
  have cranes : ∀ y, t.crane y = if x = y then { v.crane x with hull := some ⟨min n m.place, max n m.place⟩ } else v.crane y := fun y => by
    rw [lifted, State.lift, State.crane_setCrane, State.crane_setMove, State.crane_setMove]
    rfl
  have presence : (t.crane x).presence ≠ .out := by
    rw [cranes, if_pos rfl, vcrane]
    show (s.crane x).presence ≠ _
    rw [a.active]
    decide
  have way : t.underWay x = some (i, { m with pick := some n, state := .lifted .waitPlace, reason := none, stop := .none }) := by
    rw [alone.underWay held only.crane slot]
    rfl
  have order : t.giveOrder x true = (t.ordered x .idle, orderReply true .idle) :=
    State.giveOrder_eq (State.composeOrder_granted breach (by rw [works]; exact a.hook) presence way nofun) true
  obtain ⟨movesT, cranesT, workT, -⟩ := t.ordered_reads x .idle
  refine ⟨_, taken.trans (rest.trans (by rw [work, order])), (movesT i).trans held, ?_, ?_, ?_, ?_, ?_⟩
  · rw [cranesT, cranes, if_pos rfl]
  · rw [cranesT, cranes, if_pos rfl, vcrane]
    exact a.interval
  · rw [workT]
    show (t.work x).orphan = _
    rw [works, orphan]
  · rw [cranesT, cranes, if_neg (State.other_ne x), vother]
  · have whole : ∃ M Q, t = { v with mvu := M, rru := Q } := by
      rw [lifted]
      cases x <;> exact ⟨_, _, rfl⟩
    obtain ⟨_, _, whole⟩ := whole
    obtain ⟨_, orders⟩ := t.ordered_frame x .idle
    rw [orders, whole, shape]

/-- Settles O49: the SET-DOWN taken as current work, and its placement. -/
theorem setDownTaken : Obligations.SetDownTaken := by
  intro s h x n i p m r report only orphan kind piece
  constructor
  · intro stands
    obtain ⟨l, runs⟩ := exec_report report.reporting n 1 0
    obtain ⟨t, takes, move, hull, interval, still, other, frame⟩ := (report.sound l).lifts (only.of_mvu rfl) orphan kind stands
    rw [takes] at runs
    exact ⟨_, runs, move, hull, interval, still, other, State.relink_frame frame⟩
  · intro c lifted place dest
    obtain ⟨l, runs⟩ := exec_report report.reporting n 0 3
    obtain ⟨v, heard⟩ : ∃ v, v = State.reported { s with lnk := l } x n .empty := ⟨_, rfl⟩
    obtain ⟨R, shape⟩ := State.reported_frame { s with lnk := l } x n .empty
    have toCell : v.putDown m = v.cellPlace c p := by
      unfold State.putDown
      rw [piece, dest]
    obtain ⟨put, cell, -⟩ := v.cellPlace_reads c p
    obtain ⟨t, takes, gone, queue, noOrphan, hull, interval, posted, pieces, cells, -, -, -, -⟩ :=
      (report.sound l).places (only.of_mvu rfl) piece (.inl kind) lifted place (q := v.cellPlace c p) (by rw [← heard, toCell])
        (by rw [← heard]; exact ⟨_, _, rfl⟩)
    rw [takes] at runs
    refine ⟨_, runs, gone, noOrphan, queue, hull, interval, (pieces p).trans ((if_pos rfl).trans ?_), (cells c).trans ?_, posted⟩
    · rw [put, if_pos rfl, heard, shape]
      rfl
    · rw [cell, if_pos rfl, heard, shape]
      rfl

end Sys2Proof.Machine
end

section
/-! SUPPORT. Proofs/Arrived.lean: the other ends of a leg (R31, R128, R153, R157, R159). -/

namespace Sys2Proof.Machine

/-! ## ARRIVED of the crane's one move, and PICK-FAILED -/

/-- ARRIVED of a PARK (R153). -/
theorem State.sound.arrives {s : State} {x : Crane} {n i : Nat} {m : Move} {r : Range} (a : s.sound x n r) (only : s.onlyMove x i m)
    (orphan : (s.work x).orphan = none) (toPick : m.state = .toPick) (kind : m.kind = .park) (piece : m.piece = none) (place : m.place = n) :
    ∃ t : State, s.takeReport x n 0 1 = (t, orderReply true .idle)
      ∧ t.move i = none ∧ (∀ j, j ≠ i → t.move j = s.move j) ∧ (t.work x).queue = []
      ∧ (t.crane x).interval = some ⟨n, n⟩ ∧ t.crane x.other = s.crane x.other
      ∧ ((t.condSet .PL).overflow = false → ∃ q ∈ (t.condSet .PL).records, q.kind = .moveDone ∧ q.subject = .serial m.serial)
      ∧ { t with mvu := s.mvu, rru := s.rru, cnd := s.cnd } = s := by
  obtain ⟨vmvu, vmoves, vworks, vcrane, vother, vbreach, -⟩ := s.reported_reads x n .empty
  obtain ⟨R, heard⟩ := s.reported_frame x n .empty
  obtain ⟨v, at_v⟩ : ∃ v, v = s.reported x n .empty := ⟨_, rfl⟩
  rw [← at_v] at vmvu vmoves vworks vcrane vother vbreach heard
  have slot : i < 18 := Nat.lt_of_lt_of_le only.slot (by decide)
  have here := only.of_mvu vmvu
  have space : (v.crane x).interval = some r := by rw [vcrane]; exact a.interval
  have within := Range.point_within a.inside
  obtain ⟨w, shrunk⟩ : ∃ w, w = v.shrinkTo x (.point n) := ⟨_, rfl⟩
  obtain ⟨S, wshape⟩ := v.shrinkTo_space x (.point n)
  rw [← shrunk] at wshape
  have wcrane : ∀ y, w.crane y = if x = y then { v.crane x with interval := some (.point n) } else v.crane y := fun y => by
    rw [shrunk]
    exact State.crane_shrinkTo space within y
  have wonly : w.onlyMove x i m := shrunk ▸ here.shrinkTo _
  have wwork : w.work x = s.work x := by rw [← vworks, wshape]; rfl
  have ended := State.endMove_ended wonly.held .done false
  obtain ⟨moves, -, queue, -⟩ := ended.only wonly
  obtain ⟨interval, -, other⟩ := ended.crane_only only.crane
  have event : v.takeEvent x n 1 = (w.endMove i .done false, true) := by
    have way : v.underWay x = some (i, m) := by
      rw [here.aloneAt.underWay here.held only.crane slot, (Move.underWay_toPick toPick).1]
      rfl
    have fits : m.fitsArrived n = true := by simp [Move.fitsArrived, toPick, kind, place]
    unfold State.takeEvent
    rw [way]
    exact (if_pos fits).trans (by rw [shrunk]; rfl)
  have wbreach : w.rru.breach = none := by
    rw [shrunk, (State.moved_shrink v x _).breach]
    exact vbreach.trans a.clear
  have report := a.ends (e := 1) (by decide) only (by rw [toPick]; decide) (by rw [← at_v]; exact event) wonly wbreach
    (by rw [wwork]; exact a.hook) (by rw [wwork]; exact orphan)
  obtain ⟨movesT, cranesT, workT, -, cndT, -⟩ := (w.endMove i .done false).ordered_reads x .idle
  refine ⟨_, report, (movesT i).trans ((moves i).trans (if_pos rfl)), fun j away => ?_, by rw [workT]; exact queue, ?_, ?_,
    State.endMove_holds wonly.held (.inl ⟨rfl, rfl⟩) cndT, ?_⟩
  · rw [movesT, moves, if_neg (Ne.symm away), shrunk, State.move_shrinkTo, vmoves]
  · rw [cranesT, interval, wcrane, if_pos rfl]
    rfl
  · rw [cranesT, other, wcrane, if_neg (State.other_ne x), vother]
  · obtain ⟨O, order⟩ := (w.endMove i .done false).ordered_frame x .idle
    obtain ⟨pct, stk⟩ := ended.bare piece
    obtain ⟨_, _, _, _, _, whole⟩ := ended.shape
    rw [whole] at pct stk
    obtain rfl := pct
    obtain rfl := stk
    rw [order, whole, wshape, heard]

theorem State.Released.from_goods {s v t : State} {m : Move} (h : v.Released m t) (pct : v.pct = s.pct) (stk : v.stk = s.stk) :
    s.Released m t := by
  have piece := State.piece_of_pct pct
  have cell := State.cell_of_stk stk
  have bay := State.bay_of_stk stk
  exact {
    claim := fun n e => piece n ▸ h.claim n e
    pieces := fun n e => (h.pieces n e).trans (piece n)
    arrivals := fun n d e dest => cell d ▸ h.arrivals n d e dest
    departures := fun c e source => cell c ▸ h.departures c e source
    cells := fun c e => (h.cells c e).trans (cell c)
    load := fun n b e dest => piece n ▸ bay b ▸ h.load n b e dest
    bays := fun b e => (h.bays b e).trans (bay b)
    generation := h.generation.trans (congrArg Stk.generation stk) }

/-- PICK-FAILED (R103, R108, R153, R159). -/
theorem State.sound.fails {s : State} {x : Crane} {n i : Nat} {m : Move} {r : Range} (a : s.sound x n r) (only : s.onlyMove x i m)
    (orphan : (s.work x).orphan = none) (toPick : m.state = .toPick) (kind : m.kind ≠ .park) (pick : m.pick = some n) :
    ∃ t : State, s.takeReport x n 0 4 = (t, orderReply true .idle)
      ∧ t.move i = none ∧ (t.work x).queue = [] ∧ (t.crane x).interval = some r ∧ s.Released m t ∧ t.beds = s.beds
      ∧ ((t.condSet .PL).overflow = false → ∃ q ∈ (t.condSet .PL).records, q.kind = .moveFailed ∧ q.subject = .serial m.serial) := by
  obtain ⟨vmvu, vmoves, vworks, vcrane, -, vbreach, -⟩ := s.reported_reads x n .empty
  obtain ⟨R, heard⟩ := s.reported_frame x n .empty
  obtain ⟨v, at_v⟩ : ∃ v, v = s.reported x n .empty := ⟨_, rfl⟩
  rw [← at_v] at vmvu vmoves vworks vcrane vbreach heard
  have slot : i < 18 := Nat.lt_of_lt_of_le only.slot (by decide)
  have here := only.of_mvu vmvu
  have ended := State.endMove_ended here.held .failed false
  obtain ⟨moves, -, queue, -⟩ := ended.only here
  obtain ⟨interval, -⟩ := ended.crane_only only.crane
  have event : v.takeEvent x n 4 = (v.endMove i .failed false, true) := by
    have way : v.underWay x = some (i, m) := by
      rw [here.aloneAt.underWay here.held only.crane slot, (Move.underWay_toPick toPick).1]
      rfl
    have fits : m.fitsPick n = true := by simp [Move.fitsPick, toPick, kind, pick]
    unfold State.takeEvent
    rw [way]
    exact if_pos fits
  have report := a.ends (e := 4) (by decide) only (by rw [toPick]; decide) (by rw [← at_v]; exact event) here (vbreach.trans a.clear)
    (by rw [vworks]; exact a.hook) (by rw [vworks]; exact orphan)
  obtain ⟨movesT, cranesT, workT, -, cndT, -, pctT, stkT⟩ := (v.endMove i .failed false).ordered_reads x .idle
  have released := ((v.releaseMove_released m (e := .failed) nofun).congr (pctT.trans ended.pct) (stkT.trans ended.stk)).from_goods
    (s := s) (by rw [heard]) (by rw [heard])
  refine ⟨_, report, (movesT i).trans ((moves i).trans (if_pos rfl)), by rw [workT]; exact queue, ?_, released, ?_,
    State.endMove_holds here.held (.inr (.inl ⟨rfl, rfl⟩)) cndT⟩
  · rw [cranesT, interval, vcrane]
    exact a.interval
  · obtain ⟨O, order⟩ := (v.endMove i .failed false).ordered_frame x .idle
    obtain ⟨_, _, _, _, _, whole⟩ := ended.shape
    rw [order, whole, heard]

/-! ## The strip pick, and the ATOMIC pick -/

/-- A strip pick takes the piece from its bed (R31, R153). -/
theorem State.sound.strips {s : State} {x : Crane} {n i p b : Nat} {m : Move} {r : Range} (a : s.sound x n r) (only : s.onlyMove x i m)
    (toPick : m.state = .toPick) (kind : m.kind ≠ .park) (piece : m.piece = some p) (pick : m.pick = some n)
    (source : m.source = some (.bed b)) (style : m.style ≠ .atomic) :
    ∃ t : State, s.takeReport x n 1 2 = (t, orderReply true .idle)
      ∧ t.piece p = { s.piece p with state := .hook, location := some (.crane x) } ∧ (∀ k, k ≠ p → t.piece k = s.piece k)
      ∧ t.bed b = { s.bed b with
          pieces := (s.bed b).pieces.filter (fun k => k ≠ p)
          state := if (s.bed b).state = .released then .stripping else (s.bed b).state }
      ∧ (∀ b', b' ≠ b → t.bed b' = s.bed b') ∧ t.stk = s.stk
      ∧ t.move i = some { m with state := .lifted .waitPlace, reason := none, stop := .none }
      ∧ (t.crane x).interval = some ⟨n, n⟩ ∧ (t.crane x).hull = some ⟨min n m.place, max n m.place⟩ := by
  obtain ⟨w, o, report, picked, waits, -⟩ := a.picks only toPick kind pick (if_neg style) (Range.point_within a.inside)
  rw [waits rfl] at report
  obtain ⟨R, heard⟩ := s.reported_frame x n .loaded
  obtain ⟨-, -, -, vcrane, -⟩ := s.reported_reads x n .loaded
  have space : ((s.reported x n .loaded).crane x).interval = some r := by rw [vcrane]; exact a.interval
  obtain ⟨moves, -, crane, -, -, -, M, Q, frame⟩ := State.lift_reads space (Range.point_within a.inside) i m .waitPlace picked
  have hooked : (s.reported x n .loaded).hookPiece x m = ((s.reported x n .loaded).stripFrom b p).toHook x p := by
    unfold State.hookPiece
    rw [piece, source]
  obtain ⟨O, order⟩ := w.ordered_frame x .idle
  have shape : w.ordered x .idle = { ((s.stripFrom b p).toHook x p) with mvu := O, rru := Q } := by
    rw [order, frame, hooked, heard]
    rfl
  obtain ⟨movesT, cranesT, -⟩ := w.ordered_reads x .idle
  have pieces : ∀ k, (w.ordered x .idle).piece k = if p = k then { s.piece p with state := .hook, location := some (.crane x) } else s.piece k :=
    fun k => by
      rw [shape]
      exact State.piece_setPiece s p { s.piece p with state := .hook, location := some (.crane x) } k
  have beds : ∀ k, (w.ordered x .idle).bed k = if b = k then { s.bed b with
          pieces := (s.bed b).pieces.filter (fun j => j ≠ p)
          state := if (s.bed b).state = .released then .stripping else (s.bed b).state } else s.bed k := fun k => by
    rw [shape]
    exact State.bed_setBed s b _ k
  refine ⟨_, report, (pieces p).trans (if_pos rfl), fun k away => (pieces k).trans (if_neg (Ne.symm away)), (beds b).trans (if_pos rfl),
    fun k away => (beds k).trans (if_neg (Ne.symm away)), ?_, (movesT i).trans ((moves i).trans (if_pos rfl)), ?_, ?_⟩
  · rw [shape]
    rfl
  · rw [cranesT, crane]
    rfl
  · rw [cranesT, crane]
    show some (Range.hull (m.pick.getD m.place) m.place) = _
    rw [pick]
    rfl

/-- The piece is on the hook after every pick (R110, R153). -/
theorem State.hookPiece_hooks (s : State) (x : Crane) {m : Move} {p : Nat} (piece : m.piece = some p) :
    ((s.hookPiece x m).piece p).state = .hook ∧ ((s.hookPiece x m).piece p).location = some (.crane x) := by
  have hooked : (s.hookPiece x m).piece p = { s.piece p with state := .hook, location := some (.crane x) } := by
    unfold State.hookPiece
    rw [piece]
    have set := (State.piece_setPiece s p { s.piece p with state := .hook, location := some (.crane x) } p).trans (if_pos rfl)
    cases source : m.source with
    | none => exact set
    | some c => cases c <;> exact set
  rw [hooked]
  exact ⟨rfl, rfl⟩

/-- An ATOMIC move goes from its pick straight to its place leg (R128, R153). -/
theorem State.sound.picks_atomic {s : State} {x : Crane} {n i p : Nat} {m : Move} {r : Range} (a : s.sound x n r) (only : s.onlyMove x i m)
    (toPick : m.state = .toPick) (kind : m.kind ≠ .park) (piece : m.piece = some p) (pick : m.pick = some n)
    (style : m.style = .atomic) (within : m.hull.within r = true) :
    ∃ (t : State) (d : Detail), s.takeReport x n 1 2 = (t, orderReply true (.go ⟨m.serial, .place, m.place, d⟩))
      ∧ t.move i = some { m with state := .lifted .toPlace, reason := none, stop := .none }
      ∧ (t.crane x).interval = some ⟨min n m.place, max n m.place⟩
      ∧ (t.crane x).hull = some ⟨min n m.place, max n m.place⟩
      ∧ (t.piece p).state = .hook ∧ (t.piece p).location = some (.crane x) := by
  obtain ⟨w, o, report, picked, -, goes⟩ := a.picks only toPick kind pick (if_pos style) within
  rw [goes rfl] at report
  obtain ⟨-, -, -, vcrane, -⟩ := s.reported_reads x n .loaded
  have space : ((s.reported x n .loaded).crane x).interval = some r := by rw [vcrane]; exact a.interval
  obtain ⟨moves, -, crane, -, -, -, M, Q, frame⟩ := State.lift_reads space within i m .toPlace picked
  obtain ⟨movesT, cranesT, -, -, -, -, pctT, -⟩ := w.ordered_reads x
    (w.goOrder { m with state := .lifted .toPlace, reason := none, stop := .none } .place)
  have hull : m.hull = ⟨min n m.place, max n m.place⟩ := by
    unfold Move.hull
    rw [pick]
    rfl
  have on := (s.reported x n .loaded).hookPiece_hooks x piece
  have same := State.piece_of_pct (pctT.trans (congrArg State.pct frame)) p
  refine ⟨_, _, report, (movesT i).trans ((moves i).trans (if_pos rfl)), ?_, ?_, ?_, ?_⟩
  · rw [cranesT, crane, hull]
  · rw [cranesT, crane, hull]
  · exact (congrArg Piece.state same).trans on.1
  · exact (congrArg Piece.location same).trans on.2

/-! ## ARRIVED of a yield (R153, R157) -/

/-- No move of the crane is under way. -/
def State.noWay (s : State) (x : Crane) : Prop := ∀ j o, j < 18 → s.move j = some o → o.crane = x → o.underWay = false

theorem State.noWay.activeSlot {s : State} {x : Crane} (none : s.noWay x) : s.activeSlot x = .none :=
  State.findSlot_none fun j o less held => by
    by_cases crane : o.crane = x
    · simp [none j o less held crane]
    · simp [crane]

theorem State.noWay.underWay {s : State} {x : Crane} (none : s.noWay x) : s.underWay x = .none := by
  unfold State.underWay
  rw [none.activeSlot]

theorem State.noWay.expectedHook {s : State} {x : Crane} (none : s.noWay x) (orphan : (s.work x).orphan = .none) :
    s.expectedHook x = .empty := by
  have down : s.findSlot Config.tableSlots (fun m => m.crane = x && m.isLifted) = .none :=
    State.findSlot_none fun j o less held => by
      by_cases crane : o.crane = x
      · have idle := none j o less held crane
        unfold Move.underWay at idle
        unfold Move.isLifted
        cases state : o.state <;> simp_all
      · simp [crane]
  unfold State.expectedHook
  rw [down, orphan]
  rfl

/-- Moves are made to wait, or to queue: an empty record stays empty, and nothing gets under way. -/
structure State.waits (s t : State) (x : Crane) : Prop where
  empty : ∀ k, s.move k = none → t.move k = none
  noWay : s.noWay x → t.noWay x

theorem State.waits.refl (s : State) (x : Crane) : s.waits s x := ⟨fun _ => id, id⟩

theorem State.waits.trans {s t u : State} {x : Crane} (h : s.waits t x) (g : t.waits u x) : s.waits u x :=
  ⟨fun k e => g.empty k (h.empty k e), fun none => g.noWay (h.noWay none)⟩

theorem State.waits_setAside {s : State} {i : Nat} {m : Move} (held : s.move i = some m) {st : MoveState}
    (waits : st = .queued ∨ st = .waiting) (why : Option WaitReason) (x : Crane) : s.waits (s.setAside i m st why) x := by
  refine ⟨fun k e => ?_, fun none j o less at_j crane => ?_⟩
  · rw [State.move_setAside, if_neg fun same => ?_]
    · exact e
    · rw [← same, held] at e
      exact nomatch e
  · rw [State.move_setAside] at at_j
    split at at_j
    · obtain rfl := Option.some.inj at_j
      exact (Move.standing_idle waits).1
    · exact none j o less at_j crane

theorem State.waits_examine (y : Crane) (q : List Entry) (b : Bool) (f : Option Nat) (s : State) (x : Crane) :
    s.waits (State.examine y q b f s).1 x := by
  induction q generalizing b f s with
  | nil => exact .refl s x
  | cons e q ih =>
    cases e with
    | barrier => exact ih _ _ s
    | move i =>
      unfold State.examine
      split
      · exact ih _ _ s
      · next m held =>
        split
        · split
          · exact (State.waits_setAside held (.inl rfl) _ x).trans (ih _ _ _)
          · exact ih _ _ s
        · split
          · exact ih _ _ s
          · split
            · exact (State.waits_setAside held (.inr rfl) _ x).trans (ih _ _ _)
            · split
              · exact (State.waits_setAside held (.inr rfl) _ x).trans (ih _ _ _)
              · exact ih _ _ s

theorem State.waits_findWork (s : State) (y x : Crane) : s.waits (s.findWork y).1 x := by
  unfold State.findWork
  split
  · exact .refl s x
  · split
    · exact .refl s x
    · exact State.waits_examine _ _ _ _ s x

theorem Move.resumed_idle {m : Move} {y : Crane} (idle : m.underWay = false) : (m.resumed y).underWay = false := by
  unfold Move.resumed
  split
  · rfl
  · exact idle

theorem Move.resumed_crane (m : Move) (y : Crane) : (m.resumed y).crane = m.crane := by
  unfold Move.resumed
  split <;> rfl

theorem State.waits_resumeIfFree (s : State) (y : Crane) (l : List Nat) (x : Crane) : s.waits (s.resumeIfFree y l) x := by
  unfold State.resumeIfFree
  split
  · exact .refl s x
  · refine ⟨fun k e => ?_, fun none j o less held crane => ?_⟩
    · rw [State.move_resumeSlots, e]
      split <;> rfl
    · rw [State.move_resumeSlots] at held
      split at held
      · obtain ⟨q, before, rfl⟩ := Option.map_eq_some_iff.mp held
        rw [Move.resumed_crane] at crane
        exact Move.resumed_idle (none j q less before crane)
      · exact none j o less held crane

/-- A move under way with nothing granted and no stop to be ordered: the order is IDLE (R151). -/
theorem State.composeOrder_waits {s : State} {x : Crane} (breach : s.rru.breach = none) (hook : (s.work x).mismatch = false)
    (still : ∀ i m, s.underWay x = some (i, m) → m.granted = none ∧ ∀ p, m.stop ≠ .owed p) : s.composeOrder x = (s, .idle) := by
  by_cases out : (s.crane x).presence = .out
  · exact State.composeOrder_out breach hook out
  · cases under : s.underWay x with
    | none => exact State.composeOrder_idle breach hook under
    | some w =>
      obtain ⟨granted, due⟩ := still w.1 w.2 under
      rw [State.composeOrder_granted breach hook out under due, granted]

/-- Step 4 of R152, with no grant asked, for a crane with no move under way: the order is IDLE (R151, R161). -/
theorem State.composeOrder_noWay {s : State} {x : Crane} {l : List Nat} (none : s.noWay x) (breach : s.rru.breach = .none)
    (hook : (s.work x).mismatch = false) :
    (s.work4 x false l).composeOrder x = (s.work4 x false l, .idle) ∧ ∀ k, s.move k = .none → (s.work4 x false l).move k = .none := by
  have resumes := s.waits_resumeIfFree x l x
  have finds := (s.resumeIfFree x l).waits_findWork x x
  have waits := resumes.trans finds
  have mismatch := State.mismatch_found s x l x
  have latch : (s.work4 x false l).rru.breach = .none := (s.moved_work4 x false l).breach.trans breach
  rcases State.work4_unasked (s := s) (x := x) (l := l) (b := false) (.inl rfl) with e | ⟨i, m, p, held, e⟩
  · rw [e] at latch ⊢
    exact ⟨State.composeOrder_idle latch (mismatch.trans hook) (waits.noWay none).underWay, waits.empty⟩
  · rw [e] at latch ⊢
    refine ⟨State.composeOrder_waits latch ?_ fun j o under => ?_, fun k empty => ?_⟩
    · rw [State.lift, State.work_setCrane, State.work_setMove, mismatch, hook]
    · obtain ⟨less, at_j, crane, up⟩ := State.underWay_mem under
      rw [State.lift, State.move_setCrane, State.move_setMove] at at_j
      split at at_j
      · obtain rfl := Option.some.inj at_j
        exact ⟨rfl, nofun⟩
      · rw [waits.noWay none j o less at_j crane] at up
        exact nomatch up
    · rw [State.lift, State.move_setCrane, State.move_setMove, if_neg fun same => ?_]
      · exact waits.empty k empty
      · subst same
        rw [waits.empty _ empty] at held
        exact nomatch held

theorem State.resumeIfFree_free {s : State} {x : Crane} (free : s.move (yieldSlot x) = none) (l : List Nat) :
    (∀ j, (s.resumeIfFree x l).move j = if j ∈ l then (s.move j).map (Move.resumed x) else s.move j)
      ∧ ∀ y, (s.resumeIfFree x l).work y = s.work y := by
  have resumes : s.resumeIfFree x l = l.foldl (State.resumeSlot x) s := by
    unfold State.resumeIfFree State.yieldMove
    rw [free]
    rfl
  rw [resumes]
  refine ⟨State.move_resumeSlots x l s, fun y => ?_⟩
  obtain ⟨_, records⟩ := State.resumeSlots_records x l s
  rw [records]
  cases y <;> rfl

theorem Move.resumed_kept {m : Move} (other : m.state ≠ .suspended) (y : Crane) : m.resumed y = m := by
  unfold Move.resumed
  rw [if_neg fun both => other both.2]

/-- A resumed move alone in its queue is the crane's head, and no grant is asked for it (R148, R157). -/
theorem State.noWay.keeps_head {s : State} {x : Crane} {j : Nat} {o : Move} (none : s.noWay x) (free : s.move (yieldSlot x) = .none)
    (queue : (s.work x).queue = [.move j]) (lane : (s.work x).lane = .none) (held : s.move j = some o) (waiting : o.state = .waiting)
    (kind : o.kind ≠ .setDown) (l : List Nat) : (s.work4 x false l).move j = some o := by
  obtain ⟨moves, works⟩ := State.resumeIfFree_free free l
  obtain ⟨t, resumed⟩ : ∃ t, t = s.resumeIfFree x l := ⟨_, rfl⟩
  rw [← resumed] at moves works
  have at_j : t.move j = some o := by
    rw [moves, held, Option.map_some, Move.resumed_kept (by rw [waiting]; decide), ite_self]
  have noWay : t.noWay x := resumed ▸ (s.waits_resumeIfFree x l x).noWay none
  have finds : t.findWork x = (t, some j) := by
    have yields : t.move (yieldSlot x) = .none := by rw [moves, free, Option.map_none, ite_self]
    unfold State.findWork State.yieldMove
    rw [noWay.activeSlot, yields, works, queue]
    exact State.examine_head at_j (by rw [waiting]; decide) fun passes => passes.1 (by rw [works, lane])
  have work : s.work4 x false l = t := by
    unfold State.work4
    rw [← resumed, finds]
    dsimp only
    rw [at_j]
    dsimp only
    rw [decide_eq_false kind, Bool.false_and, if_neg (by decide)]
    cases o.legToAsk <;> rfl
  rw [work, at_j]

/-- No other move of the crane is under way. -/
def State.othersIdle (s : State) (x : Crane) (i : Nat) : Prop :=
  ∀ j o, j < 18 → j ≠ i → s.move j = some o → o.crane = x → o.underWay = false

/-- The lowest move of the crane under way is the one it has under way (R148). -/
theorem State.underWay_lowest {s : State} {x : Crane} {i : Nat} {m : Move} (slot : i < 18) (held : s.move i = some m) (crane : m.crane = x)
    (up : m.underWay = true) (below : ∀ j o, j < i → s.move j = some o → o.crane = x → o.underWay = false) :
    s.underWay x = some (i, m) := by
  have first : s.activeSlot x = some i :=
    State.findSlot_first slot held (by simp [crane, up]) fun j o less at_j => by
      by_cases mine : o.crane = x
      · simp [below j o less at_j mine]
      · simp [mine]
  unfold State.underWay
  rw [first]
  simp only [held, Option.map_some]

theorem State.othersIdle.underWay {s : State} {x : Crane} {i : Nat} {m : Move} (others : s.othersIdle x i) (slot : i < 18)
    (held : s.move i = some m) (crane : m.crane = x) (up : m.underWay = true) : s.underWay x = some (i, m) :=
  State.underWay_lowest slot held crane up fun j o below => others j o (Nat.lt_trans below slot) (Nat.ne_of_lt below)

theorem State.othersIdle.congr {s t : State} {x : Crane} {i : Nat} (others : s.othersIdle x i) (moves : ∀ j, t.move j = s.move j) :
    t.othersIdle x i := fun j o less away held => others j o less away ((moves j).symm.trans held)

/-- Once the crane's move under way has ended, none is (R159). -/
theorem State.Ended.noWay {s t : State} {x : Crane} {i : Nat} {m : Move} {e : Ending} (ended : s.Ended i m e t)
    (others : s.othersIdle x i) : t.noWay x := fun j o less held mine => by
  rw [ended.moves] at held
  split at held
  · exact nomatch held
  · next away =>
    split at held
    · obtain ⟨q, before, rfl⟩ := Option.map_eq_some_iff.mp held
      rw [Move.resumed_crane] at mine
      exact Move.resumed_idle (others j q less (Ne.symm away) before mine)
    · exact others j o less (Ne.symm away) held mine

/-- ARRIVED of a yield (R153, R157). -/
theorem State.sound.arrives_yield {s : State} {x : Crane} {n : Nat} {m : Move} {r : Range} (a : s.sound x n r)
    (orphan : (s.work x).orphan = none) (held : s.move (yieldSlot x) = some m) (crane : m.crane = x) (toPick : m.state = .toPick)
    (kind : m.kind = .park) (place : m.place = n)
    (others : s.othersIdle x (yieldSlot x)) :
    ∃ t : State, s.takeReport x n 0 1 = (t, orderReply true .idle)
      ∧ t.move (yieldSlot x) = none ∧ (t.crane x).interval = some ⟨n, n⟩
      ∧ (∀ j o, (s.work x).queue = [.move j] → (s.work x).lane = .none → j < 16 → s.move j = some o → o.crane = x →
          o.state = .suspended → o.kind ≠ .setDown → t.move j = some { o with state := .waiting, reason := none })
      ∧ ((t.condSet .PL).overflow = false → ∃ q ∈ (t.condSet .PL).records, q.kind = .moveDone ∧ q.subject = .serial m.serial) := by
  obtain ⟨vmvu, vmoves, vworks, vcrane, vother, vbreach, -⟩ := s.reported_reads x n .empty
  obtain ⟨v, at_v⟩ : ∃ v, v = s.reported x n .empty := ⟨_, rfl⟩
  rw [← at_v] at vmvu vmoves vworks vcrane vother vbreach
  have slot : yieldSlot x < 18 := by cases x <;> decide
  obtain ⟨under, down, -, -⟩ := Move.underWay_toPick toPick
  have space : (v.crane x).interval = some r := by rw [vcrane]; exact a.interval
  have within := Range.point_within a.inside
  obtain ⟨w, shrunk⟩ : ∃ w, w = v.shrinkTo x (.point n) := ⟨_, rfl⟩
  have wmoves : ∀ j, w.move j = s.move j := fun j => by rw [shrunk, State.move_shrinkTo, vmoves]
  have wworks : w.work x = s.work x := by
    obtain ⟨S, wshape⟩ := v.shrinkTo_space x (.point n)
    rw [← vworks, shrunk, wshape]
    rfl
  have interval : (w.crane x).interval = some ⟨n, n⟩ := by
    rw [shrunk, State.crane_shrinkTo space within, if_pos rfl]
    rfl
  have ended := State.endMove_ended ((wmoves _).trans held) .done false
  obtain ⟨t, done⟩ : ∃ t, t = w.endMove (yieldSlot x) .done false := ⟨_, rfl⟩
  rw [← done] at ended
  have tmoves := ended.moves
  have twork := ended.work
  have tcrane := ended.crane
  rw [crane] at tmoves twork tcrane
  have noWay : t.noWay x := ended.noWay (others.congr wmoves)
  have event : v.takeEvent x n 1 = (t, true) := by
    have way : v.underWay x = some (yieldSlot x, m) := (others.congr vmoves).underWay slot ((vmoves _).trans held) crane under
    have fits : m.fitsArrived n = true := by simp [Move.fitsArrived, toPick, kind, place]
    unfold State.takeEvent
    rw [way]
    exact (if_pos fits).trans (by rw [done, shrunk]; rfl)
  have free : t.move (yieldSlot x) = none := (tmoves _).trans (if_pos rfl)
  have hook : (t.work x).mismatch = false := by
    rw [twork]
    show (w.work x).mismatch = _
    rw [wworks]
    exact a.hook
  have expected : .empty = t.expectedHook x := by
    refine (noWay.expectedHook ?_).symm
    rw [twork]
    show (w.work x).orphan = _
    rw [wworks]
    exact orphan
  have breach : t.rru.breach = none := by
    rw [ended.breach, shrunk, (State.moved_shrink v x _).breach]
    exact vbreach.trans a.clear
  obtain ⟨order, empties⟩ := State.composeOrder_noWay (l := s.suspendedSlots x) noWay breach hook
  have taken := a.takes (k := 0) (e := 1) (t := t) (Nat.zero_le 1) (by decide) (by rw [at_v] at event; exact event)
  have report := taken.trans
    ((State.afterEvent_plain expected hook (by simp [noWay.underWay]) n true false true).trans (State.giveOrder_eq order true))
  obtain ⟨movesT, cranesT, workT, -, cndT, -⟩ := (t.work4 x false (s.suspendedSlots x)).ordered_reads x .idle
  refine ⟨_, report, (movesT _).trans (empties _ free), ?_, fun j o queue lane less at_j mine suspended other => ?_, fun kept => ?_⟩
  · rw [cranesT, (State.calm_work4 t x _).interval, tcrane]
    exact interval
  · have away : yieldSlot x ≠ j := Nat.ne_of_gt (Nat.lt_of_lt_of_le less (sixteen_le_yieldSlot x))
    refine (movesT j).trans (noWay.keeps_head (o := { o with state := .waiting, reason := none }) free ?_ ?_ ?_ rfl other _)
    · rw [twork]
      show leaveQueue (yieldSlot x) (w.work x).queue = _
      rw [wworks, queue]
      simp [leaveQueue, leadOff, Ne.symm away]
    · rw [twork]
      show (w.setMove (yieldSlot x) none).settledLane x = _
      unfold State.settledLane
      rw [State.work_setMove, wworks, lane]
      rfl
    · rw [tmoves, if_neg away, if_pos ⟨rfl, less⟩, wmoves, at_j, Option.map_some]
      unfold Move.resumed
      rw [if_pos ⟨mine, suspended⟩]
  · obtain ⟨u, posted⟩ := State.endMove_posts (fromPart := false) ((wmoves _).trans held) (.inl ⟨rfl, rfl⟩)
    refine State.grows.holds (s := u) (.trans ?_ (.of_cnd cndT)) kept
    rw [← posted, ← done]
    exact (t.moved_work4 x false _).grows

/-! ## The obligation -/

/-- The stacks stand at the end of a move that is not DONE (R103, R108, R159). -/
theorem State.Released.stacks {s t : State} {m : Move} {p : Nat} (a : s.Released m t) (piece : m.piece = some p) (c : Nat) :
    (t.cell c).stack = (s.cell c).stack := by
  by_cases dest : m.dest = .cell c
  · exact (a.arrivals p c piece dest).2
  · by_cases source : m.source = some (.cell c)
    · exact (a.departures c (by rw [piece]; rfl) source).2
    · rw [a.cells c (.inr ⟨dest, source⟩)]

/-- Settles O44: the other ends of a leg. -/
theorem legsEnd : Obligations.LegsEnd := by
  intro s h x n i m r report orphan toPick
  refine ⟨fun only kind piece place => ?_, fun held crane kind _ place others => ?_, fun p only kind piece pick => ⟨?_, ?_, ?_⟩⟩
  · obtain ⟨l, runs⟩ := exec_report report.reporting n 0 1
    obtain ⟨t, takes, gone, moves, queue, interval, other, posted, frame⟩ :=
      (report.sound l).arrives (only.of_mvu rfl) orphan toPick kind piece place
    rw [takes] at runs
    refine ⟨_, runs, gone, moves, queue, interval, other, posted, ?_⟩
    exact congrArg (fun u : State => { u with lnk := s.lnk }) frame
  · obtain ⟨l, runs⟩ := exec_report report.reporting n 0 1
    obtain ⟨t, takes, gone, interval, waits, posted⟩ := (report.sound l).arrives_yield orphan held crane toPick kind place others
    rw [takes] at runs
    exact ⟨_, runs, gone, interval, waits, posted⟩
  · obtain ⟨l, runs⟩ := exec_report report.reporting n 0 4
    obtain ⟨t, takes, gone, queue, interval, released, beds, posted⟩ :=
      (report.sound l).fails (only.of_mvu rfl) orphan toPick kind pick
    rw [takes] at runs
    exact ⟨_, runs, gone, queue, interval, released.claim p piece,
      fun k away => released.pieces k (by rw [piece]; exact fun same => away (Option.some.inj same).symm),
      fun c dest => (released.arrivals p c piece dest).1, fun c source => (released.departures c (by rw [piece]; rfl) source).1,
      fun b dest => ⟨congrArg Bay.pendingCount (released.load p b piece dest), congrArg Bay.pendingWeight (released.load p b piece dest)⟩,
      fun c => released.stacks piece c, released.generation, beds, posted⟩
  · intro b source style
    obtain ⟨l, runs⟩ := exec_report report.reporting n 1 2
    obtain ⟨t, takes, hooked, pieces, bed, beds, stk, move, interval, hull⟩ :=
      (report.sound l).strips (only.of_mvu rfl) toPick kind piece pick source style
    rw [takes] at runs
    exact ⟨_, runs, hooked, pieces, bed, beds, stk, move, interval, hull⟩
  · intro style within
    obtain ⟨l, runs⟩ := exec_report report.reporting n 1 2
    obtain ⟨t, d, takes, move, interval, hull, state, location⟩ :=
      (report.sound l).picks_atomic (only.of_mvu rfl) toPick kind piece pick style within
    rw [takes] at runs
    exact ⟨_, d, runs, move, interval, hull, state, location⟩

end Sys2Proof.Machine
end

section
/-! SUPPORT. Proofs/Asked.lean: a leg asked for at a report: the gates, the checks of the runway unit, the grant (R126 to R128, R150). -/

namespace Sys2Proof.Machine

/-! ## The gates (R150) -/

/-- The bed that a move strips from does not allow it (R31). -/
def State.bedShut (s : State) (m : Move) : Bool :=
  match m.source with
  | some (.bed b) => !s.allowsStrip b
  | some (.cell _) => false
  | none => false

section
variable {s : State} {m : Move}

theorem State.bedShut_iff : s.bedShut m = true ↔ ∃ b, m.source = some (.bed b)
    ∧ ¬((s.bed b).state = .released ∨ (s.bed b).state = .stripping) := by
  unfold State.bedShut State.allowsStrip
  cases m.source with
  | none => simp
  | some c => cases c <;> simp

theorem State.stockAnswers_iff {p : Nat} : s.stockAnswers m.source m.dest p = true
    ↔ (∀ c, m.source = some (.cell c) → (s.cell c).stack.getLast? = some p)
      ∧ ∀ c, m.dest = .cell c → (s.cell c).arrivals.head? = some p := by
  unfold State.stockAnswers
  rw [Bool.and_eq_true]
  refine and_congr ?_ ?_
  · cases m.source with
    | none => simp
    | some c => cases c <;> simp
  · cases m.dest <;> simp

/-- The three gates of a pick leg, in order. -/
theorem State.gateRefusal_pick : s.gateRefusal m .pick = if s.bedShut m = true then some .bed
    else if m.kind = .loadOut ∧ (s.piece (m.piece.getD 0)).shipOk = false then some .strength
    else if s.stockAnswers m.source m.dest (m.piece.getD 0) = false then some .buried
    else none := by
  unfold State.gateRefusal State.bedShut
  rcases m.source with - | b | c <;> simp

/-- The gates let a park leg pass, and the place leg of any move but a SET-DOWN. -/
theorem State.gateRefusal_passes {leg : Leg} (other : leg ≠ .pick) (settles : m.kind = .setDown → leg = .place →
    s.stockAnswers m.source m.dest (m.piece.getD 0) = true) : s.gateRefusal m leg = none := by
  unfold State.gateRefusal
  simp only [other, decide_false, Bool.false_and, Bool.false_or, Bool.false_eq_true, if_false]
  by_cases both : leg = .place ∧ m.kind = .setDown
  · rw [settles both.2 both.1]
    simp
  · exact if_neg fun asks => both (by simpa using (Bool.and_eq_true_iff.mp asks).1)

/-- Gates 1 to 3 let the leg pass. -/
theorem State.gatesPass.none {leg : Leg} (passes : s.gatesPass m leg) (kind : leg = .park ∨ (leg = .pick ∧ m.piece.isSome = true)) :
    s.gateRefusal m leg = .none := by
  rcases kind with rfl | ⟨rfl, carries⟩
  · exact State.gateRefusal_passes (by decide) nofun
  · obtain ⟨p, piece⟩ := Option.isSome_iff_exists.mp carries
    obtain ⟨beds, strong, tops, arrivals⟩ := passes rfl
    rw [State.gateRefusal_pick, piece, Option.getD_some, if_neg, if_neg, if_neg]
    · rw [State.stockAnswers_iff.mpr ⟨fun c source => tops c p source piece, fun c dest => arrivals c p dest piece⟩]
      decide
    · rintro ⟨kind, weak⟩
      rw [strong kind p piece] at weak
      exact nomatch weak
    · rw [State.bedShut_iff]
      exact fun ⟨b, source, shut⟩ => shut (beds b source)

/-- The gates refuse a pick leg with BED, STRENGTH or BURIED (R31, R61, R109, R150). -/
theorem State.gateRefusal_refuses {why : WaitReason} (gate :
      (why = .bed ∧ ∃ b, m.source = some (.bed b) ∧ (s.bed b).state ≠ .released ∧ (s.bed b).state ≠ .stripping)
      ∨ (why = .strength ∧ m.kind = .loadOut ∧ (∀ b, m.source ≠ some (.bed b)) ∧ ∃ p, m.piece = some p ∧ (s.piece p).shipOk = false)
      ∨ (why = .buried ∧ (∀ b, m.source = some (.bed b) → (s.bed b).state = .released ∨ (s.bed b).state = .stripping)
        ∧ (m.kind = .loadOut → ∀ p, m.piece = some p → (s.piece p).shipOk = true)
        ∧ ∃ p c, m.piece = some p ∧ ((m.source = some (.cell c) ∧ (s.cell c).stack.getLast? ≠ some p)
          ∨ (m.dest = .cell c ∧ (s.cell c).arrivals.head? ≠ some p)))) : s.gateRefusal m .pick = some why := by
  rw [State.gateRefusal_pick]
  rcases gate with ⟨rfl, b, source, released, stripping⟩ | ⟨rfl, kind, beds, p, piece, weak⟩ | ⟨rfl, beds, strong, p, c, piece, buried⟩
  · exact if_pos (State.bedShut_iff.mpr ⟨b, source, fun either => either.elim released stripping⟩)
  · rw [if_neg (mt State.bedShut_iff.mp fun ⟨b, source, _⟩ => beds b source), piece]
    exact if_pos ⟨kind, weak⟩
  · rw [if_neg (mt State.bedShut_iff.mp fun ⟨b, source, shut⟩ => shut (beds b source)), piece, Option.getD_some, if_neg, if_pos]
    · refine Bool.eq_false_iff.mpr fun answers => ?_
      obtain ⟨tops, arrivals⟩ := State.stockAnswers_iff.mp answers
      exact buried.elim (fun both => both.2 (tops c both.1)) fun both => both.2 (arrivals c both.1)
    · rintro ⟨kind, weak⟩
      rw [strong kind p piece] at weak
      exact nomatch weak

end

/-! ## The checks of the runway unit (R127) -/

section
variable {s : State} {x : Crane} {r o : Range} {m : Move} {leg : Leg} (interval : (s.crane x).interval = some r)
  (active : (s.crane x).presence = .active) (breach : s.rru.breach = none)
include interval active breach

theorem State.verdict_bare (other : (s.crane x.other).interval = none) :
    s.runwayVerdict x m leg = .refused .crane (some (needOf r m leg)) := by
  unfold State.runwayVerdict
  rw [interval]
  dsimp only
  rw [if_neg (by simp [active]), if_neg (by simp [breach]), other]

/-- The last three checks, against the other crane's interval. -/
theorem State.verdict_eq (other : (s.crane x.other).interval = some o) : s.runwayVerdict x m leg =
    if s.loadedConflict x m leg = true then .refused .loadedConflict (some (needOf r m leg))
    else if clearOf s.lyt.yard.gap x (needOf r m leg) o = false then .refused .runway (some (needOf r m leg))
    else if ((needOf r m leg).segments.filter (fun n => !r.has n)).any (s.vacatingFrom x.other) then
      .refused .vacate (some (needOf r m leg))
    else .granted (needOf r m leg) := by
  unfold State.runwayVerdict
  rw [interval]
  dsimp only
  rw [if_neg (by simp [active]), if_neg (by simp [breach]), other]

end

/-- A segment that a need adds is vacating from the other crane (R127). -/
theorem State.vacating_iff {s : State} {y : Crane} {need r : Range} :
    (need.segments.filter (fun n => !r.has n)).any (s.vacatingFrom y) = true
      ↔ ∃ k v, k < 32 ∧ need.has k = true ∧ r.has k = false ∧ s.vacate k = some v ∧ v.releasing = y := by
  rw [List.any_eq_true]
  constructor
  · rintro ⟨k, mem, vacates⟩
    obtain ⟨inNeed, outside⟩ := List.mem_filter.mp mem
    obtain ⟨less, has⟩ := Range.mem_segments.mp inNeed
    unfold State.vacatingFrom at vacates
    split at vacates
    · next v found => exact ⟨k, v, less, has, by simpa using outside, found, of_decide_eq_true vacates⟩
    · exact nomatch vacates
  · rintro ⟨k, v, less, has, outside, found, of_y⟩
    refine ⟨k, List.mem_filter.mpr ⟨Range.mem_segments.mpr ⟨less, has⟩, by rw [outside]; rfl⟩, ?_⟩
    unfold State.vacatingFrom
    rw [found]
    exact decide_eq_true of_y

theorem needOf_eq (r : Range) (m : Move) (leg : Leg) : needOf r m leg =
    if m.style = .atomic ∧ leg = .pick then
      ⟨min r.lo (min (m.pick.getD m.place) m.place), max r.hi (max (m.pick.getD m.place) m.place)⟩
    else if leg = .pick then ⟨min r.lo (m.pick.getD m.place), max r.hi (m.pick.getD m.place)⟩
    else ⟨min r.lo m.place, max r.hi m.place⟩ := by
  unfold needOf
  by_cases atomic : m.style = .atomic <;> cases leg <;> simp [atomic, Move.hull, Range.hull, Move.target]

/-! ## A leg asked for (R150) -/

/-- The move has been refused, and the crane's standing refusal is `q`. -/
def State.refusedAt (s : State) (x : Crane) (i : Nat) (m : Move) (why : WaitReason) (q : Option Refused) : State :=
  (s.setMove i (some (m.refused why))).setCrane x { s.crane x with refusal := q }

section
variable {s : State} {x : Crane} {i : Nat} {m : Move} {leg : Leg} (own : ∀ q, (s.crane x).refusal = some q → q.serial = m.serial)
include own

theorem State.withdrawOther_own (why : WaitReason) : (s.setMove i (some (m.refused why))).withdrawOther x m.serial
    = s.setMove i (some (m.refused why)) := by
  unfold State.withdrawOther
  rw [State.crane_setMove]
  split
  · next q stands => exact if_pos (own q stands)
  · rfl

/-- A gate refuses: the standing refusal is as it was. -/
theorem State.askLeg_gated {why : WaitReason} (gate : s.gateRefusal m leg = some why) :
    s.askLeg x i m leg = s.refusedAt x i m why (s.crane x).refusal := by
  unfold State.askLeg
  rw [gate]
  refine (State.withdrawOther_own own why).trans ?_
  cases x <;> rfl

/-- The runway unit refuses: the standing refusal is this one, and what it calls for follows. -/
theorem State.askLeg_refused {why : WaitReason} {need : Range} (gates : s.gateRefusal m leg = none)
    (verdict : s.runwayVerdict x m leg = .refused why (some need)) :
    s.askLeg x i m leg = (s.refusedAt x i m why (some ⟨m.serial, why, some need⟩)).resolveRefusal x m why need := by
  unfold State.askLeg
  rw [gates]
  dsimp only
  rw [verdict]
  dsimp only
  unfold State.setRefusal
  rw [State.withdrawOther_own own]
  rfl

end

theorem State.askLeg_granted {s : State} {x : Crane} {i : Nat} {m : Move} {leg : Leg} {need : Range} (gates : s.gateRefusal m leg = none)
    (verdict : s.runwayVerdict x m leg = .granted need) : s.askLeg x i m leg = (s.setMove i (some m.go)).grantInterval x m.serial need := by
  unfold State.askLeg
  rw [gates]
  dsimp only
  rw [verdict]

/-! ## The report of a crane whose one move asks for a leg -/

/-- What `State.asking` says of the state alone. -/
structure State.asksFor (s : State) (x : Crane) (n i : Nat) (m : Move) (leg : Leg) (r : Range) : Prop where
  sound : s.sound x n r
  only : s.onlyMove x i m
  orphan : (s.work x).orphan = none
  lane : (s.work x).lane = .none
  stands : m.state = .queued ∨ m.state = .waiting
  stop : m.stop = .none
  kind : m.kind ≠ .setDown
  asked : m.legToAsk = some leg
  carries : leg = .park ∨ (leg = .pick ∧ m.piece.isSome = true)
  refusal : ∀ q, (s.crane x).refusal = some q → q.serial = m.serial

theorem State.asking.asksFor {s : State} {h : Header} {x : Crane} {n i : Nat} {m : Move} {leg : Leg} {r : Range}
    (a : s.asking h x n i m leg r) (l : Lnk) : ({ s with lnk := l } : State).asksFor x n i m leg r where
  sound := a.report.sound l
  only := a.only.of_mvu rfl
  orphan := a.orphan
  lane := a.lane
  stands := a.stands
  stop := a.stop
  kind := by
    rcases a.leg with ⟨kind, -⟩ | ⟨-, kind, -⟩
    · rw [kind]
      decide
    · exact kind
  asked := by
    unfold Move.legToAsk
    rcases a.leg with ⟨kind, rfl⟩ | ⟨other, kind, -, rfl⟩ <;> rcases a.stands with e | e <;> rw [e]
    · rw [kind]
    · rw [kind]
    all_goals
      cases kinds : m.kind with
      | park => exact absurd kinds other
      | setDown => exact absurd kinds kind
      | strip | restack | loadOut => rfl
  carries := a.leg.elim (fun both => .inl both.2) fun all => .inr ⟨all.2.2.2, all.2.2.1⟩
  refusal := a.refusal

theorem Move.refused_standing {m : Move} (stands : m.state = .queued ∨ m.state = .waiting) (why : WaitReason) :
    m.refused why = { m with state := .waiting, reason := some why } := by
  unfold Move.refused
  rw [(Move.standing_idle stands).2.1]
  rfl

theorem Move.go_standing {m : Move} (stands : m.state = .queued ∨ m.state = .waiting) : m.go = { m with state := .toPick, reason := none } := by
  unfold Move.go
  rw [(Move.standing_idle stands).2.1]
  rfl

theorem State.refusedAt_reads (s : State) (x : Crane) (i : Nat) (m : Move) (why : WaitReason) (q : Option Refused) :
    (∀ j, (s.refusedAt x i m why q).move j = if i = j then some (m.refused why) else s.move j)
      ∧ (∀ y, (s.refusedAt x i m why q).work y = s.work y)
      ∧ (∀ y, (s.refusedAt x i m why q).crane y = if x = y then { s.crane x with refusal := q } else s.crane y)
      ∧ (∀ k, (s.refusedAt x i m why q).vacate k = s.vacate k) ∧ (s.refusedAt x i m why q).rru.vacates = s.rru.vacates
      ∧ (s.refusedAt x i m why q).rru.breach = s.rru.breach ∧ (s.refusedAt x i m why q).rru.deadlock = s.rru.deadlock
      ∧ (s.refusedAt x i m why q).mvu.serial = s.mvu.serial
      ∧ ∃ M Q, s.refusedAt x i m why q = { s with mvu := M, rru := Q } := by
  refine ⟨fun j => ?_, fun y => ?_, fun y => ?_, fun k => by cases x <;> rfl, by cases x <;> rfl, by cases x <;> rfl, by cases x <;> rfl,
    by cases x <;> rfl, by cases x <;> exact ⟨_, _, rfl⟩⟩
  · rw [State.refusedAt, State.move_setCrane, State.move_setMove]
  · rw [State.refusedAt, State.work_setCrane, State.work_setMove]
  · rw [State.refusedAt, State.crane_setCrane, State.crane_setMove]

section
variable {s : State} {x : Crane} {n i : Nat} {m : Move} {leg : Leg} {r : Range} (a : s.asksFor x n i m leg r)
include a

/-- The report asks for the leg, in the state that the runway unit's part of the report leaves (R150, R152). -/
theorem State.asksFor.asks : s.takeReport x n 0 0 = ((s.reported x n .empty).askLeg x i m leg).giveOrder x true := by
  obtain ⟨vmvu, -, vworks, -⟩ := s.reported_reads x n .empty
  obtain ⟨v, heard⟩ : ∃ v, v = s.reported x n .empty := ⟨_, rfl⟩
  rw [← heard] at vmvu vworks ⊢
  have here := a.only.of_mvu vmvu
  have slot : i < 18 := Nat.lt_of_lt_of_le a.only.slot (by decide)
  have passed : ¬v.lanePasses x m := fun passes => passes.1 (by rw [vworks, a.lane])
  have taken := a.sound.takes (k := 0) (e := 0) (by decide) (by decide) (t := v) (by rw [heard]; rfl)
  have rest : v.afterEvent x n .empty true true true (s.suspendedSlots x) = (v.work4 x true (s.suspendedSlots x)).giveOrder x true :=
    here.afterEvent a.stands (by rw [vworks]; exact a.sound.hook) (by rw [vworks, a.orphan]; rfl) true true
  have work : v.work4 x true (s.suspendedSlots x) = v.askLeg x i m leg := by
    unfold State.work4
    rw [State.slots_free a.only.aloneAt a.only.held (Move.standing_idle a.stands).2.2, here.findWork a.stands passed]
    dsimp only
    rw [here.held]
    dsimp only
    rw [decide_eq_false a.kind, Bool.false_and, if_neg (by decide), a.asked]
    dsimp only
    rw [here.aloneAt.noStop here.held a.only.crane slot a.stop, vworks, a.sound.hook]
    rfl
  exact taken.trans (rest.trans (by rw [work]))

/-- What the runway unit knows of the crane once the report has been heard. -/
theorem State.asksFor.reads : ((s.reported x n .empty).crane x).interval = some r
    ∧ ((s.reported x n .empty).crane x).presence = .active ∧ (s.reported x n .empty).rru.breach = none
    ∧ ((s.reported x n .empty).crane x).refusal = (s.crane x).refusal
    ∧ (s.reported x n .empty).crane x.other = s.crane x.other := by
  obtain ⟨-, -, -, vcrane, vother, vbreach, -⟩ := s.reported_reads x n .empty
  rw [vcrane, vother, vbreach]
  exact ⟨a.sound.interval, a.sound.active, a.sound.clear, rfl, rfl⟩

/-- The move has been refused and nothing is called for: the order is IDLE (R150, R151). -/
theorem State.asksFor.waits {why : WaitReason} {q : Option Refused}
    (asked : (s.reported x n .empty).askLeg x i m leg = (s.reported x n .empty).refusedAt x i m why q) :
    ∃ t : State, s.takeReport x n 0 0 = (t, orderReply true .idle)
      ∧ t.move i = some { m with state := .waiting, reason := some why } ∧ (∀ j, j ≠ i → t.move j = s.move j)
      ∧ t.crane x = { s.crane x with
          position := some n, hook := some .empty, timer := some (s.presenceTimeout x), outside := false, refusal := q }
      ∧ t.crane x.other = s.crane x.other ∧ t.rru.vacates = s.rru.vacates
      ∧ t.work x = { s.work x with lastOrder := some .idle } ∧ t.work x.other = s.work x.other
      ∧ { t with rru := s.rru, mvu := s.mvu } = s := by
  obtain ⟨vmvu, vmoves, vworks, vcrane, vother, vbreach, -⟩ := s.reported_reads x n .empty
  obtain ⟨R, shape⟩ := s.reported_frame x n .empty
  have vvacates : (s.reported x n .empty).rru.vacates = s.rru.vacates := by cases x <;> rfl
  obtain ⟨v, heard⟩ : ∃ v, v = s.reported x n .empty := ⟨_, rfl⟩
  rw [← heard] at vmvu vmoves vworks vcrane vother vbreach shape asked vvacates
  obtain ⟨moves, works, cranes, -, vacates, breach, -, -, M, Q, frame⟩ := v.refusedAt_reads x i m why q
  obtain ⟨t, refused⟩ : ∃ t, t = v.refusedAt x i m why q := ⟨_, rfl⟩
  rw [← refused] at moves works cranes vacates breach frame asked
  have record : t.move i = some { m with state := .waiting, reason := some why } := by
    rw [moves, if_pos rfl, Move.refused_standing a.stands]
  have idle : t.underWay x = none := by
    have alone : t.aloneAt x i := (a.only.of_mvu vmvu).aloneAt.congr fun j _ other => (moves j).trans (if_neg (Ne.symm other))
    rw [alone.underWay record a.only.crane (Nat.lt_of_lt_of_le a.only.slot (by decide))]
    rfl
  have order := State.giveOrder_eq (State.composeOrder_idle (breach.trans (vbreach.trans a.sound.clear))
    (by rw [works, vworks]; exact a.sound.hook) idle) true
  have report : s.takeReport x n 0 0 = (t.ordered x .idle, orderReply true .idle) := by
    rw [a.asks, ← heard, asked]
    exact order
  obtain ⟨movesT, cranesT, workT, otherT, -⟩ := t.ordered_reads x .idle
  obtain ⟨O, orders⟩ := t.ordered_frame x .idle
  refine ⟨_, report, (movesT i).trans record, fun j away => ?_, ?_, ?_, ?_, ?_, ?_, ?_⟩
  · rw [movesT, moves, if_neg (Ne.symm away), vmoves]
  · rw [cranesT, cranes, if_pos rfl, vcrane]
  · rw [cranesT, cranes, if_neg (State.other_ne x), vother]
  · rw [orders]
    exact vacates.trans vvacates
  · rw [workT, works, vworks]
    rfl
  · rw [otherT, works, vworks]
  · rw [orders, frame, shape]

end

/-! ## The grant (R128) -/

theorem State.vacate_takeBack (x : Crane) (s : State) (n k : Nat) :
    (State.takeBack x s n).vacate k = if n = k ∧ s.vacatingFrom x k = true then none else s.vacate k := by
  unfold State.takeBack
  by_cases same : n = k
  · subst same
    by_cases vacates : s.vacatingFrom x n = true <;> simp [vacates, State.vacate_setVacate]
  · split <;> simp [same, State.vacate_setVacate]

/-- The vacate records once the crane has taken back a list of segments. -/
theorem State.vacate_takeBacks (x : Crane) (l : List Nat) (s : State) (k : Nat) : (l.foldl (State.takeBack x) s).vacate k
    = if k ∈ l ∧ s.vacatingFrom x k = true then none else s.vacate k := by
  induction l generalizing s with
  | nil => rw [if_neg fun both => List.not_mem_nil both.1]; rfl
  | cons n l ih =>
    have from_x : (State.takeBack x s n).vacatingFrom x k = true ↔ n ≠ k ∧ s.vacatingFrom x k = true := by
      unfold State.vacatingFrom
      rw [State.vacate_takeBack]
      unfold State.vacatingFrom
      by_cases same : n = k
      · subst same
        cases found : s.vacate n with
        | none => simp
        | some v => by_cases mine : v.releasing = x <;> simp [mine]
      · simp [same]
    rw [List.foldl_cons, ih, State.vacate_takeBack]
    simp only [from_x, List.mem_cons]
    by_cases same : n = k
    · subst same
      by_cases vacates : s.vacatingFrom x n = true <;> simp [vacates]
    · simp [same, Ne.symm same]

/-- A grant: the interval and the refusal of the crane, the segments it takes back, and the end of the move's deadlock (R128, R135). -/
theorem State.grantInterval_reads {s : State} {x : Crane} {r : Range} (interval : (s.crane x).interval = some r) (serial : Nat) (need : Range) :
    (∀ j, (s.grantInterval x serial need).move j = s.move j) ∧ (∀ y, (s.grantInterval x serial need).work y = s.work y)
      ∧ (∀ y, (s.grantInterval x serial need).crane y
        = if x = y then { s.crane x with interval := some need, refusal := none } else s.crane y)
      ∧ (∀ k, (s.grantInterval x serial need).vacate k
        = if (k < 32 ∧ need.has k = true ∧ r.has k = false) ∧ s.vacatingFrom x k = true then none else s.vacate k)
      ∧ (s.grantInterval x serial need).rru.breach = s.rru.breach
      ∧ (s.inDeadlock serial = true → (s.grantInterval x serial need).rru.deadlock = none)
      ∧ (∃ Q C, s.grantInterval x serial need = { s with rru := Q, cnd := C })
      ∧ (s.inDeadlock serial = false → ∃ Q, s.grantInterval x serial need = { s with rru := Q }) := by
  obtain ⟨l, added⟩ : ∃ l, l = need.segments.filter (fun n => !r.has n) := ⟨_, rfl⟩
  have members : ∀ k, k ∈ l ↔ k < 32 ∧ need.has k = true ∧ r.has k = false := fun k => by
    rw [added, List.mem_filter, Range.mem_segments, and_assoc, Bool.not_eq_true']
  obtain ⟨v, takes⟩ : s.vacatesOnly (l.foldl (State.takeBack x) s) :=
    foldl_keeps State.vacatesOnly.refl State.vacatesOnly.trans (fun t n => State.takeBack_vacates x t n) l s
  have vacates := State.vacate_takeBacks x l s
  have whole : s.grantInterval x serial need
      = ((l.foldl (State.takeBack x) s).setCrane x { (l.foldl (State.takeBack x) s).crane x with
          interval := some need, refusal := none }).endDeadlockOf serial := by
    unfold State.grantInterval
    rw [interval, added]
  obtain ⟨u, granted⟩ : ∃ u, u = (l.foldl (State.takeBack x) s).setCrane x { (l.foldl (State.takeBack x) s).crane x with
      interval := some need, refusal := none } := ⟨_, rfl⟩
  have cranes : ∀ y, u.crane y = if x = y then { s.crane x with interval := some need, refusal := none } else s.crane y := fun y => by
    rw [granted, State.crane_setCrane, takes]
    cases x <;> cases y <;> rfl
  have records : ∀ k, u.vacate k = if (k < 32 ∧ need.has k = true ∧ r.has k = false) ∧ s.vacatingFrom x k = true then none else s.vacate k :=
    fun k => by
      rw [granted, State.vacate_setCrane, vacates]
      simp only [members]
  have pair : u.rru.deadlock = s.rru.deadlock ∧ u.rru.breach = s.rru.breach ∧ ∃ Q, u = { s with rru := Q } := by
    rw [granted, takes]
    cases x <;> exact ⟨rfl, rfl, _, rfl⟩
  obtain ⟨deadlock, breach, Q, frame⟩ := pair
  have same : u.inDeadlock serial = s.inDeadlock serial := by unfold State.inDeadlock; rw [deadlock]
  have ends := u.endDeadlockOf_pair serial
  rw [whole, ← granted]
  refine ⟨fun j => (ends.move j).trans (by rw [frame]; rfl), fun y => (ends.work y).trans (by rw [frame]; rfl), fun y => (ends.crane y).trans (cranes y),
    fun k => ?_, ends.runway.2.1.trans breach, fun within => ?_, ?_, fun without => ?_⟩
  · rw [← records]
    unfold State.vacate
    rw [ends.vacates]
  · unfold State.endDeadlockOf State.endDeadlock
    rw [if_pos (same.trans within)]
    cases found : u.rru.deadlock with
    | none =>
      unfold State.inDeadlock at within
      rw [← deadlock, found] at within
      exact nomatch within
    | some p => exact congrArg Rru.deadlock (State.endCause_only ..).rru
  · obtain ⟨_, _, e⟩ := ends
    rw [e, frame]
    exact ⟨_, _, rfl⟩
  · refine ⟨Q, ?_⟩
    unfold State.endDeadlockOf
    rw [same, without, frame]
    rfl

theorem Move.target_eq (m : Move) (leg : Leg) : m.target leg = if leg = .pick then m.pick.getD m.place else m.place := by
  cases leg <;> rfl

/-- A leg has been granted: the order is GO (R151). -/
theorem State.onlyMove.goes {v t : State} {x : Crane} {i : Nat} {m : Move} {leg : Leg} {r need : Range} (only : v.onlyMove x i m)
    (stop : m.stop = .none) (granted : m.go.granted = some leg) (up : m.go.underWay = true) (interval : (v.crane x).interval = some r)
    (active : (v.crane x).presence = .active) (breach : v.rru.breach = none) (hook : (v.work x).mismatch = false)
    (given : t = (v.setMove i (some m.go)).grantInterval x m.serial need) :
    t.giveOrder x true = (t.ordered x (t.goOrder m.go leg), orderReply true (t.goOrder m.go leg)) := by
  obtain ⟨moves, works, cranes, -, latch, -⟩ := State.grantInterval_reads (s := v.setMove i (some m.go)) (r := r)
    (by rw [State.crane_setMove]; exact interval) m.serial need
  rw [← given] at moves works cranes latch
  have record : t.move i = some m.go := by rw [moves, State.move_setMove_same]
  have alone : t.aloneAt x i := only.aloneAt.congr fun j _ other => by rw [moves, State.move_setMove, if_neg (Ne.symm other)]
  have way : t.underWay x = some (i, m.go) := by
    rw [alone.underWay record only.crane (Nat.lt_of_lt_of_le only.slot (by decide)), up]
    rfl
  have present : (t.crane x).presence ≠ .out := by
    rw [cranes, if_pos rfl, State.crane_setMove]
    show (v.crane x).presence ≠ _
    rw [active]
    decide
  refine State.giveOrder_eq ((State.composeOrder_granted (latch.trans breach) (by rw [works, State.work_setMove, hook]) present way fun p owed => ?_).trans ?_) true
  · rw [show m.go.stop = m.stop from rfl, stop] at owed
    exact nomatch owed
  · rw [granted]

/-! ## What the runway unit answers (R127) -/

/-- The runway unit refuses with a reason that calls for nothing in the other crane: that is STALE and waits on nothing. -/
def State.refusesWith (s : State) (x : Crane) (m : Move) (leg : Leg) (r : Range) (why : WaitReason) : Prop :=
  (why = .crane ∧ (s.crane x.other).interval = none)
  ∨ ∃ o, (s.crane x.other).interval = some o ∧ (s.crane x.other).presence = .stale
    ∧ (s.crane x.other).refusal = none ∧ m.style ≠ .preempt
    ∧ ((why = .loadedConflict ∧ leg = .pick ∧ m.style ≠ .atomic ∧ ∃ a, (s.crane x.other).hull = some a
        ∧ (widen s.lyt.yard.gap x a).overlaps m.hull = true)
      ∨ (why = .runway ∧ s.loadedConflict x m leg = false
        ∧ clearOf s.lyt.yard.gap x (needOf r m leg) o = false)
      ∨ (why = .vacate ∧ s.loadedConflict x m leg = false
        ∧ clearOf s.lyt.yard.gap x (needOf r m leg) o = true
        ∧ ∃ k v, k < 32 ∧ (needOf r m leg).has k = true ∧ r.has k = false ∧ s.vacate k = some v
          ∧ v.releasing = x.other))

theorem State.refusesWith.reported {s : State} {x : Crane} {m : Move} {leg : Leg} {r : Range} {why : WaitReason}
    (h : s.refusesWith x m leg r why) (n : Nat) (k : Hook) : (s.reported x n k).refusesWith x m leg r why := by
  cases x <;> exact h

theorem State.gatesPass.reported {s : State} {m : Move} {leg : Leg} (h : s.gatesPass m leg) (x : Crane) (n : Nat) (k : Hook) :
    (s.reported x n k).gatesPass m leg := by
  cases x <;> exact h

theorem State.gateRefusal_reported (s : State) (m : Move) (leg : Leg) (x : Crane) (n : Nat) (k : Hook) :
    (s.reported x n k).gateRefusal m leg = s.gateRefusal m leg := by
  cases x <;> rfl

theorem State.refusesWith.verdict {s : State} {x : Crane} {m : Move} {leg : Leg} {r : Range} {why : WaitReason}
    (h : s.refusesWith x m leg r why) (interval : (s.crane x).interval = some r) (active : (s.crane x).presence = .active)
    (breach : s.rru.breach = none) : s.runwayVerdict x m leg = .refused why (some (needOf r m leg)) := by
  rcases h with ⟨rfl, bare⟩ | ⟨o, other, -, -, -, ⟨rfl, rfl, style, a, hull, overlaps⟩ | ⟨rfl, light, close⟩ | ⟨rfl, light, clear, vacating⟩⟩
  · exact State.verdict_bare interval active breach bare
  · rw [State.verdict_eq interval active breach other, if_pos]
    simp [State.loadedConflict, style, hull, overlaps]
  · rw [State.verdict_eq interval active breach other, light, if_neg (by decide), if_pos close]
  · rw [State.verdict_eq interval active breach other, light, if_neg (by decide), clear, if_neg (by decide),
      if_pos (State.vacating_iff.mpr vacating)]

/-- Such a refusal calls for nothing (R131, R133, R134). -/
theorem State.refusesWith.quiet {s : State} {x : Crane} {m : Move} {leg : Leg} {r : Range} {why : WaitReason}
    (h : s.refusesWith x m leg r why) {t : State} (other : t.crane x.other = s.crane x.other) (need : Range) :
    t.resolveRefusal x m why need = t := by
  rcases h with ⟨rfl, -⟩ | ⟨o, -, stale, noRefusal, style, reason⟩
  · rfl
  · have still : ∀ k, t.mutualWait x m.serial k = t := fun k => by
      unfold State.mutualWait
      rw [other, noRefusal]
    have busy : t.idle x.other = false := by
      unfold State.idle
      rw [other, stale]
      simp
    unfold State.resolveRefusal
    rcases reason with ⟨rfl, -⟩ | ⟨rfl, -⟩ | ⟨rfl, -⟩
    · exact still need
    · rw [busy]
      exact (if_neg (by decide)).trans ((if_neg style).trans (still need))
    · rfl

/-- The runway unit grants: no check of R127 fails. -/
structure State.grantsLeg (s : State) (x : Crane) (m : Move) (leg : Leg) (r : Range) (o : Range) : Prop where
  other : (s.crane x.other).interval = some o
  light : s.loadedConflict x m leg = false
  clear : clearOf s.lyt.yard.gap x (needOf r m leg) o = true
  vacates : ∀ k v, k < 32 → (needOf r m leg).has k = true → r.has k = false → s.vacate k = some v → v.releasing = x

theorem State.grantsLeg.reported {s : State} {x : Crane} {m : Move} {leg : Leg} {r o : Range}
    (h : s.grantsLeg x m leg r o) (n : Nat) (k : Hook) : (s.reported x n k).grantsLeg x m leg r o := by
  cases x <;> exact ⟨h.other, h.light, h.clear, h.vacates⟩

theorem State.grantsLeg.verdict {s : State} {x : Crane} {m : Move} {leg : Leg} {r o : Range}
    (h : s.grantsLeg x m leg r o) (interval : (s.crane x).interval = some r) (active : (s.crane x).presence = .active)
    (breach : s.rru.breach = none) : s.runwayVerdict x m leg = .granted (needOf r m leg) := by
  rw [State.verdict_eq interval active breach h.other, h.light, if_neg (by decide), h.clear, if_neg (by decide), if_neg]
  rw [State.vacating_iff]
  rintro ⟨k, v, less, has, outside, found, foreign⟩
  have mine := h.vacates k v less has outside found
  rw [mine] at foreign
  cases x <;> exact nomatch foreign

/-- What the grant leaves of the vacate records (R128): the crane has taken its own back. -/
theorem State.grantsLeg.taken {s : State} {x : Crane} {m : Move} {leg : Leg} {r o : Range} (h : s.grantsLeg x m leg r o) {t : State}
    (vacates : ∀ k, t.vacate k = if (k < 32 ∧ (needOf r m leg).has k = true ∧ r.has k = false) ∧ s.vacatingFrom x k = true then none
      else s.vacate k) :
    (∀ k, k < 32 → (needOf r m leg).has k = true → r.has k = false → t.vacate k = none)
      ∧ ∀ k, ((needOf r m leg).has k = false ∨ r.has k = true) → t.vacate k = s.vacate k := by
  refine ⟨fun k less has outside => ?_, fun k away => ?_⟩
  · rw [vacates]
    cases found : s.vacate k with
    | none => exact ite_self _
    | some v =>
      refine if_pos ⟨⟨less, has, outside⟩, ?_⟩
      unfold State.vacatingFrom
      rw [found]
      exact decide_eq_true (h.vacates k v less has outside found)
  · rw [vacates, if_neg]
    rintro ⟨⟨-, has, outside⟩, -⟩
    rcases away with e | e
    · rw [has] at e
      exact nomatch e
    · rw [outside] at e
      exact nomatch e

theorem Move.granted_asked {m : Move} {leg : Leg} (stands : m.state = .queued ∨ m.state = .waiting) (asked : m.legToAsk = some leg) :
    m.go.granted = some leg ∧ m.go.underWay = true := by
  rw [Move.go_standing stands]
  refine ⟨?_, rfl⟩
  unfold Move.legToAsk at asked
  unfold Move.granted
  rcases stands with e | e <;> rw [e] at asked <;> cases kind : m.kind <;> rw [kind] at asked <;> simp_all

section
variable {s : State} {x : Crane} {n i : Nat} {m : Move} {leg : Leg} {r : Range} (a : s.asksFor x n i m leg r)
include a

/-- A gate, or a check of the runway unit, refuses the leg, and nothing is called for (R127, R150). -/
theorem State.asksFor.refuses {why : WaitReason} {q : Option Refused}
    (refused : (s.gateRefusal m leg = some why ∧ q = (s.crane x).refusal)
      ∨ (s.gatesPass m leg ∧ q = some ⟨m.serial, why, some (needOf r m leg)⟩ ∧ s.refusesWith x m leg r why)) :
    (s.reported x n .empty).askLeg x i m leg = (s.reported x n .empty).refusedAt x i m why q := by
  obtain ⟨interval, active, breach, refusal, -⟩ := a.reads
  have own := a.refusal
  rw [← refusal] at own
  rcases refused with ⟨gate, rfl⟩ | ⟨passes, rfl, refuses⟩
  · rw [← refusal]
    exact State.askLeg_gated own ((State.gateRefusal_reported ..).trans gate)
  · rw [State.askLeg_refused own ((passes.reported x n .empty).none a.carries) ((refuses.reported n .empty).verdict interval active breach)]
    obtain ⟨-, -, cranes, -⟩ := (s.reported x n .empty).refusedAt_reads x i m why (some ⟨m.serial, why, some (needOf r m leg)⟩)
    exact (refuses.reported n .empty).quiet ((cranes _).trans (if_neg (State.other_ne x))) _

/-- The leg is granted (R128, R150, R151). -/
theorem State.asksFor.grants {o : Range} (passes : s.gatesPass m leg) (grants : s.grantsLeg x m leg r o) :
    ∃ (t : State) (d : Detail), s.takeReport x n 0 0
        = (t, orderReply true (.go ⟨m.serial, leg, if leg = .pick then m.pick.getD m.place else m.place, d⟩))
      ∧ (leg = .park → d = .none) ∧ (∀ c, leg = .pick → m.source = some (.cell c) → d = .cell c)
      ∧ (∀ b p, leg = .pick → m.source = some (.bed b) → m.piece = some p → d = .bed b ((s.bed b).planSlots.idxOf p + 1))
      ∧ t.move i = some { m with state := .toPick, reason := none } ∧ (∀ j, j ≠ i → t.move j = s.move j)
      ∧ t.crane x = { s.crane x with
          position := some n, hook := some .empty, timer := some (s.presenceTimeout x), outside := false,
          interval := some (needOf r m leg), refusal := none }
      ∧ t.crane x.other = s.crane x.other
      ∧ (∀ k, k < 32 → (needOf r m leg).has k = true → r.has k = false → t.vacate k = none)
      ∧ (∀ k, ((needOf r m leg).has k = false ∨ r.has k = true) → t.vacate k = s.vacate k)
      ∧ (s.inDeadlock m.serial = true → t.rru.deadlock = none)
      ∧ t.work x = { s.work x with lastOrder := some .go } ∧ t.work x.other = s.work x.other
      ∧ (s.inDeadlock m.serial = false → { t with rru := s.rru, mvu := s.mvu } = s) := by
  obtain ⟨interval, active, breach, refusal, -⟩ := a.reads
  obtain ⟨vmvu, vmoves, vworks, vcrane, vother, -, vvacate⟩ := s.reported_reads x n .empty
  obtain ⟨R, shape⟩ := s.reported_frame x n .empty
  have vdeadlock : (s.reported x n .empty).rru.deadlock = s.rru.deadlock := by cases x <;> rfl
  have asked := State.askLeg_granted (i := i) ((passes.reported x n .empty).none a.carries)
    ((grants.reported n .empty).verdict interval active breach)
  have asks := a.asks
  obtain ⟨v, heard⟩ : ∃ v, v = s.reported x n .empty := ⟨_, rfl⟩
  rw [← heard] at vmvu vmoves vworks vcrane vother vvacate vdeadlock shape asked asks interval active breach
  obtain ⟨granted, up⟩ := Move.granted_asked a.stands a.asked
  obtain ⟨t, given⟩ : ∃ t, t = (v.setMove i (some m.go)).grantInterval x m.serial (needOf r m leg) := ⟨_, rfl⟩
  obtain ⟨moves, works, cranes, vacates, -, ends, ⟨Q, C, whole⟩, frame⟩ := State.grantInterval_reads (s := v.setMove i (some m.go)) (r := r)
    (by rw [State.crane_setMove]; exact interval) m.serial (needOf r m leg)
  rw [← given] at moves works cranes vacates ends frame whole
  have order := (a.only.of_mvu vmvu).goes a.stop granted up interval active breach (by rw [vworks]; exact a.sound.hook) given
  have report : s.takeReport x n 0 0 = (t.ordered x (t.goOrder m.go leg), orderReply true (t.goOrder m.go leg)) := by
    rw [asks, asked, ← given]
    exact order
  obtain ⟨movesT, cranesT, workT, otherT, -, rruT, -⟩ := t.ordered_reads x (t.goOrder m.go leg)
  obtain ⟨O, orders⟩ := t.ordered_frame x (t.goOrder m.go leg)
  have beds : t.beds = s.beds := by rw [whole, shape]; rfl
  have taken := grants.taken (t := t.ordered x (t.goOrder m.go leg)) fun k => by
    have mine : (v.setMove i (some m.go)).vacatingFrom x k = s.vacatingFrom x k := by
      unfold State.vacatingFrom
      rw [← vvacate]
      rfl
    rw [← vvacate, ← mine]
    refine Eq.trans ?_ (vacates k)
    unfold State.vacate
    rw [rruT]
  have pair : (v.setMove i (some m.go)).inDeadlock m.serial = s.inDeadlock m.serial := by
    unfold State.inDeadlock
    rw [← vdeadlock]
    rfl
  refine ⟨_, t.detail m.go leg, report.trans ?_, ?_, fun c pick source => ?_, fun b p pick source piece => ?_, ?_, fun j away => ?_, ?_, ?_,
    taken.1, taken.2, fun within => ?_, ?_, ?_, fun without => ?_⟩
  · rw [← Move.target_eq]
    rfl
  · rintro rfl
    rfl
  · subst pick
    unfold State.detail
    rw [show m.go.source = m.source from rfl, source]
  · subst pick
    unfold State.detail State.planPosition State.bed
    rw [show m.go.source = m.source from rfl, source, show m.go.piece = m.piece from rfl, piece, beds]
    rfl
  · rw [movesT, moves, State.move_setMove_same, Move.go_standing a.stands]
  · rw [movesT, moves, State.move_setMove, if_neg (Ne.symm away), vmoves]
  · rw [cranesT, cranes, if_pos rfl, State.crane_setMove, vcrane]
  · rw [cranesT, cranes, if_neg (State.other_ne x), State.crane_setMove, vother]
  · rw [rruT]
    exact ends (pair.trans within)
  · rw [workT, works, State.work_setMove, vworks]
    rfl
  · rw [otherT, works, State.work_setMove, vworks]
  · obtain ⟨Q', whole'⟩ := frame (pair.trans without)
    rw [orders, whole', shape]
    rfl

end

/-- The place leg of a LIFTED move is granted (R128, R150). -/
theorem State.sound.grants_place {s : State} {x : Crane} {n i : Nat} {m : Move} {r o : Range} (a : s.sound x n r) (only : s.onlyMove x i m)
    (lifted : m.state = .lifted .waitPlace) (stop : m.stop = .none) (gates : s.gateRefusal m .place = none)
    (grants : s.grantsLeg x m .place r o) :
    ∃ t : State, s.takeReport x n 1 0 = (t, orderReply true (.go ⟨m.serial, .place, m.place, s.detail m .place⟩))
      ∧ t.move i = some { m with state := .lifted .toPlace, reason := none } ∧ (∀ j, j ≠ i → t.move j = s.move j)
      ∧ (t.crane x).interval = some (needOf r m .place) ∧ (t.crane x).refusal = none
      ∧ t.crane x.other = s.crane x.other ∧ (t.work x).lastOrder = some .go
      ∧ t.pct = s.pct ∧ t.stk = s.stk ∧ t.beds = s.beds ∧ t.lyt = s.lyt := by
  obtain ⟨vmvu, vmoves, vworks, vcrane, vother, vbreach, -⟩ := s.reported_reads x n .loaded
  obtain ⟨R, shape⟩ := s.reported_frame x n .loaded
  have vgates := (State.gateRefusal_reported s m .place x n .loaded).trans gates
  have vgrants := grants.reported n .loaded
  have takes := a.takes (k := 1) (e := 0) (by decide) (by decide) (t := s.reported x n .loaded) rfl
  obtain ⟨v, heard⟩ : ∃ v, v = s.reported x n .loaded := ⟨_, rfl⟩
  rw [← heard] at vmvu vmoves vworks vcrane vother vbreach shape vgates vgrants takes
  have interval : (v.crane x).interval = some r := by rw [vcrane]; exact a.interval
  have active : (v.crane x).presence = .active := by rw [vcrane]; exact a.active
  have breach : v.rru.breach = none := vbreach.trans a.clear
  have hook : (v.work x).mismatch = false := by rw [vworks]; exact a.hook
  have here := only.of_mvu vmvu
  have slot : i < 18 := Nat.lt_of_lt_of_le only.slot (by decide)
  have alone := here.aloneAt
  obtain ⟨under, up, still⟩ := Move.underWay_lifted lifted
  have go : m.go = { m with state := .lifted .toPlace, reason := none } := by
    unfold Move.go
    rw [up]
    rfl
  obtain ⟨t, given⟩ : ∃ t, t = (v.setMove i (some m.go)).grantInterval x m.serial (needOf r m .place) := ⟨_, rfl⟩
  have work : v.work4 x true (s.suspendedSlots x) = t := by
    have found : v.findWork x = (v, some i) := by
      refine State.findWork_active ?_
      rw [alone.activeSlot here.held only.crane slot, under]
      rfl
    unfold State.work4
    rw [State.slots_free only.aloneAt only.held (by rw [lifted]; decide), found]
    dsimp only
    rw [here.held]
    dsimp only
    rw [still, Bool.and_false, if_neg (by decide), show m.legToAsk = some .place by unfold Move.legToAsk; rw [lifted]]
    dsimp only
    rw [alone.noStop here.held only.crane slot stop, hook, given]
    exact State.askLeg_granted vgates (vgrants.verdict interval active breach)
  have rest : v.afterEvent x n .loaded true true true (s.suspendedSlots x) = t.giveOrder x true := by
    have expected : .loaded = v.expectedHook x := by
      rw [alone.expectedHook here.held only.crane slot, up]
      simp
    rw [State.afterEvent_plain expected hook (fun j p found => ?_), work]
    rw [alone.underWay here.held only.crane slot, under] at found
    obtain ⟨-, rfl⟩ := Prod.mk.inj (Option.some.inj found)
    rw [stop]
    exact fun _ => nofun
  obtain ⟨moves, works, cranes, -, -, -, ⟨Q, C, whole⟩, -⟩ := State.grantInterval_reads (s := v.setMove i (some m.go)) (r := r)
    (by rw [State.crane_setMove]; exact interval) m.serial (needOf r m .place)
  rw [← given] at moves works cranes whole
  have order := here.goes stop (leg := .place) (by rw [go]; rfl) (by rw [go]; rfl) interval active breach hook given
  have detail : t.goOrder m.go .place = .go ⟨m.serial, .place, m.place, s.detail m .place⟩ := by
    unfold State.goOrder State.detail
    rw [go]
    rfl
  rw [detail] at order
  obtain ⟨movesT, cranesT, workT, -⟩ := t.ordered_reads x (.go ⟨m.serial, .place, m.place, s.detail m .place⟩)
  obtain ⟨O, orders⟩ := t.ordered_frame x (.go ⟨m.serial, .place, m.place, s.detail m .place⟩)
  refine ⟨_, takes.trans (rest.trans order), ?_, fun j away => ?_, ?_, ?_, ?_, ?_, ?_⟩
  · rw [movesT, moves, State.move_setMove_same, go]
  · rw [movesT, moves, State.move_setMove, if_neg (Ne.symm away), vmoves]
  · rw [cranesT, cranes, if_pos rfl]
  · rw [cranesT, cranes, if_pos rfl]
  · rw [cranesT, cranes, if_neg (State.other_ne x), State.crane_setMove, vother]
  · rw [workT]
    rfl
  · rw [orders, whole, shape]
    exact ⟨rfl, rfl, rfl, rfl⟩

/-! ## The obligation -/

/-- Settles O42: a leg refused by a gate or by the runway unit, a leg granted, the place leg of a LIFTED move. -/
theorem legsAsked : Obligations.LegsAsked := by
  refine ⟨fun s h x n i m leg r asking => ⟨fun why q refused => ?_, fun o passes other light clear vacates => ?_⟩, needOf_eq,
    fun s h x n i m r o report only lifted stop carries arrives bare other clear vacates => ?_⟩
  · obtain ⟨l, runs⟩ := exec_report asking.report.reporting n 0 0
    have gate : (s.gateRefusal m leg = some why ∧ q = (s.crane x).refusal)
        ∨ (s.gatesPass m leg ∧ q = some ⟨m.serial, why, some (needOf r m leg)⟩ ∧ s.refusesWith x m leg r why) := by
      rcases refused with ⟨rfl, rfl, rfl, bed⟩ | ⟨rfl, rfl, kind, beds, weak⟩ | ⟨rfl, rfl, rfl, beds, strong, buried⟩ | runway
      · exact .inl ⟨State.gateRefusal_refuses (.inl ⟨rfl, bed⟩), rfl⟩
      · obtain rfl : leg = .pick := by
          rcases asking.leg with ⟨park, -⟩ | ⟨-, -, -, pick⟩
          · rw [park] at kind
            exact nomatch kind
          · exact pick
        exact .inl ⟨State.gateRefusal_refuses (.inr (.inl ⟨rfl, kind, beds, weak⟩)), rfl⟩
      · exact .inl ⟨State.gateRefusal_refuses (.inr (.inr ⟨rfl, beds, strong, buried⟩)), rfl⟩
      · exact .inr runway
    obtain ⟨t, takes, move, moves, crane, others, vacates, work, works, frame⟩ :=
      (asking.asksFor l).waits ((asking.asksFor l).refuses gate)
    rw [takes] at runs
    exact ⟨_, runs, move, moves, crane, others, vacates, work, works, State.relink_frame frame⟩
  · obtain ⟨l, runs⟩ := exec_report asking.report.reporting n 0 0
    obtain ⟨t, d, takes, park, cell, bed, move, moves, crane, others, taken, kept, ends, work, works, frame⟩ :=
      (asking.asksFor l).grants (s := { s with lnk := l }) passes ⟨other, light, clear, vacates⟩
    rw [takes] at runs
    exact ⟨_, d, runs, park, cell, bed, move, moves, crane, others, taken, kept, ends, work, works, fun without =>
      State.relink_frame (frame without)⟩
  · obtain ⟨l, runs⟩ := exec_report report.reporting n 1 0
    have gates : s.gateRefusal m .place = none := State.gateRefusal_passes (by decide) fun kind _ => by
      obtain ⟨p, piece⟩ := Option.isSome_iff_exists.mp carries
      rw [piece, State.stockAnswers_iff, bare kind]
      exact ⟨fun _ => nofun, fun c dest => arrives kind c p dest piece⟩
    have need : needOf r m .place = ⟨min r.lo m.place, max r.hi m.place⟩ := by simp [needOf_eq]
    obtain ⟨t, takes, move, moves, interval, refusal, others, order, pct, stk, beds, lyt⟩ :=
      (report.sound l).grants_place (only.of_mvu rfl) lifted stop gates (o := o)
        ⟨other, rfl, need ▸ clear, fun k v _ _ _ found => vacates k v found⟩
    rw [takes] at runs
    refine ⟨_, _, runs, fun c dest => ?_, fun b dest => ?_, move, moves, need ▸ interval, refusal, others, order, pct, stk, beds, lyt⟩
    · unfold State.detail
      rw [dest]
    · unfold State.detail
      rw [dest]

end Sys2Proof.Machine
end

section
/-! SUPPORT. Proofs/Yielded.lean: what a refused leg calls for: yields, the mutual wait, PREEMPT and DEADLOCK (R131 to R135, R157). -/

namespace Sys2Proof.Machine

/-! ## Yields and suspension, and a deadlock posted -/

theorem State.createYield_reads (s : State) (y : Crane) (k : Nat) :
    (∀ l, (s.createYield y k).move l = if yieldSlot y = l then some (s.yieldRecord y k) else s.move l)
      ∧ (∀ z, (s.createYield y k).work z = s.work z) ∧ (∀ z, (s.createYield y k).crane z = s.crane z)
      ∧ (s.createYield y k).rru = s.rru ∧ (s.createYield y k).cnd = s.cnd
      ∧ (s.createYield y k).mvu.serial = nextSerial s.mvu.serial :=
  ⟨fun l => State.move_setMove s (yieldSlot y) (some (s.yieldRecord y k)) l, fun z => by cases z <;> rfl, fun z => by cases z <;> rfl,
    rfl, rfl, rfl⟩

/-- What a suspension makes of a move (R157). -/
def Move.suspending (m : Move) : Move :=
  if m.standing then { m with state := .suspended }
  else if m.state = .toPick then { m with stop := stopToSuspend m.stop }
  else m

section
variable {s : State} {i : Nat} {m : Move} (held : s.move i = some m)
include held

theorem State.suspendMove_reads : (∀ l, (s.suspendMove i).move l = if i = l then some m.suspending else s.move l)
    ∧ (∀ z, (s.suspendMove i).work z = s.work z)
    ∧ (∀ z, ((s.suspendMove i).crane z).interval = (s.crane z).interval)
    ∧ (∀ z, z ≠ m.crane → (s.suspendMove i).crane z = s.crane z)
    ∧ (m.standing = true → ((s.suspendMove i).crane m.crane).refusal = refusalWithout (s.crane m.crane).refusal m.serial)
    ∧ (s.suspendMove i).mvu.serial = s.mvu.serial := by
  unfold State.suspendMove Move.suspending
  rw [held]
  dsimp only
  by_cases stands : m.standing = true
  · rw [if_pos stands, if_pos stands]
    have cranes := s.crane_setAside i m .suspended m.reason
    refine ⟨s.move_setAside i m .suspended m.reason, s.work_setAside i m .suspended m.reason, fun z => ?_, fun z away => ?_, fun _ => ?_, ?_⟩
    · rw [cranes]
      split
      · next same => rw [same]
      · rfl
    · rw [cranes, if_neg (Ne.symm away)]
    · rw [cranes, if_pos rfl]
    · rw [(s.setAside_pair i m .suspended m.reason).mvu]
      generalize m.crane = z
      cases z <;> rfl
  · rw [if_neg stands, if_neg stands]
    by_cases picks : m.state = .toPick
    · rw [if_pos picks, if_pos picks]
      have pair := (s.setMove i (some { m with stop := stopToSuspend m.stop })).withdrawOf_pair m.crane m.serial
      have cranes : ∀ z, ((s.setMove i (some { m with stop := stopToSuspend m.stop })).withdrawOf m.crane m.serial).crane z
          = if m.crane = z then { s.crane m.crane with refusal := refusalWithout (s.crane m.crane).refusal m.serial } else s.crane z := fun z => by
        rw [pair.crane, State.crane_setCrane, State.crane_setMove, State.crane_setMove]
      refine ⟨fun l => ?_, fun z => ?_, fun z => ?_, fun z away => ?_, fun both => absurd both stands, ?_⟩
      · rw [pair.move, State.move_setCrane, State.move_setMove]
      · rw [pair.work, State.work_setCrane, State.work_setMove]
      · rw [cranes]
        split
        · next same => rw [same]
        · rfl
      · rw [cranes, if_neg (Ne.symm away)]
      · rw [pair.mvu]
        generalize m.crane = z
        cases z <;> rfl
    · rw [if_neg picks, if_neg picks]
      refine ⟨fun l => ?_, fun _ => rfl, fun _ => rfl, fun _ _ => rfl, fun both => absurd both stands, rfl⟩
      split
      · next same => rw [← same, held]
      · rfl

/-- A yield called with a suspension (R157). -/
theorem State.callYield_reads {y : Crane} (below : i < 16) (k : Nat) :
    (s.callYield y k (some i)).move i = some m.suspending
      ∧ (s.callYield y k (some i)).move (yieldSlot y) = some (s.yieldRecord y k)
      ∧ (∀ l, l ≠ i → l ≠ yieldSlot y → (s.callYield y k (some i)).move l = s.move l)
      ∧ (m.standing = true → ((s.callYield y k (some i)).crane m.crane).refusal = refusalWithout (s.crane m.crane).refusal m.serial) := by
  obtain ⟨moves, -, -, -, refusal, serial⟩ := State.suspendMove_reads held
  obtain ⟨created, -, cranes, -⟩ := (s.suspendMove i).createYield_reads y k
  have away : yieldSlot y ≠ i := Nat.ne_of_gt (Nat.lt_of_lt_of_le below (sixteen_le_yieldSlot y))
  refine ⟨?_, ?_, fun l other apart => ?_, fun stands => ?_⟩
  · exact (created i).trans ((if_neg away).trans ((moves i).trans (if_pos rfl)))
  · have same : (s.suspendMove i).yieldRecord y k = s.yieldRecord y k := by
      unfold State.yieldRecord
      rw [serial]
    exact same ▸ (created _).trans (if_pos rfl)
  · exact (created l).trans ((if_neg (Ne.symm apart)).trans ((moves l).trans (if_neg (Ne.symm other))))
  · exact (congrArg CraneRec.refusal (cranes _)).trans (refusal stands)

end

/-- A deadlock posted touches the pair and the condition sets alone (R135). -/
theorem State.postDeadlock_pair (s : State) (low : Nat) (high : Option Nat) : s.pairOnly (s.postDeadlock low high) := by
  have ends : s.pairOnly s.endDeadlock := by
    unfold State.endDeadlock
    split
    · exact State.pairOnly.trans ⟨none, _, rfl⟩ (State.endCause_only _ _ _ _).pair
    · exact .refl s
  unfold State.postDeadlock
  split
  · exact .refl s
  · exact (ends.trans ⟨some (low, high), _, rfl⟩).trans (State.raiseCause_only _ _ _ _).pair

/-- A deadlock posted where none stands (R135). -/
theorem State.postDeadlock_stands {s : State} (none : s.rru.deadlock = none) (low : Nat) (high : Option Nat) :
    (s.postDeadlock low high).rru.deadlock = some (low, high)
      ∧ ∀ p, s.modeOf p .deadlock = .both → ((s.postDeadlock low high).condSet p).overflow = false →
        ((s.postDeadlock low high).condSet p).stands .deadlock (.serial low) := by
  have posted : s.postDeadlock low high
      = ({ s with rru := { s.rru with deadlock := some (low, high) } } : State).raiseCause [.PL, .CW, .CE] .deadlock (.serial low) := by
    unfold State.postDeadlock State.inDeadlock State.endDeadlock
    rw [none]
    rfl
  obtain ⟨u, paired⟩ : ∃ u : State, u = { s with rru := { s.rru with deadlock := some (low, high) } } := ⟨_, rfl⟩
  rw [posted, ← paired]
  have sets := u.raiseCause_only [.PL, .CW, .CE] .deadlock (.serial low)
  refine ⟨?_, fun p both kept => State.raiseCause_stands (by cases p <;> decide) ?_ kept⟩
  · rw [sets.rru, paired]
  · rw [paired, ← both]
    cases p <;> rfl

/-! ## What a call leaves -/

/-- Moves are suspended, stopped or made to yield: no interval changes, and nothing gets under way. -/
structure State.calls (s t : State) (x : Crane) : Prop where
  interval : ∀ y, (t.crane y).interval = (s.crane y).interval
  noWay : s.noWay x → t.noWay x

theorem State.calls.refl (s : State) (x : Crane) : s.calls s x := ⟨fun _ => rfl, id⟩

theorem State.calls.trans {s t u : State} {x : Crane} (h : s.calls t x) (g : t.calls u x) : s.calls u x :=
  ⟨fun y => (g.interval y).trans (h.interval y), fun none => g.noWay (h.noWay none)⟩

theorem State.calls_suspendMove (s : State) (i : Nat) (x : Crane) : s.calls (s.suspendMove i) x := by
  cases held : s.move i with
  | none =>
    unfold State.suspendMove
    rw [held]
    exact .refl s x
  | some m =>
    obtain ⟨moves, -, interval, -⟩ := State.suspendMove_reads held
    refine ⟨interval, fun none j o less at_j mine => ?_⟩
    rw [moves] at at_j
    split at at_j
    · next same =>
      obtain rfl := Option.some.inj at_j
      unfold Move.suspending at mine ⊢
      split at mine
      · next stands => rw [if_pos stands]; rfl
      · next still =>
        rw [if_neg still]
        split at mine
        · next picks =>
          have idle := none i m (same ▸ less) held mine
          rw [(Move.underWay_toPick picks).1] at idle
          exact nomatch idle
        · next other =>
          rw [if_neg other]
          exact none i m (same ▸ less) held mine
    · exact none j o less at_j mine

theorem State.calls_callYield (s : State) (y : Crane) (k : Nat) (i : Option Nat) (x : Crane) : s.calls (s.callYield y k i) x := by
  have yields : ∀ t : State, t.calls (t.createYield y k) x := fun t => by
    obtain ⟨moves, -, cranes, -⟩ := t.createYield_reads y k
    refine ⟨fun z => by rw [cranes], fun none j o less at_j mine => ?_⟩
    rw [moves] at at_j
    split at at_j
    · obtain rfl := Option.some.inj at_j
      rfl
    · exact none j o less at_j mine
  cases i with
  | none => exact yields s
  | some i => exact (s.calls_suspendMove i x).trans (yields _)

theorem State.calls_postDeadlock (s : State) (low : Nat) (high : Option Nat) (x : Crane) : s.calls (s.postDeadlock low high) x := by
  have pair := s.postDeadlock_pair low high
  exact ⟨fun y => by rw [pair.crane], fun none j o less at_j mine => none j o less ((pair.move j).symm.trans at_j) mine⟩

theorem State.calls_mutualWait (s : State) (z : Crane) (n : Nat) (need : Range) (x : Crane) : s.calls (s.mutualWait z n need) x := by
  unfold State.mutualWait
  split
  · split
    · dsimp only
      split
      · exact .refl s x
      · split
        all_goals
          split
          · exact s.calls_callYield _ _ _ x
          · exact s.calls_callYield _ _ _ x
          · exact s.calls_postDeadlock _ _ x
    · exact .refl s x
  · exact .refl s x

theorem State.calls_resolveRefusal (s : State) (z : Crane) (m : Move) (why : WaitReason) (need : Range) (x : Crane) :
    s.calls (s.resolveRefusal z m why need) x := by
  unfold State.resolveRefusal
  cases why with
  | runway =>
    dsimp only
    split
    · split
      · exact s.calls_callYield _ _ _ x
      · exact s.calls_postDeadlock _ _ x
    · split
      · split
        · exact s.calls_callYield _ _ _ x
        · exact s.calls_mutualWait _ _ _ x
      · exact s.calls_mutualWait _ _ _ x
  | loadedConflict => exact s.calls_mutualWait _ _ _ x
  | _ => exact .refl s x

/-! ## Who yields (R131) -/

section
variable {s : State} {x : Crane} {i : Nat} {m : Move}

theorem State.yieldFor_eq (held : s.move i = some m) (need : Range) : s.yieldFor x (some i) need
    = if m.suspendable = true ∧ m.isLifted = false ∧ i < 16 ∧ s.move (yieldSlot x) = none then yieldTarget s.lyt.yard.gap x need else none := by
  unfold State.yieldFor State.yieldMove
  dsimp only
  rw [held]
  refine if_congr ?_ rfl rfl
  rw [Bool.and_eq_true, Bool.and_eq_true, Bool.and_eq_true, decide_eq_true_eq, decide_eq_true_eq, Option.isNone_iff_eq_none, and_assoc, and_assoc]
  rfl

end

section
variable {s : State} {x : Crane} {mine theirs : Nat} {r need their : Range} {a b : Option Nat}
  (refusal : (s.crane x.other).refusal = some ⟨theirs, .runway, some their⟩) (interval : (s.crane x).interval = some r)
  (close : clearOf s.lyt.yard.gap x.other their r = false)
include refusal interval close

/-- The mutual wait, by what each crane could do (R131). -/
theorem State.mutualWait_yields {k : Nat} (other : s.yieldFor x.other (s.slotOf theirs) need = some k)
    (wins : mine < theirs ∨ s.yieldFor x (s.slotOf mine) their = none) :
    s.mutualWait x mine need = s.callYield x.other k (s.slotOf theirs) := by
  unfold State.mutualWait
  rw [refusal, interval]
  dsimp only
  rw [close, other, if_neg (by decide)]
  by_cases less : mine < theirs
  · rw [if_pos less]
  · rw [if_neg less, wins.resolve_left less]

theorem State.mutualWait_yields_self {k : Nat} (self : s.yieldFor x (s.slotOf mine) their = some k)
    (loses : theirs < mine ∨ s.yieldFor x.other (s.slotOf theirs) need = none) :
    s.mutualWait x mine need = s.callYield x k (s.slotOf mine) := by
  unfold State.mutualWait
  rw [refusal, interval]
  dsimp only
  rw [close, self, if_neg (by decide)]
  by_cases less : mine < theirs
  · rw [if_pos less, loses.resolve_left (by omega)]
  · rw [if_neg less]

theorem State.mutualWait_stuck (self : s.yieldFor x (s.slotOf mine) their = none)
    (other : s.yieldFor x.other (s.slotOf theirs) need = none) :
    s.mutualWait x mine need = s.postDeadlock (min mine theirs) (some (max mine theirs)) := by
  unfold State.mutualWait
  rw [refusal, interval]
  dsimp only
  rw [close, self, other, if_neg (by decide)]
  exact ite_self _

end

/-! ## The report at which the leg is refused -/

/-- `u` comes of `s` with the crane's one move refused, and nothing yet done about it (R130, R150). -/
structure State.blocked (s u : State) (x : Crane) (i : Nat) (m : Move) (why : WaitReason) (need r : Range) : Prop where
  only : s.onlyMove x i m
  record : u.move i = some { m with state := .waiting, reason := some why }
  moves : ∀ j, j ≠ i → u.move j = s.move j
  works : ∀ y, u.work y = s.work y
  refusal : (u.crane x).refusal = some ⟨m.serial, why, some need⟩
  interval : (u.crane x).interval = some r
  other : u.crane x.other = s.crane x.other
  layout : u.lyt = s.lyt
  serial : u.mvu.serial = s.mvu.serial
  deadlock : u.rru.deadlock = s.rru.deadlock
  sets : u.cnd = s.cnd
  modes : ∀ p k, u.modeOf p k = s.modeOf p k

section
variable {s : State} {x : Crane} {n i : Nat} {m : Move} {leg : Leg} {r : Range}

/-- The reason of a leg refused against the other crane's interval or hull (R127). -/
def State.blockReason (s : State) (x : Crane) (m : Move) (leg : Leg) : WaitReason :=
  if s.loadedConflict x m leg = true then .loadedConflict else .runway

/-- The leg is refused, what the refusal calls for follows, and the order is IDLE (R127, R150, R151). -/
theorem State.asksFor.blocks (a : s.asksFor x n i m leg r) (passes : s.gatesPass m leg) {o : Range} (other : (s.crane x.other).interval = some o)
    (close : s.loadedConflict x m leg = false → clearOf s.lyt.yard.gap x (needOf r m leg) o = false) :
    ∃ u : State, s.blocked u x i m (s.blockReason x m leg) (needOf r m leg) r
      ∧ s.takeReport x n 0 0 = ((u.resolveRefusal x m (s.blockReason x m leg) (needOf r m leg)).ordered x .idle, orderReply true .idle)
      ∧ u.calls (u.resolveRefusal x m (s.blockReason x m leg) (needOf r m leg)) x := by
  obtain ⟨interval, active, breach, refusal, vother⟩ := a.reads
  have own := a.refusal
  rw [← refusal] at own
  have verdict : (s.reported x n .empty).runwayVerdict x m leg = .refused (s.blockReason x m leg) (some (needOf r m leg)) := by
    have light : (s.reported x n .empty).loadedConflict x m leg = s.loadedConflict x m leg := by cases x <;> rfl
    have gap : (s.reported x n .empty).lyt = s.lyt := by cases x <;> rfl
    rw [State.verdict_eq interval active breach (vother ▸ other), light, gap]
    unfold State.blockReason
    cases loaded : s.loadedConflict x m leg with
    | true => rfl
    | false => exact if_pos (close loaded)
  have asked := State.askLeg_refused (i := i) own ((passes.reported x n .empty).none a.carries) verdict
  obtain ⟨vmvu, vmoves, vworks, -, -, -, -⟩ := s.reported_reads x n .empty
  have asks := a.asks
  have frame : (s.reported x n .empty).lyt = s.lyt ∧ (s.reported x n .empty).rru.deadlock = s.rru.deadlock
      ∧ (s.reported x n .empty).cnd = s.cnd := by cases x <;> exact ⟨rfl, rfl, rfl⟩
  obtain ⟨v, heard⟩ : ∃ v, v = s.reported x n .empty := ⟨_, rfl⟩
  rw [← heard] at vmvu vmoves vworks vother interval breach asked asks frame
  obtain ⟨lyt, deadlock, cnd⟩ := frame
  generalize s.blockReason x m leg = why at asked ⊢
  generalize needOf r m leg = need at asked ⊢
  obtain ⟨moves, works, cranes, -, -, latch, pair, serial, M, Q, whole⟩ := v.refusedAt_reads x i m why (some ⟨m.serial, why, some need⟩)
  obtain ⟨u, at_u⟩ : ∃ u, u = v.refusedAt x i m why (some ⟨m.serial, why, some need⟩) := ⟨_, rfl⟩
  rw [← at_u] at moves works cranes latch pair serial whole asked
  have blocked : s.blocked u x i m why need r := {
    only := a.only
    record := by rw [moves, if_pos rfl, Move.refused_standing a.stands]
    moves := fun j away => by rw [moves, if_neg (Ne.symm away), vmoves]
    works := fun y => (works y).trans (vworks y)
    refusal := by rw [cranes, if_pos rfl]
    interval := by rw [cranes, if_pos rfl]; exact interval
    other := by rw [cranes, if_neg (State.other_ne x), vother]
    layout := by rw [whole]; exact lyt
    serial := by rw [serial, vmvu]
    deadlock := pair.trans deadlock
    sets := by rw [whole]; exact cnd
    modes := fun p k => by
      have same : u.cnd = s.cnd := by rw [whole]; exact cnd
      cases p <;> (unfold State.modeOf State.condSet; rw [same]) }
  have calls := u.calls_resolveRefusal x m why need x
  have noWay : u.noWay x := fun j o less held mine => by
    by_cases same : j = i
    · subst same
      obtain rfl := Option.some.inj (blocked.record.symm.trans held)
      rfl
    · exact absurd mine (a.only.alone j o less same (blocked.moves j same ▸ held))
  refine ⟨u, blocked, ?_, calls⟩
  have quiet : ((u.resolveRefusal x m why need).work x).mismatch = false := by
    have watched : isWatched .hookMismatch := .inr (.inr rfl)
    rw [(State.watches_resolveRefusal watched u x m why need).mismatch rfl x, works, vworks]
    exact a.sound.hook
  rw [asks, asked]
  exact State.giveOrder_eq (State.composeOrder_idle ((u.moved_resolveRefusal x m why need).breach.trans (latch.trans breach)) quiet
    (calls.noWay noWay).underWay) true

end

/-! ## What each refusal calls for -/

theorem State.onlyMove.apart {s : State} {x : Crane} {i j : Nat} {m q : Move} (only : s.onlyMove x i m) (held : s.move j = some q)
    (crane : q.crane = x.other) : j ≠ i := fun same => by
  subst same
  obtain rfl := Option.some.inj (held.symm.trans only.held)
  exact State.other_ne x (only.crane.symm.trans crane)

section
variable {s u : State} {x : Crane} {i : Nat} {m : Move} {why : WaitReason} {need r : Range} (b : s.blocked u x i m why need r)
include b

theorem State.blocked.away : yieldSlot x.other ≠ i := Nat.ne_of_gt (Nat.lt_of_lt_of_le b.only.slot (sixteen_le_yieldSlot _))

theorem State.blocked.away_self : yieldSlot x ≠ i := Nat.ne_of_gt (Nat.lt_of_lt_of_le b.only.slot (sixteen_le_yieldSlot _))

/-- An idle crane is told to yield, or the wait is a deadlock (R133). -/
theorem State.blocked.idle (runway : why = .runway) (present : (s.crane x.other).presence = .active) (orphan : (s.work x.other).orphan = none)
    (yields : s.move (yieldSlot x.other) = none) (none : ∀ j q, j < 16 → s.move j = some q → q.crane ≠ x.other) :
    u.resolveRefusal x m why need = match yieldTarget s.lyt.yard.gap x.other need with
      | some k => u.createYield x.other k
      | .none => u.postDeadlock m.serial .none := by
  have free : u.findSlot Config.moveSlots (fun q => q.crane = x.other) = .none := State.findSlot_none fun j q less held => by
    by_cases same : j = i
    · subst same
      obtain rfl := Option.some.inj (b.record.symm.trans held)
      refine decide_eq_false fun crane => State.other_ne x (b.only.crane.symm.trans crane)
    · exact decide_eq_false (none j q less (b.moves j same ▸ held))
  have idle : u.idle x.other = true := by
    unfold State.idle State.yieldMove
    rw [free, b.moves _ b.away, yields, b.other, present, b.works, orphan]
    rfl
  subst runway
  unfold State.resolveRefusal
  dsimp only
  rw [if_pos idle, b.layout]
  rfl

/-- A crane with a move is not idle. -/
theorem State.blocked.busy {j : Nat} {q : Move} (slot : j < 16) (held : s.move j = some q) (crane : q.crane = x.other) :
    u.idle x.other = false := by
  have found : (u.findSlot Config.moveSlots (fun q => q.crane = x.other)).isSome = true := by
    rw [State.findSlot_isSome]
    exact ⟨j, q, slot, (b.moves j (b.only.apart held crane)).trans held, decide_eq_true crane⟩
  unfold State.idle
  rw [Option.isNone_eq_false_iff.mpr found]
  rfl

/-- Where the other crane has a move, and this one is no PREEMPT or is refused for a carry hull, the wait may be mutual (R131). -/
theorem State.blocked.mutual {j : Nat} {q : Move} (slot : j < 16) (held : s.move j = some q) (crane : q.crane = x.other)
    (reason : why = .loadedConflict ∨ (why = .runway ∧ m.style ≠ .preempt)) :
    u.resolveRefusal x m why need = u.mutualWait x m.serial need := by
  unfold State.resolveRefusal
  rcases reason with rfl | ⟨rfl, style⟩
  · rfl
  · dsimp only
    rw [b.busy slot held crane, if_neg (by decide), if_neg style]

/-- What this crane's move could do as the loser of a mutual wait (R131). -/
theorem State.blocked.self_yields (theirs : Range) : u.yieldFor x (some i) theirs
    = if m.suspendable = true then yieldTarget s.lyt.yard.gap x theirs else none := by
  rw [State.yieldFor_eq b.record, b.layout, b.moves _ b.away_self, b.only.yields]
  exact if_congr ⟨fun all => all.1, fun able => ⟨able, rfl, b.only.slot, rfl⟩⟩ rfl rfl

/-- What the other crane's move could do (R131). -/
theorem State.blocked.other_yields {j : Nat} {q : Move} (slot : j < 16) (held : s.move j = some q) (crane : q.crane = x.other) :
    u.yieldFor x.other (some j) need = if q.suspendable = true ∧ q.isLifted = false ∧ s.move (yieldSlot x.other) = none then
      yieldTarget s.lyt.yard.gap x.other need else none := by
  rw [State.yieldFor_eq ((b.moves j (b.only.apart held crane)).trans held), b.layout, b.moves _ b.away]
  exact if_congr ⟨fun ⟨able, down, _, free⟩ => ⟨able, down, free⟩, fun ⟨able, down, free⟩ => ⟨able, down, slot, free⟩⟩ rfl rfl

/-- A serial that one move alone has names the same slot still. -/
theorem State.blocked.slotOf {j : Nat} {q : Move} (slot : j < 18) (held : s.move j = some q)
    (unique : ∀ k q', k < 18 → s.move k = some q' → q'.serial = q.serial → k = j) : u.slotOf q.serial = some j := by
  have before : ∀ k q', u.move k = some q' → ∃ o, s.move k = some o ∧ o.serial = q'.serial := fun k q' found => by
    by_cases same : k = i
    · subst same
      obtain rfl := Option.some.inj (b.record.symm.trans found)
      exact ⟨m, b.only.held, rfl⟩
    · exact ⟨q', b.moves k same ▸ found, rfl⟩
  have after : ∃ q', u.move j = some q' ∧ q'.serial = q.serial := by
    by_cases same : j = i
    · subst same
      obtain rfl := Option.some.inj (held.symm.trans b.only.held)
      exact ⟨_, b.record, rfl⟩
    · exact ⟨q, (b.moves j same).trans held, rfl⟩
  obtain ⟨q', found, serial⟩ := after
  rw [← serial]
  refine State.slotOf_eq slot found fun k p less at_k same => ?_
  obtain ⟨o, at_s, serials⟩ := before k p at_k
  exact unique k o less at_s (serials.trans (same.trans serial))

/-- The other crane's one move, not SUSPENDED, is that crane's head (R134, R148). -/
theorem State.blocked.head {j : Nat} {q : Move} (only : s.onlyMove x.other j q) (lane : (s.work x.other).lane = .none)
    (stands : q.standing = true ∨ q.underWay = true) : u.headSlot x.other = some j := by
  have apart := b.only.apart only.held only.crane
  have held : u.move j = some q := (b.moves j apart).trans only.held
  have alone : u.aloneAt x.other j := fun k o less away found => by
    by_cases same : k = i
    · subst same
      obtain rfl := Option.some.inj (b.record.symm.trans found)
      exact fun crane => State.other_ne x (b.only.crane.symm.trans crane)
    · exact only.alone k o less away (b.moves k same ▸ found)
  have active := alone.activeSlot held only.crane (Nat.lt_of_lt_of_le only.slot (by decide))
  unfold State.headSlot
  rw [active]
  cases up : q.underWay with
  | true => rfl
  | false =>
    have standing := stands.resolve_right (by rw [up]; decide)
    have passed : ¬u.lanePasses x.other q := fun passes => passes.1 (by rw [b.works, lane])
    unfold State.yieldMove State.candidate
    rw [b.moves _ b.away, only.yields, b.works, only.queue,
      State.examine_head held (Move.standing_idle (Move.standing_iff.mp standing)).2.2 passed]
    rfl

/-- A PREEMPT's RUNWAY suspends a suspendable head, whatever the serials (R134). -/
theorem State.blocked.preempts {j k : Nat} {q : Move} (runway : why = .runway) (style : m.style = .preempt) (only : s.onlyMove x.other j q)
    (lane : (s.work x.other).lane = .none) (able : q.suspendable = true) (target : yieldTarget s.lyt.yard.gap x.other need = some k)
    (stands : q.standing = true ∨ q.state = .toPick) : u.resolveRefusal x m why need = u.callYield x.other k (some j) := by
  have down : q.isLifted = false := by
    rcases stands with standing | picks
    · exact (Move.standing_idle (Move.standing_iff.mp standing)).2.1
    · exact (Move.underWay_toPick picks).2.1
  have head := b.head only lane (stands.imp id fun picks => (Move.underWay_toPick picks).1)
  have yields := b.other_yields only.slot only.held only.crane
  rw [if_pos ⟨able, down, only.yields⟩, target] at yields
  subst runway
  unfold State.resolveRefusal
  dsimp only
  rw [b.busy only.slot only.held only.crane, if_neg (by decide), if_pos style, head, yields]

end

/-! ## The three cases, and the obligation -/

theorem yieldTarget_eq (g : Nat) (need : Range) : yieldTarget g .E need = (if need.hi + g + 1 < 32 then some (need.hi + g + 1) else none)
    ∧ yieldTarget g .W need = (if g + 1 ≤ need.lo then some (need.lo - g - 1) else none) := ⟨rfl, rfl⟩

theorem Move.suspending_standing {m : Move} (stands : m.standing = true) : m.suspending = { m with state := .suspended } := if_pos stands

theorem Move.suspending_toPick {m : Move} (picks : m.state = .toPick) : m.suspending = { m with stop := stopToSuspend m.stop } := by
  unfold Move.suspending
  rw [(Move.underWay_toPick picks).2.2.1, if_neg (by decide), if_pos picks]

section
variable {s u : State} {x : Crane} {i : Nat} {m : Move} {why : WaitReason} {need r : Range} (b : s.blocked u x i m why need r)
include b

/-- An idle crane in the way (R133). -/
theorem State.blocked.calls_idle (runway : why = .runway) (present : (s.crane x.other).presence = .active)
    (orphan : (s.work x.other).orphan = none) (yields : s.move (yieldSlot x.other) = none)
    (none : ∀ j q, j < 16 → s.move j = some q → q.crane ≠ x.other) {w : State} (called : w = u.resolveRefusal x m why need) :
    w.move i = some { m with state := .waiting, reason := some .runway } ∧ (w.crane x).refusal = some ⟨m.serial, .runway, some need⟩
      ∧ (∀ k, yieldTarget s.lyt.yard.gap x.other need = some k →
        w.move (yieldSlot x.other) = some (s.yieldRecord x.other k)
        ∧ w.mvu.serial = (if s.mvu.serial = 4294967295 then 1 else s.mvu.serial + 1) ∧ w.cnd = s.cnd)
      ∧ (yieldTarget s.lyt.yard.gap x.other need = .none → s.rru.deadlock = .none →
        w.rru.deadlock = some (m.serial, .none) ∧ w.move (yieldSlot x.other) = .none
        ∧ ∀ p, s.modeOf p .deadlock = .both → (w.condSet p).overflow = false →
          (w.condSet p).stands .deadlock (.serial m.serial)) := by
  have resolved := b.idle runway present orphan yields none
  rw [← called] at resolved
  have record := b.record
  have refusal := b.refusal
  rw [runway] at record refusal
  cases target : yieldTarget s.lyt.yard.gap x.other need with
  | some k =>
    rw [target] at resolved
    obtain ⟨moves, -, cranes, -, cnd, serial⟩ := u.createYield_reads x.other k
    have same : u.yieldRecord x.other k = s.yieldRecord x.other k := by
      unfold State.yieldRecord
      rw [b.serial]
    have next : w.mvu.serial = nextSerial s.mvu.serial := by rw [resolved, serial, b.serial]
    refine ⟨by rw [resolved, moves, if_neg b.away, record], by rw [resolved, cranes, refusal], fun k' found => ?_, nofun⟩
    obtain rfl := Option.some.inj found
    exact ⟨by rw [resolved, moves, if_pos rfl, same], next, by rw [resolved, cnd, b.sets]⟩
  | none =>
    rw [target] at resolved
    have pair : u.pairOnly w := resolved ▸ u.postDeadlock_pair m.serial .none
    refine ⟨(pair.move i).trans record, (congrArg CraneRec.refusal (pair.crane x)).trans refusal, nofun, fun _ bare => ?_⟩
    obtain ⟨deadlock, stands⟩ := State.postDeadlock_stands (b.deadlock.trans bare) m.serial .none
    exact ⟨resolved ▸ deadlock, by rw [pair.move, b.moves _ b.away, yields], fun p both => resolved ▸ stands p ((b.modes p _).trans both)⟩

end

section
variable {s u : State} {x : Crane} {i j : Nat} {m q : Move} {why : WaitReason} {need r theirs : Range} (b : s.blocked u x i m why need r)
  (refusal : (s.crane x.other).refusal = some ⟨q.serial, .runway, some theirs⟩)
  (close : clearOf s.lyt.yard.gap x.other theirs r = false) (slot : j < 16) (held : s.move j = some q) (crane : q.crane = x.other)
  (unique : ∀ k q', k < 18 → s.move k = some q' → q'.serial = q.serial → k = j)
  (own : ∀ k q', k < 18 → s.move k = some q' → q'.serial = m.serial → k = i)
  (reason : why = .loadedConflict ∨ (why = .runway ∧ m.style ≠ .preempt)) {w : State} (called : w = u.resolveRefusal x m why need)
include b refusal close slot held crane unique own reason called

/-- The other crane's move yields in a mutual wait (R131, R157). -/
theorem State.blocked.other_loses {k : Nat} (able : q.suspendable = true) (down : q.isLifted = false)
    (free : s.move (yieldSlot x.other) = none) (target : yieldTarget s.lyt.yard.gap x.other need = some k)
    (wins : m.serial < q.serial ∨ m.suspendable = false ∨ yieldTarget s.lyt.yard.gap x theirs = none) :
    (q.standing = true → w.move j = some { q with state := .suspended } ∧ (w.crane x.other).refusal = none)
      ∧ (∃ y, w.move (yieldSlot x.other) = some y ∧ y.serial = s.mvu.serial ∧ y.place = k ∧ y.state = .waiting)
      ∧ (∃ why, w.move i = some { m with state := .waiting, reason := some why })
      ∧ w.move (yieldSlot x) = none := by
  have slots := b.slotOf (Nat.lt_of_lt_of_le slot (by decide)) held unique
  have mine := b.slotOf (Nat.lt_of_lt_of_le b.only.slot (by decide)) b.only.held own
  have other := b.other_yields slot held crane
  rw [if_pos ⟨able, down, free⟩, target, ← slots] at other
  have self : m.serial < q.serial ∨ u.yieldFor x (u.slotOf m.serial) theirs = none := by
    rw [mine, b.self_yields]
    rcases wins with less | unable | outside
    · exact .inl less
    · exact .inr (if_neg (by rw [unable]; decide))
    · exact .inr (by rw [outside, ite_self])
  have resolved := (b.mutual slot held crane reason).trans (State.mutualWait_yields (b.other ▸ refusal) b.interval (b.layout ▸ close) other self)
  rw [← called, slots] at resolved
  have apart := b.only.apart held crane
  obtain ⟨suspends, yields, kept, refusals⟩ := State.callYield_reads (y := x.other) ((b.moves j apart).trans held) slot k
  rw [resolved]
  refine ⟨fun stands => ⟨by rw [suspends, Move.suspending_standing stands], ?_⟩, ⟨_, yields, b.serial, rfl, rfl⟩, ⟨why, ?_⟩, ?_⟩
  · have gone := refusals stands
    rw [crane] at gone
    rw [gone, b.other, refusal]
    exact if_pos rfl
  · rw [kept i (Ne.symm apart) b.away.symm, b.record]
  · rw [kept (yieldSlot x) (fun same => ?_) (by cases x <;> decide), b.moves _ b.away_self, b.only.yields]
    have high := sixteen_le_yieldSlot x
    omega

/-- The crane's own move yields in a mutual wait (R131, R157). -/
theorem State.blocked.self_loses {k : Nat} (able : m.suspendable = true) (target : yieldTarget s.lyt.yard.gap x theirs = some k)
    (loses : q.serial < m.serial ∨ q.suspendable = false ∨ q.isLifted = true ∨ s.move (yieldSlot x.other) ≠ none
      ∨ yieldTarget s.lyt.yard.gap x.other need = none) :
    (∃ why, w.move i = some { m with state := .suspended, reason := some why }) ∧ (w.crane x).refusal = none
      ∧ (∃ y, w.move (yieldSlot x) = some y ∧ y.serial = s.mvu.serial ∧ y.place = k ∧ y.state = .waiting)
      ∧ w.move j = some q := by
  have slots := b.slotOf (Nat.lt_of_lt_of_le slot (by decide)) held unique
  have mine := b.slotOf (Nat.lt_of_lt_of_le b.only.slot (by decide)) b.only.held own
  have self := b.self_yields theirs
  rw [if_pos able, target, ← mine] at self
  have other : q.serial < m.serial ∨ u.yieldFor x.other (u.slotOf q.serial) need = none := by
    rw [slots, b.other_yields slot held crane]
    rcases loses with less | unable | lifted | yields | outside
    · exact .inl less
    · exact .inr (if_neg fun all => by rw [unable] at all; exact nomatch all.1)
    · exact .inr (if_neg fun all => by rw [lifted] at all; exact nomatch all.2.1)
    · exact .inr (if_neg fun all => yields all.2.2)
    · exact .inr (by rw [outside, ite_self])
  have resolved := (b.mutual slot held crane reason).trans
    (State.mutualWait_yields_self (b.other ▸ refusal) b.interval (b.layout ▸ close) self other)
  rw [← called, mine] at resolved
  have apart := b.only.apart held crane
  obtain ⟨suspends, yields, kept, refusals⟩ := State.callYield_reads (y := x) b.record b.only.slot k
  rw [resolved]
  refine ⟨⟨why, by rw [suspends, Move.suspending_standing rfl]⟩, ?_, ⟨_, yields, b.serial, rfl, rfl⟩, ?_⟩
  · have gone := refusals rfl
    rw [show ({ m with state := .waiting, reason := some why } : Move).crane = x from b.only.crane, b.refusal] at gone
    rw [gone]
    exact if_pos rfl
  · rw [kept j apart (fun same => ?_), b.moves j apart, held]
    have high := sixteen_le_yieldSlot x
    omega

/-- Neither can yield: a deadlock (R131, R135). -/
theorem State.blocked.stuck (pair : s.rru.deadlock = none)
    (self : m.suspendable = false ∨ yieldTarget s.lyt.yard.gap x theirs = none)
    (other : q.suspendable = false ∨ q.isLifted = true ∨ s.move (yieldSlot x.other) ≠ none
      ∨ yieldTarget s.lyt.yard.gap x.other need = none) :
    w.rru.deadlock = some (min m.serial q.serial, some (max m.serial q.serial)) ∧ w.move j = some q
      ∧ (∃ why, w.move i = some { m with state := .waiting, reason := some why })
      ∧ ∀ p, s.modeOf p .deadlock = .both → (w.condSet p).overflow = false →
        (w.condSet p).stands .deadlock (.serial (min m.serial q.serial)) := by
  have slots := b.slotOf (Nat.lt_of_lt_of_le slot (by decide)) held unique
  have mine := b.slotOf (Nat.lt_of_lt_of_le b.only.slot (by decide)) b.only.held own
  have none : u.yieldFor x (u.slotOf m.serial) theirs = none := by
    rw [mine, b.self_yields]
    rcases self with unable | outside
    · exact if_neg (by rw [unable]; decide)
    · rw [outside, ite_self]
  have others : u.yieldFor x.other (u.slotOf q.serial) need = .none := by
    rw [slots, b.other_yields slot held crane]
    rcases other with unable | lifted | yields | outside
    · exact if_neg fun all => by rw [unable] at all; exact nomatch all.1
    · exact if_neg fun all => by rw [lifted] at all; exact nomatch all.2.1
    · exact if_neg fun all => yields all.2.2
    · rw [outside, ite_self]
  have resolved := (b.mutual slot held crane reason).trans (State.mutualWait_stuck (b.other ▸ refusal) b.interval (b.layout ▸ close) none others)
  rw [← called] at resolved
  have kept : u.pairOnly w := resolved ▸ u.postDeadlock_pair _ _
  obtain ⟨deadlock, stands⟩ := State.postDeadlock_stands (b.deadlock.trans pair) (min m.serial q.serial) (some (max m.serial q.serial))
  exact ⟨resolved ▸ deadlock, by rw [kept.move, b.moves j (b.only.apart held crane), held], ⟨why, by rw [kept.move, b.record]⟩,
    fun p both => resolved ▸ stands p ((b.modes p _).trans both)⟩

end

/-- A PREEMPT in the way of a suspendable head (R134, R157). -/
theorem State.blocked.calls_preempt {s u : State} {x : Crane} {i j k : Nat} {m q : Move} {why : WaitReason} {need r : Range}
    (b : s.blocked u x i m why need r) (runway : why = .runway) (style : m.style = .preempt) (only : s.onlyMove x.other j q)
    (lane : (s.work x.other).lane = .none) (able : q.suspendable = true) (target : yieldTarget s.lyt.yard.gap x.other need = some k)
    {w : State} (called : w = u.resolveRefusal x m why need) :
    (q.standing = true → w.move j = some { q with state := .suspended })
      ∧ (q.state = .toPick → (q.stop = .none ∨ q.stop = .owed .suspend ∨ q.stop = .sent .suspend) →
        w.move j = some { q with stop := .owed .suspend })
      ∧ ((q.standing = true ∨ q.state = .toPick) →
        ∃ y, w.move (yieldSlot x.other) = some y ∧ y.serial = s.mvu.serial ∧ y.place = k ∧ y.state = .waiting) := by
  have calls := fun stands => called.trans (b.preempts runway style only lane able target stands)
  have apart := b.only.apart only.held only.crane
  obtain ⟨suspends, yields, -⟩ := State.callYield_reads (y := x.other) ((b.moves j apart).trans only.held) only.slot k
  refine ⟨fun stands => ?_, fun picks stop => ?_, fun either => ?_⟩
  · rw [calls (.inl stands), suspends, Move.suspending_standing stands]
  · rw [calls (.inr picks), suspends, Move.suspending_toPick picks]
    rcases stop with e | e | e <;> rw [e] <;> rfl
  · rw [calls either]
    exact ⟨_, yields, b.serial, rfl, rfl⟩

/-- Settles O48: yields, the mutual wait, PREEMPT and DEADLOCK. -/
theorem yieldsCalled : Obligations.YieldsCalled := by
  refine ⟨yieldTarget_eq, fun s h x n i m leg r o asking passes other close => ?_⟩
  obtain ⟨l, runs⟩ := exec_report asking.report.reporting n 0 0
  obtain ⟨u, b, takes, calls⟩ := (asking.asksFor l).blocks (s := { s with lnk := l }) passes other close
  have light : s.loadedConflict x m leg = false → State.blockReason { s with lnk := l } x m leg = .runway := fun e =>
    if_neg (by rw [show State.loadedConflict { s with lnk := l } x m leg = false from e]; decide)
  have heavy : s.loadedConflict x m leg = true → State.blockReason { s with lnk := l } x m leg = .loadedConflict := fun e => if_pos e
  generalize State.blockReason { s with lnk := l } x m leg = why at b takes calls light heavy
  generalize needOf r m leg = need at b takes calls close ⊢
  obtain ⟨w, called⟩ : ∃ w, w = u.resolveRefusal x m why need := ⟨_, rfl⟩
  rw [← called] at takes calls
  obtain ⟨moves, cranes, -, -, cnd, rru, -⟩ := w.ordered_reads x .idle
  have serial : (w.ordered x .idle).mvu.serial = w.mvu.serial := by cases x <;> rfl
  have sets : ∀ p, (w.ordered x .idle).condSet p = w.condSet p := fun p => by cases p <;> (unfold State.condSet; rw [cnd])
  obtain ⟨t, ordered⟩ : ∃ t, t = w.ordered x .idle := ⟨_, rfl⟩
  rw [takes] at runs
  rw [← ordered] at moves cranes cnd rru serial sets runs
  refine ⟨_, runs, ?_, ?_, fun loaded present orphan yields none => ?_, ?_, ?_⟩
  · exact (congrArg CraneRec.interval (cranes x)).trans ((calls.interval x).trans b.interval)
  · exact (congrArg CraneRec.interval (cranes x.other)).trans ((calls.interval x.other).trans ((congrArg CraneRec.interval b.other).trans other))
  · obtain ⟨record, refusal, told, stuck⟩ := b.calls_idle (light loaded) present orphan yields none called
    refine ⟨(moves i).trans record, (congrArg CraneRec.refusal (cranes x)).trans refusal, fun k target => ?_, fun target bare => ?_⟩
    · obtain ⟨yielded, next, same⟩ := told k target
      exact ⟨(moves _).trans yielded, serial.trans next, cnd.trans same⟩
    · obtain ⟨deadlock, free, stands⟩ := stuck target bare
      exact ⟨(congrArg Rru.deadlock rru).trans deadlock, (moves _).trans free, fun p both kept => sets p ▸ stands p both (sets p ▸ kept)⟩
  · intro j q theirs refusal closer slot held crane unique own pair style
    have why_of : why = .loadedConflict ∨ (why = .runway ∧ m.style ≠ .preempt) := by
      cases loaded : s.loadedConflict x m leg with
      | true => exact .inl (heavy loaded)
      | false => exact .inr ⟨light loaded, style.resolve_left (by rw [loaded]; decide)⟩
    refine ⟨fun k able down free target wins => ?_, fun k able target loses => ?_, fun self others => ?_⟩
    · obtain ⟨suspends, ⟨y, yielded, facts⟩, ⟨z, record⟩, own⟩ :=
        b.other_loses refusal closer slot held crane unique own why_of called able down free target wins
      exact ⟨fun stands => ⟨(moves _).trans (suspends stands).1, (congrArg CraneRec.refusal (cranes _)).trans (suspends stands).2⟩,
        ⟨y, (moves _).trans yielded, facts⟩, ⟨z, (moves _).trans record⟩, (moves _).trans own⟩
    · obtain ⟨⟨z, suspends⟩, gone, ⟨y, yielded, facts⟩, kept⟩ :=
        b.self_loses refusal closer slot held crane unique own why_of called able target loses
      exact ⟨⟨z, (moves _).trans suspends⟩, (congrArg CraneRec.refusal (cranes _)).trans gone, ⟨y, (moves _).trans yielded, facts⟩,
        (moves _).trans kept⟩
    · obtain ⟨deadlock, kept, ⟨z, record⟩, stands⟩ :=
        b.stuck refusal closer slot held crane unique own why_of called pair self others
      exact ⟨(congrArg Rru.deadlock rru).trans deadlock, (moves _).trans kept, ⟨z, (moves _).trans record⟩, fun p both clear =>
        sets p ▸ stands p both (sets p ▸ clear)⟩
  · intro j k q loaded style only lane able target
    obtain ⟨suspends, stops, yields⟩ := b.calls_preempt (light loaded) style (only.of_mvu rfl) lane able target called
    refine ⟨fun stands => (moves _).trans (suspends stands), fun picks stop => (moves _).trans (stops picks stop), fun either => ?_⟩
    obtain ⟨y, yielded, facts⟩ := yields either
    exact ⟨y, (moves _).trans yielded, facts⟩

end Sys2Proof.Machine
end

section
/-! SUPPORT. Proofs/Outed.lean: what a crane that becomes OUT does to its moves (R160), and DECLARE-OUT (R123). -/

namespace Sys2Proof.Machine

/-! ## What the end of a move leaves -/

/-- A crane record but for its refusal and its hull. -/
def CraneRec.body (c : CraneRec) : CraneRec := { c with refusal := none, hull := none }

/-- Moves end or stand back: no crane moves, no space changes hands. -/
structure State.settles (s t : State) : Prop where
  body : ∀ y, (t.crane y).body = (s.crane y).body
  vacates : t.rru.vacates = s.rru.vacates
  breach : t.rru.breach = s.rru.breach
  beds : t.beds = s.beds

theorem State.settles.refl (s : State) : s.settles s := ⟨fun _ => rfl, rfl, rfl, rfl⟩

theorem State.settles.trans {s t u : State} (h : s.settles t) (g : t.settles u) : s.settles u :=
  ⟨fun y => (g.body y).trans (h.body y), g.vacates.trans h.vacates, g.breach.trans h.breach, g.beds.trans h.beds⟩

theorem State.settles_setMove (s : State) (i : Nat) (m : Option Move) : s.settles (s.setMove i m) :=
  ⟨fun y => by rw [State.crane_setMove], rfl, rfl, rfl⟩

theorem State.settles_laneSettle (s : State) (x : Crane) : s.settles (s.laneSettle x) := by
  obtain ⟨-, -, rru, -, cranes⟩ := s.laneSettle_reads x
  refine ⟨fun y => by rw [cranes], by rw [rru], by rw [rru], ?_⟩
  obtain ⟨_, _, _, e⟩ := (s.laneSettle_eq x).1
  rw [e]
  cases x <;> rfl

theorem State.settles_endMove (s : State) (i : Nat) (e : Ending) (f : Bool) : s.settles (s.endMove i e f) := by
  cases held : s.move i with
  | none =>
    unfold State.endMove
    rw [held]
    exact .refl s
  | some m =>
    have ended := State.endMove_ended held e f
    refine ⟨fun y => ?_, ended.vacates, ended.breach, ?_⟩
    · by_cases mine : y = m.crane
      · rw [mine, ended.crane]
        rfl
      · obtain rfl : y = m.crane.other := Crane.eq_other (Ne.symm mine)
        rw [ended.otherCrane]
    · have same := congrArg State.beds ended.frame
      exact same

/-! ## The second half of R160 -/

/-- The move under way of a crane that becomes OUT loses its grant (R160). -/
def State.loseGrant (s : State) (x : Crane) : State :=
  match s.underWay x with
  | some (i, m) =>
    match m.state with
    | .toPick => s.outToPick x i m
    | .lifted _ => s.setMove i (some { m with state := .lifted .waitPlace })
    | .queued | .waiting | .suspended => s
  | none => s

theorem State.craneOut_eq (s : State) (x : Crane) : s.craneOut x = (s.endMove (yieldSlot x) .cancelled true).loseGrant x := by
  unfold State.craneOut State.loseGrant State.underWay
  dsimp only
  cases (s.endMove (yieldSlot x) .cancelled true).activeSlot x with
  | none => rfl
  | some i =>
    dsimp only
    cases (s.endMove (yieldSlot x) .cancelled true).move i <;> rfl

section
variable {s : State} {x : Crane} {i : Nat} {m : Move}

theorem State.loseGrant_idle (none : s.underWay x = none) : s.loseGrant x = s := by
  unfold State.loseGrant
  rw [none]

theorem State.loseGrant_toPick (under : s.underWay x = some (i, m)) (picks : m.state = .toPick) : s.loseGrant x = s.outToPick x i m := by
  unfold State.loseGrant
  rw [under]
  dsimp only
  rw [picks]

theorem State.loseGrant_lifted {p : SubPhase} (under : s.underWay x = some (i, m)) (lifted : m.state = .lifted p) :
    s.loseGrant x = s.setMove i (some { m with state := .lifted .waitPlace }) := by
  unfold State.loseGrant
  rw [under]
  dsimp only
  rw [lifted]

/-- The record of the TO-PICK move of a crane that becomes OUT (R160). -/
def Move.outFrom (m : Move) : Option Move :=
  match m.stop with
  | .none => some { m with state := .waiting, reason := some .crane }
  | .owed .cancel | .sent .cancel => none
  | .owed .suspend | .sent .suspend => some { m with state := .suspended, stop := .none }

theorem State.outToPick_move (held : s.move i = some m) (away : i ≠ yieldSlot m.crane) (y : Crane) (j : Nat) :
    (s.outToPick y i m).move j = if i = j then m.outFrom else s.move j := by
  have ends : (s.endMove i .cancelled false).move j = if i = j then none else s.move j := by
    rw [(State.endMove_ended held .cancelled false).moves, if_neg (c := i = yieldSlot m.crane ∧ j < 16) fun both => away both.1]
  have sets : ∀ r : Move, ((s.setMove i (some r)).laneSettle y).move j = if i = j then some r else s.move j := fun r => by
    rw [((s.setMove i (some r)).laneSettle_reads y).1, State.move_setMove]
  unfold State.outToPick Move.outFrom
  cases m.stop with
  | none => exact sets _
  | owed p =>
    cases p with
    | cancel => exact ends
    | suspend => exact sets _
  | sent p =>
    cases p with
    | cancel => exact ends
    | suspend => exact sets _

theorem State.settles_outToPick (s : State) (y : Crane) (i : Nat) (m : Move) : s.settles (s.outToPick y i m) := by
  have sets : ∀ r : Move, s.settles ((s.setMove i (some r)).laneSettle y) := fun r =>
    (s.settles_setMove i _).trans (State.settles_laneSettle _ y)
  unfold State.outToPick
  split
  · exact sets _
  · exact s.settles_endMove i _ _
  · exact s.settles_endMove i _ _
  · exact sets _
  · exact sets _

/-- A move that is not the crane's, or not under way, stands (R160). -/
theorem State.loseGrant_spares (free : s.move (yieldSlot x) = none) {j : Nat}
    (other : ∀ o, s.move j = some o → o.underWay = false ∨ o.crane ≠ x) : (s.loseGrant x).move j = s.move j := by
  cases under : s.underWay x with
  | none => rw [State.loseGrant_idle under]
  | some w =>
    obtain ⟨i, m⟩ := w
    obtain ⟨-, held, crane, up⟩ := State.underWay_mem under
    have apart : i ≠ j := fun same => by
      subst same
      rcases other m held with idle | foreign
      · rw [up] at idle
        exact nomatch idle
      · exact foreign crane
    cases state : m.state with
    | toPick =>
      have away : i ≠ yieldSlot m.crane := fun same => by
        rw [same, crane, free] at held
        exact nomatch held
      rw [State.loseGrant_toPick under state, State.outToPick_move held away x, if_neg apart]
    | lifted p => rw [State.loseGrant_lifted under state, State.move_setMove, if_neg apart]
    | queued | waiting | suspended =>
      unfold Move.underWay at up
      rw [state] at up
      exact nomatch up

theorem State.settles_craneOut (s : State) (x : Crane) : s.settles (s.craneOut x) := by
  rw [State.craneOut_eq]
  refine (s.settles_endMove (yieldSlot x) .cancelled true).trans ?_
  unfold State.loseGrant
  split
  · split
    · exact State.settles_outToPick _ _ _ _
    · exact State.settles_setMove _ _ _
    all_goals exact .refl _
  · exact .refl _

end

/-- Such a loss posts nothing away (R176). -/
theorem State.loseGrant_grows (s : State) (x : Crane) : s.grows (s.loseGrant x) := by
  unfold State.loseGrant
  split
  · next i m under =>
    obtain ⟨-, held, -⟩ := State.underWay_mem under
    split
    · exact (State.moved_outToPick held x).grows
    · exact .of_cnd rfl
    all_goals exact .refl s
  · exact .refl s

/-! ## The yield cancelled by the part (R157, R160) -/

/-- The end of its yield leaves the crane's other moves, but for those that resume. -/
theorem State.yieldRight.ends {s : State} {x : Crane} (right : s.yieldRight x) {t : State} (ended : t = s.endMove (yieldSlot x) .cancelled true) :
    (∀ j, t.move j = if yieldSlot x = j then none
      else if (s.move (yieldSlot x)).isSome = true ∧ j < 16 then (s.move j).map (Move.resumed x) else s.move j)
      ∧ (t.crane x).hull = (s.crane x).hull
      ∧ ∀ y, s.move (yieldSlot x) = some y → ∃ u : State, t = u.postEvent .PL .moveCancelled (.serial y.serial) := by
  cases held : s.move (yieldSlot x) with
  | none =>
    have same : t = s := by
      rw [ended]
      unfold State.endMove
      rw [held]
    refine ⟨fun j => ?_, by rw [same], fun y found => (nomatch found)⟩
    rw [same]
    split
    · next here => rw [← here, held]
    · exact (if_neg fun both => nomatch both.1).symm
  | some y =>
    obtain ⟨crane, -, -, down⟩ := right y held
    have facts := State.endMove_ended held .cancelled true
    have moves := facts.moves
    have record := facts.crane
    rw [crane, ← ended] at moves record
    refine ⟨fun j => (moves j).trans ?_, ?_, fun z found => ?_⟩
    · simp
    · rw [record]
      exact if_neg (by rw [down]; decide)
    · obtain rfl := Option.some.inj found
      rw [ended]
      exact State.endMove_posts held (.inr (.inr ⟨rfl, rfl, rfl⟩))

theorem State.yieldRight.kept {s : State} {x : Crane} (right : s.yieldRight x) {j : Nat} {o : Move} (less : j < 16)
    (held : s.move j = some o) (other : o.state ≠ .suspended) : (s.endMove (yieldSlot x) .cancelled true).move j = some o := by
  rw [(right.ends rfl).1, if_neg (Nat.ne_of_gt (Nat.lt_of_lt_of_le less (sixteen_le_yieldSlot x))), held, Option.map_some,
    Move.resumed_kept other, ite_self]

/-- Once its yield has ended, the crane's main move is the one it has under way (R148, R160). -/
theorem State.yieldRight.underWay {s : State} {x : Crane} {i : Nat} {m : Move} (right : s.yieldRight x) (main : s.mainMove x i m)
    (up : m.underWay = true) : (s.endMove (yieldSlot x) .cancelled true).underWay x = some (i, m) := by
  obtain ⟨slot, held, crane, others⟩ := main
  have moving : m.state ≠ .suspended := fun same => by
    unfold Move.underWay at up
    rw [same] at up
    exact nomatch up
  refine State.underWay_lowest (by omega) (right.kept slot held moving) crane up fun j o less at_j mine => ?_
  rw [(right.ends rfl).1, if_neg (Nat.ne_of_gt (Nat.lt_of_lt_of_le (by omega) (sixteen_le_yieldSlot x)))] at at_j
  split at at_j
  · obtain ⟨q, before, rfl⟩ := Option.map_eq_some_iff.mp at_j
    rw [Move.resumed_crane] at mine
    exact Move.resumed_idle (others j q (by omega) (Nat.ne_of_lt less) before mine)
  · exact others j o (by omega) (Nat.ne_of_lt less) at_j mine

/-- What a crane that becomes OUT does to its moves (R160). -/
theorem State.yieldRight.movesOut {s : State} {x : Crane} (right : s.yieldRight x) : s.movesOut (s.craneOut x) x := by
  rw [State.craneOut_eq]
  obtain ⟨t, ended⟩ : ∃ t, t = s.endMove (yieldSlot x) .cancelled true := ⟨_, rfl⟩
  obtain ⟨moves, hull, posts⟩ := right.ends ended
  rw [← ended]
  have free : t.move (yieldSlot x) = none := (moves _).trans (if_pos rfl)
  have away : ∀ j, j < 16 → yieldSlot x ≠ j := fun j less => Nat.ne_of_gt (Nat.lt_of_lt_of_le less (sixteen_le_yieldSlot x))
  have kept := fun j o less held other => right.kept (j := j) (o := o) less held other
  rw [← ended] at kept
  have under := fun i m (main : s.mainMove x i m) up => right.underWay main (up : m.underWay = true)
  rw [← ended] at under
  refine ⟨?_, fun y held clear => ?_, fun i m main picks => ?_, fun i m p main lifted => ?_, fun j o less held stands => ?_,
    fun j o less held crane suspended => ?_, fun j o held foreign => ?_⟩
  · exact (State.loseGrant_spares free fun o held => by rw [free] at held; exact nomatch held).trans free
  · obtain ⟨u, posted⟩ := posts y held
    exact State.grows.holds (s := u) (State.grows.trans (.of_same fun p => by rw [posted]) (t.loseGrant_grows x)) clear
  · have way := under i m main (Move.underWay_toPick picks).1
    obtain ⟨slot, held, crane, -⟩ := main
    have reads := State.outToPick_move (State.underWay_mem way).2.1 (by rw [crane]; exact (away i slot).symm) x i
    rw [State.loseGrant_toPick way picks, reads, if_pos rfl]
    unfold Move.outFrom
    refine ⟨fun stop => by rw [stop], fun stop => ?_, fun stop => ?_⟩
    · rcases stop with e | e <;> rw [e]
    · rcases stop with e | e <;> rw [e]
  · have way := under i m main (Move.underWay_lifted lifted).1
    rw [State.loseGrant_lifted way lifted, State.move_setMove_same, State.crane_setMove]
    exact ⟨rfl, hull⟩
  · obtain ⟨idle, -, other⟩ := Move.standing_idle stands
    have same := kept j o less held other
    rw [State.loseGrant_spares free fun q at_j => .inl (by obtain rfl := Option.some.inj (same.symm.trans at_j); exact idle), same]
  · have resumed : t.move j = if (s.move (yieldSlot x)).isSome then some { o with state := .waiting, reason := none } else some o := by
      have resumes : o.resumed x = { o with state := .waiting, reason := none } := if_pos ⟨crane, suspended⟩
      rw [moves, if_neg (away j less), held, Option.map_some, resumes]
      exact if_congr ⟨fun both => both.1, fun yields => ⟨yields, less⟩⟩ rfl rfl
    refine (State.loseGrant_spares free fun q at_j => .inl ?_).trans resumed
    rw [resumed] at at_j
    split at at_j
    · obtain rfl := Option.some.inj at_j
      rfl
    · obtain rfl := Option.some.inj at_j
      unfold Move.underWay
      rw [suspended]
  · have apart : yieldSlot x ≠ j := fun same => foreign (right o (same ▸ held)).1
    have same : t.move j = some o := by
      have stays : o.resumed x = o := if_neg fun both => foreign both.1
      rw [moves, if_neg apart, held, Option.map_some, stays, ite_self]
    exact (State.loseGrant_spares free fun q at_j => .inr (by obtain rfl := Option.some.inj (same.symm.trans at_j); exact foreign)).trans same

theorem State.movesOut.congr {s v t : State} {x : Crane} (h : v.movesOut t x) (moves : ∀ j, v.move j = s.move j)
    (hull : (v.crane x).hull = (s.crane x).hull) : s.movesOut t x := by
  unfold State.movesOut State.mainMove at h ⊢
  simpa only [moves, hull] using h

theorem State.yieldRight.congr {s v : State} {x : Crane} (right : s.yieldRight x) (moves : ∀ j, v.move j = s.move j) : v.yieldRight x :=
  fun y held => right y ((moves _).symm.trans held)

/-! ## DECLARE-OUT (R123) -/

theorem State.parkFree_iff {s : State} {x : Crane} {n : Nat} : s.parkFree x n = true
    ↔ s.clearFor x ⟨n, n⟩ = true ∧ ∀ v, s.vacate n = some v → v.releasing = x := by
  unfold State.parkFree State.vacatingFrom
  rw [Bool.and_eq_true, Bool.not_eq_true']
  refine and_congr Iff.rfl ?_
  cases s.vacate n with
  | none => simp
  | some v =>
    simp only [decide_eq_false_iff_not, Option.some.injEq, forall_eq']
    constructor
    · exact fun apart => (Crane.eq_other (Ne.symm apart)).trans (by cases x <;> rfl)
    · exact fun same other => State.other_ne x (same.symm.trans other)

/-- The crane's record as it is declared out. -/
def State.parkedRec (s : State) (x : Crane) (n : Nat) : CraneRec :=
  { s.crane x with interval := some ⟨n, n⟩, presence := .out, position := some n, outside := false, timer := none }

/-- The crane parked and OUT (R123). -/
def State.parkedAt (s : State) (x : Crane) (n : Nat) : State :=
  ((s.shrinkTo x (.point n)).setInterval x (.point n)).setCrane x
    { ((s.shrinkTo x (.point n)).setInterval x (.point n)).crane x with presence := .out, position := some n, outside := false, timer := none }

/-- The state in which the crane's moves meet its declaration: CRANE-STALE of a STALE crane has ended (R123). -/
def State.parked (s : State) (x : Crane) (n : Nat) : State :=
  if (s.crane x).presence = .stale then (s.parkedAt x n).endCause (stalePorts x) .craneStale (.crane x) else s.parkedAt x n

theorem State.declareAt_eq (s : State) (x : Crane) (n : Nat) : s.declareAt x n = (s.parked x n).craneOut x := by
  unfold State.declareAt State.parked State.parkedAt
  split <;> simp_all

theorem State.parked_reads (s : State) (x : Crane) (n : Nat) :
    (∀ j, (s.parked x n).move j = s.move j) ∧ (s.parked x n).crane x = s.parkedRec x n
      ∧ (s.parked x n).crane x.other = s.crane x.other
      ∧ ((s.crane x).presence = .stale → ∀ p, ¬((s.parked x n).condSet p).stands .craneStale (.crane x))
      ∧ ∀ r k, (s.crane x).interval = some r → r.has n = true → k < 32 → r.has k = true → k ≠ n → 1 ≤ (s.segment k).vacate →
        (s.parked x n).vacate k = some ⟨x, (s.segment k).vacate⟩ := by
  obtain ⟨a, shrunk⟩ : ∃ a, a = s.shrinkTo x (Range.point n) := ⟨_, rfl⟩
  have cranes : (a.setInterval x (.point n)).crane x = { s.crane x with interval := some ⟨n, n⟩ } ∧ a.crane x.other = s.crane x.other := by
    rcases s.shrinkTo_cases x (.point n) with ⟨old, v, -, -, e⟩ | ⟨e, -⟩
    · rw [shrunk, e]
      cases x <;> exact ⟨rfl, rfl⟩
    · rw [shrunk, e]
      cases x <;> exact ⟨rfl, rfl⟩
  have sets : (s.parkedAt x n).setsOnly (s.parked x n) := by
    unfold State.parked
    split
    · exact State.endCause_only ..
    · exact .refl _
  have made : s.parkedAt x n = (a.setInterval x (.point n)).setCrane x
      { (a.setInterval x (.point n)).crane x with presence := .out, position := some n, outside := false, timer := none } := by rw [shrunk]; rfl
  refine ⟨fun j => ?_, ?_, ?_, fun stale p => ?_, fun r k held inside less has away counts => ?_⟩
  · rw [sets.move, made, State.move_setCrane, State.setInterval, State.move_setCrane, shrunk, State.move_shrinkTo]
  · rw [sets.crane, made, State.crane_setCrane, if_pos rfl, cranes.1]
    rfl
  · rw [sets.crane, made, State.crane_setCrane, if_neg (State.other_ne x), State.setInterval, State.crane_setCrane,
      if_neg (State.other_ne x), cranes.2]
  · unfold State.parked
    rw [if_pos stale]
    exact State.endCause_stands _ _ _ _ p
  · have given : a.vacate k = some ⟨x, (s.segment k).vacate⟩ := by
      obtain ⟨-, -, gives⟩ := State.shrinkTo_eq held (Range.point_within inside)
      rw [shrunk]
      exact gives k less has (Range.point_has away) counts
    have same : (s.parked x n).rru.vacates = (s.parkedAt x n).rru.vacates := by rw [sets.rru]
    unfold State.vacate
    rw [same, made]
    rw [← given]
    cases x <;> rfl

theorem State.parked_frame (s : State) (x : Crane) (n : Nat) : ∃ q c, s.parked x n = { s with rru := q, cnd := c } := by
  obtain ⟨q, shrunk⟩ := s.shrinkTo_space x (Range.point n)
  have parks : ∃ q, s.parkedAt x n = { s with rru := q } := by
    unfold State.parkedAt State.setInterval
    rw [shrunk]
    cases x <;> exact ⟨_, rfl⟩
  obtain ⟨q, parks⟩ := parks
  unfold State.parked
  split
  · obtain ⟨_, _, _, ends⟩ := (s.parkedAt x n).endCause_only (stalePorts x) .craneStale (.crane x)
    rw [ends, parks]
    exact ⟨_, _, rfl⟩
  · exact ⟨q, _, parks⟩

/-- A crane declared out (R123, R160). -/
theorem State.declareAt_reads (s : State) (x : Crane) (n : Nat) :
    ((s.declareAt x n).crane x).body = (s.parkedRec x n).body
      ∧ ((s.declareAt x n).crane x.other).body = (s.crane x.other).body
      ∧ ((s.crane x).presence = .stale → ∀ r k, (s.crane x).interval = some r → r.has n = true → k < 32 → r.has k = true → k ≠ n →
        1 ≤ (s.segment k).vacate → (s.declareAt x n).vacate k = some ⟨x, (s.segment k).vacate⟩)
      ∧ ((s.crane x).presence = .stale → ∀ p, ¬((s.declareAt x n).condSet p).stands .craneStale (.crane x))
      ∧ (s.yieldRight x → s.movesOut (s.declareAt x n) x)
      ∧ (s.declareAt x n).beds = s.beds := by
  obtain ⟨moves, crane, other, ended, vacates⟩ := s.parked_reads x n
  have settles := (s.parked x n).settles_craneOut x
  have watched := (s.parked x n).watches_craneOut (k := .craneStale) (.inr (.inl rfl)) x
  rw [State.declareAt_eq]
  refine ⟨(settles.body x).trans (by rw [crane]), (settles.body x.other).trans (by rw [other]), fun _ r k held inside less has away counts => ?_,
    fun stale p => watched.spares.none_stands (ended stale p), fun right => ?_, settles.beds.trans ?_⟩
  · have same := vacates r k held inside less has away counts
    unfold State.vacate at same ⊢
    rw [settles.vacates, same]
  · exact (right.congr moves).movesOut.congr moves (by rw [crane]; rfl)
  · obtain ⟨q, c, frame⟩ := s.parked_frame x n
    rw [frame]

/-! ## The obligation -/

/-- The link has no part in R160. -/
theorem State.movesOut.relink {s t : State} {x : Crane} {l : Lnk} (h : ({ s with lnk := l } : State).movesOut t x) (l' : Lnk) :
    s.movesOut { t with lnk := l' } x := by
  obtain ⟨yields, posts, picks, lifts, stands, suspends, others⟩ := h
  exact ⟨yields, posts, picks, lifts, stands, suspends, others⟩

section
variable {s : State} {x : Crane} {n : Nat}

theorem State.declareOut_beyond (far : 32 ≤ n) : State.declareOut n x s = Answer.badField s 2 := if_pos far

theorem State.declareOut_present (less : n < 32) (here : (s.crane x).presence = .active ∨ (s.crane x).presence = .out) :
    State.declareOut n x s = Answer.refuse s .state (.presence (s.crane x).presence) := by
  refine (if_neg (Nat.not_le.mpr less)).trans ?_
  rcases here with e | e <;> rw [e]

theorem State.declareOut_outside {r : Range} (less : n < 32) (stale : (s.crane x).presence = .stale) (held : (s.crane x).interval = some r)
    (outside : r.has n = false) : State.declareOut n x s = Answer.badField s 2 := by
  refine (if_neg (Nat.not_le.mpr less)).trans ?_
  rw [stale]
  dsimp only
  rw [held]
  dsimp only
  rw [outside]
  rfl

/-- A crane with no interval parks where nothing is in the way. -/
theorem State.declareOut_bare (less : n < 32)
    (bare : (s.crane x).presence = .unseen ∨ ((s.crane x).presence = .stale ∧ (s.crane x).interval = none)) :
    State.declareOut n x s = if s.parkFree x n = true then Answer.done (s.declareAt x n) else Answer.refuse s .inUse := by
  refine (if_neg (Nat.not_le.mpr less)).trans ?_
  rcases bare with unseen | ⟨stale, none⟩
  · rw [unseen]
  · rw [stale]
    dsimp only
    rw [none]

theorem State.declareOut_inside {r : Range} (less : n < 32) (stale : (s.crane x).presence = .stale) (held : (s.crane x).interval = some r)
    (inside : r.has n = true) : State.declareOut n x s = Answer.done (s.declareAt x n) := by
  refine (if_neg (Nat.not_le.mpr less)).trans ?_
  rw [stale]
  dsimp only
  rw [held]
  exact if_pos inside

end

/-- A DECLARE-OUT that is refused. -/
theorem exec_declareOut_refused {s : State} {h : Header} {x : Crane} {n : Nat} {r : Reply} (a : s.planner h)
    (refused : ∀ l, State.declareOut n x { s with lnk := l } = ({ s with lnk := l }, r)) :
    exec (.declareOut h [craneCode x, n]) s = .next (s.answered h .declareOut r) := by
  refine exec_planner (c := .declareOut h [craneCode x, n]) rfl a rfl (fun l => ?_) rfl rfl rfl
  rw [← refused l]
  cases x <;> rfl

/-- Settles O39: DECLARE-OUT by the presence of the crane. -/
theorem declaredOut : Obligations.DeclaredOut := by
  refine fun s h a => ⟨fun c n bad => ?_, fun x n => ⟨fun far => ?_, fun less => ⟨fun here => ?_, fun r stale held outside => ?_,
    fun bare close => ?_, fun free => ?_⟩⟩⟩
  · refine exec_planner (c := .declareOut h [c, n]) rfl a rfl (fun l => ?_) rfl rfl rfl
    obtain ⟨d, rfl⟩ := Nat.exists_eq_add_of_le' bad
    rfl
  · exact exec_declareOut_refused a fun l => State.declareOut_beyond far
  · exact exec_declareOut_refused a fun l => State.declareOut_present (s := { s with lnk := l }) less here
  · exact exec_declareOut_refused a fun l => State.declareOut_outside (s := { s with lnk := l }) less stale held outside
  · refine exec_declareOut_refused a fun l => (State.declareOut_bare (s := { s with lnk := l }) less bare).trans (if_neg ?_)
    rw [State.parkFree_iff]
    rintro ⟨clear, mine⟩
    rcases close with crowded | ⟨v, vacates, foreign⟩
    · rw [show s.clearFor x ⟨n, n⟩ = true from clear] at crowded
      exact nomatch crowded
    · exact State.other_ne x ((mine v vacates).symm.trans foreign)
  · obtain ⟨l, handled⟩ := s.handled_eq h .declareOut
    obtain ⟨v, at_v⟩ : ∃ v : State, v = { s with lnk := l } := ⟨_, rfl⟩
    have declares : State.declareOut n x v = Answer.done (v.declareAt x n) := by
      rw [at_v]
      rcases free with ⟨bare, clear, mine⟩ | ⟨stale, r, held, inside⟩
      · exact (State.declareOut_bare (s := { s with lnk := l }) less bare).trans (if_pos (State.parkFree_iff.mpr ⟨clear, mine⟩))
      · exact State.declareOut_inside (s := { s with lnk := l }) less stale held inside
    obtain ⟨e, p, k, r, m, _, _, _, frame⟩ := v.declareOut_only n x
    rw [declares] at frame
    have inside : ∀ r, (s.crane x).presence = .stale → (s.crane x).interval = some r → r.has n = true := fun r stale held => by
      rcases free with ⟨unseen | ⟨-, none⟩, -⟩ | ⟨-, r', held', inside⟩
      · rw [unseen] at stale
        exact nomatch stale
      · rw [none] at held
        exact nomatch held
      · obtain rfl := Option.some.inj (held.symm.trans held')
        exact inside
    have runs : exec (.declareOut h [craneCode x, n]) s = .next (({ v.declareAt x n with lnk := s.lnk }).answered h .declareOut ok) := by
      refine exec_planner_handled rfl a ?_ ?_ rfl rfl rfl
      · rw [handled, ← at_v, ← show State.declareOut n x v = (v.declareAt x n, ok) from declares]
        cases x <;> rfl
      · rw [handled, ← at_v]
        exact (congrArg State.lnk frame :)
    obtain ⟨body, others, vacates, ended, moves, beds⟩ := v.declareAt_reads x n
    rw [show (Answer.done (v.declareAt x n)).1 = v.declareAt x n from rfl] at frame
    generalize v.declareAt x n = t at runs body others vacates ended moves beds frame
    rw [at_v] at body others vacates ended moves beds frame
    refine ⟨_, runs, (congrArg CraneRec.presence body :), (congrArg CraneRec.position body :), (congrArg CraneRec.interval body :),
      (congrArg CraneRec.outside body :), (congrArg CraneRec.timer body :), (congrArg CraneRec.interval others :), (congrArg CraneRec.presence others :),
      fun stale r k held less has away counts => vacates stale r k held (inside r stale held) less has away counts,
      fun stale p => ?_, fun right => (moves right).relink s.lnk, (congrArg State.lyt frame :), (congrArg State.clk frame :), (congrArg State.rst frame :), beds,
      (congrArg State.pcv frame :), (congrArg State.zcu frame :), (congrArg State.sha frame :), (congrArg State.valves frame :), rfl⟩
    exact fun c mem => CondSet.none_stands (ended stale p) mem

end Sys2Proof.Machine
end

section
/-! SUPPORT. Proofs/OutIn.lean: a crane goes OUT by its own report, and IN again (R122, R160). -/

namespace Sys2Proof.Machine

/-! ## What the stages of a report leave of a crane that is OUT -/

theorem State.settles.of_pair {s t : State} (h : s.pairOnly t) : s.settles t :=
  ⟨fun y => by rw [h.crane], h.runway.1, h.runway.2.1, by obtain ⟨_, _, rfl⟩ := h; rfl⟩

theorem State.settles_setWork (s : State) (x : Crane) (w : CraneWork) : s.settles (s.setWork x w) :=
  ⟨fun y => by rw [State.crane_setWork], by cases x <;> rfl, by cases x <;> rfl, by cases x <;> rfl⟩

theorem State.settles_setCrane {s : State} {x : Crane} {c : CraneRec} (same : c.body = (s.crane x).body) : s.settles (s.setCrane x c) := by
  refine ⟨fun y => ?_, by cases x <;> rfl, by cases x <;> rfl, by cases x <;> rfl⟩
  rw [State.crane_setCrane]
  split
  · next here => rw [same, here]
  · rfl

theorem State.settles_setAside (s : State) (i : Nat) (m : Move) (st : MoveState) (why : Option WaitReason) :
    s.settles (s.setAside i m st why) := by
  refine State.settles.trans ?_ (.of_pair (s.setAside_pair i m st why))
  refine (s.settles_setMove i (some { m with state := st, reason := why })).trans (State.settles_setCrane ?_)
  rw [State.crane_setMove]
  rfl

theorem State.settles_compareHook (s : State) (x : Crane) (k : Hook) : s.settles (s.compareHook x k) :=
  (s.settles_setWork x _).trans (.of_pair (s.compareHook_sets x k).pair)

theorem State.settles_findWork (s : State) (x : Crane) : s.settles (s.findWork x).1 := by
  have examines : ∀ (q : List Entry) (b : Bool) (f : Option Nat) (t : State), t.settles (State.examine x q b f t).1 := by
    intro q
    induction q with
    | nil => exact fun _ _ t => .refl t
    | cons e q ih =>
      intro b f t
      cases e with
      | barrier => exact ih _ _ t
      | move i =>
        unfold State.examine
        split
        · exact ih _ _ t
        · split
          · split
            · exact (t.settles_setAside _ _ _ _).trans (ih _ _ _)
            · exact ih _ _ t
          · split
            · exact ih _ _ t
            · split
              · exact (t.settles_setAside _ _ _ _).trans (ih _ _ _)
              · split
                · exact (t.settles_setAside _ _ _ _).trans (ih _ _ _)
                · exact ih _ _ t
  unfold State.findWork
  split
  · exact .refl s
  · split
    · exact .refl s
    · exact examines _ _ _ s

theorem State.settles_resumeIfFree (s : State) (x : Crane) (l : List Nat) : s.settles (s.resumeIfFree x l) := by
  unfold State.resumeIfFree
  split
  · exact .refl s
  · obtain ⟨_, e⟩ := State.resumeSlots_records x l s
    rw [e]
    exact ⟨fun y => by cases y <;> rfl, rfl, rfl, rfl⟩

theorem State.settles_lift (s : State) (x : Crane) (i : Nat) (m : Move) (p : SubPhase) : s.settles (s.lift x i m p) :=
  (s.settles_setMove i (some { m with state := .lifted p, reason := none, stop := .none })).trans (State.settles_setCrane rfl)

/-- A shrink to the whole of the interval held changes nothing (R128). -/
theorem State.shrinkTo_self {s : State} {x : Crane} {r : Range} (held : (s.crane x).interval = some r) : s.shrinkTo x r = s := by
  unfold State.shrinkTo
  rw [held]
  dsimp only
  split
  · have none : r.segments.filter (fun n => !r.has n) = [] :=
      List.filter_eq_nil_iff.mpr fun n mem => by simp [(Range.mem_segments.mp mem).2]
    have same : { s.crane x with interval := some r } = s.crane x := by rw [← held]
    unfold State.giveBack State.setInterval
    rw [none]
    show s.setCrane x { s.crane x with interval := some r } = s
    rw [same, State.setCrane_self]
  · rfl

theorem State.settles_completeStop {s : State} {x : Crane} {n : Nat} (held : (s.crane x).interval = some ⟨n, n⟩) (inside : Bool) :
    s.settles (s.completeStop x n inside) := by
  have shrinks : ∀ t : State, s.settles t → s.settles (t.shrinkInside x n inside) := fun t settles => by
    have same : (t.crane x).interval = some ⟨n, n⟩ := (congrArg CraneRec.interval (settles.body x) :).trans held
    unfold State.shrinkInside
    split
    · rw [show Range.point n = ⟨n, n⟩ from rfl, State.shrinkTo_self same]
      exact settles
    · exact settles
  unfold State.completeStop
  split
  · split
    · exact shrinks _ (s.settles_endMove _ _ _)
    · exact shrinks _ ((s.settles_setMove _ _).trans (State.settles_laneSettle _ _))
    · exact .refl s
    · exact .refl s
  · exact .refl s

/-! ## A leg asked for by a crane that is not ACTIVE (R127) -/

theorem State.verdict_out {s : State} {x : Crane} (out : (s.crane x).presence ≠ .active) (m : Move) (leg : Leg) :
    ∃ need, s.runwayVerdict x m leg = .refused .crane need := by
  unfold State.runwayVerdict
  split
  · exact ⟨_, rfl⟩
  · dsimp only
    rw [if_pos out]
    exact ⟨_, rfl⟩

/-- The standing refusal, and the pair, are all that a refusal changes but for the move. -/
structure State.withdraws (s t : State) : Prop where
  mvu : t.mvu = s.mvu
  hull : ∀ y, (t.crane y).hull = (s.crane y).hull
  settles : s.settles t

theorem State.withdraws_withdrawOther (s : State) (x : Crane) (n : Nat) : s.withdraws (s.withdrawOther x n) := by
  have all : s.withdraws (s.withdraw x) := by
    have pair := s.withdraw_pair x
    have bare : s.settles (s.setCrane x { s.crane x with refusal := none }) := State.settles_setCrane rfl
    refine ⟨pair.mvu.trans (State.setCrane_mvu ..), fun y => ?_, bare.trans (.of_pair pair)⟩
    rw [pair.crane, State.crane_setCrane]
    split
    · next same => rw [same]
    · rfl
  unfold State.withdrawOther
  split
  · split
    · exact ⟨rfl, fun _ => rfl, .refl s⟩
    · exact all
  · exact ⟨rfl, fun _ => rfl, .refl s⟩

theorem State.withdraws_setRefusal (s : State) (x : Crane) (q : Refused) : s.withdraws (s.setRefusal x q) := by
  have others := s.withdraws_withdrawOther x q.serial
  refine ⟨(State.setCrane_mvu ..).trans others.mvu, fun y => ?_, others.settles.trans (State.settles_setCrane rfl)⟩
  rw [← others.hull y]
  unfold State.setRefusal
  dsimp only
  rw [State.crane_setCrane]
  split
  · next same => rw [same]
  · rfl

/-- The leg is refused: by a gate, or with CRANE (R127, R150). -/
theorem State.askLeg_out {s : State} {x : Crane} (out : (s.crane x).presence ≠ .active) (i : Nat) (m : Move) (leg : Leg) :
    ∃ why, (leg = .park → why = .crane) ∧ (s.setMove i (some (m.refused why))).withdraws (s.askLeg x i m leg) := by
  unfold State.askLeg
  cases gate : s.gateRefusal m leg with
  | some why =>
    refine ⟨why, ?_, State.withdraws_withdrawOther ..⟩
    rintro rfl
    have none : s.gateRefusal m .park = none := State.gateRefusal_passes (by decide) fun _ place => nomatch place
    rw [none] at gate
    exact nomatch gate
  | none =>
    obtain ⟨need, verdict⟩ := State.verdict_out out m leg
    dsimp only
    rw [verdict]
    refine ⟨.crane, fun _ => rfl, ?_⟩
    cases need with
    | none => exact State.withdraws_setRefusal ..
    | some need => exact State.withdraws_setRefusal ..

/-! ## Step 4 of R152 for a crane that is OUT -/

/-- What step 4 makes of the current work it has found. -/
theorem State.work4_found {s t : State} {x : Crane} {b : Bool} {l : List Nat} {a : Nat} {m : Move}
    (found : (s.resumeIfFree x l).findWork x = (t, some a)) (held : t.move a = some m) :
    s.work4 x b l = t ∨ (m.kind = .setDown ∧ m.standing = true ∧ s.work4 x b l = t.setDownLift x a m)
      ∨ (b = true ∧ ∃ leg, m.legToAsk = some leg ∧ s.work4 x b l = t.askLeg x a m leg) := by
  unfold State.work4
  rw [found]
  dsimp only
  rw [held]
  dsimp only
  by_cases sets : (m.kind = .setDown && m.standing) = true
  · rw [if_pos sets]
    obtain ⟨kind, stands⟩ := Bool.and_eq_true_iff.mp sets
    exact .inr (.inl ⟨of_decide_eq_true kind, stands, rfl⟩)
  · rw [if_neg sets]
    cases asked : m.legToAsk with
    | none => exact .inl rfl
    | some leg =>
      dsimp only
      split
      · next may =>
        obtain ⟨both, -⟩ := Bool.and_eq_true_iff.mp may
        exact .inr (.inr ⟨(Bool.and_eq_true_iff.mp both).1, leg, rfl, rfl⟩)
      · exact .inl rfl

/-- Step 4 that finds no work, or finds a slot that holds nothing. -/
theorem State.work4_idle {s : State} {x : Crane} {b : Bool} {l : List Nat}
    (idle : ∀ a, ((s.resumeIfFree x l).findWork x).2 = some a → ((s.resumeIfFree x l).findWork x).1.move a = none) :
    s.work4 x b l = ((s.resumeIfFree x l).findWork x).1 := by
  unfold State.work4
  dsimp only
  split
  · next a found => rw [idle a found]
  · rfl

/-- What step 4 can do (R148, R150, R161). -/
theorem State.work4_cases (s : State) (x : Crane) (b : Bool) (l : List Nat) :
    s.work4 x b l = ((s.resumeIfFree x l).findWork x).1
      ∨ ∃ a m, ((s.resumeIfFree x l).findWork x).2 = some a ∧ ((s.resumeIfFree x l).findWork x).1.move a = some m
        ∧ ((m.kind = .setDown ∧ m.standing = true ∧ s.work4 x b l = ((s.resumeIfFree x l).findWork x).1.setDownLift x a m)
          ∨ (b = true ∧ ∃ leg, m.legToAsk = some leg ∧ s.work4 x b l = ((s.resumeIfFree x l).findWork x).1.askLeg x a m leg)) := by
  cases found : ((s.resumeIfFree x l).findWork x).2 with
  | none => exact .inl (State.work4_idle fun a same => by rw [found] at same; exact nomatch same)
  | some a =>
    cases held : ((s.resumeIfFree x l).findWork x).1.move a with
    | none => exact .inl (State.work4_idle fun c same => by obtain rfl := Option.some.inj (found.symm.trans same); exact held)
    | some m =>
      rcases State.work4_found (b := b) (Prod.ext rfl found) held with e | sets | asks
      · exact .inl e
      · exact .inr ⟨a, m, rfl, held, .inl sets⟩
      · exact .inr ⟨a, m, rfl, held, .inr asks⟩

/-- Step 4 that asks for no grant, or asks for a crane that is OUT. -/
theorem State.settles_work4 {s : State} {x : Crane} {b : Bool} (quiet : b = false ∨ (s.crane x).presence = .out) (l : List Nat) :
    s.settles (s.work4 x b l) := by
  have finds := (s.settles_resumeIfFree x l).trans (State.settles_findWork _ x)
  rcases s.work4_cases x b l with e | ⟨a, m, -, -, ⟨-, -, e⟩ | ⟨asks, leg, -, e⟩⟩
  · rw [e]
    exact finds
  · rw [e]
    unfold State.setDownLift
    split
    · exact finds.trans (State.settles_lift _ _ _ _ _)
    · exact finds
  · have out := quiet.resolve_left (by rw [asks]; decide)
    have away : (((s.resumeIfFree x l).findWork x).1.crane x).presence ≠ .active := by
      rw [show (((s.resumeIfFree x l).findWork x).1.crane x).presence = _ from (congrArg CraneRec.presence (finds.body x) :),
        show (s.crane x).body.presence = .out from out]
      decide
    obtain ⟨why, -, withdraws⟩ := State.askLeg_out away a m leg
    rw [e]
    exact finds.trans ((State.settles_setMove _ _ _).trans withdraws.settles)

theorem State.settles_giveOrder (s : State) (x : Crane) (taken : Bool) : s.settles (s.giveOrder x taken).1 := by
  have composed : s.settles (s.composeOrder x).1 := by
    unfold State.composeOrder
    split
    · exact .refl s
    · split
      · exact .refl s
      · split
        · split
          · exact s.settles_setMove _ _
          all_goals split <;> exact .refl s
        · exact .refl s
  exact composed.trans (State.settles_setWork _ _ _)

section
variable {s : State} {x : Crane} (out : (s.crane x).presence = .out)
include out

/-- Step 4 leaves an empty record empty. -/
theorem State.work4_empty (b : Bool) (l : List Nat) {k : Nat} (empty : s.move k = none) : (s.work4 x b l).move k = none := by
  have finds := (s.settles_resumeIfFree x l).trans (State.settles_findWork _ x)
  have away : (((s.resumeIfFree x l).findWork x).1.crane x).presence ≠ .active := by
    rw [show (((s.resumeIfFree x l).findWork x).1.crane x).presence = _ from (congrArg CraneRec.presence (finds.body x) :), 
      show (s.crane x).body.presence = .out from out]
    decide
  have still : ((s.resumeIfFree x l).findWork x).1.move k = none :=
    ((s.waits_resumeIfFree x l x).trans (State.waits_findWork _ x x)).empty k empty
  have apart : ∀ a m, ((s.resumeIfFree x l).findWork x).1.move a = some m → a ≠ k := fun a m held same => by
    rw [same, still] at held
    exact nomatch held
  rcases s.work4_cases x b l with e | ⟨a, m, -, held, ⟨-, -, e⟩ | ⟨-, leg, -, e⟩⟩
  · rw [e]
    exact still
  · rw [e]
    unfold State.setDownLift
    split
    · rw [State.lift, State.move_setCrane, State.move_setMove, if_neg (apart a m held)]
      exact still
    · exact still
  · obtain ⟨why, -, withdraws⟩ := State.askLeg_out away a m leg
    rw [e, State.move_of_mvu withdraws.mvu, State.move_setMove, if_neg (apart a m held)]
    exact still

/-- The order of a crane that is OUT is IDLE, or HOLD where something is amiss (R151). -/
theorem State.giveOrder_out (taken : Bool) : ∃ o, s.giveOrder x taken = (s.ordered x o, orderReply taken o)
    ∧ (s.rru.breach = none → (s.work x).mismatch = false → o = .idle) := by
  by_cases amiss : s.rru.breach.isSome = true ∨ (s.work x).mismatch = true
  · refine ⟨.hold, State.giveOrder_eq (State.composeOrder_held amiss) taken, fun breach hook => ?_⟩
    rw [breach, hook] at amiss
    exact absurd amiss (by decide)
  · have breach : s.rru.breach = none := by simpa using fun same => amiss (.inl same)
    have hook : (s.work x).mismatch = false := by simpa using fun same => amiss (.inr same)
    exact ⟨.idle, State.giveOrder_eq (State.composeOrder_out breach hook out) taken, fun _ _ => rfl⟩

end

/-! ## The report at which the crane goes OUT -/

/-- The state in which a crane's moves meet its OUT-OF-SERVICE (R122). -/
theorem State.goesOut_reads {s : State} {x : Crane} {n : Nat} {r : Range} (present : (s.crane x).presence ≠ .out)
    (held : (s.crane x).interval = some r) (inside : r.has n = true) (k : Hook) :
    (s.runwayReport x n k).takesOut x n = true
      ∧ ∃ g, g = (s.runwayReport x n k).goOut x n ∧ (∀ j, g.move j = s.move j) ∧ (∀ y, g.work y = s.work y)
        ∧ g.crane x = { s.crane x with
            presence := .out, position := some n, hook := some k, interval := some ⟨n, n⟩, timer := none, outside := false }
        ∧ (g.crane x.other).interval = (s.crane x.other).interval ∧ (s.rru.breach = none → g.rru.breach = none)
        ∧ ∀ j, j < 32 → r.has j = true → j ≠ n → 1 ≤ (s.segment j).vacate → g.vacate j = some ⟨x, (s.segment j).vacate⟩ := by
  obtain ⟨v, heard⟩ : ∃ v, v = s.runwayReport x n k := ⟨_, rfl⟩
  have record : v.crane x = { s.crane x with
      presence := .active, position := some n, hook := some k, timer := some (s.presenceTimeout x), outside := false } := by
    rw [heard, State.runwayReport_crane held, inside, State.seenRec, if_neg present, if_neg present]
    rfl
  have others : v.crane x.other = s.crane x.other := by
    rw [heard, State.runwayReport_inside held inside, State.crane_setCrane, if_neg (State.other_ne x), State.crane_seen,
      if_neg (State.other_ne x)]
  have interval : (v.crane x).interval = some r := by rw [record]; exact held
  have within : (Range.point n).within r = true := Range.point_within inside
  have cranes := fun y => State.crane_shrinkTo interval within y
  obtain ⟨R, _, _, _, only⟩ := s.runwayReport_only x n k
  obtain ⟨vac, shrunk, gives⟩ := State.shrinkTo_eq interval within
  rw [← heard]
  refine ⟨?_, v.goOut x n, rfl, fun j => ?_, fun y => ?_, ?_, ?_, fun clear => ?_, fun j less has away counts => ?_⟩
  · unfold State.takesOut
    rw [State.insideInterval_eq interval, inside, record]
    rfl
  · rw [State.goOut, State.move_setCrane, State.move_shrinkTo, heard, State.move_runwayReport]
  · rw [State.goOut, State.work_setCrane, shrunk, State.work_setCrane, ← State.work_runwayReport s x n k, ← heard]
    cases y <;> rfl
  · rw [State.goOut, State.crane_setCrane, if_pos rfl, cranes, if_pos rfl, record]
    rfl
  · rw [State.goOut, State.crane_setCrane, if_neg (State.other_ne x), cranes, if_neg (State.other_ne x), others]
  · have quiet : v.rru.breach = none := heard ▸ (State.runwayReport_latch held clear k).1 inside
    rw [State.goOut, shrunk]
    cases x <;> exact quiet
  · have layout : v.segment j = s.segment j := by rw [heard, only]; rfl
    rw [State.goOut, State.vacate_setCrane, gives j less has (Range.point_has away) (by rw [layout]; exact counts), layout]

/-! ## The rest of that report -/

/-- The end of its stop leaves an empty record empty. -/
theorem State.completeStop_empty {s : State} (x : Crane) (n : Nat) (inside : Bool) {k : Nat} (empty : s.move k = none) :
    (s.completeStop x n inside).move k = none := by
  have shrinks : ∀ t : State, t.move k = none → (t.shrinkInside x n inside).move k = none := fun t none => by
    unfold State.shrinkInside
    split
    · rw [State.move_shrinkTo, none]
    · exact none
  unfold State.completeStop
  split
  · next i m under =>
    obtain ⟨-, held, -⟩ := State.underWay_mem under
    have apart : i ≠ k := fun same => by
      rw [same, empty] at held
      exact nomatch held
    split
    · refine shrinks _ ?_
      rw [(State.endMove_ended held _ _).moves, if_neg apart, empty]
      exact ite_self _
    · refine shrinks _ ?_
      rw [((s.setMove i _).laneSettle_reads x).1, State.move_setMove, if_neg apart, empty]
    · exact empty
    · exact empty
  · exact empty

section
variable {v : State} {x : Crane} {n : Nat} (out : (v.crane x).presence = .out) (parked : (v.crane x).interval = some ⟨n, n⟩)
  (k : Hook) (inside b taken : Bool) (l : List Nat)
include out parked

/-- Steps 2 and 3 of R152 leave a crane that is OUT where it is. -/
theorem State.settles_stopped : v.settles ((v.compareHook x k).completeStop x n inside)
    ∧ (((v.compareHook x k).completeStop x n inside).crane x).presence = .out := by
  have hooked := v.settles_compareHook x k
  have still : ((v.compareHook x k).crane x).interval = some ⟨n, n⟩ := (congrArg CraneRec.interval (hooked.body x) :).trans parked
  have stopped := hooked.trans (State.settles_completeStop still inside)
  exact ⟨stopped, (congrArg CraneRec.presence (stopped.body x) :).trans out⟩

/-- The rest of the report of a crane that has gone OUT, and the order (R151, R152). -/
theorem State.afterEvent_out : ∃ w o, v.afterEvent x n k inside b taken l = (w, orderReply taken o)
    ∧ w = (((v.compareHook x k).completeStop x n inside).work4 x b l).ordered x o ∧ v.settles w
    ∧ (v.rru.breach = none → (w.work x).mismatch = false → o = .idle) := by
  obtain ⟨stopped, stays⟩ := State.settles_stopped out parked k inside
  have worked := stopped.trans (State.settles_work4 (b := b) (.inr stays) l)
  obtain ⟨o, order, idle⟩ := State.giveOrder_out (s := ((v.compareHook x k).completeStop x n inside).work4 x b l) (x := x)
    ((congrArg CraneRec.presence (worked.body x) :).trans out) taken
  obtain ⟨-, -, workT, -⟩ := (((v.compareHook x k).completeStop x n inside).work4 x b l).ordered_reads x o
  refine ⟨_, o, order, rfl, worked.trans (State.settles_setWork _ _ _), fun breach hook => idle (worked.breach.trans breach) ?_⟩
  rw [workT] at hook
  exact hook

/-- An empty record stays empty at that report. -/
theorem State.afterEvent_empty {j : Nat} (empty : v.move j = none) : (((v.compareHook x k).completeStop x n inside).work4 x b l).move j = none :=
  State.work4_empty (State.settles_stopped out parked k inside).2 b l
    (State.completeStop_empty x n inside ((v.move_compareHook x k j).trans empty))

end

/-! ## A move that waits again, alone in its queue -/

/-- The move in slot `i` waits, alone in its crane's queue, with no lane and no yield. -/
structure State.headAlone (s : State) (x : Crane) (i : Nat) (o : Move) : Prop where
  slot : i < 16
  held : s.move i = some o
  waits : o.state = .waiting
  queue : (s.work x).queue = [.move i]
  lane : (s.work x).lane = .none
  free : s.move (yieldSlot x) = none

section
variable {s : State} {x : Crane} {i : Nat} {o : Move} (a : s.headAlone x i o)
include a

theorem State.headAlone.idle : o.underWay = false := by
  unfold Move.underWay
  rw [a.waits]

theorem State.headAlone.of_reads {t : State} (moves : ∀ j, t.move j = s.move j) (queue : (t.work x).queue = (s.work x).queue)
    (lane : (t.work x).lane = (s.work x).lane) : t.headAlone x i o :=
  ⟨a.slot, (moves i).trans a.held, a.waits, queue.trans a.queue, lane.trans a.lane, (moves _).trans a.free⟩

theorem State.headAlone.compareHook (k : Hook) : (s.compareHook x k).headAlone x i o := by
  have work := ((s.compareHook_sets x k).work x).trans (State.work_setWork ..)
  rw [if_pos rfl] at work
  exact a.of_reads (s.move_compareHook x k) (by rw [work]) (by rw [work])

/-- Another of the crane's moves leaves the table (R159). -/
theorem State.headAlone.endMove {j : Nat} {m : Move} (held : s.move j = some m) (crane : m.crane = x) (other : j ≠ i) (e : Ending) (f : Bool) :
    (s.endMove j e f).headAlone x i o := by
  have ended := State.endMove_ended held e f
  have moves := ended.moves
  have work := ended.work
  rw [crane] at moves work
  have apart : ¬(j = yieldSlot x ∧ i < 16) := fun both => by
    rw [both.1, a.free] at held
    exact nomatch held
  refine ⟨a.slot, ?_, a.waits, ?_, ?_, ?_⟩
  · rw [moves, if_neg other, if_neg apart, a.held]
  · rw [work]
    show leaveQueue j (s.work x).queue = _
    rw [a.queue]
    simp [leaveQueue, leadOff, Ne.symm other]
  · rw [work]
    show (s.setMove j none).settledLane x = _
    unfold State.settledLane
    rw [State.work_setMove, a.lane]
    rfl
  · rw [moves, a.free]
    simp

theorem State.headAlone.completeStop (n : Nat) (inside : Bool) : (s.completeStop x n inside).headAlone x i o := by
  have shrinks : ∀ t : State, t.headAlone x i o → (t.shrinkInside x n inside).headAlone x i o := fun t h => by
    obtain ⟨q, frame⟩ := t.shrinkInside_space x n inside
    rw [frame]
    exact h.of_reads (fun _ => rfl) rfl rfl
  unfold State.completeStop
  split
  · next j m under =>
    obtain ⟨-, held, crane, up⟩ := State.underWay_mem under
    have other : j ≠ i := fun same => by
      subst same
      obtain rfl := Option.some.inj (held.symm.trans a.held)
      rw [a.idle] at up
      exact nomatch up
    split
    · exact shrinks _ (a.endMove held crane other _ _)
    · refine shrinks _ ?_
      have away : j ≠ yieldSlot x := fun same => by
        rw [same, a.free] at held
        exact nomatch held
      have set : (s.setMove j (some { m with state := .suspended, stop := .none })).headAlone x i o := by
        refine ⟨a.slot, ?_, a.waits, ?_, ?_, ?_⟩
        · rw [State.move_setMove, if_neg other, a.held]
        · rw [State.work_setMove, a.queue]
        · rw [State.work_setMove, a.lane]
        · rw [State.move_setMove, if_neg away, a.free]
      rw [State.laneSettle_quiet (by rw [set.lane]; decide)]
      exact set
    · exact a
    · exact a
  · exact a

theorem State.headAlone.resumeIfFree (l : List Nat) : (s.resumeIfFree x l).headAlone x i o := by
  obtain ⟨moves, works⟩ := State.resumeIfFree_free a.free l
  refine ⟨a.slot, ?_, a.waits, (congrArg CraneWork.queue (works x)).trans a.queue, (congrArg CraneWork.lane (works x)).trans a.lane, ?_⟩
  · rw [moves, a.held, Option.map_some, Move.resumed_kept (by rw [a.waits]; decide), ite_self]
  · rw [moves, a.free, Option.map_none, ite_self]

/-- The crane's current work is that move, or one under way (R148). -/
theorem State.headAlone.findWork : s.findWork x = (s, some i) ∨ ∃ j, j ≠ i ∧ s.findWork x = (s, some j) := by
  cases active : s.activeSlot x with
  | some j =>
    refine .inr ⟨j, fun same => ?_, State.findWork_active active⟩
    subst same
    have under : s.underWay x = some (j, o) := by
      unfold State.underWay
      rw [active]
      simp only [a.held, Option.map_some]
    have up := (State.underWay_mem under).2.2.2
    rw [a.idle] at up
    exact nomatch up
  | none =>
    left
    unfold State.findWork State.yieldMove
    rw [active, a.free, a.queue]
    exact State.examine_head a.held (by rw [a.waits]; decide) fun passes => passes.1 a.lane

/-- Step 4 of R152 for a crane that is OUT: the move waits still, with another reason if its leg was asked for (R150). -/
theorem State.headAlone.work4 (out : (s.crane x).presence = .out) (kind : o.kind ≠ .setDown) (b : Bool) (l : List Nat) :
    (s.work4 x b l).move i = some o
      ∨ ∃ why, (s.work4 x b l).move i = some { o with reason := some why } ∧ (o.kind = .park → why = .crane) := by
  have after := a.resumeIfFree l
  have away : (((s.resumeIfFree x l)).crane x).presence ≠ .active := by
    rw [show ((s.resumeIfFree x l).crane x).presence = _ from (congrArg CraneRec.presence ((s.settles_resumeIfFree x l).body x) :),
      show (s.crane x).body.presence = .out from out]
    decide
  have asks : ∀ j m leg, (s.resumeIfFree x l).move j = some m → ∃ why, (leg = .park → why = .crane)
      ∧ ((s.resumeIfFree x l).askLeg x j m leg).move i = if j = i then some (m.refused why) else some o := fun j m leg held => by
    obtain ⟨why, park, withdraws⟩ := State.askLeg_out away j m leg
    exact ⟨why, park, by rw [State.move_of_mvu withdraws.mvu, State.move_setMove, after.held]⟩
  have found : ∀ j, (s.resumeIfFree x l).findWork x = (s.resumeIfFree x l, some j) → j ≠ i → (s.work4 x b l).move i = some o := fun j finds other => by
    cases held : (s.resumeIfFree x l).move j with
    | none =>
      rw [State.work4_idle fun c same => by rw [finds] at same ⊢; exact Option.some.inj same ▸ held, finds]
      exact after.held
    | some m =>
      rcases State.work4_found (b := b) finds held with e | ⟨-, -, e⟩ | ⟨-, leg, -, e⟩
      · rw [e]
        exact after.held
      · rw [e]
        unfold State.setDownLift
        split
        · rw [State.lift, State.move_setCrane, State.move_setMove, if_neg other, after.held]
        · exact after.held
      · obtain ⟨why, -, move⟩ := asks j m leg held
        rw [e, move, if_neg other]
  rcases after.findWork with finds | ⟨j, other, finds⟩
  · rcases State.work4_found (b := b) finds after.held with e | ⟨sets, -⟩ | ⟨-, leg, asked, e⟩
    · rw [e]
      exact .inl after.held
    · exact absurd sets kind
    · obtain ⟨why, park, move⟩ := asks i o leg after.held
      refine .inr ⟨why, ?_, fun isPark => park ?_⟩
      · rw [e, move, if_pos rfl, Move.refused_standing (.inr a.waits), ← a.waits]
      · unfold Move.legToAsk at asked
        rw [a.waits, isPark] at asked
        exact (Option.some.inj asked).symm
  · exact .inl (found j finds other)

end

/-! ## A LIFTED move that waits again for its place leg -/

/-- The move in slot `i` is LIFTED in WAIT-PLACE, the lowest of its crane's under way. -/
structure State.carriesOn (s : State) (x : Crane) (i : Nat) (o : Move) : Prop where
  slot : i < 16
  held : s.move i = some o
  crane : o.crane = x
  lifted : o.state = .lifted .waitPlace
  stop : o.stop = .none
  below : ∀ j q, j < i → s.move j = some q → q.crane = x → q.underWay = false
  free : s.move (yieldSlot x) = none

section
variable {s : State} {x : Crane} {i : Nat} {o : Move} (a : s.carriesOn x i o)
include a

theorem State.carriesOn.underWay : s.underWay x = some (i, o) :=
  State.underWay_lowest (Nat.lt_of_lt_of_le a.slot (by decide)) a.held a.crane (Move.underWay_lifted a.lifted).1 a.below

theorem State.carriesOn.compareHook (k : Hook) : (s.compareHook x k).carriesOn x i o :=
  ⟨a.slot, (s.move_compareHook x k i).trans a.held, a.crane, a.lifted, a.stop,
    fun j q less held => a.below j q less ((s.move_compareHook x k j).symm.trans held), (s.move_compareHook x k _).trans a.free⟩

theorem State.carriesOn.completeStop (n : Nat) (inside : Bool) : s.completeStop x n inside = s :=
  State.completeStop_kept (fun j m found p sent => by
    obtain ⟨rfl, rfl⟩ := Prod.mk.inj (Option.some.inj (a.underWay.symm.trans found))
    rw [a.stop] at sent
    exact nomatch sent) n inside

theorem State.carriesOn.resumeIfFree (l : List Nat) : (s.resumeIfFree x l).carriesOn x i o := by
  obtain ⟨moves, -⟩ := State.resumeIfFree_free a.free l
  refine ⟨a.slot, ?_, a.crane, a.lifted, a.stop, fun j q less held crane => ?_, ?_⟩
  · rw [moves, a.held, Option.map_some, Move.resumed_kept (by rw [a.lifted]; decide), ite_self]
  · rw [moves] at held
    split at held
    · obtain ⟨p, before, rfl⟩ := Option.map_eq_some_iff.mp held
      rw [Move.resumed_crane] at crane
      exact Move.resumed_idle (a.below j p less before crane)
    · exact a.below j q less held crane
  · rw [moves, a.free, Option.map_none, ite_self]

/-- Step 4 of R152 for a crane that is OUT: the move stands in WAIT-PLACE, with its hull (R125, R160). -/
theorem State.carriesOn.work4 (out : (s.crane x).presence = .out) (b : Bool) (l : List Nat) :
    (∃ why, (s.work4 x b l).move i = some { o with reason := why }) ∧ ((s.work4 x b l).crane x).hull = (s.crane x).hull := by
  have after := a.resumeIfFree l
  obtain ⟨u, resumes⟩ : ∃ u, u = s.resumeIfFree x l := ⟨_, rfl⟩
  have hull : (u.crane x).hull = (s.crane x).hull := by
    rw [resumes]
    unfold State.resumeIfFree
    split
    · rfl
    · obtain ⟨_, e⟩ := State.resumeSlots_records x l s
      rw [e]
      cases x <;> rfl
  have away : (u.crane x).presence ≠ .active := by
    rw [show (u.crane x).presence = _ from (congrArg CraneRec.presence ((resumes ▸ s.settles_resumeIfFree x l : s.settles u).body x) :),
      show (s.crane x).body.presence = .out from out]
    decide
  rw [← resumes] at after
  have finds : (s.resumeIfFree x l).findWork x = (u, some i) := by
    have active : u.activeSlot x = some i := by
      have under := after.underWay
      unfold State.underWay at under
      split at under
      · next j found =>
        obtain ⟨q, -, same⟩ := Option.map_eq_some_iff.mp under
        rw [found, (Prod.mk.inj same).1]
      · exact nomatch under
    rw [← resumes]
    exact State.findWork_active active
  rcases State.work4_found (b := b) finds after.held with e | ⟨-, stands, -⟩ | ⟨-, leg, -, e⟩
  · rw [e]
    exact ⟨⟨o.reason, after.held⟩, hull⟩
  · rw [(Move.underWay_lifted a.lifted).2.2] at stands
    exact nomatch stands
  · obtain ⟨why, -, withdraws⟩ := State.askLeg_out away i o leg
    refine ⟨⟨some why, ?_⟩, ?_⟩
    · rw [e, State.move_of_mvu withdraws.mvu, State.move_setMove_same]
      unfold Move.refused
      rw [(Move.underWay_lifted a.lifted).2.1]
      rfl
    · rw [e, withdraws.hull, State.crane_setMove, hull]

end

/-! ## The obligation -/

/-- Going OUT leaves an empty record empty (R160). -/
theorem State.yieldRight.empty {s : State} {x : Crane} (right : s.yieldRight x) {j : Nat} (empty : s.move j = none) :
    (s.craneOut x).move j = none := by
  obtain ⟨moves, -⟩ := right.ends rfl
  have still : (s.endMove (yieldSlot x) .cancelled true).move j = none := by
    rw [moves, empty]
    simp
  rw [State.craneOut_eq]
  exact (State.loseGrant_spares ((moves _).trans (if_pos rfl)) fun o held => by rw [still] at held; exact nomatch held).trans still

/-- The other moves of the crane are not under way once it has gone OUT (R160). -/
theorem State.yieldRight.others {s : State} {x : Crane} {i : Nat} {m : Move} (right : s.yieldRight x) (main : s.mainMove x i m) {j : Nat} {q : Move}
    (less : j < 16) (other : j ≠ i) (held : (s.craneOut x).move j = some q) (crane : q.crane = x) : q.underWay = false := by
  obtain ⟨-, -, -, -, stands, suspends, foreign⟩ := right.movesOut
  cases before : s.move j with
  | none =>
    rw [right.empty before] at held
    exact nomatch held
  | some p =>
    by_cases mine : p.crane = x
    · have idle := main.2.2.2 j p less other before mine
      cases state : p.state with
      | queued | waiting =>
        obtain rfl := Option.some.inj ((stands j p less before (by simp [state])).symm.trans held)
        exact idle
      | suspended =>
        have after := (suspends j p less before mine state).symm.trans held
        split at after
        · obtain rfl := Option.some.inj after
          rfl
        · obtain rfl := Option.some.inj after
          exact idle
      | toPick | lifted =>
        unfold Move.underWay at idle
        rw [state] at idle
        exact nomatch idle
    · obtain rfl := Option.some.inj ((foreign j p before mine).symm.trans held)
      exact absurd crane mine

/-- A TO-PICK move with no stop, alone in its queue, waits again (R160). -/
theorem State.yieldRight.waitsAgain {s : State} {x : Crane} {i : Nat} {m : Move} (right : s.yieldRight x) (main : s.mainMove x i m)
    (picks : m.state = .toPick) (stop : m.stop = .none) (queue : (s.work x).queue = [.move i]) (lane : (s.work x).lane = .none) :
    (s.craneOut x).headAlone x i { m with state := .waiting, reason := some .crane } := by
  obtain ⟨yields, -, picked, -⟩ := right.movesOut
  have record := (picked i m main picks).1 stop
  obtain ⟨t, ended⟩ : ∃ t, t = s.endMove (yieldSlot x) .cancelled true := ⟨_, rfl⟩
  have apart : yieldSlot x ≠ i := Nat.ne_of_gt (Nat.lt_of_lt_of_le main.1 (sixteen_le_yieldSlot x))
  have work : (t.work x).queue = [.move i] ∧ (t.work x).lane = .none := by
    cases held : s.move (yieldSlot x) with
    | none =>
      have same : t = s := by
        rw [ended]
        unfold State.endMove
        rw [held]
      rw [same]
      exact ⟨queue, lane⟩
    | some y =>
      have facts := (State.endMove_ended held .cancelled true).work
      rw [(right y held).1, ← ended] at facts
      rw [facts]
      refine ⟨?_, ?_⟩
      · rw [queue]
        simp [leaveQueue, leadOff, Ne.symm apart]
      · show (s.setMove (yieldSlot x) none).settledLane x = _
        unfold State.settledLane
        rw [State.work_setMove, lane]
        rfl
  have after : (s.craneOut x).work x = t.work x := by
    rw [State.craneOut_eq, State.loseGrant_toPick (right.underWay main (Move.underWay_toPick picks).1) picks, ← ended]
    unfold State.outToPick
    rw [stop]
    dsimp only
    rw [State.laneSettle_quiet (by rw [State.work_setMove, work.2]; decide), State.work_setMove]
  exact ⟨main.1, record, rfl, (congrArg CraneWork.queue after).trans work.1, (congrArg CraneWork.lane after).trans work.2, yields⟩

/-- The report at which a crane goes OUT (R122, R152, R160): `g` is the state in which its moves meet that, `w` the state at its end. -/
theorem State.takeReport_out {s : State} {x : Crane} {n k : Nat} {r : Range} (segment : n < 32) (hook : k ≤ 1)
    (present : (s.crane x).presence ≠ .out) (held : (s.crane x).interval = some r) (inside : r.has n = true) :
    ∃ (g w : State) (o : Order) (within : Bool), s.takeReport x n k 5 = (w, orderReply true o)
      ∧ (∀ j, g.move j = s.move j) ∧ (∀ y, g.work y = s.work y)
      ∧ g.crane x = { s.crane x with
          presence := .out, position := some n, hook := some (hookOf k), interval := some ⟨n, n⟩, timer := none, outside := false }
      ∧ (g.crane x.other).interval = (s.crane x.other).interval
      ∧ (∀ j, j < 32 → r.has j = true → j ≠ n → 1 ≤ (s.segment j).vacate → g.vacate j = some ⟨x, (s.segment j).vacate⟩)
      ∧ g.settles w ∧ (g.craneOut x).grows w ∧ (s.rru.breach = none → (w.work x).mismatch = false → o = .idle)
      ∧ w = ((((g.craneOut x).compareHook x (hookOf k)).completeStop x n within).work4 x true (s.suspendedSlots x)).ordered x o := by
  obtain ⟨takes, g, gone, moves, works, crane, other, breach, vacates⟩ := State.goesOut_reads present held inside (hookOf k)
  have settles := g.settles_craneOut x
  have out : ((g.craneOut x).crane x).presence = .out := (congrArg CraneRec.presence (settles.body x) :).trans (by rw [crane]; rfl)
  have parked : ((g.craneOut x).crane x).interval = some ⟨n, n⟩ := (congrArg CraneRec.interval (settles.body x) :).trans (by rw [crane]; rfl)
  have event : s.eventOf x n k 5 = (g.craneOut x, true) := by
    unfold State.eventOf State.takeEvent
    exact (if_pos takes).trans (by rw [gone])
  obtain ⟨w, o, rest, stages, after, order⟩ := State.afterEvent_out out parked (hookOf k)
    ((s.runwayReport x n (hookOf k)).insideInterval x n) true true (s.suspendedSlots x)
  refine ⟨g, w, o, _, ?_, moves, works, crane, other, vacates, settles.trans after, ?_, fun clear quiet => order (settles.breach.trans (breach clear)) quiet,
    stages⟩
  · rw [State.takeReport_valid s x segment hook (by decide), event]
    exact rest
  · have moved := (g.craneOut x).moved_afterEvent x n (hookOf k) ((s.runwayReport x n (hookOf k)).insideInterval x n) true true (s.suspendedSlots x)
    rw [rest] at moved
    exact moved.grows

/-- The report at which a crane comes IN again (R122, R152, R160). -/
theorem State.takeReport_in {s : State} {x : Crane} {n k : Nat} (segment : n < 32) (hook : k ≤ 1) (parked : (s.crane x).presence = .out)
    (held : (s.crane x).interval = some ⟨n, n⟩) :
    ∃ (w : State) (o : Order), s.takeReport x n k 6 = (w, orderReply true o) ∧ s.nonePicked w
      ∧ (w.crane x).body = { (s.crane x).body with
          presence := .active, position := some n, hook := some (hookOf k), timer := some (s.presenceTimeout x), outside := false } := by
  obtain ⟨v, heard⟩ : ∃ v, v = s.runwayReport x n (hookOf k) := ⟨_, rfl⟩
  have inside : (⟨n, n⟩ : Range).has n = true := by simp [Range.has]
  have record : v.crane x = { s.crane x with position := some n, hook := some (hookOf k), outside := false } := by
    rw [heard, State.runwayReport_crane held, inside, State.seenRec, if_pos parked, if_pos parked, ← parked]
    rfl
  have takes : v.takesIn x n = true := by
    unfold State.takesIn
    rw [record]
    simp [parked, held, Range.point]
  have timeout : v.presenceTimeout x = s.presenceTimeout x := by
    obtain ⟨_, _, _, _, only⟩ := s.runwayReport_only x n (hookOf k)
    rw [heard, only]
    rfl
  have event : s.eventOf x n k 6 = (v.goIn x, true) := by
    unfold State.eventOf State.takeEvent
    rw [← heard]
    exact if_pos takes
  obtain ⟨u, back⟩ : ∃ u, u = v.goIn x := ⟨_, rfl⟩
  have crane : u.crane x = { s.crane x with
      presence := .active, position := some n, hook := some (hookOf k), timer := some (s.presenceTimeout x), outside := false } := by
    rw [back, State.goIn, State.crane_setCrane, if_pos rfl, record, timeout]
  have still : ((u.compareHook x (hookOf k)).crane x).interval = some ⟨n, n⟩ := by
    refine (congrArg CraneRec.interval ((u.settles_compareHook x (hookOf k)).body x) :).trans ?_
    rw [crane]
    exact held
  have settles : u.settles (u.afterEvent x n (hookOf k) (v.insideInterval x n) false true (s.suspendedSlots x)).1 :=
    ((((u.settles_compareHook x _).trans (State.settles_completeStop still _)).trans (State.settles_work4 (.inl rfl) _))).trans
      (State.settles_giveOrder _ _ _)
  have moves : ∀ j, u.move j = s.move j := fun j => by
    rw [back, State.goIn, State.move_setCrane, heard, State.move_runwayReport]
  have picks := (State.nonePicked.of_moves moves).trans (State.nonePicked_afterEvent (s := u) (x := x) (k := hookOf k) (b := false) (.inl rfl) n
    (v.insideInterval x n) true (s.suspendedSlots x))
  obtain ⟨o, reply⟩ := u.afterEvent_reply x n (hookOf k) (v.insideInterval x n) false true (s.suspendedSlots x)
  refine ⟨_, o, ?_, picks, ?_⟩
  · rw [State.takeReport_valid s x segment hook (by decide), event, ← heard, ← back]
    exact Prod.ext rfl reply
  · rw [settles.body, crane]
    rfl

/-- Settles O47: a crane goes OUT by its own report, and IN again. -/
theorem craneGoesOutAndIn : Obligations.CraneGoesOutAndIn := by
  constructor
  · intro s h x n k r a segment hook present held inside right
    obtain ⟨l, runs⟩ := exec_report a n k 5
    obtain ⟨g, w, o, within, takes, moves, works, crane, other, vacates, settles, grows, order, stages⟩ :=
      State.takeReport_out (s := { s with lnk := l }) segment hook present held inside
    have rightG : g.yieldRight x := right.congr moves
    have main : ∀ i m, s.mainMove x i m → g.mainMove x i m := fun i m main => by
      obtain ⟨slot, at_i, mine, others⟩ := main
      exact ⟨slot, (moves i).trans at_i, mine, fun j o less away at_j => others j o less away ((moves j).symm.trans at_j)⟩
    obtain ⟨yields, posts, picks, lifts, -⟩ := rightG.movesOut
    have settled := g.settles_craneOut x
    have out : ((g.craneOut x).crane x).presence = .out := (congrArg CraneRec.presence (settled.body x) :).trans (by rw [crane]; rfl)
    have parked : ((g.craneOut x).crane x).interval = some ⟨n, n⟩ :=
      (congrArg CraneRec.interval (settled.body x) :).trans (by rw [crane]; rfl)
    have empties : ∀ j, (g.craneOut x).move j = none → w.move j = none := fun j empty => by
      rw [stages, (State.ordered_reads _ x o).1]
      exact State.afterEvent_empty out parked (hookOf k) within true _ empty
    have body := (settles.body x).trans (by rw [crane])
    rw [takes] at runs
    refine ⟨_, o, runs, (congrArg CraneRec.presence body :), (congrArg CraneRec.interval body :), (congrArg CraneRec.timer body :),
      (congrArg CraneRec.position body :), (congrArg CraneRec.interval (settles.body x.other) :).trans other, order, fun j less has away counts => ?_,
      empties _ yields, fun y at_y clear => ?_, fun i m mains toPick queue lane kind => ?_, fun i m mains stopped => ?_,
      fun i m p mains lifted stop => ?_⟩
    · have given := vacates j less has away counts
      show w.vacate j = _
      unfold State.vacate at given ⊢
      rw [settles.vacates]
      exact given
    · obtain ⟨c, mem, kind, subject⟩ := posts y ((moves _).trans at_y) ((grows .PL).1 clear)
      exact (grows .PL).2 _ _ ⟨c, mem, kind, subject⟩
    · have waits := rightG.waitsAgain (main i m mains) toPick.1 toPick.2 ((congrArg CraneWork.queue (works x)).trans queue)
        ((congrArg CraneWork.lane (works x)).trans lane)
      have reads := (State.ordered_reads (((((g.craneOut x).compareHook x (hookOf k)).completeStop x n within)).work4 x true
        (State.suspendedSlots { s with lnk := l } x)) x o).1 i
      rw [← stages] at reads
      rcases ((waits.compareHook (hookOf k)).completeStop n within).work4 (State.settles_stopped out parked (hookOf k) within).2 kind true
          (State.suspendedSlots { s with lnk := l } x) with same | ⟨why, asked, park⟩
      · exact ⟨.crane, reads.trans same, fun _ => rfl⟩
      · exact ⟨why, reads.trans asked, park⟩
    · exact empties i ((picks i m (main i m mains) stopped.1).2.1 stopped.2)
    · obtain ⟨record, hull⟩ := lifts i m p (main i m mains) lifted
      have carries : (g.craneOut x).carriesOn x i { m with state := .lifted .waitPlace } :=
        ⟨mains.1, record, mains.2.2.1, rfl, stop,
          fun j q less => rightG.others (main i m mains) (Nat.lt_trans less mains.1) (Nat.ne_of_lt less), yields⟩
      have after := carries.compareHook (hookOf k)
      obtain ⟨reads, cranes, -⟩ := State.ordered_reads (((((g.craneOut x).compareHook x (hookOf k)).completeStop x n within)).work4 x true
        (State.suspendedSlots { s with lnk := l } x)) x o
      have hooked : (((g.craneOut x).compareHook x (hookOf k)).crane x).hull = (s.crane x).hull := by
        rw [((g.craneOut x).compareHook_sets x (hookOf k)).crane, State.crane_setWork, hull, crane]
        rfl
      have still := (State.settles_stopped out parked (hookOf k) within).2
      rw [← stages] at reads cranes
      rw [after.completeStop] at still reads cranes
      obtain ⟨⟨why, stands⟩, hullT⟩ := after.work4 still true (State.suspendedSlots { s with lnk := l } x)
      exact ⟨⟨why, (reads i).trans stands⟩, (congrArg CraneRec.hull (cranes x)).trans (hullT.trans hooked)⟩
  · intro s h x n k a segment hook parked held
    obtain ⟨l, runs⟩ := exec_report a n k 6
    obtain ⟨w, o, takes, picks, body⟩ := State.takeReport_in (s := { s with lnk := l }) segment hook parked held
    rw [takes] at runs
    exact ⟨_, o, runs, (congrArg CraneRec.presence body :), (congrArg CraneRec.interval body :).trans held, (congrArg CraneRec.timer body :),
      (congrArg CraneRec.position body :), picks⟩

end Sys2Proof.Machine
end

section
/-! SUPPORT. Proofs/Barred.lean: barriers and the lane: the requests (R147, R149), and what they do to a queue at a report (R148). -/

namespace Sys2Proof.Machine

/-! ## The requests -/

theorem MoveKind.lane_iff {k : MoveKind} : k.lane = false ↔ k = .strip ∨ k = .setDown := by
  cases k <;> decide

theorem Move.underWay_iff {m : Move} : m.underWay = true ↔ m.state = .toPick ∨ ∃ p, m.state = .lifted p := by
  unfold Move.underWay
  cases m.state <;> simp

/-- A move that is not of a lane kind is TO-PICK or LIFTED (R149). -/
theorem State.laneBlocked_iff {s : State} {x : Crane} : s.laneBlocked x = true
    ↔ ∃ i m, i < 16 ∧ s.move i = some m ∧ m.crane = x ∧ m.underWay = true ∧ (m.kind = .strip ∨ m.kind = .setDown) := by
  unfold State.laneBlocked
  rw [State.findSlot_isSome]
  simp only [Bool.and_eq_true, decide_eq_true_eq, MoveKind.lane_iff, and_assoc]
  rfl

section
variable {s : State} {x : Crane}

theorem State.putBarrier_full (full : (s.work x).queue.length = 10) : State.putBarrier x s = Answer.refuse s .full :=
  if_pos (Nat.le_of_eq full.symm)

theorem State.putBarrier_empty (empty : (s.work x).queue = []) : State.putBarrier x s = Answer.done s := by
  unfold State.putBarrier
  dsimp only
  rw [empty]
  rfl

theorem State.putBarrier_tail (other : (s.work x).queue ≠ []) (room : (s.work x).queue.length < 10) :
    State.putBarrier x s = Answer.done (s.setWork x { s.work x with queue := (s.work x).queue ++ [.barrier] }) := by
  refine (if_neg (Nat.not_le.mpr room)).trans (if_neg ?_)
  rwa [List.isEmpty_iff]

theorem State.requestLane_taken (taken : (s.work x).lane ≠ .none) : State.requestLane x s = Answer.refuse s .state := if_pos taken

theorem State.requestLane_blocked (free : (s.work x).lane = .none) (blocked : s.laneBlocked x = true) :
    State.requestLane x s = Answer.done (s.setWork x { s.work x with lane := .pending }) (.lane .pending) :=
  (if_neg (not_not_intro free)).trans (if_pos blocked)

theorem State.requestLane_on (free : (s.work x).lane = .none) (clear : s.laneBlocked x = false) :
    State.requestLane x s = Answer.done (s.laneOn x) (.lane .active) :=
  (if_neg (not_not_intro free)).trans (if_neg (by rw [clear]; decide))

theorem State.releaseLane_free (free : (s.work x).lane = .none) : State.releaseLane x s = Answer.refuse s .state := if_pos free

theorem State.releaseLane_taken (taken : (s.work x).lane ≠ .none) :
    State.releaseLane x s = Answer.done (s.setWork x { s.work x with lane := .none }) := if_neg taken

end

/-- The lane goes ACTIVE (R149). -/
theorem State.laneOn_reads (s : State) (x : Crane) : (s.laneOn x).work x = { s.work x with lane := .active }
    ∧ (s.laneOn x).work x.other = s.work x.other ∧ (s.laneOn x).mvu.moves = s.mvu.moves
    ∧ (((s.laneOn x).condSet .PL).overflow = false → ((s.laneOn x).condSet .PL).holds .laneActive (.crane x))
    ∧ (s.laneOn x).condSet .CW = s.condSet .CW ∧ (s.laneOn x).condSet .CE = s.condSet .CE
    ∧ (s.laneOn x).lnk = s.lnk ∧ { s.laneOn x with mvu := s.mvu, cnd := s.cnd } = s := by
  have sets := (s.setWork x { s.work x with lane := .active }).postEvent_only .PL .laneActive (.crane x)
  have posted : ∀ p, p ≠ .PL → (s.laneOn x).condSet p = s.condSet p := fun p other => by
    refine (State.condSet_postAt _ _ _ _ _ _ _).trans ((if_neg (Ne.symm other)).trans ?_)
    unfold State.condSet
    rw [State.setWork_cnd]
  refine ⟨(sets.work x).trans ((State.work_setWork ..).trans (if_pos rfl)),
    (sets.work _).trans ((State.work_setWork ..).trans (if_neg (State.other_ne x))), ?_, fun kept => State.grows.holds (.refl _) kept,
    posted .CW (by decide), posted .CE (by decide), ?_, ?_⟩
  · refine (congrArg Mvu.moves sets.mvu).trans ?_
    cases x <;> rfl
  · obtain ⟨_, _, _, e⟩ := sets
    rw [State.laneOn, e]
    cases x <;> rfl
  · obtain ⟨_, _, _, e⟩ := sets
    rw [State.laneOn, e]
    cases x <;> rfl

theorem fieldCrane_coded (f : Crane → State → Answer) (x : Crane) (s : State) : fieldCrane f [craneCode x] s = f x s := by
  cases x <;> rfl

theorem fieldCrane_bad (f : Crane → State → Answer) {n : Nat} (bad : 2 ≤ n) (s : State) : fieldCrane f [n] s = Answer.badField s 1 := by
  obtain ⟨d, rfl⟩ := Nat.exists_eq_add_of_le' bad
  rfl

/-- The requests of O38. -/
theorem barrierAndLane_requests {s : State} {h : Header} (a : s.planner h) :
    (∀ n, 2 ≤ n → exec (.barrier h [n]) s = .next (s.answered h .barrier (badFieldReply 1))
      ∧ exec (.laneRequest h [n]) s = .next (s.answered h .laneRequest (badFieldReply 1))
      ∧ exec (.laneRelease h [n]) s = .next (s.answered h .laneRelease (badFieldReply 1)))
    ∧ ∀ x : Crane,
      ((s.work x).queue.length = 10 → exec (.barrier h [craneCode x]) s = .next
          (s.answered h .barrier { result := .full }))
      ∧ ((s.work x).queue = [] → exec (.barrier h [craneCode x]) s = .next (s.answered h .barrier ok))
      ∧ ((s.work x).queue ≠ [] → (s.work x).queue.length < 10 → exec (.barrier h [craneCode x]) s = .next
          ((s.setWork x { s.work x with queue := (s.work x).queue ++ [.barrier] }).answered h .barrier ok))
      ∧ ((s.work x).lane ≠ .none →
        exec (.laneRequest h [craneCode x]) s = .next (s.answered h .laneRequest { result := .state })
        ∧ exec (.laneRelease h [craneCode x]) s = .next
          ((s.setWork x { s.work x with lane := .none }).answered h .laneRelease ok))
      ∧ ((s.work x).lane = .none →
        exec (.laneRelease h [craneCode x]) s = .next (s.answered h .laneRelease { result := .state }))
      ∧ (∀ i m, (s.work x).lane = .none → i < 16 → s.move i = some m → m.crane = x →
        (m.state = .toPick ∨ ∃ p, m.state = .lifted p) → (m.kind = .strip ∨ m.kind = .setDown) →
        exec (.laneRequest h [craneCode x]) s = .next
          ((s.setWork x { s.work x with lane := .pending }).answered h .laneRequest
            { result := .done, data := .lane .pending }))
      ∧ ((s.work x).lane = .none →
        (∀ i m, i < 16 → s.move i = some m → m.crane = x → (m.state = .toPick ∨ ∃ p, m.state = .lifted p) →
          m.kind ≠ .strip ∧ m.kind ≠ .setDown) →
        ∃ t : State, exec (.laneRequest h [craneCode x]) s = .next
            (t.answered h .laneRequest { result := .done, data := .lane .active })
          ∧ t.work x = { s.work x with lane := .active } ∧ t.work x.other = s.work x.other ∧ t.mvu.moves = s.mvu.moves
          ∧ ((t.condSet .PL).overflow = false →
              ∃ r ∈ (t.condSet .PL).records, r.kind = .laneActive ∧ r.subject = .crane x)
          ∧ t.condSet .CW = s.condSet .CW ∧ t.condSet .CE = s.condSet .CE
          ∧ { t with mvu := s.mvu, cnd := s.cnd } = s) := by
  refine ⟨fun n bad => ⟨?_, ?_, ?_⟩, fun x => ⟨fun full => ?_, fun empty => ?_, fun other room => ?_, fun taken => ⟨?_, ?_⟩, fun free => ?_,
    fun i m free slot held crane under kind => ?_, fun free none => ?_⟩⟩
  · exact exec_planner (c := .barrier h [n]) rfl a rfl (fun l => fieldCrane_bad _ bad _) rfl rfl rfl
  · exact exec_planner (c := .laneRequest h [n]) rfl a rfl (fun l => fieldCrane_bad _ bad _) rfl rfl rfl
  · exact exec_planner (c := .laneRelease h [n]) rfl a rfl (fun l => fieldCrane_bad _ bad _) rfl rfl rfl
  · exact exec_planner (c := .barrier h [craneCode x]) rfl a rfl
      (fun l => (fieldCrane_coded _ x _).trans (State.putBarrier_full (s := { s with lnk := l }) full)) rfl rfl rfl
  · exact exec_planner (c := .barrier h [craneCode x]) rfl a rfl
      (fun l => (fieldCrane_coded _ x _).trans (State.putBarrier_empty (s := { s with lnk := l }) empty)) rfl rfl rfl
  · refine exec_planner (c := .barrier h [craneCode x]) rfl a (by cases x <;> rfl)
      (fun l => (fieldCrane_coded _ x _).trans ((State.putBarrier_tail (s := { s with lnk := l }) other room).trans ?_)) rfl rfl rfl
    cases x <;> rfl
  · exact exec_planner (c := .laneRequest h [craneCode x]) rfl a rfl
      (fun l => (fieldCrane_coded _ x _).trans (State.requestLane_taken (s := { s with lnk := l }) taken)) rfl rfl rfl
  · refine exec_planner (c := .laneRelease h [craneCode x]) rfl a (by cases x <;> rfl)
      (fun l => (fieldCrane_coded _ x _).trans ((State.releaseLane_taken (s := { s with lnk := l }) taken).trans ?_)) rfl rfl rfl
    cases x <;> rfl
  · exact exec_planner (c := .laneRelease h [craneCode x]) rfl a rfl
      (fun l => (fieldCrane_coded _ x _).trans (State.releaseLane_free (s := { s with lnk := l }) free)) rfl rfl rfl
  · refine exec_planner (c := .laneRequest h [craneCode x]) rfl a (by cases x <;> rfl)
      (fun l => (fieldCrane_coded _ x _).trans ((State.requestLane_blocked (s := { s with lnk := l }) free ?_).trans ?_)) rfl rfl rfl
    · exact State.laneBlocked_iff.mpr ⟨i, m, slot, held, crane, Move.underWay_iff.mpr under, kind⟩
    · cases x <;> rfl
  · obtain ⟨l, handled⟩ := s.handled_eq h .laneRequest
    obtain ⟨v, at_v⟩ : ∃ v : State, v = { s with lnk := l } := ⟨_, rfl⟩
    have clear : v.laneBlocked x = false := by
      refine Bool.eq_false_iff.mpr fun blocked => ?_
      obtain ⟨i, m, slot, held, crane, under, kind⟩ := State.laneBlocked_iff.mp blocked
      rw [at_v] at held
      obtain ⟨strip, setDown⟩ := none i m slot held crane (Move.underWay_iff.mp under)
      exact kind.elim strip setDown
    obtain ⟨work, others, moves, posts, west, east, link, frame⟩ := v.laneOn_reads x
    have acts : fieldCrane State.requestLane [craneCode x] (s.handled h .laneRequest)
        = (v.laneOn x, { result := .done, data := .lane .active }) := by
      rw [handled, ← at_v]
      exact (fieldCrane_coded State.requestLane x v).trans (State.requestLane_on (s := v) (by rw [at_v]; exact free) clear)
    have runs := exec_planner_handled (v := v.laneOn x) (r := { result := .done, data := .lane .active })
      (c := .laneRequest h [craneCode x]) rfl a acts (by rw [handled, ← at_v]; exact link) rfl rfl rfl
    refine ⟨_, runs, ?_⟩
    generalize v.laneOn x = t at work others moves posts west east frame
    rw [at_v] at work others moves west east frame
    exact ⟨work, others, moves, posts, west, east, congrArg (fun u : State => { u with lnk := s.lnk }) frame⟩

end Sys2Proof.Machine
end

section
/-! SUPPORT. Proofs/Passed.lean: the queue of a crane at a report: the moves set aside, and the head candidate asked for (R147, R148). -/

namespace Sys2Proof.Machine

/-! ## Entries that only wait -/

/-- The entries of a list but its barriers: live moves of the crane, QUEUED or WAITING, each once at most. -/
structure State.standsIn (s : State) (x : Crane) (p : List Entry) : Prop where
  live : ∀ j, .move j ∈ p → ∃ m, s.move j = some m ∧ m.crane = x ∧ m.standing = true
  once : ∀ j, p.count (.move j) ≤ 1

section
variable {s t : State} {x : Crane} {p q : List Entry} {i : Nat}

theorem State.standsIn.sublist (a : s.standsIn x p) (sub : q.Sublist p) : s.standsIn x q :=
  ⟨fun j mem => a.live j (sub.subset mem), fun j => Nat.le_trans (sub.count_le _) (a.once j)⟩

theorem State.standsIn.of_same (a : s.standsIn x p) (same : ∀ j, .move j ∈ p → t.move j = s.move j) : t.standsIn x p :=
  ⟨fun j mem => by rw [same j mem]; exact a.live j mem, a.once⟩

/-- A move stands at one place of its queue (R159). -/
theorem State.standsIn.apart (a : s.standsIn x (.move i :: p)) : .move i ∉ p := fun mem => by
  have once := a.once i
  rw [List.count_cons_self] at once
  exact absurd (List.count_pos_iff.mpr mem) (by omega)

end

/-! ## Moves set aside (R130, R148) -/

/-- The moves of a list, of crane `x`, have been made to wait or to queue, and the standing refusal that names one is withdrawn. -/
structure State.setsAside (s t : State) (x : Crane) (p : List Entry) : Prop where
  others : ∀ j, .move j ∉ p → t.move j = s.move j
  alike : ∀ j, (t.move j).map (fun m => (m.serial, m.crane)) = (s.move j).map (fun m => (m.serial, m.crane))
  refusal : ∀ q, (t.crane x).refusal = some q ↔ (s.crane x).refusal = some q ∧ ∀ j, .move j ∈ p → (s.move j).map Move.serial ≠ some q.serial
  crane : { t.crane x with refusal := (s.crane x).refusal } = s.crane x
  other : t.crane x.other = s.crane x.other
  works : ∀ y, t.work y = s.work y
  breach : t.rru.breach = s.rru.breach
  frame : { t with rru := s.rru, mvu := s.mvu, cnd := s.cnd } = s

section
variable {s t u : State} {x : Crane} {p q : List Entry} {i : Nat} {m : Move}

theorem State.setsAside.refl (s : State) (x : Crane) : s.setsAside s x [] :=
  ⟨fun _ _ => rfl, fun _ => rfl, fun _ => ⟨fun held => ⟨held, fun _ mem => nomatch mem⟩, And.left⟩, rfl, rfl, fun _ => rfl, rfl, rfl⟩

theorem State.setsAside.serials (h : s.setsAside t x p) (j : Nat) : (t.move j).map Move.serial = (s.move j).map Move.serial := by
  have same := congrArg (Option.map Prod.fst) (h.alike j)
  rw [Option.map_map, Option.map_map] at same
  exact same

theorem State.setsAside.trans (h : s.setsAside t x p) (g : t.setsAside u x q) : s.setsAside u x (p ++ q) where
  others j away := by
    rw [g.others j fun mem => away (List.mem_append_right _ mem), h.others j fun mem => away (List.mem_append_left _ mem)]
  alike j := (g.alike j).trans (h.alike j)
  refusal r := by
    simp only [g.refusal, h.refusal, h.serials, and_assoc, List.mem_append]
    exact and_congr_right fun _ => ⟨fun ⟨first, last⟩ j mem => mem.elim (first j) (last j),
      fun all => ⟨fun j mem => all j (.inl mem), fun j mem => all j (.inr mem)⟩⟩
  crane := by
    have same := g.crane
    rw [← h.crane, ← same]
  other := g.other.trans h.other
  works y := (g.works y).trans (h.works y)
  breach := g.breach.trans h.breach
  frame := (congrArg (fun w : State => { w with rru := s.rru, mvu := s.mvu, cnd := s.cnd }) g.frame :).trans h.frame

/-- What is set aside are the moves of a list, whatever its barriers. -/
theorem State.setsAside.congr (h : s.setsAside t x p) (same : ∀ j, .move j ∈ q ↔ .move j ∈ p) : s.setsAside t x q :=
  ⟨fun j away => h.others j (mt (same j).mpr away), h.alike, fun r => by simp only [h.refusal, same], h.crane, h.other, h.works, h.breach, h.frame⟩

theorem State.setsAside_one (held : s.move i = some m) (crane : m.crane = x) (st : MoveState) (why : Option WaitReason) :
    s.setsAside (s.setAside i m st why) x [.move i] := by
  have moves := s.move_setAside i m st why
  have cranes := s.crane_setAside i m st why
  have pair := s.setAside_pair i m st why
  rw [crane] at cranes pair
  refine ⟨fun j away => ?_, fun j => ?_, fun r => ?_, ?_, ?_, s.work_setAside i m st why, ?_, ?_⟩
  · rw [moves, if_neg fun same => away (by rw [same]; exact List.mem_singleton_self _)]
  · rw [moves]
    split
    · next same =>
      subst same
      rw [held]
      rfl
    · rfl
  · rw [cranes, if_pos rfl]
    show refusalWithout _ _ = _ ↔ _
    rw [refusalWithout_eq_some]
    refine and_congr_right fun _ => ⟨fun other j mem same => ?_, fun all same => all i (List.mem_singleton_self _) ?_⟩
    · obtain rfl := Entry.move.inj (List.mem_singleton.mp mem)
      rw [held] at same
      exact other (Option.some.inj same)
    · rw [held]
      exact congrArg some same
  · rw [cranes, if_pos rfl]
  · rw [cranes, if_neg (State.other_ne x)]
  · exact pair.runway.2.1.trans (State.setCrane_runway _ _ _).2.1
  · obtain ⟨_, _, e⟩ := pair
    rw [e]
    cases x <;> rfl

/-- The first entry set aside, and the others after it. -/
theorem State.standsIn.first (a : s.standsIn x (.move i :: p)) (held : s.move i = some m) {st : MoveState} {why : Option WaitReason}
    (rest : (s.setAside i m st why).setsAside t x p) : s.setsAside t x (.move i :: p)
      ∧ t.move i = some { m with state := st, reason := why } := by
  obtain ⟨o, at_i, crane, -⟩ := a.live i List.mem_cons_self
  obtain rfl := Option.some.inj (held.symm.trans at_i)
  refine ⟨(State.setsAside_one held crane st why).trans rest, ?_⟩
  rw [rest.others i a.apart, State.move_setAside, if_pos rfl]

/-- The entries after the first, once it has been set aside. -/
theorem State.standsIn.after (a : s.standsIn x (.move i :: p)) (m : Move) (st : MoveState) (why : Option WaitReason) :
    (∀ j, .move j ∈ p → (s.setAside i m st why).move j = s.move j) ∧ (s.setAside i m st why).standsIn x p := by
  have same : ∀ j, .move j ∈ p → (s.setAside i m st why).move j = s.move j := fun j mem => by
    rw [State.move_setAside, if_neg fun e : i = j => a.apart (by rw [e]; exact mem)]
  exact ⟨same, (a.sublist (List.sublist_cons_self _ p)).of_same same⟩

theorem State.standsIn.waits (a : s.standsIn x p) (mem : .move i ∈ p) (held : s.move i = some m) :
    m.crane = x ∧ m.standing = true ∧ m.state ≠ .suspended := by
  obtain ⟨o, at_i, crane, stands⟩ := a.live i mem
  obtain rfl := Option.some.inj (held.symm.trans at_i)
  exact ⟨crane, stands, (Move.standing_idle (Move.standing_iff.mp stands)).2.2⟩

end

/-! ## The examination of a queue (R148) -/

/-- The reason of a move that does not get its turn: a barrier before it, or the lane (R147, R149). -/
def passedFor (barred : Bool) : WaitReason := if barred then .barrier else .lane

/-- Every entry stands after a barrier or is passed over by the lane: there is no head candidate, and each waits with its reason. -/
theorem State.examine_passed {x : Crane} {p : List Entry} (b : Bool) {s : State} (a : s.standsIn x p)
    (passed : ∀ (k j : Nat) m, p[k]? = some (.move j) → s.move j = some m → (b || (p.take k).contains .barrier) = true ∨ s.lanePasses x m) :
    ∃ t, State.examine x p b none s = (t, none) ∧ s.setsAside t x p
      ∧ ∀ (k j : Nat) m, p[k]? = some (.move j) → s.move j = some m →
        t.move j = some { m with state := .waiting, reason := some (passedFor (b || (p.take k).contains .barrier)) } := by
  induction p generalizing b s with
  | nil => exact ⟨s, rfl, .refl s x, fun k j m at_k => by simp at at_k⟩
  | cons e p ih =>
    cases e with
    | barrier =>
      have barred : ∀ k, (b || ((.barrier :: p : List Entry).take (k + 1)).contains .barrier) = true := fun k => by simp
      obtain ⟨t, examined, aside, moves⟩ := ih true (a.sublist (List.sublist_cons_self _ p)) fun k j m at_k held => .inl rfl
      refine ⟨t, examined, aside.congr fun j => by simp, fun k j m at_k held => ?_⟩
      cases k with
      | zero => exact nomatch at_k
      | succ k =>
        rw [barred]
        exact moves k j m at_k held
    | move i =>
      obtain ⟨m, held, -⟩ := a.live i List.mem_cons_self
      obtain ⟨-, -, other⟩ := a.waits List.mem_cons_self held
      obtain ⟨same, after⟩ := a.after m .waiting (some (passedFor b))
      have steps : State.examine x (.move i :: p) b none s = State.examine x p b none (s.setAside i m .waiting (some (passedFor b))) := by
        cases b with
        | true => exact State.examine_barred held other
        | false => exact State.examine_lane held other ((passed 0 i m rfl held).resolve_left (by simp))
      have bars : ∀ k, (b || ((.move i :: p : List Entry).take (k + 1)).contains .barrier) = (b || (p.take k).contains .barrier) := fun k => rfl
      obtain ⟨t, examined, aside, moves⟩ := ih b after fun k j o at_k at_j => by
        rw [same j (List.mem_of_getElem? at_k)] at at_j
        exact (passed (k + 1) j o at_k at_j).imp id (State.lanePasses_congr (s.work_setAside ..) rfl).mpr
      obtain ⟨all, first⟩ := a.first held aside
      refine ⟨t, steps.trans examined, all, fun k j o at_k at_j => ?_⟩
      cases k with
      | zero =>
        obtain rfl := Entry.move.inj (Option.some.inj at_k)
        obtain rfl := Option.some.inj (held.symm.trans at_j)
        rw [first, List.take_zero, List.contains_nil, Bool.or_false]
      | succ k =>
        have at_k : p[k]? = some (.move j) := at_k
        rw [bars]
        exact moves k j o at_k ((same j (List.mem_of_getElem? at_k)).trans at_j)

/-- What stands behind the head candidate is QUEUED. -/
theorem State.examine_behind {x : Crane} {p : List Entry} (b : Bool) (i : Nat) {s : State} (a : s.standsIn x p) :
    ∃ t, State.examine x p b (some i) s = (t, some i) ∧ s.setsAside t x p
      ∧ ∀ j m, .move j ∈ p → s.move j = some m → t.move j = some { m with state := .queued, reason := none } := by
  induction p generalizing b s with
  | nil => exact ⟨s, rfl, .refl s x, fun j m mem => nomatch mem⟩
  | cons e p ih =>
    cases e with
    | barrier =>
      obtain ⟨t, examined, aside, moves⟩ := ih true (a.sublist (List.sublist_cons_self _ p))
      exact ⟨t, examined, aside.congr fun j => by simp, fun j m mem => moves j m (by simpa using mem)⟩
    | move k =>
      obtain ⟨m, held, -⟩ := a.live k List.mem_cons_self
      obtain ⟨-, stands, -⟩ := a.waits List.mem_cons_self held
      obtain ⟨same, after⟩ := a.after m .queued none
      obtain ⟨t, examined, aside, moves⟩ := ih b after
      obtain ⟨all, first⟩ := a.first held aside
      refine ⟨t, (State.examine_found held).trans (by rw [if_pos stands]; exact examined), all, fun j o mem at_j => ?_⟩
      rcases List.mem_cons.mp mem with here | later
      · obtain rfl := Entry.move.inj here
        obtain rfl := Option.some.inj (held.symm.trans at_j)
        exact first
      · exact moves j o later ((same j later).trans at_j)

/-- A head candidate is an entry of the queue. -/
theorem State.examine_candidate (x : Crane) (p : List Entry) (b : Bool) (f : Option Nat) (s : State) {i : Nat}
    (found : (State.examine x p b f s).2 = some i) : f = some i ∨ .move i ∈ p := by
  induction p generalizing b f s with
  | nil => exact .inl found
  | cons e p ih =>
    have later : ∀ b s, (State.examine x p b f s).2 = some i → f = some i ∨ .move i ∈ e :: p := fun b s found =>
      (ih b f s found).imp id (List.mem_cons_of_mem _)
    cases e with
    | barrier => exact later _ _ found
    | move j =>
      unfold State.examine at found
      split at found
      · exact later _ _ found
      · split at found
        · exact later _ _ found
        · split at found
          · exact later _ _ found
          · split at found
            · exact later _ _ found
            · split at found
              · exact later _ _ found
              · rcases ih _ _ _ found with here | mem
                · obtain rfl := Option.some.inj here
                  exact .inr List.mem_cons_self
                · exact .inr (List.mem_cons_of_mem _ mem)

end Sys2Proof.Machine
end

section
/-! SUPPORT. Proofs/Headed.lean: what a report does to the other moves of a crane when it asks for its head candidate, and the report of
a crane whose work is what its queue gives (R148, R150, R151). -/

namespace Sys2Proof.Machine

/-! ## The head candidate alone is taken up -/

/-- Of the submitted moves of crane `x` only the one in slot `i` changes; its queue and its lane stand; and a standing refusal of it is
the one that stood or names that move's serial. -/
structure State.headTaken (s t : State) (x : Crane) (i serial : Nat) : Prop where
  others : ∀ k o, k < 16 → k ≠ i → s.move k = some o → o.crane = x → t.move k = some o
  queue : (t.work x).queue = (s.work x).queue
  lane : (t.work x).lane = (s.work x).lane
  refusal : ∀ q, (t.crane x).refusal = some q → q.serial = serial ∨ (s.crane x).refusal = some q

section
variable {s t u : State} {x : Crane} {i n : Nat} {m : Move} {leg : Leg}

theorem State.headTaken.refl (s : State) (x : Crane) (i n : Nat) : s.headTaken s x i n :=
  ⟨fun _ _ _ _ held _ => held, rfl, rfl, fun _ => .inr⟩

theorem State.headTaken.trans (h : s.headTaken t x i n) (g : t.headTaken u x i n) : s.headTaken u x i n :=
  ⟨fun k o less away held mine => g.others k o less away (h.others k o less away held mine) mine, g.queue.trans h.queue, g.lane.trans h.lane,
    fun q stands => (g.refusal q stands).elim .inl (h.refusal q)⟩

theorem State.headTaken.of_mvu (mvu : t.mvu = s.mvu) (refusal : ∀ q, (t.crane x).refusal = some q → q.serial = n ∨ (s.crane x).refusal = some q) :
    s.headTaken t x i n :=
  ⟨fun k _ _ _ held _ => (State.move_of_mvu mvu k).trans held, by rw [State.work_of_mvu mvu], by rw [State.work_of_mvu mvu], refusal⟩

theorem State.headTaken_setMove (s : State) (x : Crane) (i n : Nat) (r : Option Move) : s.headTaken (s.setMove i r) x i n :=
  ⟨fun k o _ away held _ => by rw [State.move_setMove, if_neg (Ne.symm away), held], by rw [State.work_setMove], by rw [State.work_setMove],
    fun _ => .inr⟩

theorem State.headTaken.of_pair (h : s.pairOnly t) : s.headTaken t x i n := .of_mvu h.mvu fun q stands => .inr (by rw [← h.crane]; exact stands)

theorem State.crane_withdrawOther (s : State) (x : Crane) (n : Nat) : (s.withdrawOther x n).crane x.other = s.crane x.other
    ∧ ∀ q, ((s.withdrawOther x n).crane x).refusal = some q → (s.crane x).refusal = some q := by
  have all : (s.withdraw x).crane x.other = s.crane x.other ∧ ∀ q, ((s.withdraw x).crane x).refusal = some q → (s.crane x).refusal = some q := by
    have pair := s.withdraw_pair x
    refine ⟨?_, fun q stands => ?_⟩
    · rw [pair.crane, State.crane_setCrane, if_neg (State.other_ne x)]
    · rw [pair.crane, State.crane_setCrane, if_pos rfl] at stands
      exact nomatch stands
  unfold State.withdrawOther
  split
  · split
    · exact ⟨rfl, fun _ => id⟩
    · exact all
  · exact ⟨rfl, fun _ => id⟩

theorem State.headTaken_withdrawOther (s : State) (x : Crane) (i n k : Nat) : s.headTaken (s.withdrawOther x k) x i n :=
  .of_mvu (s.withdraws_withdrawOther x k).mvu fun q stands => .inr ((s.crane_withdrawOther x k).2 q stands)

theorem State.crane_setRefusal (s : State) (x : Crane) (q : Refused) : ((s.setRefusal x q).crane x).refusal = some q
    ∧ (s.setRefusal x q).crane x.other = s.crane x.other := by
  unfold State.setRefusal
  dsimp only
  rw [State.crane_setCrane, State.crane_setCrane, if_pos rfl, if_neg (State.other_ne x)]
  exact ⟨rfl, (s.crane_withdrawOther x q.serial).1⟩

theorem State.headTaken_setRefusal (s : State) (x : Crane) (i : Nat) (q : Refused) : s.headTaken (s.setRefusal x q) x i q.serial :=
  .of_mvu (s.withdraws_setRefusal x q).mvu fun r stands => .inl (by
    rw [(s.crane_setRefusal x q).1] at stands
    rw [← Option.some.inj stands])

/-! ## A yield of the other crane -/

theorem State.headTaken_createYield (s : State) (x : Crane) (i n k : Nat) (y : Crane) : s.headTaken (s.createYield y k) x i n := by
  obtain ⟨moves, works, cranes, -⟩ := s.createYield_reads y k
  refine ⟨fun j o less _ held _ => ?_, by rw [works], by rw [works], fun q stands => .inr (by rw [← cranes]; exact stands)⟩
  rw [moves, if_neg (Nat.ne_of_gt (Nat.lt_of_lt_of_le less (sixteen_le_yieldSlot y))), held]

/-- A suspension touches a move of the yielding crane alone (R157). -/
theorem State.headTaken_suspendMove {j : Nat} {o : Move} (held : s.move j = some o) (crane : o.crane = x.other) (i n : Nat) :
    s.headTaken (s.suspendMove j) x i n := by
  obtain ⟨moves, works, -, cranes, -⟩ := State.suspendMove_reads held
  refine ⟨fun k q _ _ at_k mine => ?_, by rw [works], by rw [works], fun q stands => .inr ?_⟩
  · rw [moves, if_neg fun same => ?_, at_k]
    subst same
    obtain rfl := Option.some.inj (held.symm.trans at_k)
    exact State.other_ne x (mine.symm.trans crane)
  · rw [← cranes x (by rw [crane]; exact State.other_ne x)]
    exact stands

/-- The head of a crane's work, if it is a submitted move, is a move of the crane (R148). -/
theorem State.headSlot_crane {y : Crane} {j : Nat} (right : s.queueRight y) (head : s.headSlot y = some j) (less : j < 16) :
    ∃ o, s.move j = some o ∧ o.crane = y := by
  unfold State.headSlot at head
  split at head
  · next k active =>
    obtain rfl := Option.some.inj head
    unfold State.activeSlot State.findSlot at active
    have holds := List.find?_some active
    cases held : s.move k with
    | none => simp [held] at holds
    | some o => exact ⟨o, rfl, by simp [held] at holds; exact holds.1⟩
  · split at head
    · have := Option.some.inj head
      have := sixteen_le_yieldSlot y
      omega
    · obtain ⟨-, o, held, crane⟩ := right.live j ((State.examine_candidate _ _ _ _ _ head).resolve_left nofun)
      exact ⟨o, held, crane⟩

theorem State.yieldFor_slot {y : Crane} {f : Option Nat} {need : Range} {k : Nat} (yields : s.yieldFor y f need = some k) :
    ∃ j, f = some j ∧ j < 16 := by
  unfold State.yieldFor at yields
  split at yields
  · next j =>
    split at yields
    · split at yields
      · next able => exact ⟨j, rfl, by simp [Config.moveSlots] at able; exact of_decide_eq_true able.1.2⟩
      · exact nomatch yields
    · exact nomatch yields
  · exact nomatch yields

/-- With the other crane waiting on nothing, what a refusal calls for touches the other crane's moves alone (R131, R133, R134). -/
theorem State.headTaken_resolveRefusal (right : s.queueRight x.other) (quiet : (s.crane x.other).refusal = none) (i n : Nat) (m : Move)
    (why : WaitReason) (need : Range) : s.headTaken (s.resolveRefusal x m why need) x i n := by
  have still : s.mutualWait x m.serial need = s := by
    unfold State.mutualWait
    rw [quiet]
  unfold State.resolveRefusal
  rw [still]
  cases why with
  | runway =>
    dsimp only
    split
    · split
      · exact s.headTaken_createYield x i n _ _
      · exact .of_pair (s.postDeadlock_pair _ _)
    · split
      · split
        · next k yields =>
          obtain ⟨j, head, less⟩ := State.yieldFor_slot yields
          obtain ⟨o, held, crane⟩ := State.headSlot_crane right head less
          rw [head]
          exact (State.headTaken_suspendMove held crane i n).trans (State.headTaken_createYield _ x i n _ _)
        · exact .refl s x i n
      · exact .refl s x i n
  | _ => exact .refl s x i n

/-! ## The head candidate asked for, or lifted -/

/-- A refused leg before anything is called for (R130, R150). -/
def State.refusing (s : State) (x : Crane) (i : Nat) (m : Move) (why : WaitReason) (need : Option Range) : State :=
  (s.setMove i (some (m.refused why))).setRefusal x ⟨m.serial, why, need⟩

theorem State.refusing_reads (s : State) (x : Crane) (i : Nat) (m : Move) (why : WaitReason) (need : Option Range) :
    (∀ j, (s.refusing x i m why need).move j = if i = j then some (m.refused why) else s.move j)
      ∧ (∀ y, (s.refusing x i m why need).work y = s.work y) ∧ (s.refusing x i m why need).crane x.other = s.crane x.other := by
  have mvu := ((s.setMove i (some (m.refused why))).withdraws_setRefusal x ⟨m.serial, why, need⟩).mvu
  exact ⟨fun j => (State.move_of_mvu mvu j).trans (State.move_setMove ..), fun y => (State.work_of_mvu mvu y).trans (State.work_setMove ..),
    (State.crane_setRefusal _ x _).2⟩

theorem State.headTaken_askLeg (held : s.move i = some m) {r : Range} (interval : (s.crane x).interval = some r) (right : s.queueRight x.other)
    (quiet : (s.crane x.other).refusal = none) (leg : Leg) : s.headTaken (s.askLeg x i m leg) x i m.serial := by
  have set := fun r => s.headTaken_setMove x i m.serial r
  unfold State.askLeg
  split
  · exact (set _).trans (State.headTaken_withdrawOther ..)
  · split
    · next need _ =>
      obtain ⟨moves, works, cranes, -⟩ := State.grantInterval_reads (s := s.setMove i (some m.go)) (r := r)
        (by rw [State.crane_setMove]; exact interval) m.serial need
      refine (set _).trans ⟨fun k o _ _ at_k _ => (moves k).trans at_k, by rw [works], by rw [works], fun q stands => ?_⟩
      rw [cranes, if_pos rfl] at stands
      exact nomatch stands
    · next why need _ =>
      have refused := (set (some (m.refused why))).trans (State.headTaken_setRefusal _ x i ⟨m.serial, why, need⟩)
      obtain ⟨moves, works, other⟩ := s.refusing_reads x i m why need
      cases need with
      | none => exact refused
      | some need =>
        refine refused.trans (State.headTaken_resolveRefusal (s := s.refusing x i m why (some need)) ?_ (by rw [other]; exact quiet) i m.serial m why need)
        refine right.of_kept (by rw [works]) fun j o at_j _ => ?_
        rw [moves]
        split
        · next same =>
          subst same
          obtain rfl := Option.some.inj (held.symm.trans at_j)
          exact ⟨_, rfl, rfl⟩
        · exact ⟨o, at_j, rfl⟩

/-- Nothing of the crane but the head candidate gets under way (R148). -/
theorem State.othersIdle_askLeg {r : Range} (interval : (s.crane x).interval = some r) (stands : m.state = .queued ∨ m.state = .waiting)
    (none : s.noWay x) (leg : Leg) : (s.askLeg x i m leg).othersIdle x i := by
  have same : ∀ t : State, (∀ j, j ≠ i → t.move j = s.move j) → t.othersIdle x i := fun t moves j o less away at_j mine =>
    none j o less ((moves j away).symm.trans at_j) mine
  have set : ∀ r j, j ≠ i → (s.setMove i r).move j = s.move j := fun r j away => by rw [State.move_setMove, if_neg (Ne.symm away)]
  unfold State.askLeg
  split
  · exact same _ fun j away => (State.move_of_mvu (State.withdraws_withdrawOther ..).mvu j).trans (set _ j away)
  · split
    · next need _ =>
      obtain ⟨moves, -⟩ := State.grantInterval_reads (s := s.setMove i (some m.go)) (r := r)
        (by rw [State.crane_setMove]; exact interval) m.serial need
      exact same _ fun j away => (moves j).trans (set _ j away)
    · next why need _ =>
      obtain ⟨moves, -⟩ := s.refusing_reads x i m why need
      have idle : (s.refusing x i m why need).noWay x := fun j o less at_j mine => by
        rw [moves] at at_j
        split at at_j
        · obtain rfl := Option.some.inj at_j
          rw [Move.refused_standing stands]
          rfl
        · exact none j o less at_j mine
      cases need with
      | none => exact fun j o less _ => idle j o less
      | some need => exact fun j o less _ => ((State.calls_resolveRefusal _ x m why need x).noWay idle) j o less

theorem State.headTaken_lift (s : State) (x : Crane) (i n : Nat) (m : Move) (p : SubPhase) : s.headTaken (s.lift x i m p) x i n := by
  refine (s.headTaken_setMove x i n _).trans (.of_mvu (State.setCrane_mvu ..) fun q stands => .inr ?_)
  unfold State.lift at stands
  dsimp only at stands
  rw [State.crane_setCrane, if_pos rfl] at stands
  exact stands

/-- Step 4 of R152 for the head candidate of a crane with nothing under way. -/
theorem State.headTaken_work4 {v : State} {b : Bool} {l : List Nat} {r : Range} (free : v.resumeIfFree x l = v) (finds : v.findWork x = (s, some i))
    (held : s.move i = some m) (stands : m.state = .queued ∨ m.state = .waiting) (interval : (s.crane x).interval = some r)
    (right : s.queueRight x.other) (quiet : (s.crane x.other).refusal = none) (none : s.noWay x) :
    s.headTaken (v.work4 x b l) x i m.serial ∧ (v.work4 x b l).othersIdle x i := by
  have still : s.othersIdle x i := fun j o less _ => none j o less
  rcases State.work4_found (b := b) (l := l) (by rw [free]; exact finds) held with e | ⟨-, -, e⟩ | ⟨-, leg, -, e⟩
  · rw [e]
    exact ⟨.refl .., still⟩
  · rw [e]
    unfold State.setDownLift
    split
    · refine ⟨State.headTaken_lift .., fun j o less away at_j mine => none j o less ?_ mine⟩
      rw [State.lift, State.move_setCrane, State.move_setMove, if_neg (Ne.symm away)] at at_j
      exact at_j
    · exact ⟨.refl .., still⟩
  · rw [e]
    exact ⟨State.headTaken_askLeg held interval right quiet leg, State.othersIdle_askLeg interval stands none leg⟩

/-- Step 5 of R152: the order, which a stop to be ordered may change that move by (R151). -/
theorem State.headTaken_giveOrder (others : s.othersIdle x i) (n : Nat) (taken : Bool) :
    ∃ t o, s.giveOrder x taken = (t, orderReply taken o) ∧ s.headTaken t x i n := by
  have composed : s.headTaken (s.composeOrder x).1 x i n := by
    unfold State.composeOrder
    split
    · exact .refl ..
    · split
      · exact .refl ..
      · split
        · next j o under =>
          obtain ⟨less, at_j, mine, up⟩ := State.underWay_mem under
          have same : j = i := by
            by_contra away
            rw [others j o less away at_j mine] at up
            exact nomatch up
          subst same
          split
          · exact s.headTaken_setMove ..
          all_goals split <;> exact .refl ..
        · exact .refl ..
  refine ⟨_, _, State.giveOrder_eq rfl taken, composed.trans ⟨fun k o _ _ at_k _ => (State.move_setWork ..).trans at_k,
    (congrArg CraneWork.queue (State.ordered_reads _ x _).2.2.1 :), (congrArg CraneWork.lane (State.ordered_reads _ x _).2.2.1 :),
    fun q stands => .inr ?_⟩⟩
  · rw [State.ordered, State.crane_setWork] at stands
    exact stands

end

end Sys2Proof.Machine
end

section
/-! SUPPORT. Proofs/Turned.lean: the report of a crane whose work is what its queue gives: no head candidate, or the head candidate taken
up (R147, R148). -/

namespace Sys2Proof.Machine

/-- A report that finds nothing amiss, no move of the crane under way, SUSPENDED or called for as a yield, and the other crane waiting on
nothing. -/
structure State.turn (s : State) (x : Crane) (n : Nat) (r : Range) : Prop where
  sound : s.sound x n r
  orphan : (s.work x).orphan = none
  idle : ∀ k q, k < 18 → s.move k = some q → q.crane = x → q.underWay = false ∧ q.state ≠ .suspended
  yields : s.move (yieldSlot x) = none
  other : (s.crane x.other).refusal = none
  queues : ∀ y, s.queueRight y

theorem State.queueReport.turn {s : State} {h : Header} {x : Crane} {n : Nat} {r : Range} (a : s.queueReport h x n r) (l : Lnk) :
    ({ s with lnk := l } : State).turn x n r :=
  ⟨a.report.sound l, a.orphan, a.idle, a.yields, a.other, (State.queuesRight_iff _).mp a.queues⟩

theorem State.behindBarrier_iff {s : State} {x : Crane} {a : Nat} : s.behindBarrier x a ↔ ((s.work x).queue.take a).contains .barrier = true := by
  rw [List.contains_iff_mem, List.mem_iff_getElem?]
  refine ⟨fun ⟨b, less, at_b⟩ => ⟨b, (List.getElem?_take_of_lt less).trans at_b⟩, fun ⟨b, at_b⟩ => ?_⟩
  rw [List.getElem?_take] at at_b
  split at at_b
  · next less => exact ⟨b, less, at_b⟩
  · exact nomatch at_b

theorem Move.standing_of_idle {m : Move} (idle : m.underWay = false) (other : m.state ≠ .suspended) : m.standing = true := by
  unfold Move.underWay at idle
  unfold Move.standing
  cases state : m.state with
  | queued | waiting => rfl
  | suspended => exact absurd state other
  | toPick | lifted _ =>
    rw [state] at idle
    exact nomatch idle

section
variable {s : State} {x : Crane} {n : Nat} {r : Range} (a : s.turn x n r)
include a

theorem State.turn.stands : s.standsIn x (s.work x).queue := by
  refine ⟨fun j mem => ?_, (a.queues x).once⟩
  obtain ⟨less, m, held, crane⟩ := (a.queues x).live j mem
  obtain ⟨idle, other⟩ := a.idle j m (by omega) held crane
  exact ⟨m, held, crane, Move.standing_of_idle idle other⟩

/-- The report goes to the crane's queue (R148, R152). -/
theorem State.turn.examines : ∃ v : State, v.mvu = s.mvu
    ∧ s.takeReport x n 0 0 = (v.work4 x true (s.suspendedSlots x)).giveOrder x true
    ∧ v.resumeIfFree x (s.suspendedSlots x) = v ∧ v.findWork x = State.examine x (s.work x).queue false none v ∧ v.noWay x
    ∧ v.crane x = { s.crane x with position := some n, hook := some .empty, timer := some (s.presenceTimeout x), outside := false }
    ∧ v.crane x.other = s.crane x.other ∧ v.rru.breach = none ∧ { v with rru := s.rru } = s := by
  obtain ⟨vmvu, vmoves, vworks, vcrane, vother, vbreach, -⟩ := s.reported_reads x n .empty
  obtain ⟨R, shape⟩ := s.reported_frame x n .empty
  have taken := a.sound.takes (k := 0) (e := 0) (by decide) (by decide) (t := s.reported x n .empty) rfl
  obtain ⟨v, heard⟩ : ∃ v, v = s.reported x n .empty := ⟨_, rfl⟩
  rw [← heard] at vmvu vmoves vworks vcrane vother vbreach shape taken
  have none : v.noWay x := fun j o less held mine => (a.idle j o less ((vmoves j).symm.trans held) mine).1
  have rest : v.afterEvent x n .empty true true true (s.suspendedSlots x) = (v.work4 x true (s.suspendedSlots x)).giveOrder x true :=
    State.afterEvent_plain (none.expectedHook (by rw [vworks]; exact a.orphan)).symm (by rw [vworks]; exact a.sound.hook)
      (fun i m found => by rw [none.underWay] at found; exact nomatch found) n true true true
  refine ⟨v, vmvu, taken.trans rest, State.resumeIfFree_kept fun j mem o held mine => ?_, ?_, none, vcrane, vother, vbreach.trans a.sound.clear, ?_⟩
  · exact (a.idle j o (State.suspendedSlots_low j mem) ((vmoves j).symm.trans held) mine).2
  · unfold State.findWork State.yieldMove
    rw [none.activeSlot, vmoves, a.yields, vworks]
    rfl
  · rw [shape]

/-- Every move stands behind a barrier or is passed over by the lane: none is asked for (R147, R148). -/
theorem State.turn.idles
    (passed : ∀ (k j : Nat) m, (s.work x).queue[k]? = some (.move j) → s.move j = some m → s.behindBarrier x k ∨ s.lanePasses x m) :
    ∃ t : State, s.takeReport x n 0 0 = (t, orderReply true .idle)
      ∧ (∀ (k j : Nat) m, (s.work x).queue[k]? = some (.move j) → s.move j = some m →
          t.move j = some { m with
            state := .waiting, reason := some (passedFor (((s.work x).queue.take k).contains .barrier)) })
      ∧ (∀ j, .move j ∉ (s.work x).queue → t.move j = s.move j)
      ∧ (∀ q, (t.crane x).refusal = some q ↔ (s.crane x).refusal = some q
          ∧ ∀ j, .move j ∈ (s.work x).queue → (s.move j).map Move.serial ≠ some q.serial)
      ∧ (t.crane x).interval = some r ∧ t.crane x.other = s.crane x.other
      ∧ t.work x = { s.work x with lastOrder := some .idle } ∧ t.work x.other = s.work x.other
      ∧ { t with rru := s.rru, mvu := s.mvu, cnd := s.cnd } = s := by
  obtain ⟨v, vmvu, report, free, finds, none, vcrane, vother, breach, shape⟩ := a.examines
  have moves := State.move_of_mvu vmvu
  have works := State.work_of_mvu vmvu
  obtain ⟨t, examined, aside, waits⟩ := State.examine_passed false (a.stands.of_same (t := v) fun j _ => moves j) fun k j m at_k held =>
    (passed k j m at_k ((moves j).symm.trans held)).imp State.behindBarrier_iff.mp (State.lanePasses_congr (works x) rfl).mpr
  have found := finds.trans examined
  have work : v.work4 x true (s.suspendedSlots x) = t := by
    rw [State.work4_idle (by rw [free, found]; exact fun _ e => nomatch e), free, found]
  have idle : t.underWay x = .none := by
    have still := (State.waits_examine x (s.work x).queue false .none v x).noWay none
    rw [examined] at still
    exact still.underWay
  have order := State.giveOrder_eq (State.composeOrder_idle (aside.breach.trans breach)
    (by rw [aside.works, works]; exact a.sound.hook) idle) true
  obtain ⟨movesT, cranesT, workT, otherT, -⟩ := t.ordered_reads x .idle
  obtain ⟨q, frame⟩ := t.ordered_frame x .idle
  refine ⟨t.ordered x .idle, report.trans (by rw [work]; exact order), fun k j m at_k held => ?_, fun j away => ?_, fun q => ?_, ?_, ?_, ?_, ?_, ?_⟩
  · exact (movesT j).trans (waits k j m at_k ((moves j).trans held))
  · exact (movesT j).trans ((aside.others j away).trans (moves j))
  · rw [cranesT, aside.refusal, vcrane]
    simp only [moves]
  · have same := congrArg CraneRec.interval aside.crane
    rw [cranesT]
    exact same.trans (by rw [vcrane]; exact a.sound.interval)
  · rw [cranesT, aside.other, vother]
  · rw [workT, aside.works, works]
    rfl
  · rw [otherT, aside.works, works]
  · rw [frame]
    have laid := congrArg (fun u : State => { u with rru := s.rru, mvu := s.mvu, cnd := s.cnd }) aside.frame
    exact laid.trans (congrArg (fun u : State => { u with mvu := s.mvu, cnd := s.cnd }) shape)

/-- The first move that is neither behind a barrier nor passed over is the head candidate, and is taken up; those before it wait with LANE,
those after it are QUEUED (R148, R150). -/
theorem State.turn.heads {c j : Nat} {m : Move} (at_head : (s.work x).queue[c]? = some (.move j)) (held : s.move j = some m)
    (clear : ¬s.behindBarrier x c) (stands : ¬s.lanePasses x m)
    (lane : ∀ (b k : Nat) o, b < c → (s.work x).queue[b]? = some (.move k) → s.move k = some o → s.lanePasses x o) :
    ∃ t o, s.takeReport x n 0 0 = (t, orderReply true o)
      ∧ (∀ (b k : Nat) o, (s.work x).queue[b]? = some (.move k) → s.move k = some o →
          (b < c → t.move k = some { o with state := .waiting, reason := some .lane })
          ∧ (c < b → t.move k = some { o with state := .queued, reason := none })
          ∧ (b ≠ c → o.serial ≠ m.serial → ∀ q, (t.crane x).refusal = some q → q.serial ≠ o.serial))
      ∧ (t.work x).queue = (s.work x).queue ∧ (t.work x).lane = (s.work x).lane := by
  obtain ⟨v, vmvu, report, free, finds, none, vcrane, vother, -, -⟩ := a.examines
  have moves := State.move_of_mvu vmvu
  have works := State.work_of_mvu vmvu
  obtain ⟨p, before⟩ : ∃ p, p = (s.work x).queue.take c := ⟨_, rfl⟩
  obtain ⟨q, behind⟩ : ∃ q, q = (s.work x).queue.drop (c + 1) := ⟨_, rfl⟩
  have whole : (s.work x).queue = p ++ .move j :: q := by
    rw [before, behind]
    obtain ⟨less, at_head⟩ := List.getElem?_eq_some_iff.mp at_head
    rw [← at_head, ← List.drop_eq_getElem_cons less, List.take_append_drop]
  have open_p : p.contains .barrier = false := by
    rw [before]
    exact Bool.eq_false_iff.mpr fun bars => clear (State.behindBarrier_iff.mpr bars)
  have standsV : v.standsIn x (p ++ .move j :: q) := (whole ▸ a.stands).of_same fun k _ => moves k
  have apart : .move j ∉ p ∧ ∀ k, .move k ∈ q → .move k ∉ p ∧ k ≠ j := by
    refine ⟨fun mem => ?_, fun k mem => ⟨fun first => ?_, fun same => ?_⟩⟩
    · have once := standsV.once j
      rw [List.count_append, List.count_cons_self] at once
      exact absurd (List.count_pos_iff.mpr mem) (by omega)
    · have once := standsV.once k
      rw [List.count_append, List.count_cons] at once
      have one := List.count_pos_iff.mpr mem
      exact absurd (List.count_pos_iff.mpr first) (by omega)
    · exact (standsV.sublist (List.sublist_append_right _ _)).apart (same ▸ mem)
  obtain ⟨u, examinedP, asideP, waits⟩ := State.examine_passed false (standsV.sublist (List.sublist_append_left p _)) fun k i o at_k at_i => by
    refine .inr ((State.lanePasses_congr (works x) rfl).mpr ?_)
    rw [before, List.getElem?_take] at at_k
    split at at_k
    · next less => exact lane k i o less at_k ((moves i).symm.trans at_i)
    · exact nomatch at_k
  have headU : u.move j = some m := (asideP.others j apart.1).trans ((moves j).trans held)
  have standsQ : u.standsIn x q := ((standsV.sublist (List.sublist_append_right _ _)).sublist (List.sublist_cons_self _ _)).of_same fun k mem =>
    asideP.others k (apart.2 k mem).1
  obtain ⟨t, examinedQ, asideQ, queues⟩ := State.examine_behind (x := x) false j standsQ
  obtain ⟨-, standing, other⟩ := standsV.waits (List.mem_append_right p List.mem_cons_self) ((moves j).trans held)
  have examined : State.examine x (s.work x).queue false .none v = (t, some j) := by
    rw [whole, State.examine_append, examinedP, open_p]
    exact (State.examine_head headU other fun passes => stands
      ((State.lanePasses_congr ((asideP.works x).trans (works x)) rfl).mp passes)).trans examinedQ
  have aside : v.setsAside t x (p ++ q) := asideP.trans asideQ
  have headT : t.move j = some m := (asideQ.others j fun mem => (apart.2 j mem).2 rfl).trans headU
  have noneT : t.noWay x := by
    have still := (State.waits_examine x (s.work x).queue false .none v x).noWay none
    rw [examined] at still
    exact still
  have interval : (t.crane x).interval = some r := (congrArg CraneRec.interval aside.crane :).trans (by rw [vcrane]; exact a.sound.interval)
  have right : t.queueRight x.other := (a.queues x.other).of_kept (by rw [aside.works, works]) fun k o at_k _ => by
    have alike := aside.alike k
    rw [moves, at_k] at alike
    obtain ⟨o', at_t, same⟩ := Option.map_eq_some_iff.mp alike
    exact ⟨o', at_t, (congrArg Prod.snd same :)⟩
  obtain ⟨worked, idle⟩ := State.headTaken_work4 (b := true) free (finds.trans examined) headT (Move.standing_iff.mp standing) interval right
    (by rw [aside.other, vother]; exact a.other) noneT
  obtain ⟨w, o, order, given⟩ := State.headTaken_giveOrder idle m.serial true
  have takes := worked.trans given
  refine ⟨w, o, report.trans order, fun b k o at_b at_k => ?_, ?_, ?_⟩
  · obtain ⟨less, o', at_k', crane⟩ := (a.queues x).live k (List.mem_of_getElem? at_b)
    obtain rfl := Option.some.inj (at_k.symm.trans at_k')
    have inP : b < c → p[b]? = some (.move k) := fun below => by rw [before, List.getElem?_take_of_lt below, at_b]
    have inQ : c < b → .move k ∈ q := fun above => by
      refine List.mem_of_getElem? (i := b - (c + 1)) ?_
      rw [behind, List.getElem?_drop, show c + 1 + (b - (c + 1)) = b from by omega, at_b]
    refine ⟨fun below => ?_, fun above => ?_, fun away differs r refused => ?_⟩
    · have mem := List.mem_of_getElem? (inP below)
      have noBar : (p.take b).contains .barrier = false := Bool.eq_false_iff.mpr fun bars => by
        rw [List.contains_iff_mem] at bars
        rw [List.contains_eq_mem, decide_eq_false_iff_not] at open_p
        exact open_p (List.mem_of_mem_take bars)
      have set := waits b k o (inP below) ((moves k).trans at_k)
      rw [noBar] at set
      exact takes.others k _ less (fun same => apart.1 (same ▸ mem)) ((asideQ.others k fun later => (apart.2 k later).1 mem).trans set) crane
    · have mem := inQ above
      exact takes.others k _ less (apart.2 k mem).2 (queues k o mem ((asideP.others k (apart.2 k mem).1).trans ((moves k).trans at_k))) crane
    · rcases takes.refusal r refused with named | before'
      · rw [named]
        exact Ne.symm differs
      · have mem : .move k ∈ p ++ q := (Nat.lt_or_gt_of_ne away).elim
          (fun below => List.mem_append_left _ (List.mem_of_getElem? (inP below))) fun above => List.mem_append_right _ (inQ above)
        have others := ((aside.refusal r).mp before').2 k mem
        rw [moves, at_k] at others
        exact fun same => others (congrArg some same.symm)
  · rw [takes.queue, aside.works, works]
  · rw [takes.lane, aside.works, works]

end

end Sys2Proof.Machine
end

section
/-! SUPPORT. Proofs/Laned.lean: a PENDING lane at a report: it becomes ACTIVE with the end of the move it waits for, and stays PENDING while
that move goes on (R149). -/

namespace Sys2Proof.Machine

/-! ## The stages that leave the lane -/

/-- The lanes stand. -/
structure State.lanesStand (s t : State) : Prop where
  lane : ∀ y, (t.work y).lane = (s.work y).lane

section
variable {s t u : State}

theorem State.lanesStand.refl (s : State) : s.lanesStand s := ⟨fun _ => rfl⟩

theorem State.lanesStand.trans (h : s.lanesStand t) (g : t.lanesStand u) : s.lanesStand u :=
  ⟨fun y => (g.lane y).trans (h.lane y)⟩

theorem State.lanesStand.of_works (works : ∀ y, t.work y = s.work y) : s.lanesStand t := ⟨fun y => by rw [works]⟩

theorem State.lanesStand.of_mvu (mvu : t.mvu = s.mvu) : s.lanesStand t := .of_works (State.work_of_mvu mvu)

theorem State.lanesStand_setWork {x : Crane} {w : CraneWork} (lane : w.lane = (s.work x).lane) : s.lanesStand (s.setWork x w) := by
  refine ⟨fun y => ?_⟩
  rw [State.work_setWork]
  split
  · next same => rw [← same, lane]
  · rfl

end

theorem State.lanesStand_compareHook (s : State) (x : Crane) (k : Hook) : s.lanesStand (s.compareHook x k) :=
  State.lanesStand.trans (State.lanesStand_setWork (by rfl)) (.of_works (s.compareHook_sets x k).work)

theorem State.lanesStand_resumeIfFree (s : State) (x : Crane) (l : List Nat) : s.lanesStand (s.resumeIfFree x l) := by
  unfold State.resumeIfFree
  split
  · exact .refl s
  · exact .of_works (State.resumeSlots_records x l s).reads.1

theorem State.lanesStand_examine (x : Crane) (q : List Entry) (b : Bool) (f : Option Nat) (s : State) :
    s.lanesStand (State.examine x q b f s).1 := by
  have aside : ∀ (t : State) i m st why, t.lanesStand (t.setAside i m st why) := fun t i m st why => .of_works (t.work_setAside i m st why)
  induction q generalizing b f s with
  | nil => exact .refl s
  | cons e q ih =>
    cases e with
    | barrier => exact ih _ _ s
    | move i =>
      unfold State.examine
      split
      · exact ih _ _ s
      · split
        · split
          · exact (aside ..).trans (ih _ _ _)
          · exact ih _ _ s
        · split
          · exact ih _ _ s
          · split
            · exact (aside ..).trans (ih _ _ _)
            · split
              · exact (aside ..).trans (ih _ _ _)
              · exact ih _ _ s

theorem State.lanesStand_findWork (s : State) (x : Crane) : s.lanesStand (s.findWork x).1 := by
  unfold State.findWork
  split
  · exact .refl s
  · split
    · exact .refl s
    · exact State.lanesStand_examine ..

/-- What a refusal calls for sets no lane (R131 to R135). -/
theorem State.lanesStand_callYield (s : State) (y : Crane) (k : Nat) (i : Option Nat) : s.lanesStand (s.callYield y k i) := by
  have yields : ∀ t : State, t.lanesStand (t.createYield y k) := fun t => .of_works (t.createYield_reads y k).2.1
  cases i with
  | none => exact yields s
  | some i =>
    refine State.lanesStand.trans ?_ (yields _)
    cases held : s.move i with
    | none =>
      unfold State.suspendMove
      rw [held]
      exact .refl s
    | some m => exact .of_works (State.suspendMove_reads held).2.1

theorem State.lanesStand_resolveRefusal (s : State) (x : Crane) (m : Move) (why : WaitReason) (need : Range) :
    s.lanesStand (s.resolveRefusal x m why need) := by
  have pairs : ∀ low high, s.lanesStand (s.postDeadlock low high) := fun low high => .of_mvu (s.postDeadlock_pair low high).mvu
  have waits : s.lanesStand (s.mutualWait x m.serial need) := by
    unfold State.mutualWait
    split
    · split
      · dsimp only
        split
        · exact .refl s
        · split
          all_goals
            split
            · exact s.lanesStand_callYield _ _ _
            · exact s.lanesStand_callYield _ _ _
            · exact pairs _ _
      · exact .refl s
    · exact .refl s
  unfold State.resolveRefusal
  cases why with
  | runway =>
    dsimp only
    split
    · split
      · exact s.lanesStand_callYield _ _ _
      · exact pairs _ _
    · split
      · split
        · exact s.lanesStand_callYield _ _ _
        · exact waits
      · exact waits
  | loadedConflict => exact waits
  | _ => exact .refl s

theorem State.lanesStand_askLeg (s : State) (x : Crane) (i : Nat) (m : Move) (leg : Leg) : s.lanesStand (s.askLeg x i m leg) := by
  have set : ∀ r, s.lanesStand (s.setMove i r) := fun r => .of_works fun y => State.work_setMove ..
  unfold State.askLeg
  split
  · exact (set _).trans (.of_mvu (State.withdraws_withdrawOther ..).mvu)
  · split
    · exact (set _).trans (.of_mvu (State.grantInterval_only ..).mvu)
    · next why need _ =>
      have refused : s.lanesStand (s.refusing x i m why need) := .of_works (s.refusing_reads x i m why need).2.1
      cases need with
      | none => exact refused
      | some need => exact refused.trans (State.lanesStand_resolveRefusal ..)

theorem State.lanesStand_work4 (s : State) (x : Crane) (b : Bool) (l : List Nat) : s.lanesStand (s.work4 x b l) := by
  have finds := (s.lanesStand_resumeIfFree x l).trans (State.lanesStand_findWork _ x)
  rcases s.work4_cases x b l with e | ⟨a, m, -, -, ⟨-, -, e⟩ | ⟨-, leg, -, e⟩⟩
  · rw [e]
    exact finds
  · rw [e]
    refine finds.trans ?_
    unfold State.setDownLift
    split
    · exact .of_works fun y => (State.work_setCrane ..).trans (State.work_setMove ..)
    · exact .refl _
  · rw [e]
    exact finds.trans (State.lanesStand_askLeg ..)

theorem State.lanesStand_giveOrder (s : State) (x : Crane) (taken : Bool) : s.lanesStand (s.giveOrder x taken).1 := by
  have composed : s.lanesStand (s.composeOrder x).1 := by
    unfold State.composeOrder
    split
    · exact .refl s
    · split
      · exact .refl s
      · split
        · split
          · exact .of_works fun y => State.work_setMove ..
          all_goals split <;> exact .refl s
        · exact .refl s
  exact composed.trans (State.lanesStand_setWork rfl)

/-! ## A lane that becomes ACTIVE -/

/-- The lane of a crane is ACTIVE, and LANE-ACTIVE of it has been posted on PL. -/
structure State.laneOpened (t : State) (x : Crane) : Prop where
  lane : (t.work x).lane = .active
  posted : ∃ u : State, (u.postEvent .PL .laneActive (.crane x)).grows t

theorem State.laneOpened.later {s t : State} {x : Crane} (a : s.laneOpened x) (lane : (t.work x).lane = .active) (grows : s.grows t) :
    t.laneOpened x := by
  obtain ⟨u, posted⟩ := a.posted
  exact ⟨lane, u, posted.trans grows⟩

/-- No move of the crane but the one in slot `i` is TO-PICK or LIFTED (R149). -/
def State.laneWaitsFor (s : State) (x : Crane) (i : Nat) : Prop :=
  ∀ j o, j < 16 → j ≠ i → s.move j = some o → o.crane = x → o.underWay = false

section
variable {s : State} {x : Crane} {i : Nat} {m : Move}

theorem State.laneWaitsFor.of_moves {t : State} (a : s.laneWaitsFor x i) (moves : ∀ j, j ≠ i → t.move j = s.move j) : t.laneWaitsFor x i :=
  fun j o less away held => a j o less away ((moves j away).symm.trans held)

/-- The lane is blocked no more once that move is gone, or is under way no more (R149). -/
theorem State.laneWaitsFor.free (a : s.laneWaitsFor x i) (gone : ∀ o, s.move i = some o → o.underWay = false) : s.laneBlocked x = false := by
  refine Bool.eq_false_iff.mpr fun blocked => ?_
  obtain ⟨j, o, less, held, crane, up, -⟩ := State.laneBlocked_iff.mp blocked
  have idle : o.underWay = false := by
    by_cases same : j = i
    · exact gone o (same ▸ held)
    · exact a j o less same held crane
  rw [idle] at up
  exact nomatch up

theorem State.laneOpened_laneSettle (pending : (s.work x).lane = .pending) (free : s.laneBlocked x = false) : (s.laneSettle x).laneOpened x := by
  have opens : s.laneSettle x = s.laneOn x := if_pos (by rw [pending, free]; rfl)
  rw [opens]
  exact ⟨congrArg CraneWork.lane (s.laneOn_reads x).1, _, .refl _⟩

/-- The end of the move the lane waits for makes it ACTIVE (R149, R159). -/
theorem State.laneOpened_endMove (slot : i < 16) (held : s.move i = some m) (crane : m.crane = x) (pending : (s.work x).lane = .pending)
    (others : s.laneWaitsFor x i) (e : Ending) (f : Bool) : (s.endMove i e f).laneOpened x := by
  subst crane
  obtain ⟨g, left⟩ : ∃ g, g = ((s.gone i m e).withdrawOf m.crane m.serial).dropHull m := ⟨_, rfl⟩
  obtain ⟨moves, works, -⟩ := s.gone_reads i m e
  have pair := (s.gone i m e).withdrawOf_pair m.crane m.serial
  obtain ⟨hullMoves, hullWorks, -⟩ := ((s.gone i m e).withdrawOf m.crane m.serial).dropHull_reads m
  have movesG : ∀ j, g.move j = if i = j then none else s.move j := fun j => by
    rw [left, hullMoves, pair.move, State.move_setCrane, moves]
  have lane : (g.work m.crane).lane = .pending := by
    rw [left, hullWorks, pair.work, State.work_setCrane, works, if_pos rfl]
    exact pending
  have free : g.laneBlocked m.crane = false :=
    (others.of_moves fun j away => (movesG j).trans (if_neg (Ne.symm away))).free fun o at_i => by
      rw [movesG, if_pos rfl] at at_i
      exact nomatch at_i
  have opened : (g.laneSettle m.crane).laneOpened m.crane := State.laneOpened_laneSettle lane free
  have away : i ≠ yieldSlot m.crane := Nat.ne_of_lt (Nat.lt_of_lt_of_le slot (sixteen_le_yieldSlot _))
  have resumes : s.thenResumed i m e = g.laneSettle m.crane := by
    rw [left]
    exact if_neg away
  rw [State.endMove_eq held, resumes]
  refine opened.later ?_ (State.moved_postEnd _ _ _ _).grows
  rw [(State.postEnd_only _ m.serial e f).work]
  exact opened.lane

end

/-! ## The report at which the move ends -/

section
variable {s : State} {x : Crane}

/-- An ACTIVE lane stands when another stop completes (R149, R154). -/
theorem State.completeStop_active (active : (s.work x).lane = .active) (n : Nat) (inside : Bool) :
    ((s.completeStop x n inside).work x).lane = .active := by
  have settled : ∀ t : State, (t.work x).lane = .active → t.settledLane x = .active := fun t lane => by
    unfold State.settledLane
    rw [lane]
    rfl
  have shrinks : ∀ t : State, (t.work x).lane = .active → ((t.shrinkInside x n inside).work x).lane = .active := fun t lane => by
    obtain ⟨q, frame⟩ := t.shrinkInside_space x n inside
    rw [frame]
    exact lane
  unfold State.completeStop
  split
  · next i m under =>
    obtain ⟨-, held, crane, -⟩ := State.underWay_mem under
    split
    · refine shrinks _ ?_
      have work := (State.endMove_ended held .cancelled false).work
      rw [crane] at work
      rw [work]
      exact settled _ (by rw [State.work_setMove]; exact active)
    · refine shrinks _ ?_
      rw [((s.setMove i _).laneSettle_reads x).2.1, if_pos rfl]
      exact settled _ (by rw [State.work_setMove]; exact active)
    · exact active
    · exact active
  · exact active

/-- Steps 4 and 5 of R152 leave an ACTIVE lane. -/
theorem State.laneOpened.ordered (a : s.laneOpened x) (b taken : Bool) (l : List Nat) : ((s.work4 x b l).giveOrder x taken).1.laneOpened x :=
  a.later ((((s.lanesStand_work4 x b l).trans (State.lanesStand_giveOrder _ x taken)).lane x).trans a.lane)
    ((s.moved_work4 x b l).grows.trans (State.moved_giveOrder _ x taken).grows)

/-- Steps 2 to 5 of R152 leave an ACTIVE lane. -/
theorem State.laneOpened.afterEvent (a : s.laneOpened x) (n : Nat) (k : Hook) (inside b taken : Bool) (l : List Nat) :
    (s.afterEvent x n k inside b taken l).1.laneOpened x := by
  have hooked : (s.compareHook x k).laneOpened x := a.later (((s.lanesStand_compareHook x k).lane x).trans a.lane) (s.moved_compareHook x k).grows
  have stopped : ((s.compareHook x k).completeStop x n inside).laneOpened x :=
    hooked.later (State.completeStop_active hooked.lane n inside) (State.moved_completeStop _ x n inside).grows
  exact stopped.ordered b taken l

variable {i : Nat} {m : Move}

/-- A stop that completes makes the lane ACTIVE (R149, R154). -/
theorem State.laneOpened_completeStop (slot : i < 16) (under : s.underWay x = some (i, m)) (pending : (s.work x).lane = .pending)
    (others : s.laneWaitsFor x i) {p : StopPurpose} (sent : m.stop = .sent p) (n : Nat) (inside : Bool) :
    (s.completeStop x n inside).laneOpened x := by
  obtain ⟨-, held, crane, -⟩ := State.underWay_mem under
  have shrinks : ∀ t : State, t.laneOpened x → (t.shrinkInside x n inside).laneOpened x := fun t a => by
    refine a.later ?_ (State.moved_shrinkInside ..).grows
    obtain ⟨q, frame⟩ := t.shrinkInside_space x n inside
    rw [frame]
    exact a.lane
  unfold State.completeStop
  rw [under]
  dsimp only
  rw [sent]
  cases p with
  | cancel => exact shrinks _ (State.laneOpened_endMove slot held crane pending others .cancelled false)
  | suspend =>
    have set := s.move_setMove i (some { m with state := .suspended, stop := .none })
    refine shrinks _ (State.laneOpened_laneSettle (by rw [State.work_setMove]; exact pending) ?_)
    refine (others.of_moves fun j away => (set j).trans (if_neg (Ne.symm away))).free fun o at_i => ?_
    rw [set, if_pos rfl] at at_i
    rw [← Option.some.inj at_i]
    rfl

/-- PLACED makes the lane ACTIVE (R149, R153). -/
theorem State.laneOpened_takePlaced (slot : i < 16) (held : s.move i = some m) (crane : m.crane = x) (pending : (s.work x).lane = .pending)
    (others : s.laneWaitsFor x i) (n : Nat) : (s.takePlaced x i m n).laneOpened x := by
  obtain ⟨g, cleared⟩ : ∃ g, g = (s.putDown m).clearOrphan x m := ⟨_, rfl⟩
  have down : (s.putDown m).mvu = s.mvu := by
    unfold State.putDown
    split <;> rfl
  have moves : ∀ j, g.move j = s.move j := fun j => by
    rw [← State.move_of_mvu down, cleared]
    unfold State.clearOrphan
    split
    · exact State.move_setWork ..
    · rfl
  have lanes : s.lanesStand g := by
    refine State.lanesStand.trans (.of_mvu down) ?_
    rw [cleared]
    unfold State.clearOrphan
    split
    · exact State.lanesStand_setWork rfl
    · exact .refl _
  obtain ⟨q, frame⟩ := g.shrinkTo_space x (.point n)
  have same : ∀ j, (g.shrinkTo x (.point n)).move j = s.move j := fun j => (State.move_shrinkTo ..).trans (moves j)
  unfold State.takePlaced
  rw [← cleared]
  exact State.laneOpened_endMove slot ((same i).trans held) crane (by rw [frame]; exact (lanes.lane x).trans pending)
    (others.of_moves fun j _ => same j) .done false

end

/-! ## The obligation -/

section
variable {s : State} {x : Crane} {n i hook : Nat} {m : Move} {r : Range} (a : s.sound x n r) (main : s.mainMove x i m)
  (pending : (s.work x).lane = .pending) (code : hook ≤ 1)
include a main pending code

/-- The lane becomes ACTIVE at the report at which the move it waits for ends or is suspended (R149). -/
theorem State.sound.opens_lane {event : Nat} (ends : (event = 3 ∧ m.state = .lifted .toPlace ∧ m.place = n)
      ∨ (event = 4 ∧ m.kind ≠ .park ∧ m.state = .toPick ∧ m.pick = some n) ∨ (event = 0 ∧ m.state = .toPick ∧ ∃ p, m.stop = .sent p)) :
    ∃ t o, s.takeReport x n hook event = (t, orderReply true o) ∧ t.laneOpened x := by
  obtain ⟨slot, held, crane, others⟩ := main
  obtain ⟨-, vmoves, vworks, -⟩ := s.reported_reads x n (hookOf hook)
  obtain ⟨v, at_v⟩ : ∃ v, v = s.reported x n (hookOf hook) := ⟨_, rfl⟩
  rw [← at_v] at vmoves vworks
  have pendingV : (v.work x).lane = .pending := (congrArg CraneWork.lane (vworks x)).trans pending
  have heldV := (vmoves i).trans held
  have waits : v.laneWaitsFor x i := fun j o less away at_j => others j o less away ((vmoves j).symm.trans at_j)
  have under : ∀ t : State, (∀ j, t.move j = v.move j) → m.underWay = true → t.underWay x = some (i, m) := fun t moves up =>
    State.underWay_lowest (Nat.lt_of_lt_of_le slot (by decide)) ((moves i).trans heldV) crane up fun j o less at_j =>
      waits j o (Nat.lt_trans less slot) (Nat.ne_of_lt less) ((moves j).symm.trans at_j)
  have rest : ∀ t event, event ≤ 6 → v.takeEvent x n event = (t, true) → t.laneOpened x →
      ∃ w o, s.takeReport x n hook event = (w, orderReply true o) ∧ w.laneOpened x := fun t event valid taken opened =>
    ⟨_, _, a.takes code valid (by rw [← at_v]; exact taken), opened.afterEvent n _ true _ true _⟩
  rcases ends with ⟨rfl, lifted, place⟩ | ⟨rfl, kind, picks, pick⟩ | ⟨rfl, picks, p, sent⟩
  · refine rest (v.takePlaced x i m n) 3 (by decide) ?_ (State.laneOpened_takePlaced slot heldV crane pendingV waits n)
    unfold State.takeEvent
    rw [under v (fun _ => rfl) (Move.underWay_lifted lifted).1]
    exact if_pos (by simp [Move.fitsPlaced, lifted, place])
  · refine rest (v.endMove i .failed false) 4 (by decide) ?_ (State.laneOpened_endMove slot heldV crane pendingV waits .failed false)
    unfold State.takeEvent
    rw [under v (fun _ => rfl) (Move.underWay_toPick picks).1]
    exact if_pos (by simp [Move.fitsPick, picks, kind, pick])
  · have moves := v.move_compareHook x (hookOf hook)
    have stopped : ((v.compareHook x (hookOf hook)).completeStop x n true).laneOpened x :=
      State.laneOpened_completeStop slot (under _ moves (Move.underWay_toPick picks).1) (((v.lanesStand_compareHook x _).lane x).trans pendingV)
        (waits.of_moves fun j _ => moves j) sent n true
    exact ⟨_, _, a.takes (e := 0) code (by decide) (by rw [← at_v]; rfl), stopped.ordered _ true _⟩

/-- The lane stays PENDING while the move it waits for goes on (R149). -/
theorem State.sound.keeps_lane (up : m.underWay = true) (stop : m.stop = .none) :
    ∃ t o, s.takeReport x n hook 0 = (t, orderReply true o) ∧ (t.work x).lane = .pending := by
  obtain ⟨slot, held, crane, others⟩ := main
  obtain ⟨-, vmoves, vworks, -⟩ := s.reported_reads x n (hookOf hook)
  obtain ⟨v, at_v⟩ : ∃ v, v = s.reported x n (hookOf hook) := ⟨_, rfl⟩
  rw [← at_v] at vmoves vworks
  have moves : ∀ j, (v.compareHook x (hookOf hook)).move j = s.move j := fun j => (v.move_compareHook x _ j).trans (vmoves j)
  have under : (v.compareHook x (hookOf hook)).underWay x = some (i, m) :=
    State.underWay_lowest (Nat.lt_of_lt_of_le slot (by decide)) ((moves i).trans held) crane up fun j o less at_j =>
      others j o (Nat.lt_trans less slot) (Nat.ne_of_lt less) ((moves j).symm.trans at_j)
  have goes : (v.compareHook x (hookOf hook)).completeStop x n true = v.compareHook x (hookOf hook) :=
    State.completeStop_kept (fun j o found p sent => by
      obtain ⟨rfl, rfl⟩ := Prod.mk.inj (Option.some.inj (under.symm.trans found))
      rw [stop] at sent
      exact nomatch sent) n true
  have taken := a.takes (e := 0) (t := v) code (by decide) (by rw [← at_v]; rfl)
  unfold State.afterEvent at taken
  rw [goes] at taken
  refine ⟨_, _, taken, ?_⟩
  have stands := (v.lanesStand_compareHook x (hookOf hook)).trans
    ((State.lanesStand_work4 _ x (asksAt 0) (s.suspendedSlots x)).trans (State.lanesStand_giveOrder _ x true))
  exact (stands.lane x).trans ((congrArg CraneWork.lane (vworks x)).trans pending)

end

/-- Settles O38: the requests, the moves that a barrier and the lane pass over at a report, and a PENDING lane that becomes ACTIVE. -/
theorem barrierAndLane : Obligations.BarrierAndLane := by
  refine ⟨fun s h a => barrierAndLane_requests a, fun s h x n r a => ⟨fun passed => ?_, fun c j m at_head held clear stands lane => ?_⟩,
    fun s h x n i hook m r a main kind pending code => ⟨fun event ends => ?_, fun up stop => ?_⟩⟩
  · obtain ⟨l, runs⟩ := exec_report a.report.reporting n 0 0
    have reasons : ∀ (m : Move) {b c : Bool}, b = c → some { m with state := MoveState.waiting, reason := some (passedFor b) }
        = some { m with state := .waiting, reason := some (passedFor c) } := fun m b c same => by rw [same]
    obtain ⟨t, takes, waits, others, refusal, interval, other, work, otherWork, frame⟩ := (a.turn l).idles passed
    rw [takes] at runs
    refine ⟨_, runs, fun k j m at_k held => ⟨fun barred => ?_, fun clear => ?_⟩, others, fun q => (refusal q).trans (and_congr_right fun _ => ?_), interval,
      other, work, otherWork, congrArg (fun u : State => { u with lnk := s.lnk }) frame⟩
    · exact (waits k j m at_k held).trans (reasons m (State.behindBarrier_iff.mp barred))
    · exact (waits k j m at_k held).trans (reasons m (Bool.eq_false_iff.mpr fun barred => clear (State.behindBarrier_iff.mpr barred)))
    · refine forall_congr' fun j => ⟨fun differs m mem held same => differs mem ?_, fun differs mem named => ?_⟩
      · exact (congrArg (Option.map Move.serial) held).trans (congrArg some same)
      · obtain ⟨m, held, same⟩ := Option.map_eq_some_iff.mp named
        exact differs m mem held same
  · obtain ⟨l, runs⟩ := exec_report a.report.reporting n 0 0
    obtain ⟨t, o, takes, moves, queue, laneT⟩ := (a.turn l).heads at_head held clear stands lane
    rw [takes] at runs
    exact ⟨_, o, runs, moves, queue, laneT⟩
  · obtain ⟨l, runs⟩ := exec_report a.reporting n hook event
    have notPark : m.kind ≠ .park := by rcases kind with e | e <;> (rw [e]; decide)
    obtain ⟨t, o, takes, opened⟩ := (a.sound l).opens_lane (i := i) (m := m) main pending code
      (ends.imp id (Or.imp (fun both => ⟨both.1, notPark, both.2⟩) id))
    rw [takes] at runs
    obtain ⟨u, posted⟩ := opened.posted
    exact ⟨_, o, runs, opened.lane, fun kept => posted.holds kept⟩
  · obtain ⟨l, runs⟩ := exec_report a.reporting n hook 0
    obtain ⟨t, o, takes, laneT⟩ := (a.sound l).keeps_lane (i := i) (m := m) main pending code up stop
    rw [takes] at runs
    exact ⟨_, o, runs, laneT⟩

end Sys2Proof.Machine
end
